-- ==== Sys2Proof/Word.lean ====
section
/-! DEFINITION. The word types of the block: a management register is 32 bits (R32). -/

namespace Sys2Proof

/-- A management-space word (R32). -/
abbrev Word := BitVec 32

/-- One byte. -/
abbrev Byte := BitVec 8

end Sys2Proof
end

