-- ==== Sys2Proof/Tlp.lean ====
section
/-! DEFINITION. The operand types of the commands: accessors of the management space (R33, R249) and TLPs (R11). -/

namespace Sys2Proof

/-- An accessor of the management space (R33): the control function of a stable, the Enruez core in privileged or user
mode, SMBus/MCTP, the debug port, or the yard head acting remotely for an accessor of a class (R249: 0 TENANT, 1 FM,
2 ENRUEZ_P, 3 ENRUEZ_U, 4 DEBUG) and, for TENANT, of a yard stable. -/
inductive Acc where
  | ctl (stable : Nat)
  | core (priv : Bool)
  | smbus
  | debug
  | remote (cls ystable : Nat)
  deriving DecidableEq, Repr

/-- The header of a flash slot (R469), and the checks of R470 that rest on hashes and signatures: the key named by KEY_IDX is
known and not revoked, the signature verifies, and the hash matches the bytes read. -/
structure FlashHdr where
  magic : Nat
  hdrVer : Nat
  seq : Nat
  svn : Nat
  fwLen : Nat
  kciLen : Nat
  keyOk : Bool
  sigOk : Bool
  hashOk : Bool
  deriving DecidableEq, Repr

/-- What comes from outside the block with a register write: a disagreement of the two evaluations that the write meets, the
verdict on a debug signature (R481), the words that the flash answers (R487). -/
structure Ext where
  disagree : Bool
  sigOk : Bool
  flash : List Word
  deriving DecidableEq, Repr

/-- The kinds of TLP that the decode tells apart (R204–R211, R235). -/
inductive TKind where
  | memRd | memRdLk | memWr | atomic | ioRd | ioWr | cfgRd | cfgWr | cpl | msg
  | m2sRd | m2sWr | s2m        -- CXL.mem messages (R294): reads, writes with data, responses
  deriving DecidableEq, Repr

/-- A TLP as parsed at stage 2: the header fields that the rules read, and its payload bytes. -/
structure Tlp where
  kind : TKind
  fmtType : Nat              -- Fmt and Type, 8 bits
  addr : Nat                 -- address of an address-routed TLP, else 0
  len : Nat                  -- TLP Length field, 10 bits; 0 means 1,024 DW
  fbe : Nat                  -- first and last DW byte enables
  lbe : Nat
  rid : Nat                  -- requester ID
  tag : Nat
  tc : Nat
  ro : Bool
  ido : Bool
  ns : Bool                  -- No Snoop
  ep : Bool
  at2 : Bool                 -- translated request
  pmr : Bool
  er : Bool
  pasid : Option Nat
  ld : Option Nat            -- LD of an MLD port
  tgt : Nat                  -- target ID of an ID-routed TLP; completer ID of a completion
  reg : Nat                  -- configuration register byte offset
  status : Nat               -- completion status
  lastCpl : Bool             -- the completion satisfies what remains of its request
  bytes : Nat                -- byte count of a completion
  code : Nat                 -- message code
  rtype : Nat                -- message routing type, 3 bits
  vid : Nat                  -- Vendor ID of a Vendor_Defined message
  vdw : Nat                  -- header bytes 12 to 15 of a message, byte 12 lowest
  pre : List Byte            -- prefixes before the header
  ohc : List Byte            -- OHC after it
  digestBad : Bool           -- it carries a TLP Digest whose ECRC is wrong
  data : List Byte
  deriving DecidableEq, Repr

/-- A Mirkel packet (R147): its header slot, and its body: a TLP, or the type and arguments of a control message. -/
structure Packet where
  seq : Nat
  cls : Nat
  slots : Nat
  ro : Bool
  ido : Bool
  off : Bool                 -- PATH
  poison : Bool
  ctl : Bool
  dst : Nat                  -- DST_MEMBER
  src : Nat                  -- SRC_MEMBER
  dstPort : Nat
  srcPort : Nat
  stable : Nat               -- yard stable
  hops : Nat
  epoch : Nat                -- one bit
  gen : Nat
  wait : Nat
  ccrc : Nat                 -- CCRC, the carriage CRC computed at the ingress port
  tlp : Tlp
  priv : Bool                -- the privilege that the TLP keeps (R234), which no field of the header slot shows
  msg : List Nat
  deriving DecidableEq, Repr

/-- What a link partner offers and what training finds (R90–R100, R293): widest width and highest rate it supports, flit
mode, L0p, whether it accepts CXL, lane reversal, a retimer, the rate at which equalisation failed, the lanes of MASK
(cluster-relative) that never locked and those received inverted; for a CXL device its type, LDs, BI, CXL.cache, dynamic capacity and IDE. -/
structure LinkInfo where
  width : Nat
  rate : Nat
  flit : Bool
  l0p : Bool
  cxl : Bool
  reversed : Bool
  retimer : Bool
  eqFail : Option Nat
  unlocked : Nat
  inverted : Nat
  devType : Nat
  nld : Nat
  bi : Bool
  cache : Bool
  dcd : Bool
  ide : Bool
  deriving DecidableEq, Repr

end Sys2Proof
end

