-- ==== Sys2Proof/Syntax.lean ====
section
/-! DEFINITION. The commands of the block: one constructor for each row of spec/opcode_table.json, with the row's operands. -/

namespace Sys2Proof

/-- The commands that the block takes and the events that reach it, in the order of the opcode table. -/
inductive Instr where
  /-- R38. A write to a management-space register that has no row of its own takes effect, is staged or is ignored as its access code states. -/
  | registerWrite (a : Acc) (load : Bool) (addr : Nat) (be : Nat) (data : List Word) (x : Ext)
  /-- R49. A write of SEL selects the instance of the page's windowed registers for the accessor, setting or clearing INVALID, and on page 0x0000 sets the member select. -/
  | selWrite (a : Acc) (page : Nat) (data : Word)
  /-- R42. A write of UNIT_CHILD sets the accessor's child cursor. -/
  | unitChildWrite (a : Acc) (page : Nat) (data : Word)
  /-- R52. On the yard head with MSEL = 1, an access is sent to another member as a Mirkel control message, counting there as accessor 67. -/
  | remoteAccess (a : Acc) (load : Bool) (addr : Nat) (be : Nat) (data : Word)
  /-- R52. The member's answer to a remote read arrives and completes the read. -/
  | remoteAnswer (member : Nat) (acc : Nat) (data : Word) (status : Word)
  /-- R45. A read of TALn_LO returns the low bits and latches bits [47:32] for the reading accessor. -/
  | talLoRead (a : Acc) (page : Nat) (n : Nat)
  /-- R47. A write of 1 to UNIT_CTRL.PLOCK locks every RWL field of the page until device reset, in the clock of the write. -/
  | plockSet (a : Acc) (page : Nat) (data : Word)
  /-- R54. A write of STAGE_CTRL.COMMIT checks the accessor's staged set and adopts it whole in one clock or rejects it with LAST_ERR. -/
  | stageCommit (a : Acc) (page : Nat)
  /-- R55. A write of STAGE_CTRL.ABORT discards the accessor's staged values on the page. -/
  | stageAbort (a : Acc) (page : Nat) (commit : Bool)
  /-- R57. The last TLP evaluated under the previous epoch leaves, DRAINING clears, and held commits are checked and adopted under a new epoch. -/
  | drainEnd
  /-- R67. An edge on a CYC_IN pin gives a mark to each domain that selects that pin and edge. -/
  | cycInEdge (pin : Nat) (rising : Bool) (t : Nat)
  /-- R68. A cycle-mark vendor-defined message is accepted as a mark for its named domain or discarded and counted. -/
  | cycleMarkVdm (port : Nat) (t : Tlp) (time : Nat)
  /-- R67. The PTM master time of the named port reaches PTM_BASE plus a multiple of NOM_PERIOD and gives a mark. -/
  | ptmMark (dom : Nat) (master : Nat) (t : Nat)
  /-- R73. 1.5 × P pass without an accepted mark; the domain enters HOLDOVER, sets LOSS and starts a cycle with a synthetic mark. -/
  | markLossTimeout (dom : Nat)
  /-- R73. In HOLDOVER or FREERUN the domain starts a new cycle every P or NOM_PERIOD with a synthetic mark. -/
  | syntheticMark (dom : Nat)
  /-- R77. One whole period passes without a mark and the domain holds the phase at 65,535. -/
  | cycleSaturate (dom : Nat)
  /-- R82. A schedule entry with action NOP falls due and does nothing. -/
  | nop (dom : Nat) (idx : Nat)
  /-- R82. A GATE entry falls due and loads the stable's gate mask at the named ports, computing close times for opened bits. -/
  | gate (dom : Nat) (idx : Nat)
  /-- R82. A CAL_WIN entry falls due and opens a calibration window on the named port. -/
  | calWin (dom : Nat) (idx : Nat)
  /-- R442. A TAL_SNAP entry falls due and snapshots the counters of the named unit with tag, device time and cycle position. -/
  | talSnap (dom : Nat) (idx : Nat)
  /-- R82. A SHAPER_PROFILE entry falls due and selects the stable's shaper profile from the next refill. -/
  | shaperProfile (dom : Nat) (idx : Nat)
  /-- R82. A DMA_ARM entry falls due and arms or disarms the channel's fill-level pacing. -/
  | dmaArm (dom : Nat) (idx : Nat)
  /-- R82. A calibration window reaches its end time or the next cycle start and closes. -/
  | calWinEnd (port : Nat)
  /-- R81. A write of ENT_W3 writes the holding words to the entry at the cursor and increments the cursor, or is refused with IN_USE. -/
  | entryWrite (a : Acc) (_data : Word)
  /-- R81. A read of ENT_W0 loads the entry at the cursor into the accessor's holding words. -/
  | entryRead (a : Acc)
  /-- R85. A read of POS_PHASE returns the phase and latches cycle number and device time for the accessor. -/
  | posPhaseRead (a : Acc)
  /-- R96. A port that is enabled with a non-zero width and not held Disabled begins receiver detection and training. -/
  | linkTrainingStart (port : Nat) (stage : Nat) (lanes : Nat)
  /-- R96. Training ends in L0 at the final rate; LINK_STATUS is updated and LINK_UP raised. -/
  | linkUp (port : Nat) (info : LinkInfo)
  /-- R96. A training step fails; TRAIN_ERR records it and the port retries or settles at a lower rate. -/
  | trainingFailure (port : Nat) (reason : Nat) (rate : Nat) (lanes : Nat)
  /-- R97. A lane of a PCIe or CXL link loses lock in L0 and takes the link to Recovery, leaving the lane out after three failures. -/
  | laneLockLoss (port : Nat) (lane : Nat)
  /-- R94. A write of LINK_CTRL.RETRAIN retrains the link through Recovery or from Detect under the adopted lane set. -/
  | retrain (a : Acc)
  /-- R101. A partner's L0p width request is accepted or deferred, and the width change is reported to SCH. -/
  | l0pPartnerRequest (port : Nat) (width : Nat)
  /-- R103. A PCIe or CXL link enters L1 when its enables and the standard's entry conditions hold. -/
  | l1Entry (port : Nat)
  /-- R460. A partner starts L1 exit on a link, which also wakes the device from SL1 where LINK is enabled. -/
  | l1Exit (port : Nat)
  /-- R105. PRESENT or FREQ_OK of a cluster's reference clock falls to 0; every link of the cluster goes down. -/
  | refclkLoss (cl : Nat) (present : Bool) (freqOk : Bool) (freq : Nat)
  /-- R105. PRESENT and FREQ_OK return to 1 and the cluster's ports may train again. -/
  | refclkRestore (cl : Nat) (freq : Nat)
  /-- R112. A write of LANE_TEST starts or stops the pattern generator or checker on an OFF or EXCLUDED lane. -/
  | laneTestWrite (cl : Nat) (a : Acc) (data : Word) (errs : Nat)
  /-- R111. A read of LANE_TEST_ERR returns the checker errors and clears them. -/
  | laneTestErrRead (cl : Nat) (a : Acc) (errs : Nat)
  /-- R108. A PRSNT_N level stable for 1 ms is accepted as a presence change of the slot. -/
  | presenceChange (slot : Nat) (present : Bool)
  /-- R108. Host software sets Power Controller Control to on and PWREN := 1 is written to the expander. -/
  | slotPowerOn (port : Nat)
  /-- R108. Host software sets Power Controller Control to off; the link is taken down and PWREN := 0 written after reset asserts. -/
  | slotPowerOff (port : Nat)
  /-- R108. PWR_DELAY ms after the acknowledged power-on the slot's reset output is deasserted. -/
  | pwrDelayEnd (port : Nat)
  /-- R107. Every HP_POLL.INTERVAL ms the input registers of the expanders are read and button levels debounced. -/
  | expanderPoll (inputs : List Nat)
  /-- R107. A falling edge of HP_INT_N causes an immediate read of the expander inputs. -/
  | hpInt (inputs : List Nat)
  /-- R107. An expander acknowledges an output write and Command Completed is set. -/
  | expanderWriteAck (expander : Nat)
  /-- R107. An expander does not acknowledge an output write; HP_ERR.NAK is set and the write is retried. -/
  | expanderWriteNak (expander : Nat)
  /-- R107. A blinking indicator toggles every 500 ms. -/
  | indicatorBlink (slot : Nat)
  /-- R120. Every MARGIN_INT ms each active lane's eye height is measured and the cluster temperatures sampled. -/
  | marginEval (temps : List Nat) (eyes : List (Nat × Nat))
  /-- R123. A write of CAL_REQ makes the lane due with trigger manual. -/
  | calReq (a : Acc) (data : Word)
  /-- R124. ROT_PERIOD after the lane's last calibration the lane falls due with trigger rotation. -/
  | rotationDue (port : Nat) (lane : Nat)
  /-- R132. 10 ms after a failed procedure the lane falls due again with trigger margin. -/
  | calFailRetry (port : Nat) (lane : Nat)
  /-- R129. A unit due for more than twice ROT_PERIOD without a start sets STARVED and raises CAL_STARVED. -/
  | calStarved (port : Nat)
  /-- R130. A due lane of a ROTATE port starts a procedure when permitted; width − 1 is reported and a park requested. -/
  | rotateStart (port : Nat)
  /-- R132. A ROTATE procedure ends with the lane rejoined and passes, fails or parks the lane permanently at FAIL_LIMIT. -/
  | rotateEnd (port : Nat)
  /-- R133. A due upper half of a HALF port starts a procedure; w/2 is reported and L0p narrowing requested. -/
  | halfStart (port : Nat)
  /-- R135. A HALF procedure ends at the return width, passing or failing and making re-equalisation due at FAIL_LIMIT. -/
  | halfEnd (port : Nat) (eyes : List (Nat × Nat))
  /-- R121. A foreground calibration command for a lane is carried out on a parked lane of a procedure or ends the procedure with FAULT. -/
  | calLaneCommand (port : Nat) (lane : Nat) (cmd : Nat)
  /-- R136. A due re-equalisation starts in a booked window with enough time left; width 0 is reported and the link enters Recovery. -/
  | reeqStart (port : Nat)
  /-- R136. A re-equalisation ends, the trained width is reported and REEQ_DONE raised. -/
  | reeqDone (port : Nat)
  /-- R454. A cluster supply falls below target − EFF_DRP_TH and the whole core clock is stretched. -/
  | droopDetect (cl : Nat)
  /-- R141. A cluster supply falls below target − EFF_DRP_ALM; DROOP_ALARM is raised and counted. -/
  | droopAlarm (cl : Nat) (measuring : Bool)
  /-- R454. Every cluster supply stays above its threshold for DRP_HOLD ns and the stretch ends. -/
  | stretchEnd
  /-- R454. A continuous stretch passes STRETCH_LIMIT µs and raises STRETCH_LONG. -/
  | stretchLong
  /-- R146. A Mirkel frame is received, corrected by FEC and checked by CRC-48, or discarded whole. -/
  | frameReceived (port : Nat) (frame : List Byte) (ce : List (Nat × Nat)) (ue : Nat)
  /-- R151. A Mirkel packet is accepted, discarded as lost, duplicate or impossible by its sequence distance. -/
  | packetReceived (port : Nat) (pk : Packet)
  /-- R152. An ACK symbol releases every replay-buffer packet up to the named sequence number. -/
  | ack (port : Nat) (seq : Nat)
  /-- R152. A NAK symbol releases acknowledged packets and replays the rest in order. -/
  | nak (port : Nat) (seq : Nat)
  /-- R154. A CREDIT symbol sets the cumulative credit limits of the three classes. -/
  | credit (port : Nat) (p : Nat) (n : Nat) (c : Nat)
  /-- R156. A CENSUS_MARK is answered with CENSUS_RSP carrying freed plus held units, unless a gap is pending. -/
  | censusMark (port : Nat) (num : Nat)
  /-- R156. A CENSUS_RSP gives the leak D per class, raising CREDIT_LEAK or entering HOLD as thresholds are crossed. -/
  | censusRsp (port : Nat) (num : Nat) (p : Nat) (n : Nat) (c : Nat)
  /-- R162. A PARK_REQ is answered with PARK_ACK or PARK_REFUSE with a reason. -/
  | parkReq (port : Nat) (lane : Nat) (perm : Bool)
  /-- R162. A PARK_ACK closes the packet in progress and parks the lane at the next END_MAP frame. -/
  | parkAck (port : Nat) (lane : Nat)
  /-- R162. A PARK_REFUSE ends the park request and leaves the unit due. -/
  | parkRefuse (port : Nat) (lane : Nat) (reason : Nat)
  /-- R162. A JOIN_REQ makes the partner deskew the lane and answer JOIN_ACK. -/
  | joinReq (port : Nat) (lane : Nat) (aligned : Bool)
  /-- R162. A JOIN_ACK restores the lane at the next END_MAP frame of each direction. -/
  | joinAck (port : Nat) (lane : Nat)
  /-- R162. Alignment of a joining lane does not complete within 10 µs; the lane stays parked and the procedure fails. -/
  | joinTimeout (port : Nat)
  /-- R163. A LANE_LOST symbol parks the lane at once at both ends and makes it due, or takes a last lane to HOLD. -/
  | laneLost (port : Nat) (lane : Nat)
  /-- R163. A Mirkel lane loses lock while the link stays active and the receiver sends LANE_LOST. -/
  | mirkelLaneLoss (port : Nat) (lane : Nat)
  /-- R158. Every active lane of a Mirkel link loses lock and the link enters HOLD. -/
  | mirkelLockLoss (port : Nat)
  /-- R159. The retrained lanes of a held link align and both ends exchange IDENT. -/
  | lanesAligned (port : Nat) (lanes : Nat)
  /-- R159. An IDENT symbol decides admission, resume of the same partner or flush. -/
  | ident (port : Nat) (member : Nat) (yard : Nat) (epoch : Nat) (pport : Nat) (token : Nat)
  /-- R159. A RESUME symbol releases and replays the replay buffer, restarts credits and returns the link to ACTIVE. -/
  | resume (port : Nat) (seq : Nat)
  /-- R159. HOLD_TIME passes after HOLD entry and the link flushes. -/
  | holdTimeout (port : Nat)
  /-- R165. Once every packet of the bundle is acknowledged the sender sends ORDER_RESET on every active link. -/
  | orderResetSend (bundle : Nat)
  /-- R165. The receiver releases waiting packets, clears release counts and answers once ORDER_RESET has arrived on every link. -/
  | orderReset (port : Nat)
  /-- R165. The sender clears its counts, loads the pin table and resumes. -/
  | orderResetAck (bundle : Nat)
  /-- R165. A write of BND_CTRL.ORDER_RESET starts an order reset of the bundle. -/
  | bndOrderReset (a : Acc)
  /-- R166. A write of BND_PIN_DATA sets the link slot of the bucket at the cursor for the next order reset and increments the cursor. -/
  | bndPinDataWrite (a : Acc) (data : Word)
  /-- R152. ACK_NS after the first unacknowledged accepted packet the receiver sends an ACK. -/
  | ackTimer (port : Nat)
  /-- R152. The replay timer expires; unacknowledged packets are replayed and HOLD entered at REPLAY_LIMIT. -/
  | replayTimeout (port : Nat)
  /-- R154. 50 ns after the first freed unit, or 1 µs since the last, the receiver sends CREDIT. -/
  | creditReturnTimer (port : Nat)
  /-- R156. Every CENSUS_INT ms the transmitter sends CENSUS_MARK with its charged totals. -/
  | censusTimer (port : Nat)
  /-- R130. A CAL_STEP control message requests a transmit-cursor step of the partner during a ROTATE procedure. -/
  | calStep (port : Nat) (lane : Nat) (cursor : Nat) (up : Bool)
  /-- R161. A TOPO message updates the head's reachability map and may declare members lost or start an automatic join. -/
  | topo (member : Nat) (neighbours : List Nat) (fresh : Bool)
  /-- R52. A REG_ACCESS control message carries a remote register access or its answer. -/
  | regAccess (src : Nat) (msg : List Nat) (x : Ext)
  /-- R225. A member snapshots the staged set, checks it and answers READY or REFUSE. -/
  | prepare (member : Nat) (epoch : Nat) (id : Nat)
  /-- R225. The head records a READY and, when all are ready and hop checks pass, adopts and sends ADOPT. -/
  | ready (member : Nat) (id : Nat) (vector : Nat)
  /-- R225. A REFUSE cancels the yard commit before adoption. -/
  | refuse (member : Nat) (id : Nat) (err : Nat) (index : Nat)
  /-- R225. A member adopts the snapshot under the new epoch, relays ADOPT, sets DRAINING and answers ADOPTED. -/
  | adopt (id : Nat)
  /-- R225. The head records a member's adoption. -/
  | adopted (member : Nat) (id : Nat)
  /-- R225. The head records a member's drain and declares the commit done when every member and itself are drained. -/
  | drained (member : Nat) (id : Nat)
  /-- R225. A member discards its snapshot and keeps its staged values. -/
  | cancel (id : Nat)
  /-- R225. A member does not answer PREPARE within COMMIT_TO µs and the commit is cancelled with YARD_NO_ANSWER. -/
  | yardCommitTimeout (member : Nat)
  /-- R11. A TLP received on a PCIe or CXL port is accepted, CRC-checked and passed through context lookup, policing and evaluation. -/
  | tlpReceive (port : Nat) (t : Tlp) (ideBad : Bool)
  /-- R323. An Unlock message from an upstream port releases every semaphore its locked sequence holds. -/
  | unlock (port : Nat) (rid : Nat)
  /-- R267. A missed context arrives and its parked requests leave the miss queue one per clock for evaluation. -/
  | contextArrival (key : Nat)
  /-- R176. A TLP at stage 6 is granted cells from the shared pool or its reserve, or waits and is retried each clock. -/
  | shedGrant (id : Nat)
  /-- R352. The scheduler selects the next eligible TLP for an egress port by WFQ, class order, shaper and gate fit. -/
  | egressSelection (port : Nat) (credits : Nat) (flt : Nat) (x : Ext)
  /-- R177. The last cell of a TLP is read for transmission, its carriage CRC verified and its cells released. -/
  | transmitComplete (port : Nat) (t : Nat) (bad : Bool) (acked : Nat)
  /-- R172. A cut-through TLP's next cell is missing; the TLP is nullified and re-sent as store-and-forward. -/
  | ctUnderrun (port : Nat)
  /-- R199. Every 1 ms the shed checks that free plus held cells equal 196,608 and raises CELL_CENSUS on a mismatch. -/
  | cellCensus (mismatch : Bool)
  /-- R191. A PCIe or CXL port's link goes down; width 0 is reported, DPC may fence, and the replay buffer and queues are flushed. -/
  | dlDown (port : Nat) (surprise : Bool) (acked : Nat)
  /-- R191. No TLP remains queued for a down port; FLUSHING clears, PORT_FLUSH is raised and pending releases take effect. -/
  | portFlushEnd (port : Nat)
  /-- R198. A write of PD_CTRL.CLEAR empties the port drop log and clears OVERFLOW. -/
  | pdClear (a : Acc)
  /-- R197. A write of SHD_CTRL.WM_RESET sets FREE_MIN to the current free count. -/
  | wmReset (a : Acc)
  /-- R202. A host configuration write to a routing field is adopted as a commit of the RTE and ISO group before its completion is returned. -/
  | routingFieldWrite
  /-- R203. On a yard member other than the head, a routing-field write is carried to the head for a yard commit. -/
  | routingFieldForward
  /-- R401. A configuration request to a function of a stable's virtual hierarchy is served by the management complex. -/
  | configRequest
  /-- R213. A write of WIN_W3 stages the window entry at the cursor and increments the cursor. -/
  | winEntryWrite (a : Acc) (data : Word)
  /-- R213. A read of WIN_W0 loads the window entry in force into the holding words. -/
  | winEntryRead (a : Acc)
  /-- R214. A write of XING_W3 stages the crossing entry at the cursor and increments the cursor. -/
  | xingEntryWrite (a : Acc) (data : Word)
  /-- R236. A write of RULE_W3 stages the access rule at the cursor and increments the cursor. -/
  | ruleEntryWrite (a : Acc) (data : Word)
  /-- R250. A write of PERM_DATA sets the permission word of the page at the cursor, subject to PLOCK, and increments the cursor. -/
  | permDataWrite (a : Acc) (data : Word)
  /-- R217. A write of ERR_CTRL.CLEAR on RTE empties the route-error log and clears OVERFLOW. -/
  | errLogClear (a : Acc)
  /-- R244. A write of FLT_CTRL.CLEAR empties the access-fault log and clears OVERFLOW. -/
  | fltClear (a : Acc)
  /-- R244. A read of FLT_W0 returns the entry's first word and latches FLT_TIME_HI. -/
  | fltW0Read (a : Acc)
  /-- R270. The first loft read returns the set's headers; the key's way is read next or the context is created or refused. -/
  | loftSetReadDone (key : Nat) (ok : Bool) (bad : List Nat)
  /-- R270. The second loft read returns the context, which is filled on die after CRC and generation checks. -/
  | loftContextReadDone (key : Nat) (ok : Bool) (poison : Bool) (data : List Byte)
  /-- R265. A victim's loft write-back completes and it leaves the eviction buffer. -/
  | writebackDone (key : Nat)
  /-- R264. A write of LOFT_CTRL.INIT increments LOFT_GEN and starts writing every way invalid, or sets INIT_ERR. -/
  | loftInit (a : Acc)
  /-- R264. The INIT writes complete; READY is set and FAILED clears. -/
  | loftInitDone (ok : Bool)
  /-- R288. CTX_OP.LOOKUP reports the key's context ID and whether it is found, on die and pinned. -/
  | ctxLookup (a : Acc)
  /-- R288. CTX_OP.INVALIDATE frees the key's stall and loft way after parked requests leave. -/
  | ctxInvalidate (a : Acc)
  /-- R288. CTX_OP.CREATE creates a context for the key, or sets ERR. -/
  | ctxCreate (a : Acc)
  /-- R266. A write of PIN_W1 stages the pin entry at the cursor and increments the cursor. -/
  | pinEntryWrite (a : Acc) (data : Word)
  /-- R279. A write of PORT_GEN_CTRL.ADV advances the port's generation domain or holds the increment. -/
  | portGenAdv (a : Acc)
  /-- R279. The last TLP of the previous generation leaves and the held increment takes effect. -/
  | genAdvanceRelease (dom : Nat)
  /-- R276. A write of SLICE_CTRL.GEN_ADV advances the slice's generation. -/
  | sliceGenAdv (a : Acc)
  /-- R276. A write of SLICE_CTRL.CONTAIN takes the slice to CONTAINED. -/
  | sliceContain (a : Acc)
  /-- R276. A write of SLICE_CTRL.RELEASE ends the slice's containment and advances its generation. -/
  | sliceRelease (a : Acc)
  /-- R282. A ledger entry's age exceeds LED_TO; it is freed, counted and LEDGER_TIMEOUT raised. -/
  | ledgerTimeout (egress : Nat) (rid : Nat) (tag : Nat)
  /-- R289. A write of DLG_SIZE sets the ring size and resets PROD, CONS and PHASE. -/
  | dlgSizeWrite (a : Acc) (data : Word)
  /-- R284. DLG_CTRL.FILTER_CLEAR empties the group's dirty-page filter. -/
  | filterClear (a : Acc)
  /-- R286. DLG_CTRL.SYNC reads 1 until every record of earlier logged writes has been transmitted or set OVERFLOW. -/
  | sync (a : Acc)
  /-- R287. A write of TRAP_POP marks the presented trap entry read and presents the next. -/
  | trapPop (a : Acc)
  /-- R287. A write of TRAP_CPL_GO sends the completion of the named trapped request and frees its entry. -/
  | trapCplGo (a : Acc)
  /-- R287. TRAP_TO ms pass without completion; the trapped request is completed with UR. -/
  | trapTimeout (id : Nat)
  /-- R273. A write of RF_CTRL.CLEAR empties the refusal log and clears OVERFLOW. -/
  | rfClear (a : Acc)
  /-- R273. A read of RF_W0 returns the entry's first word and latches RF_TIME_HI. -/
  | rfW0Read (a : Acc)
  /-- R299. A CXL.mem M2S request from a host is decoded by the vCS's HDM decoders and forwarded or answered as a routing error. -/
  | m2sRequest (port : Nat) (write : Bool) (hpa : Nat) (tag : Nat) (mask : Nat) (data : List Byte) (poison : Bool)
  /-- R294. An S2M response or BI message is routed by the tag and LD of the request it answers. -/
  | s2mResponse (port : Nat) (kind : Nat) (tag : Nat) (ld : Option Nat) (data : List Byte) (poison : Bool)
  /-- R293. A BISnp or CXL.cache message on a link where the feature is not in use is discarded and BI_DENIED raised. -/
  | biMessage (port : Nat) (cache : Bool) (tag : Nat) (data : List Byte)
  /-- R298. A host write of an HDM decoder's Commit is adopted as an RTE and ISO commit or sets Error Not Committed. -/
  | hdmDecoderCommit (stable : Nat) (dec : Nat) (control : Word)
  /-- R303. With the port up, CXP programs an HDM decoder of the target device for an IDEC in PROG. -/
  | idecProgram (idec : Nat)
  /-- R303. The target reports Committed and the IDEC becomes UP. -/
  | idecCommitted (idec : Nat)
  /-- R303. The target reports Error Not Committed, or no answer in 10 ms, and the IDEC becomes FAILED. -/
  | idecNotCommitted (idec : Nat) (timeout : Bool)
  /-- R303. A write of IDEC_CTRL.RECOMMIT puts the IDEC in PROG to be programmed again. -/
  | recommit (a : Acc)
  /-- R305. Every HEALTH_INT ms the media status of each private device is polled, failing its IDECs when not ready. -/
  | healthPoll (bad : List Nat)
  /-- R306. Viral received on a port contains it and is forwarded only to a sole owning stable. -/
  | viralReceived (port : Nat)
  /-- R309. An extent offered to a device-private LD is accepted or declined by DC_ACCEPT. -/
  | dcExtentOffer (port : Nat) (ld : Option Nat)
  /-- R308. FM API Identify is answered. -/
  | identify (a : Acc)
  /-- R308. FM API Background Operation Status is answered. -/
  | backgroundOperationStatus (a : Acc)
  /-- R308. FM API Get Response Message Limit is answered. -/
  | getResponseMessageLimit (a : Acc)
  /-- R308. FM API Set Response Message Limit sets the limit. -/
  | setResponseMessageLimit (a : Acc) (limit : Nat)
  /-- R308. FM API Identify Switch Device is answered. -/
  | identifySwitchDevice (a : Acc)
  /-- R308. FM API Get Physical Port State is answered. -/
  | getPhysicalPortState (a : Acc) (ports : List Nat)
  /-- R309. FM API Physical Port Control acts on an UNASSIGNED port or returns Invalid Input. -/
  | physicalPortControl (a : Acc) (port : Nat) (op : Nat)
  /-- R308. FM API Send PPB CXL.io Configuration Request is carried out. -/
  | sendPpbCxlIoConfigurationRequest (a : Acc) (port : Nat) (reg : Nat) (be : Nat) (write : Bool) (data : Word)
  /-- R308. FM API Get Virtual CXL Switch Info is answered. -/
  | getVirtualCxlSwitchInfo (a : Acc) (vcs : List Nat)
  /-- R309. FM API Bind vPPB stages and commits LD_BIND on an MLD port and answers when done. -/
  | bindVppb (a : Acc) (vcs : Nat) (vppb : Nat) (port : Nat) (ld : Nat)
  /-- R309. FM API Unbind vPPB stages and commits the removal of an LD binding. -/
  | unbindVppb (a : Acc) (vcs : Nat) (vppb : Nat)
  /-- R309. FM API Generate AER Event is reported in the named vCS's upstream switch port function. -/
  | generateAerEvent (a : Acc) (vcs : Nat) (bitNo : Nat)
  /-- R309. FM API Tunnel Management Command forwards an enclosed command to an MLD or SLD device. -/
  | tunnelManagementCommand (a : Acc) (port : Nat) (inner : Nat) (args : List Nat) (answer : Option (Nat × List Nat))
  /-- R308. FM API Send LD CXL.io Configuration Request is carried out. -/
  | sendLdCxlIoConfigurationRequest (a : Acc) (port : Nat) (ld : Nat) (reg : Nat) (be : Nat) (write : Bool) (data : Word) (answer : Option (Nat × List Nat))
  /-- R308. FM API Send LD CXL.io Memory Request is carried out. -/
  | sendLdCxlIoMemoryRequest (a : Acc) (port : Nat) (ld : Nat) (addr : Nat) (len : Nat) (write : Bool) (data : List Nat) (answer : Option (Nat × List Nat))
  /-- R309. FM API Get DCD Info is forwarded to the device inside a tunnel. -/
  | getDcdInfo (a : Acc) (tunnel : Option Nat) (answer : Option (Nat × List Nat))
  /-- R309. FM API Get Host DC Region Configuration is forwarded to the device inside a tunnel. -/
  | getHostDcRegionConfiguration (a : Acc) (tunnel : Option Nat) (args : List Nat) (answer : Option (Nat × List Nat))
  /-- R309. FM API Set DC Region Configuration is forwarded to the device inside a tunnel. -/
  | setDcRegionConfiguration (a : Acc) (tunnel : Option Nat) (args : List Nat) (answer : Option (Nat × List Nat))
  /-- R309. FM API Get DC Region Extent Lists is forwarded to the device inside a tunnel. -/
  | getDcRegionExtentLists (a : Acc) (tunnel : Option Nat) (args : List Nat) (answer : Option (Nat × List Nat))
  /-- R309. FM API Initiate DC Add is forwarded to the device inside a tunnel. -/
  | initiateDcAdd (a : Acc) (tunnel : Option Nat) (ld : Nat) (extents : List (Nat × Nat)) (answer : Option (Nat × List Nat))
  /-- R309. FM API Initiate DC Release is forwarded; a release under an UP IDEC fails it. -/
  | initiateDcRelease (a : Acc) (tunnel : Option Nat) (ld : Nat) (extents : List (Nat × Nat)) (answer : Option (Nat × List Nat))
  /-- R308. An FM API message with another opcode returns Unsupported, or Busy while a command is in progress. -/
  | fmapiUnsupported (a : Acc) (op : Nat)
  /-- R317. A memory write reaching a bridge window is accepted into the write buffer or discarded as FENCED. -/
  | bridgeWrite
  /-- R318. A memory read of a bridge window waits for older overlapping writes and then issues M2S reads. -/
  | bridgeRead
  /-- R318. A zero-length read of a window completes without data after every older write of the window. -/
  | bridgeFlushRead
  /-- R322. An AtomicOp of a bridge window acquires its granule semaphore and runs read, compute and write. -/
  | bridgeAtomicop
  /-- R323. A locked read acquires its granule semaphore and completes as a read, or is completed with CA or UR. -/
  | mrdlk
  /-- R319. A held write line is issued to memory after re-check of a stale epoch, or fails as REVOKED or TARGET_DOWN. -/
  | lineIssue (line : Nat) (ecc : Bool)
  /-- R317. An NDR answers a write line, which leaves the buffer, and may complete an atomic. -/
  | ndr (port : Nat) (tag : Nat)
  /-- R315. Read data returns from the device and the read is completed, with EP where poisoned. -/
  | drs (port : Nat) (tag : Nat) (data : List Byte) (poison : Bool)
  /-- R323. LOCK_TO µs after the first MRdLk without Unlock, the sequence's semaphores are released. -/
  | lockTimeout (stable : Nat)
  /-- R329. A write of WIN_CTRL.UNTAINT clears TAINT and FENCED of the window. -/
  | winUntaint (a : Acc)
  /-- R314. A write of WIN_CTRL.FLUSH reads 1 until every earlier write to the window is answered or failed. -/
  | winFlush (a : Acc)
  /-- R330. A write of PEL_CTRL.CLEAR empties the posted-error log and clears OVERFLOW. -/
  | pelClear (a : Acc)
  /-- R335. A write of CH_TAIL is the doorbell, or is ignored with BAD_TAIL when out of range. -/
  | chTailWrite (a : Acc) (data : Word)
  /-- R335. A write of CH_RING_SIZE on a stopped channel sets the ring size and resets its indices. -/
  | chRingSizeWrite (a : Acc) (data : Word)
  /-- R345. CH_CTRL.START moves the channel to IDLE or RUN, first writing back aborted marks. -/
  | chStart (a : Acc)
  /-- R345. CH_CTRL.STOP begins no further descriptor and stops when begun ones are reported. -/
  | chStop (a : Acc)
  /-- R347. CH_CTRL.ABORT advances the channel's generation and stops it. -/
  | chAbort (a : Acc)
  /-- R346. CH_CTRL.KICK puts an armed idle channel into RUN whatever the fill. -/
  | kick (a : Acc)
  /-- R346. CH_CTRL.ARM sets ARMED and re-evaluates pacing. -/
  | arm (a : Acc)
  /-- R346. CH_CTRL.DISARM clears ARMED and takes a running channel to IDLE. -/
  | disarm (a : Acc)
  /-- R344. A descriptor fetch read completes, delivering descriptors or halting the channel on error. -/
  | descriptorFetchDone (ch : Nat)
  /-- R338. A COPY descriptor begins and its reads and writes are issued. -/
  | copy (ch : Nat)
  /-- R338. A FILL descriptor begins and writes the pattern to the destination. -/
  | fill (ch : Nat)
  /-- R342. A FLUSH_READ descriptor begins and issues one zero-length read to its target. -/
  | flushRead (ch : Nat)
  /-- R343. A completion of a channel read returns data, an error or poison, or is discarded as stale. -/
  | dmaReadCompletion (ch : Nat)
  /-- R341. A done descriptor is reported by a status write, CH_DONE advances and DESC_DONE follows its first flit. -/
  | descriptorReport (ch : Nat)
  /-- R357. Every 64 ns each enabled shaper adds RATE units up to its bucket, adopting new profiles. -/
  | shaperRefill
  /-- R364. A held request's policer becomes positive at a refill and the request is charged and released to stage 5. -/
  | policerRelease (key : Nat)
  /-- R367. A stable has a TLP queued at a port without selection for STALL_US µs and QUEUE_STALL is raised. -/
  | queueStall (port : Nat) (stable : Nat)
  /-- R376. Each SCRUB_MS the scrub reads both copies of every duplicated table, correcting, restoring or classing differences. -/
  | scrubPass (seu : List (Nat × Nat × Nat)) (single : List (Nat × Nat × Nat))
  /-- R384. After a disagreement the entries used are scrubbed and the disagreement attributed to table or logic. -/
  | targetedScrub
  /-- R395. Each ST_MS the self-test exercises every checker, raising LATENT on a silent failure. -/
  | selfTestPass (silent : Option Nat)
  /-- R396. INJ_CTRL.GO injects the fault that INJ_CFG describes into live operation once. -/
  | go (a : Acc)
  /-- R385. SAF_CMD.FORCE_FAILSAFE takes the device to fail-safe. -/
  | forceFailsafe (a : Acc)
  /-- R381. STB_SAF_CTRL.CONTAIN contains the stable. -/
  | stableContain (a : Acc)
  /-- R386. STB_SAF_CTRL.RELEASE scrubs the stable's entries and releases it or sets REL_FAIL. -/
  | stableRelease (a : Acc)
  /-- R381. ERR_CTRL.CONTAIN contains the port at PORT scope. -/
  | portContain (a : Acc)
  /-- R386. ERR_CTRL.RELEASE releases the port's containment once flushing has ended. -/
  | portRelease (a : Acc)
  /-- R388. ERR_CTRL.UNTAINT clears the port's TAINT. -/
  | portUntaint (a : Acc)
  /-- R386. The owner's host clears DPC Trigger Status and the fence of an OWNED downstream port is released. -/
  | dpcRelease (stable : Nat) (port : Nat)
  /-- R404. A host's DPC software trigger fences its port, or contains the stable's slices on a SHARED port. -/
  | dpcSoftwareTrigger (stable : Nat) (port : Nat)
  /-- R389. A write of PPL_CTRL.CLEAR empties the posted-loss log. -/
  | pplClear (a : Acc)
  /-- R398. A write of FLOG_CTRL.CLEAR empties the fault log. -/
  | flogClear (a : Acc)
  /-- R378. The Enruez lockstep comparator finds a mismatch and P130 is contained. -/
  | lockstepMismatch
  /-- R379. A core or device-time PLL loses lock; class CORE_CLOCK reaches fail-safe. -/
  | coreClockLoss (deviceTime : Bool)
  /-- R379. A supply leaves its range or power-good falls; class VOLTAGE reaches fail-safe and clamps apply. -/
  | voltageFault (rail : Nat)
  /-- R379. The hottest cluster crosses WARN or CRIT and TEMP_WARN or TEMP_CRIT is raised. -/
  | tempThreshold (cluster : Nat) (temp : Nat)
  /-- R504. A sensor reads 132 °C; THERMTRIP_N asserts, regulator enables drop and class THERMAL is raised. -/
  | thermalTrip (cluster : Nat)
  /-- R390. A device-originated non-posted request reaches CTO and its originator is told of the failure. -/
  | completionTimeout (who : Nat) (id : Nat)
  /-- R390. A further CTO after a timeout the request's tag is released. -/
  | tagRelease (code : Nat)
  /-- R414. A function-level reset of a control function resets it, clears accessor state and advances every channel of the stable. -/
  | functionLevelReset (stable : Nat) (fn : Nat)
  /-- R414. Bus Master Enable cleared on a function stops its channels or advances the port or slice domains. -/
  | busMasterEnableClear (stable : Nat) (fn : Nat)
  /-- R414. Secondary Bus Reset set on a downstream function sends hot reset on an OWNED link or advances slice domains. -/
  | secondaryBusReset (stable : Nat) (fn : Nat) (on : Bool)
  /-- R414. Link Disable set on an OWNED downstream function disables the link and advances the port's domain. -/
  | linkDisable (stable : Nat) (fn : Nat) (on : Bool)
  /-- R415. A hot reset received on a stable's upstream link resets the whole hierarchy. -/
  | hotResetReceived (port : Nat)
  /-- R415. FN_CTRL.VH_RESET resets the stable's virtual hierarchy. -/
  | vhReset (a : Acc)
  /-- R417. After a reset a function becomes ready and stops answering with Request Retry Status. -/
  | functionReady (stable : Nat) (which : Nat)
  /-- R420. A write of VSLOT_DATA stages the slot entry and increments the cursor, or is ignored beyond slot 247. -/
  | vslotDataWrite (a : Acc) (data : Word)
  /-- R407. P130 issues an MSI-X write for a pending unmasked vector of a stable that is not headless. -/
  | msixMessage (stable : Nat) (vector : Nat)
  /-- R431. The coalescing gap of a vector ends and its pending message is sent. -/
  | msixGapEnd (stable : Nat) (vector : Nat)
  /-- R408. A combined INTx wire changes and Assert_INTx or Deassert_INTx is sent upstream. -/
  | intxAssert (stable : Nat)
  /-- R411. A DOE data object written to a stable's mailbox is answered by firmware. -/
  | doeObject (stable : Nat) (kind : Nat) (len : Nat)
  /-- R411. A DOE Abort ends the object in progress for that stable. -/
  | doeAbort (stable : Nat)
  /-- R413. IDE_KM KEY_PROG writes a key slot of the named port or is refused. -/
  | keyProg (stable : Nat) (index : Nat) (stream : Nat) (dir : Nat) (set : Nat) (sub : Nat) (words : List Word)
  /-- R413. IDE_KM K_SET_GO starts use of a key set on the named port. -/
  | kSetGo (stable : Nat) (index : Nat) (stream : Nat) (dir : Nat) (set : Nat)
  /-- R413. IDE_KM K_SET_STOP stops use of a key set on the named port. -/
  | kSetStop (stable : Nat) (index : Nat) (stream : Nat) (dir : Nat) (set : Nat)
  /-- R480. An SPDM request over DOE or MCTP is answered by the firmware responder. -/
  | spdmMessage (path : Nat) (stable : Nat) (code : Nat) (opens : Bool) (ends : Bool)
  /-- R426. A write of 1 to an EV_FORCE or FORCE_W bit raises the source as if caused. -/
  | evForceWrite (a : Acc) (page : Nat) (off : Nat) (data : Word)
  /-- R424. A W1C write clears cause bits in the accessor's array only. -/
  | evCauseClear (a : Acc) (page : Nat) (off : Nat) (data : Word)
  /-- R432. The storm quiet time ends and a still-pending source is delivered once. -/
  | stormQuietEnd (array : Nat) (source : Nat)
  /-- R444. A write of FMQ_POP removes the presented record of the FM queue. -/
  | fmqPop (a : Acc)
  /-- R444. A write of ENQ_POP removes the presented record of the Enruez queue. -/
  | enqPop (a : Acc)
  /-- R434. TAL_CTRL.CLR clears the selected page counters. -/
  | talClr (a : Acc) (page : Nat) (data : Word)
  /-- R434. A write of TALn_EVSEL selects what counter n counts and clears it. -/
  | talEvselWrite (a : Acc) (page : Nat) (n : Nat) (data : Word)
  /-- R440. A write of TS_UNIT or TS_SEL reconfigures a tally slot, clears its value and invalidates its snapshot. -/
  | tallySlotWrite (a : Acc) (sel : Bool) (data : Word)
  /-- R478. Every NOTIFY_INT ms while records remain unread and unpopped, NOTIFY is sent again. -/
  | notifyRepeat
  /-- R451. A write of PL_CTRL.PL_REQ requests a level change, held during a change or sleep. -/
  | plReq (a : Acc) (data : Word)
  /-- R451. A level change starts, at once or at the next cycle start of SYNC_DOM, ramping the voltage or switching the clock. -/
  | plChangeStart
  /-- R451. SETTLE µs pass; the clock switches or the ramp ends and the change completes. -/
  | plSettleDone (ack : Bool)
  /-- R493. An unacknowledged AVSBus target write is repeated every 10 µs. -/
  | avsRetry (ack : Bool)
  /-- R453. A stable writes its STB_HINT and PL_HINT is raised. -/
  | stbHintWrite (a : Acc) (data : Word)
  /-- R456. SLEEP_CTRL.REQ_SL1 starts entry to SL1 or is refused. -/
  | reqSl1 (a : Acc)
  /-- R456. SLEEP_CTRL.REQ_SL2 starts entry to SL2 or is refused. -/
  | reqSl2 (a : Acc)
  /-- R457. SLEEP_CTRL.CANCEL aborts sleep entry. -/
  | sleepCancel (a : Acc)
  /-- R462. SLEEP_CTRL.PAD_RELEASE in ACTIVE returns every held pad to the sideband matrix. -/
  | padRelease (a : Acc)
  /-- R458. Entry conditions hold; the device gates the clock or takes links down, latches pads and powers off for SL2. -/
  | sleepEntryComplete
  /-- R457. Entry conditions do not hold within ENTRY_TO ms and entry is aborted. -/
  | sleepEntryTimeout
  /-- R460. An enabled wake source fires and exit from sleep begins, or entry is aborted. -/
  | wake (src : Nat) (arg : Nat)
  /-- R461. Exit completes after retention scrub; the state returns to ACTIVE and SLEEP_EXIT is raised. -/
  | sleepExit (seu : List (Nat × Nat × Nat)) (single : List (Nat × Nat × Nat))
  /-- R494. A supply reaches its range for 100 µs and the next regulator enable is driven. -/
  | railInRange (rail : Nat)
  /-- R494. Internal power-good asserts once all rails are in range and SYSCLK runs. -/
  | powerGood
  /-- R466. PERST_N asserts and the device is reset, every port held and sideband outputs high-impedance. -/
  | perstAssert
  /-- R466. PERST_N deasserts with power-good; straps are latched, device time starts and the boot ROM runs. -/
  | perstDeassert (straps : Nat)
  /-- R470. The boot ROM reads and verifies a flash slot and chooses it or tries the other. -/
  | imageVerify (ha : FlashHdr) (hb : FlashHdr)
  /-- R472. A KCI WRITE record writes a register. -/
  | kciWrite (addr : Nat) (data : Word)
  /-- R472. A KCI RMW record reads, masks and writes a register. -/
  | kciRmw (addr : Nat) (mask : Word) (data : Word)
  /-- R472. A KCI SEL_WRITE record writes the page's SEL and then the register. -/
  | kciSelWrite (addr : Nat) (sel : Word) (data : Word)
  /-- R472. A KCI COMMIT record commits a page and waits until done. -/
  | kciCommit (page : Nat)
  /-- R472. A KCI WAIT record polls a register until it matches or times out. -/
  | kciWait (addr : Nat) (mask : Word) (value : Word) (timeoutUs : Nat) (expired : Bool)
  /-- R472. A KCI DELAY record waits US µs. -/
  | kciDelay (us : Nat)
  /-- R472. A KCI YARD record writes DEV.YARD_CFG. -/
  | kciYard (cfg : Word)
  /-- R472. A KCI END record checks the CRC, completes the KCI and starts the firmware. -/
  | kciEnd (crc : Nat) (bad : Bool)
  /-- R471. BOOT_CTRL.ARB_COMMIT raises the anti-rollback counter to the running image's SVN. -/
  | arbCommit (a : Acc)
  /-- R487. FLASH_CMD.GO sends a flash command with its data words. -/
  | flashGo (a : Acc) (data : Word) (answer : List Word)
  /-- R476. A write of YARD_CFG sets yard membership and head, raising HEAD_CHANGE when HEAD is written. -/
  | yardCfgWrite (a : Acc) (data : Word)
  /-- R475. FORM_TO × 10 ms after the head's KCI the head runs the first yard commit. -/
  | yardFormTimeout
  /-- R477. MCTP Set Endpoint ID sets the path's endpoint ID. -/
  | setEndpointId (path : Nat) (eid : Nat)
  /-- R477. MCTP Get Endpoint ID is answered. -/
  | getEndpointId (path : Nat)
  /-- R477. MCTP Get Version Support is answered. -/
  | getVersionSupport (path : Nat) (type : Nat)
  /-- R477. MCTP Get Message Type Support is answered. -/
  | getMessageTypeSupport (path : Nat)
  /-- R477. MCTP Get Vendor Defined Message Support is answered. -/
  | getVendorDefinedMessageSupport (path : Nat)
  /-- R479. A PLDM Type 0 or Type 2 message is answered by firmware with sensor values. -/
  | pldmMessage (path : Nat) (type : Nat) (sensor : Nat)
  /-- R478. A Golbuent READ command reads a register as accessor 65 and returns data and SEL_STATUS. -/
  | read (path : Nat) (ok : Bool) (addr : Nat) (x : Ext)
  /-- R478. A Golbuent WRITE command writes a register as accessor 65 and returns SEL_STATUS. -/
  | write (path : Nat) (ok : Bool) (addr : Nat) (data : Word) (x : Ext)
  /-- R477. An MCTP packet with bad PEC or no server is discarded and counted. -/
  | mctpPacketError
  /-- R481. DBG_CTRL.CHALLENGE loads 48 random bytes into DBG_CHAL unless locked out or fused off. -/
  | challenge (a : Acc)
  /-- R481. DBG_CTRL.VERIFY checks the signature and sets AUTH or raises DBG_AUTH_FAIL. -/
  | verify (a : Acc) (sigOk : Bool)
  /-- R481. DBG_CTRL.DEAUTH clears AUTH. -/
  | deauth (a : Acc)
  /-- R482. DBG_CTRL.HALT stops both Enruez cores at the same instruction. -/
  | halt (a : Acc)
  /-- R482. DBG_CTRL.RESUME restarts the halted cores, or starts the firmware in DEBUG_HOLD. -/
  | dbgResume (a : Acc)
  /-- R481. 1 s after a failed verification a new challenge may be issued. -/
  | challengeLockoutEnd
  /-- R481. The JTAG DBG_ACCESS instruction reads or writes a management-space word as accessor 66. -/
  | dbgAccess (load : Bool) (addr : Nat) (data : List Word) (x : Ext)
  /-- R499. An IEEE 1149.1 or 1149.6 instruction is carried out on the test access port. -/
  | boundaryScan (code : Nat)
  /-- R484. A write of SB_ROUTE changes the pin's output source at one instant. -/
  | sbRouteWrite (a : Acc) (data : Word)
  /-- R484. A sideband input changes and reaches the outputs that route it within 8 ns. -/
  | sbioInputChange (pin : Nat) (level : Bool)
  /-- R487. A write of SB_CLKREQ binds the pin's input as a port's CLKREQ_N, or is ignored if the port is already named. -/
  | sbClkreqWrite (a : Acc) (data : Word)
  /-- R140. A PCIe or CXL link in L0 enters Recovery on a link error or at the partner's request, which aborts a calibration procedure in progress and freezes in-situ adaptation. -/
  | linkEntersRecovery (port : Nat)
  /-- R97. Recovery of a PCIe or CXL link ends, returning the link to L0 at its width or failing on a lane, which counts toward leaving the lane out after three failures. -/
  | recoveryEnd (port : Nat) (failed : Nat)
  /-- R133. The partner acknowledges a device-initiated L0p narrowing at a flit boundary, and the link then runs at half width with the upper lanes PARKED. -/
  | l0pPartnerAcknowledge (port : Nat)
  /-- R133. The on-die loopback calibration of a HALF procedure completes, the loopback is released and the port engine requests the return width. -/
  | loopbackStageDone (port : Nat)
  /-- R130. The foreground calibration and eye measurement of a parked lane in a ROTATE procedure complete, and MKL sends the join command for the lane. -/
  | eyeHeightMeasured (port : Nat) (eye : Nat)
  /-- R139. A Lane Margining at the Receiver command arrives for a lane and is answered, or reported not ready for a parked lane, holding the lane at its margin offset. -/
  | laneMarginingCommand (port : Nat) (lane : Nat) (offset : Nat)
  /-- R107. While hot-plug polling is off, an unacknowledged expander output write is retried every 10 ms. -/
  | expanderWriteRetry (expander : Nat)
  /-- R499. TRST_N goes low, holding the test logic reset and making DBG_ACCESS unavailable, until it goes high again. -/
  | testLogicReset (low : Bool)
  deriving DecidableEq, Repr

end Sys2Proof
end

