-- ==== Sys2Proof/Config.lean ====
section
/-! DEFINITION. What the spec leaves to the part, the board or the hardware: constants without a body, so that no proof
can rest on a value of theirs. Every field is named in the assumption log. -/

namespace Sys2Proof.Config

/-- Factory values (access code ROF and the trimmed values of R64): the word at offset `off` of page `page` for the
instance `inst`. DESIGN CHOICE, log entry 3: a free value. -/
opaque factory (page inst off : Nat) : Word

/-- The device token of the `n`-th device reset (R159): a random value. DESIGN CHOICE, log entry 3. -/
opaque deviceToken (n : Nat) : Word

/-- The anti-rollback value that the fuses hold at reset (R471). DESIGN CHOICE, log entry 3. -/
opaque arbFuse : BitVec 8

/-- The boot straps of the board (R467). DESIGN CHOICE, log entry 3. -/
opaque straps : BitVec 6

/-- Whether the fuse that disables debug is blown (R481). DESIGN CHOICE, log entry 3. -/
opaque debugFuseOff : Bool

/-- Word `i` of the `n`-th debug challenge (R481): random. DESIGN CHOICE, log entry 3. -/
opaque challengeWord (n i : Nat) : Word

/-- The `n`-th value that the spec leaves open after an operation that goes on (a free value, taken fresh from the
counter `Dev.free`). DESIGN CHOICE, log entry 4. -/
opaque freeWord (n : Nat) : Word

/-- The member and port (member × 128 + port) of the upstream port of a yard stable whose host is on another member:
the spec does not say how a member learns it (R229, R512). DESIGN CHOICE, log entry 6. -/
opaque remoteUp (ystable : Nat) : Nat

end Sys2Proof.Config
end

