-- ==== Sys2Proof/Machine/State.lean ====
section
/-! DEFINITION. The state of the block: plain data only, one structure per subsystem, and State.reset. -/

namespace Sys2Proof.Machine

/-- A sparse table: index and value, indices strictly rising, no entry equal to what an unlisted index reads as. -/
abbrev Tbl (α : Type) := List (Nat × α)

/-- A register by page and offset (R31). -/
structure Reg where
  page : Nat
  off : Nat
  deriving DecidableEq, Repr

/-! ### Staging (R53–R60) -/

/-- One staged word: the accessor that staged it, the page whose commit adopts it (another page than the register's for
a value that a group unit fans out, R60), the register and its select value, and the value. -/
structure Stg where
  acc : Nat
  via : Nat
  page : Nat
  inst : Nat
  off : Nat
  val : Word
  deriving DecidableEq, Repr

/-- Who waits for a held or adopted commit besides the accessor: a configuration write of stable `stb` whose completion
(requester `rid`, tag `tag`) returns when the commit is adopted (R202). -/
structure CfgWait where
  stb : Nat
  rid : Nat
  tag : Nat
  deriving DecidableEq, Repr

/-- A commit of the RTE and ISO group held while DRAINING is 1 (R57). -/
structure Held where
  acc : Nat
  set : List Stg
  cfg : Option CfgWait
  deriving DecidableEq, Repr

/-- The phases of a yard commit at this device (R225). -/
inductive YcPhase where
  | idle        -- none in progress
  | preparing   -- head: PREPARE sent, answers awaited
  | adopting    -- head: ADOPT sent, answers and drains awaited
  | prepared    -- member: snapshot taken, READY sent
  | adopted     -- member: adopted, draining
  deriving DecidableEq, Repr

/-- The yard commit state (R225) of the head or of a member. -/
structure Yard where
  phase : YcPhase
  id : Nat                    -- commit ID, 16 bits
  epoch : Nat                 -- the epoch E + 1 of the commit in progress
  parts : List Nat            -- head: the members that PREPARE went to
  ready : List Nat            -- members that answered READY
  nexthops : Tbl Nat          -- next-hop vectors answered with READY
  adopted : List Nat
  drained : List Nat
  headDrained : Bool
  snapshot : List Stg         -- member: the snapshot taken; head: the set to be adopted
  accs : List (Nat × Nat)     -- head: accessor and page of each commit that this one carries out
  cfgs : List CfgWait         -- head: the configuration writes among them
  since : Nat                 -- device time of the PREPARE
  links : List (Nat × Nat)    -- head: the neighbour pairs of the last TOPO messages
  lost : List Nat             -- members declared lost (MKL_YARD.LOST)
  unreach : List Nat          -- members for which UNREACHABLE was raised
  badNh : List Nat            -- YROUTE entries whose bundle has another partner: member × 2, + 1 for the alternate
  forwarded : List (CfgWait × Stg)  -- routing-field writes carried to the head (R203)
  hops : Tbl Nat              -- member × 2, + 1 for the alternate: hops of the last yard commit
  subs : Nat                  -- YARD_SUB in force (R28)
  fresh : List Nat            -- head: members at epoch 0
  far : List Nat              -- head: accessors that have staged at other members since the last yard commit
  routed : List Nat           -- members towards which YROUTE holds a valid entry
  tree : Nat                  -- the members of the unit tree, as the last yard commit made them (R21, R28)
  group : Option (Nat × Bool × List Nat)  -- member: the yard commit that the head announced as a group's (R60): its ID, whether
                              -- the set of accessor 67 takes part too, and the head's accessors whose values it fans out
  deriving DecidableEq, Repr

/-- The staging state of the device. -/
structure Staging where
  staged : List Stg
  held : List Held            -- in the order requested
  waiters : List Nat          -- accessors whose commit is adopted and whose drain has not ended (COMMIT reads 1)
  epoch : BitVec 32           -- the epoch in force on RTE and ISO (R56)
  draining : Bool
  lastErr : Tbl Nat           -- page: LAST_ERR + 256 × ERR_INDEX (R59)
  disagree : List (Nat × Nat × Nat)  -- pairs that disagree now: page, select value, offset (R62)
  adopted : Tbl Word          -- last consistent values of pair fields (R62), keyed as the register file
  topoGen : BitVec 16         -- TOPO_GEN (R44)
  deriving DecidableEq, Repr

/-! ### Events (R422–R433) and tallies (R434–R442) -/

/-- What a raise carries: DETAIL, the device time, the first owner and FORCED (R429). -/
structure RaiseInfo where
  detail : Word
  time : Nat
  stable : Option Nat
  forced : Bool
  deriving DecidableEq, Repr

/-- A record of the FM or Enruez queue (R429). -/
structure EvRec where
  src : Nat
  sev : Nat
  forced : Bool
  stable : Option Nat
  reps : Nat
  detail : Word
  time : Nat
  deriving DecidableEq, Repr

/-- A record queue of at most 256 records, oldest first (R433). -/
structure EvQueue where
  recs : List EvRec
  overflow : Bool
  deriving DecidableEq, Repr

/-- The storm guard of one source in one array (R432): the millisecond counted, its deliveries, and the end of the quiet
time (0: the guard does not hold). -/
structure Storm where
  ms : Nat
  n : Nat
  quietEnd : Nat
  deriving DecidableEq, Repr

/-- The event controller. Arrays 0–63 are the stable copies, array 64 the management array; a bit of an array is keyed
array × 2048 + source. -/
structure Ev where
  cause : Tbl Bool
  unmask : Tbl Bool           -- mask bits that are 0; the mask bit resets to 1
  count : Tbl Nat             -- EVC raises of a source, 16 bits
  info : Tbl RaiseInfo        -- the last raise of a source
  storm : Tbl Storm
  fmq : EvQueue
  enq : EvQueue
  pba : List (Nat × Nat)      -- pending MSI-X vectors: stable of the control function, vector (R407)
  msixGap : Tbl Nat           -- end of the coalescing gap: stable × 256 + vector (R431)
  faultPin : Bool             -- FAULT_N asserted
  faultSrc : Nat              -- the source that first asserted it
  coreIrq : Bool              -- the event interrupt of the Enruez core (R428)
  notifyAt : Nat              -- device time + 1 of the last NOTIFY; 0 once a record has been popped
  deriving DecidableEq, Repr

/-- A snapshot of a tally slot or of a slot-class counter set (R442). -/
structure TalSnapS where
  vals : List Nat
  time : Nat
  pos : Word
  tag : Nat
  deriving DecidableEq, Repr

/-- The counters of 48 bits. -/
structure Tally where
  page : Tbl Nat              -- page × 8 + n: counter n of the page
  slot : Tbl Nat              -- port × 16 + class: slot-class counters
  slotSnap : Tbl TalSnapS     -- port: its SLOT_SNAP set
  ts : Tbl Nat                -- tally slot values
  tsSnap : Tbl TalSnapS
  frac : Nat                  -- core clocks not yet counted, in thousandths
  slotFrac : Tbl Nat          -- port: part of a slot unit not yet counted, in 2^-20
  deriving DecidableEq, Repr

/-! ### Cycle timebase (R67–R86) -/

/-- Domain states of R72. -/
inductive DomSt where
  | off | acquire | locked | holdover | freerun
  deriving DecidableEq, Repr

/-- A cycle domain: what DOM_STATE, EST_PERIOD, POS and LAST_MARK show, and what the executor keeps. -/
structure CycDom where
  state : DomSt
  loss : Bool
  running : Bool              -- a cycle is in progress
  intol : Nat
  outl : Nat
  p : Nat                     -- P in 1/256 ns (R70)
  started : Bool              -- a cycle has started since enable
  cycle : Nat                 -- cycle number, modulo 2^32
  tStart : Nat                -- device time at which the cycle started
  lastReal : Option Nat       -- time of the last accepted mark
  valid : Bool                -- the interval that ends at the next mark is valid
  saturated : Bool
  synth : Nat                 -- synthetic marks since HOLDOVER was entered
  done : List Nat             -- entries executed or skipped in this cycle
  base : Nat                  -- range in force (R79)
  count : Nat
  pend : Option (Nat × Nat)   -- pending range
  deriving DecidableEq, Repr

structure Cyc where
  doms : List CycDom          -- CD0–CD7
  unjoined : List Nat         -- stables whose new domain has not started a cycle since the binding changed (R83)
  pins : Nat                  -- levels of CYC_IN0–CYC_IN7
  deriving DecidableEq, Repr

/-! ### Ports, slots and calibration (R87–R144) -/

/-- The calibration procedures of R130, R133 and R136. -/
inductive ProcKind where
  | rotate | half | reeq
  deriving DecidableEq, Repr

/-- Where a procedure stands. -/
inductive ProcStep where
  | starting     -- park or narrowing requested
  | parked       -- lanes PARKED, loopback or PRBS running
  | measured     -- eye measured or loopback released, return requested
  deriving DecidableEq, Repr

/-- A procedure in progress: its lanes (cluster-relative mask), first lane, trigger (R123), start, EFF_MARGIN_TH read at
its start, width before, return width and the measured eye. -/
structure Proc where
  kind : ProcKind
  step : ProcStep
  lanes : Nat
  first : Nat
  trig : Nat
  start : Nat
  width : Nat
  ret : Nat
  eye : Nat
  alarms : Nat               -- DROOP_ALARM met during a measurement step
  th : Tbl Nat               -- lane: EFF_MARGIN_TH
  lim : Nat                  -- CAL_POL.FAIL_LIMIT and REEQ as they were at its start (R140)
  reeq : Bool
  deriving DecidableEq, Repr

/-- A physical port's state beside its registers. -/
structure PortSt where
  detLanes : Nat             -- lanes trained on at the last pass through Detect (R94)
  leftOut : Nat              -- lanes left out after three failures (R97)
  recFail : Tbl Nat          -- lane: consecutive failed recoveries
  repWidth : Nat             -- the width reported to SCH (R102)
  l0pReq : Option Nat        -- a partner's deferred widening (R101, R134)
  linkDis : Bool             -- Link Disable of the downstream function
  sbr : Bool                 -- Secondary Bus Reset held
  lmLanes : List Nat         -- lanes held at a non-zero margin offset (R119)
  proc : Option Proc
  wins : List (Nat × Nat)    -- open calibration windows: domain, end phase
  winAt : Nat                -- device time at which the window opened
  reeqDue : Bool
  rateCap : Nat              -- the highest rate that both ends of the link support, MAX_RATE aside (R92)
  ptm : Bool                 -- a PTM dialogue has given the master time since the link came up (R69)
  rising : Bool              -- DL_UP shows, but the training goes on towards the final rate (R96 steps 6 and 7)
  flitP : Bool               -- both partners of the link support flit mode (R98)
  deriving DecidableEq, Repr

/-- Calibration state of a lane beside LCAL_STATUS. -/
structure CalLane where
  due : Option (Nat × Nat)   -- trigger and device time since it is due
  lows : Nat                 -- consecutive eye heights below EFF_MARGIN_TH
  lowRaised : Bool           -- MARGIN_LOW raised in this low interval
  retryAt : Option Nat       -- a failed procedure makes the lane due again then (R132)
  rotAt : Option Nat         -- staggered first rotation (R124)
  starved : Bool             -- CAL_STARVED has been raised for it since it is due (R129)
  applied : List Nat         -- quantities 0 to 6 as the lane has them, since its last training or procedure (R118)
  was : List Nat             -- the same and ADAPT from before the procedure under way (R140)
  deriving DecidableEq, Repr

/-- A hot-plug slot (R106–R109). -/
structure Slot where
  present : Bool             -- presence accepted
  power : Bool               -- Power Controller Control on
  attn : Nat                 -- Attention Indicator Control, 1 on, 2 blink, 3 off
  pwrInd : Nat               -- Power Indicator Control
  blinkOn : Bool             -- phase of a blinking indicator
  cmdDone : Bool             -- Command Completed
  btnPrev : Bool             -- last read button level
  btn : Bool                 -- reported button level
  powered : Bool             -- PWREN acknowledged as 1
  delayAt : Option Nat       -- PWR_DELAY runs until then
  resetOn : Bool             -- the slot's reset output is asserted
  deriving DecidableEq, Repr

structure Ports where
  port : Tbl PortSt
  lane : Tbl CalLane
  slot : Tbl Slot
  expQ : Tbl (List Nat)      -- expander k: output words to write, oldest first
  alarmAt : Tbl Nat          -- cluster: device time + 1 of the last DROOP_ALARM
  deriving DecidableEq, Repr

/-! ### Scheduler (R350–R367) -/

/-- The tags of one backlogged flow at a port (R352, R353), as offsets above V. -/
structure Tag where
  s : Int                    -- S: it stays where it was when V passes it
  f : Nat
  last : Nat
  active : Bool              -- it has a head
  deriving DecidableEq, Repr

/-- WFQ state of one server: V, tags, last background flow served. -/
structure Wfq where
  v : BitVec 32
  tags : Tbl Tag
  lastBg : Nat
  deriving DecidableEq, Repr

/-- A shaper's token count (units of 1/125 byte) and its effective profile. -/
structure Shaper where
  tokens : Int
  rate : Nat
  burst : Nat
  deriving DecidableEq, Repr

structure Sched where
  port : Tbl Wfq             -- egress port
  tc : Tbl Wfq               -- port × 128 + stable
  close : Tbl Nat            -- ((port × 64 + stable) × 8 + tc): domain × 65536 + close phase (R360)
  shaper : Tbl Shaper
  lastSel : Tbl Nat          -- port × 128 + stable: device time + 1 of the last selection or of becoming backlogged
  noCred : Tbl Nat           -- port: classes for which the partner gave no credits at the last selection, 3 bits
  stalled : Tbl Nat          -- port: stables for which QUEUE_STALL was raised since their last selection
  deriving DecidableEq, Repr


/-! ### TLPs and the datapath (R11–R15, R168–R195) -/

/-- A route decision (R200). -/
inductive Dest where
  | port (member port : Nat)
  | func
  | bridge (window off : Nat)
  | mcast (group : Nat)
  | loc
  | err (reason : Nat)
  deriving DecidableEq, Repr

/-- The permission result of R241 and R242: passed, or denied with reason, failing type, charged stable, first byte of
the failing part and whether the check was a crossed one. -/
inductive Verdict where
  | ok
  | deny (reason type : Nat) (stb : Option Nat) (addr : Nat) (xed : Bool)
  deriving DecidableEq, Repr

/-- One evaluation of stage 5 (R370). -/
structure Eval where
  stable : Option Nat        -- the stable that fixes the decode
  tagStb : Option Nat        -- the stable tag of the cells (the destination stable of a crossing)
  dest : Dest
  xing : Option Nat
  xaddr : Nat                -- address sent on
  verdict : Verdict
  gen : Nat                  -- generation of the domain
  redir : Bool               -- step 6 of R204 applied
  deriving DecidableEq, Repr

/-- The states of a multicast copy (R185). -/
inductive CopySt where
  | pending | queued | sending | sent | discarded
  deriving DecidableEq, Repr

/-- One copy of a multicast TLP. -/
structure Copy where
  port : Nat
  st : CopySt
  prim : Eval
  chk : Eval
  deriving DecidableEq, Repr

/-- Which block originated a TLP of P128–P130 (R232), for the failure it is told. -/
inductive Src where
  | ext
  | chan (c desc : Nat)      -- a DMA channel's descriptor
  | dirty (g : Nat)          -- a dirty-page record
  | capture (s : Nat)        -- a host capture record
  | msix (s v : Nat)         -- an MSI-X message
  | msg (s : Nat)            -- a message of a switch function
  | window (w : Nat)         -- a bridge window
  | m2s (id : Nat)           -- a CXL.mem request, by its number among those outstanding
  | loft (key : Nat)         -- the loft, for the context of a key
  | mgmt                     -- the management complex
  deriving DecidableEq, Repr

/-- Where an item stands. -/
inductive Stage where
  | store                    -- waits for cells at stage 6
  | queued                   -- in an egress queue
  | direct                   -- passes to stage 8 without a queue (R513)
  | sending                  -- first flit sent
  | resend                   -- nullified after an underrun, to be sent again (R172)
  deriving DecidableEq, Repr

/-- A shed cell that a TLP holds (R173): its number, whose low 6 bits are its bank, and its side field: the stable tag with its parity, the
epoch, the generation and the link to the next cell. The data field holds 256 B of the payload. -/
structure Cell where
  num : Nat
  tag : Option Nat
  parity : Bool
  epoch : BitVec 32
  gen : Nat
  next : Option Nat
  deriving DecidableEq, Repr

/-- A TLP between stage 5 and the release of its cells. -/
structure Item where
  id : Nat                   -- arrival order
  stored : Nat               -- storing order, given at the grant
  tlp : Tlp
  ingress : Nat
  src : Src
  priv : Bool
  slice : Option Nat
  key : Option Nat           -- context key
  track : Bool               -- its context has TRACK = 1
  logged : Option Nat        -- dirty-log group of a LOGGED context
  dom : Option Nat           -- generation domain: slice s, 4096 + port, 8192 + channel, 16384 + port × 16 + LD
  prim : Eval
  chk : Eval
  refuse : Option Nat        -- refusal reason of R272
  epoch : BitVec 32
  stage : Stage
  shared : Bool              -- granted from the shared pool (else from the reserve)
  cells : List Cell          -- the cells held, in order; the first one's side field holds the header, the CRCs and the results of stage 5
  hchk : Nat                 -- header check and carriage CRC (R372)
  ccrc : Nat
  refused : Bool             -- a shared grant was refused once (CNT_SH_REFUSE)
  waited : Bool              -- it waits for a ledger entry or for cells
  marked : Bool              -- marked by a generation advance (R279)
  cut : Bool                 -- cut through
  gateClose : Option Nat     -- when its gate closed while it was being sent (R361)
  copies : List Copy
  since : Nat                -- device time of stage 6
  transit : Option Nat       -- transit traffic: the member it goes to (R220)
  hops : Nat
  pkt : Option Packet        -- the packet in which it arrived over a fabric link
  link : Option Nat          -- the link of its bundle it was bound to at selection
  own : Bool                 -- a completion that the switch itself made
  sched : Option Nat         -- the stable as whose traffic it is scheduled, where it belongs to none (R316)
  deriving DecidableEq, Repr

/-- A TLP that a port has transmitted and whose acknowledgement the partner has not given. -/
structure Sent where
  tlp : Tlp
  stable : Option Nat
  ingress : Nat
  src : Src
  mc : Bool
  deriving DecidableEq, Repr

/-- A drop-log entry (R194). -/
structure Drop where
  fmtType : Nat
  unconf : Bool
  mc : Bool
  stable : Nat
  rid : Nat
  addr : Nat
  pasid : Option Nat
  len : Nat
  time : Nat
  deriving DecidableEq, Repr

/-- A log that fills once: its entries, oldest first, and its overflow flag. -/
structure Log (α : Type) where
  entries : List α
  overflow : Bool
  deriving DecidableEq, Repr

/-- A mirror sample waiting in a mirror cell: port, direction, stable and record words (R188–R190). -/
structure Sample where
  port : Nat
  egress : Bool
  host : Bool
  stable : Option Nat
  time : Nat
  payload : Nat
  trunc : Bool
  pos : Nat
  fmtType : Nat
  addr : Nat
  hd : List Byte             -- header bytes
  data : List Byte           -- the first bytes of the payload
  deriving DecidableEq, Repr

structure Path where
  items : List Item          -- in arrival order
  nextId : Nat
  nextStored : Nat
  nextBank : Nat             -- the bank after that of the cell granted last
  replay : Tbl (List Sent)   -- port: transmitted and unacknowledged
  drops : Tbl (Log Drop)     -- port
  mirCnt : Tbl Nat           -- port × 2 + direction: TLPs the sampler has counted
  ring : Tbl Sample          -- the capture ring in Enruez local memory, by address
  lowF : Bool                -- F is below SHD_LOW_TH
  pmeWait : Tbl (List Nat)   -- stable: ports whose PME_TO_Ack is awaited (R210)
  intx : Tbl Nat             -- port: INTx wires asserted by messages, 4 bits (R408)
  intxOut : Tbl Nat          -- stable: combined wires as last sent
  fencedHead : Tbl (List Nat) -- stable: ports fenced under HEADLESS_ACTION and slices, 256 + slice, still contained
  inbox : List Item          -- TLPs handed to P128, P129 and P130 and not yet taken up there, oldest first
  deriving DecidableEq, Repr

/-! ### Logs of routing and access (R217, R244, R273, R389, R398) -/

structure RouteErr where
  fmtType : Nat
  port : Nat
  stable : Nat
  reason : Nat
  rid : Nat
  len : Nat
  addr : Nat
  time : Nat
  deriving DecidableEq, Repr

structure AccFault where
  fmtType : Nat
  port : Nat
  stable : Option Nat
  priv : Bool
  xed : Bool
  reason : Nat
  type : Nat
  rid : Nat
  len : Nat
  addr : Nat
  pasid : Option Nat
  time : Nat
  deriving DecidableEq, Repr

structure Refused where
  port : Nat
  fmtType : Nat
  stable : Option Nat
  reason : Nat
  rid : Nat
  len : Nat
  pasid : Option Nat
  addr : Nat
  time : Nat
  deriving DecidableEq, Repr

structure PLoss where
  egress : Nat
  stable : Nat
  cause : Nat
  mc : Bool
  ingress : Nat
  rid : Nat
  bytes : Nat
  addr : Nat
  pasid : Option Nat
  time : Nat
  pos : Word
  deriving DecidableEq, Repr

structure FaultEnt where
  cls : Nat
  scope : Nat
  escalated : Bool
  stable : Option Nat
  port : Option Nat
  unit : Word
  detail : Word
  time : Nat
  deriving DecidableEq, Repr

structure Logs where
  route : Log RouteErr
  flt : Log AccFault
  rf : Log Refused
  ppl : Log PLoss
  flog : Log FaultEnt
  deriving DecidableEq, Repr

/-! ### Stalls, loft, slices, ledger, traps (R259–R291) -/

/-- A context (R262): the fields that the rules read or write; its ledger count is derived from the ledger. -/
structure Ctx where
  key : Nat
  ctxId : Nat
  pinned : Bool
  logged : Bool
  track : Bool
  modified : Bool
  stable : Nat
  slice : Option Nat
  gen : Nat
  npMax : Nat
  dlog : Nat
  polProfile : Nat
  polEn : Bool
  tokens : Int
  lastRefill : Nat
  cntOver : Nat
  holdNs : Nat
  lastUse : Nat
  cntTlp : Nat
  cntBytes : Nat
  cntMiss : Nat
  sw : List Byte
  loftGen : Nat
  deriving DecidableEq, Repr

/-- A request at stage 3 or 4: its TLP, port, key, time of arrival and, when a policer holds it, that it is held. -/
structure Parked where
  tlp : Tlp
  port : Nat
  key : Nat
  since : Nat
  held : Bool                -- held by a policer (R364)
  noEntry : Bool             -- it waits at the ingress buffer
  waits : Bool               -- it waits there for a miss-queue entry (R269)
  shared : Bool              -- it holds a shared miss-queue entry
  refuse : Option Nat        -- its context was refused; it leaves the queue to be refused
  gen : Nat                  -- generation taken at stage 3
  dom : Option Nat           -- its generation domain then (R278)
  ready : Bool               -- its context has arrived
  deriving DecidableEq, Repr

/-- Why a loft operation runs. -/
inductive FetchFor where
  | request | pin | create (acc : Nat) | lookup (acc : Nat) | invalidate (acc : Nat)
  | writeback                -- a victim of the eviction buffer
  deriving DecidableEq, Repr

/-- A loft operation in progress: key, loft set, what it is for, step (1: set read, 2: context read), way. -/
structure Fetch where
  key : Nat
  set : Nat
  why : FetchFor
  step : Nat
  way : Nat
  port : Nat
  since : Nat
  cto : Nat                  -- CTO in force then, in ns
  sent : Bool                -- the requests of this step have been issued
  lost : Bool                -- one of them was removed without transmission: no response comes
  deriving DecidableEq, Repr

structure Stall where
  ways : Tbl Ctx             -- set × 8 + way
  lru : Tbl (List Nat)       -- set: ways, least recently used first
  evict : List (Nat × Ctx)   -- eviction buffers: cluster, victim (oldest first)
  loft : Tbl Ctx             -- CTX_ID: what the loft holds
  miss : List Parked         -- miss queues and requests waiting for them, in arrival order
  fetch : List Fetch
  ctxErr : List Nat          -- keys whose loft copy is bad (R274)
  errRun : Nat               -- consecutive fetches that found CTX_ERR
  opBusy : Tbl Nat           -- accessor: operation bits of CTX_OP in progress
  opRes : Tbl Word           -- accessor: CTX_RESULT
  pinActive : List Nat       -- keys of active pins
  deriving DecidableEq, Repr

/-- A ledger entry (R281). -/
structure Led where
  egress : Nat
  rid : Nat
  tag : Nat
  ingress : Nat
  stable : Option Nat        -- stable of the requester
  key : Option Nat
  slice : Option Nat
  dom : Option Nat
  gen : Nat
  bytes : Nat
  addr : Nat
  isRead : Bool
  src : Src
  time : Nat
  ghost : Bool
  deriving DecidableEq, Repr

/-- A generation domain: counter and whether an advance is held (R278, R279). -/
structure Gen where
  g : Nat
  pend : Bool
  deriving DecidableEq, Repr

/-- A trapped configuration request (R287). -/
structure Trap where
  id : Nat
  write : Bool
  slice : Nat
  stable : Nat
  fbe : Nat
  rid : Nat
  tag : Nat
  target : Nat
  reg : Nat
  data : Word
  ingress : Nat
  read : Bool                -- popped
  since : Nat
  deriving DecidableEq, Repr

structure Slice where
  gens : Tbl Gen             -- domain index as in Item.dom
  contained : List Nat       -- slices CONTAINED
  ledger : List Led          -- in the order taken
  filter : Tbl (List (Nat × Nat))  -- group: pages held (page, set), most recently used first
  phase : Tbl Bool           -- group: PHASE inverted from its reset 1
  syncWait : Tbl (List Nat)  -- group: ids of record writes a SYNC waits for
  dirtyOut : List (Nat × Nat) -- record writes not yet transmitted: item id, group
  traps : List Trap
  trapWait : List (Tlp × Nat × Nat × Nat)  -- requests waiting for a trap entry: TLP, ingress, stable, slice
  deriving DecidableEq, Repr

/-! ### Safety (R368–R400) -/

/-- An injected fault that waits for its occasion (R396). -/
structure Inj where
  kind : Nat
  port : Nat
  struct : Nat
  idx : Nat
  bit : Nat
  deriving DecidableEq, Repr

/-- A disagreement whose targeted scrub is due (R384): the stable, egress and ingress port and unit of the TLP, and the
table entries (structure, index) that either evaluation used. -/
structure Disagree where
  stable : Option Nat
  port : Nat
  entries : List (Nat × Nat)
  time : Nat
  deriving DecidableEq, Repr

structure Saf where
  flips : List (Nat × Nat × Nat)  -- check copies: structure, entry index, bit that differs from the primary
  bad : List (Nat × Nat × Bool)   -- uncorrectable words: structure, entry index, check copy
  inj : Option Inj
  disq : List Disagree
  disTimes : List Nat        -- times of disagreements attributed to logic
  ceTimes : List (Nat × Nat) -- corrections: structure, device time
  afTimes : List (Nat × Nat) -- denials: stable, device time
  lastDenySlice : Tbl Nat    -- stable: slice + 1 of the last denial
  tagsHeld : List (Nat × Nat) -- timed-out tags: originator code, release time
  portWide : List Nat        -- ports contained by a STABLE containment
  due : List (Nat × Option Nat × Option Nat × Word)  -- faults found and not yet reacted to: class, stable, port, detail
  dpc : List (Nat × Nat)     -- ports whose host's DPC trigger has fired, with DPC Status
  ue : List (Nat × Nat)      -- uncorrectable words of TLP state that wait to be read: item id (or 2^60 + context key, 2^62 + line), class
  deriving DecidableEq, Repr

/-! ### Functions seen by hosts (R401–R421) -/

/-- The functions of the virtual hierarchies. Function numbers of a stable: 0 upstream switch port, 1 control function,
2 bridge function, 8 + k the downstream switch port of slot k. -/
structure Fn where
  cfg : Tbl Word             -- ((stable × 256 + function) × 1024 + DW): standard registers, as the host has left them
  msix : Tbl Word            -- stable × 1024 + 4 × vector + DW: the MSI-X table
  readyAt : Tbl Nat          -- stable × 4 + (0 hierarchy, 1 control, 2 bridge): instant + 1 from which it is ready
  doe : List Nat             -- stables whose mailbox has an object in progress
  sess : Tbl Nat             -- stable: open SPDM sessions
  msixSize : Tbl Nat         -- stable: MSI-X Table Size where it differs from 63 (R419)
  cfgWait : List (CfgWait × Tlp × Nat)  -- configuration writes whose completion waits for a commit: TLP, ingress port
  dirIdx : Tbl Nat           -- accessor: DIR_IDX (R410)
  deriving DecidableEq, Repr

/-! ### Power (R447–R465, R494) -/

/-- A level change in progress (R451). -/
inductive PlStep where
  | none
  | sync                     -- waits for the next cycle start of SYNC_DOM
  | rampUp                   -- faster: AVS target raised, settling
  | rampDown                 -- slower: clock switched, settling
  deriving DecidableEq, Repr

structure Pwr where
  step : PlStep
  target : Nat               -- level of the change in progress
  heldReq : Option Nat       -- PL_REQ written during a change or sleep
  syncCyc : Option Nat       -- the cycle of SYNC_DOM in progress when the change was asked for
  syncAt : Nat               -- device time of that request
  avsAck : Bool              -- the regulator has acknowledged the target in force
  avsAt : Nat                -- device time of the last AVSBus write
  settleAt : Nat             -- instant at which SETTLE µs have passed
  userRamp : Bool            -- a ramp for a change of USER_VPLn of the level in force
  stretchAt : Option Nat     -- a stretch is in progress since then
  stretchLong : Bool         -- STRETCH_LONG raised in this stretch
  lastRx : Nat               -- device time of the last TLP received on any port
  entry : Nat                -- 0 none, 1 SL1 or 2 SL2 being entered or in force
  entryAt : Nat              -- device time of the request
  off : Bool                 -- SL2: the core supply is off
  clamped : Bool             -- the isolation clamps are applied
  rails : Nat                -- rails in range: bit 0 VDD_AON and VDD_IO, 1 VDD_CORE, 2 VDD_SDS and VDD_SDS_H
  enCore : Bool
  enSds : Bool
  good : Bool                -- internal power-good
  perst : Bool               -- PERST_N asserted
  therm : Bool               -- THERMTRIP_N asserted
  cold : Bool                -- VDD_AON has been removed: device time starts anew (R7)
  deriving DecidableEq, Repr

/-! ### Start-up and management (R466–R488) -/

/-- Where start-up stands (R466). -/
inductive BootPh where
  | rom                      -- the boot ROM runs, no slot chosen
  | kci                      -- a slot is chosen; KCI records are applied
  | firmware                 -- firmware runs
  | hold                     -- DEBUG_HOLD: halted before the firmware entry point
  | smb                      -- SMB mode or no image: no firmware
  deriving DecidableEq, Repr

structure Boot where
  phase : BootPh
  tried : List Nat           -- slots tried
  nextRec : Nat                  -- index of the next KCI record
  kciDone : Option Nat       -- device time at which the KCI completed
  arb : Nat                  -- the anti-rollback counter, raised by ARB_COMMIT
  resets : Nat               -- device resets so far
  halted : Bool              -- the cores are halted through the debug port
  coresDown : Bool           -- held in reset by a containment of P130 or by fail-safe
  chalAt : Option Nat        -- instant from which a new challenge is issued, after a failure
  chalN : Nat                -- challenges issued
  chalOk : Bool              -- a challenge has been loaded since the last verification
  waitEnd : Option Nat       -- a KCI WAIT record in progress: its deadline
  comWait : Option Nat       -- a KCI COMMIT record in progress: its page
  crc : Nat                  -- CRC-32C register over the KCI records applied
  deriving DecidableEq, Repr

/-- A read of a host through BAR0, some of whose words come from another member (R52): accessor, request, ingress port, and
the words, `none` while awaited. -/
structure HostRd where
  acc : Nat
  tlp : Tlp
  ing : Nat
  words : List (Option Word)
  deriving DecidableEq, Repr

structure Mgt where
  eid : Tbl Nat              -- path 0 SMBus, 1 PCIe VDM: MCTP endpoint ID
  trst : Bool                -- TRST_N low
  extest : Nat               -- boundary-scan instruction in force
  pads : Nat                 -- output levels of the driven pins among SBIO0–SBIO63
  drive : Nat                -- the pins whose output is driven
  padFree : Nat              -- the level of a pin whose SRC is none of R484's: bits drawn as free values
  padsHeld : Bool
  remote : List (Nat × Nat × Nat) -- remote reads in progress, oldest first: accessor, member, byte address (R52)
  host : List HostRd         -- BAR0 reads that wait for a member's answer
  deriving DecidableEq, Repr
/-! ### The Mirkel fabric link (R145–R167) -/

/-- A quantity of each credit class: posted, non-posted, completion. -/
structure Trio where
  p : Nat
  n : Nat
  c : Nat
  deriving DecidableEq, Repr

/-- A packet in the replay buffer, with what its loss needs: the local stable, ingress port and source, and whether its
charge belongs to the present accounting. -/
structure Sent2 where
  pk : Packet
  stable : Option Nat
  ingress : Nat
  src : Src
  charged : Bool
  deriving DecidableEq, Repr

/-- A fabric link. -/
structure Link where
  nextSeq : Nat
  expect : Nat
  replay : List Sent2        -- unacknowledged packets, oldest first
  resend : List (Nat × Option Nat) -- packets being replayed: the device time at which the last frame ends, the stable
  gap : Bool                 -- a NAK has been sent for a gap that is not filled
  sinceAck : Nat             -- packets accepted since the last ACK
  firstAt : Nat              -- device time + 1 of the first of them
  expiries : Nat             -- replay timer expiries since an ACK advanced
  timerAt : Nat              -- device time + 1 at which the replay timer started
  charged : Trio             -- units charged under the present accounting
  limit : Trio               -- limits the partner has given
  cred : Trio                -- LK_CRED_x in force for this accounting (receive side)
  freed : Trio               -- units freed since accounting started (receive side)
  old : Trio                 -- units held since before it started, which it does not count
  unsent : Nat               -- units freed since the last CREDIT
  freedAt : Nat              -- device time + 1 of the first of them
  creditAt : Nat             -- device time of the last CREDIT
  census : Nat               -- number of the last CENSUS_MARK
  marked : Trio              -- charged totals it carried
  leakSaid : Nat             -- classes for which CREDIT_LEAK has been raised
  rx : List Packet           -- accepted packets in the receive buffer, oldest first
  holdAt : Nat               -- device time at which HOLD was entered
  full : Bool                -- the retrain in progress was asked for by RETRAIN
  same : Bool                -- IDENT has shown the same partner in this hold
  park : Option (Nat × Bool) -- lane of our PARK_REQ and whether it is permanent
  join : Option Nat          -- lane of our JOIN_REQ
  joinAt : Nat
  swap : Option (Nat × Nat)  -- lane of the park (0, permanent 1) or join (2) agreed on, until the partner's END_MAP frame (R162)
  guest : Option Nat         -- lane parked, or being joined, for a procedure of the partner (R131)
  left : Nat                 -- slots of a packet that begins in one frame and goes on in the next (R146)
  mapGen : Nat
  lastTok : Nat              -- partner token, member and port of the last ACTIVE period, and whether there was one
  lastPartner : Option Nat
  deriving DecidableEq, Repr

/-- A bundle: pin table in force and as last written, packets sent on each path by bucket, release counts by bucket, and an
order reset in progress (0 none, 1 waits for acknowledgements, 2 waits for ORDER_RESET_ACK). -/
structure Bundle where
  pins : Tbl Nat
  pinsNew : Tbl Nat
  sentMain : Tbl Nat
  sentOff : Tbl Nat
  relMain : Tbl Nat
  relOff : Tbl Nat
  orPhase : Nat
  orGot : List Nat           -- ports on which ORDER_RESET has arrived
  deriving DecidableEq, Repr

/-- A control message that waits to be sent: its destination member, or its bundle where it goes to the neighbour; source
member, hops, epoch bit and body. -/
structure Ctl where
  dst : Nat
  via : Option Nat
  src : Nat
  hops : Nat
  epoch : Nat
  msg : List Nat
  deriving DecidableEq, Repr

structure Mkl where
  ctl : List Ctl             -- control messages to be sent, oldest first
  link : Tbl Link
  bundle : Tbl Bundle
  present : List Nat         -- states of the bundles at the last TOPO message
  deriving DecidableEq, Repr


/-! ### DMA channels (R333–R349) -/

/-- A read of a descriptor: its tag, the bytes it asks for, what has returned; state 0 outstanding, 1 returned, 2 failed. -/
structure DRead where
  tag : Nat
  off : Nat
  len : Nat
  got : List Byte
  ep : Bool
  st : Nat
  deriving DecidableEq, Repr

/-- A descriptor that the channel has fetched, with what a begun one has issued. -/
structure DDesc where
  idx : Nat
  w0 : Nat                   -- bytes 0–3
  w1 : Nat                   -- bytes 4–7
  src : Nat
  dst : Nat
  code : Nat                 -- the lowest non-zero code so far
  rdNext : Nat               -- bytes for which reads have been issued; 1 after the read of a FLUSH_READ
  wrNext : Nat               -- bytes for which writes have been issued
  wrBytes : Nat              -- of these, bytes whose write was not denied
  reads : List DRead
  deriving DecidableEq, Repr

/-- A tag of P128: its channel, requester ID, generation, bytes, whether it is a fetch, and device time of issue. -/
structure DTag where
  ch : Nat
  rid : Nat
  gen : Nat
  len : Nat
  fetch : Bool
  orphan : Bool              -- its completion is of no more use to the channel, without an advance
  since : Nat
  timedOut : Bool
  cto : Nat                  -- CTO in force at issue, in ns
  deriving DecidableEq, Repr

/-- A channel: descriptors fetched ahead of CH_HEAD, begun and unreported ones, the fetch in flight (tag, first index,
descriptors, bytes), and the marks of R347 that wait for START. -/
structure Chan where
  fetched : List DDesc
  live : List DDesc
  fetch : Option (Nat × Nat × Nat × List Byte)
  marks : List DDesc
  deriving DecidableEq, Repr

structure Dma where
  chan : Tbl Chan
  tags : Tbl DTag
  deriving DecidableEq, Repr

/-! ### CXL.mem requests, vCS decoders and internal decoders (R292–R311) -/

/-- Why a CXL.mem request is outstanding: a host's request, a back-invalidate snoop of a device towards a host (its port is
then the upstream port), a line of the write buffer, line k of a request entry of the bridge, or the write of an atomic. -/
inductive M2SWhy where
  | host
  | bi
  | line (line : Nat)
  | read (entry k : Nat)
  | atomWr (entry : Nat)
  deriving DecidableEq, Repr

/-- A CXL.mem request from its acceptance to its response. -/
structure M2S where
  id : Nat
  tag : Nat
  port : Nat
  ld : Option Nat
  write : Bool
  why : M2SWhy
  stable : Option Nat
  ingress : Nat              -- the host's port; 129 for the bridge
  addr : Nat
  since : Nat
  cto : Nat                  -- CTO in force at issue, in ns
  deriving DecidableEq, Repr

structure Cxp where
  m2s : List M2S             -- in the order accepted
  nextId : Nat
  lost : List Nat            -- requests removed without transmission, not yet answered
  prog : Tbl Nat             -- IDEC: device time + 1 at which programming began
  progSent : List Nat        -- IDECs whose decoder has been written and whose answer is awaited
  fmBusy : Option (Nat × Nat) -- FM API command in progress: path and opcode
  msgLimit : Nat             -- Response Message Limit, as its exponent
  tunnel : List (Nat × Nat)  -- forwarded commands in progress: port, opcode
  deriving DecidableEq, Repr

/-! ### The memory bridge (R312–R332) -/

/-- A posted write accepted by the bridge: its number, window, owner, mode and original item without data; its address, and
the lines still held. -/
structure BWrite where
  id : Nat
  win : Nat
  owner : Nat
  strict : Bool
  item : Item
  base : Nat                 -- internal address of the first byte of its range
  lines : Nat
  chan : Option Nat          -- the channel that it belongs to
  deriving DecidableEq, Repr

/-- The part of a line that one write supplies: bytes by their place in the line. -/
structure BPart where
  wid : Nat
  bytes : List (Nat × Byte)
  lo : Nat                   -- the range of the write within the line, byte enables aside
  hi : Nat
  ep : Bool
  deriving DecidableEq, Repr

/-- A line of the write buffer. -/
structure BLine where
  id : Nat
  addr : Nat                 -- internal line number
  win : Nat
  strict : Bool
  parts : List BPart
  issued : Bool
  shared : Bool              -- it counts against the shared lines
  bad : Bool                 -- uncorrectable ECC error
  deriving DecidableEq, Repr

/-- The kinds of request entries. -/
inductive BKind where
  | read | flush | atomic | lock
  deriving DecidableEq, Repr

/-- A request entry: where it stands (0 waits, 1 reads outstanding, 2 its write outstanding), the lines it has read. -/
structure BReq where
  id : Nat
  kind : BKind
  win : Nat
  item : Item
  addr : Nat                 -- internal address
  len : Nat
  st : Nat
  got : List (Nat × List Byte × Bool)  -- line, data, poison
  failed : Bool
  purged : Bool              -- its domain has advanced: it completes to no one
  sem : Option Nat           -- semaphore held by an atomic
  deriving DecidableEq, Repr

/-- A granule semaphore: held by an atomic (its entry) or a stable's locked sequence. -/
structure BSem where
  entry : Option Nat
  stable : Nat
  lo : Nat
  size : Nat
  since : Nat                -- number of the request that acquired it
  deriving DecidableEq, Repr

/-- A locked sequence of a stable's upstream port. -/
structure BSeq where
  port : Nat
  start : Nat
  expired : Bool
  deriving DecidableEq, Repr

/-- An entry of the posted-error log. -/
structure PelEnt where
  wid : Nat
  win : Nat
  stable : Nat
  cause : Nat
  strict : Bool
  rid : Nat
  bytes : Nat
  addr : Nat
  pasid : Option Nat
  time : Nat
  pos : Word
  deriving DecidableEq, Repr

structure Brg where
  next : Nat                 -- number of the next accepted request
  writes : List BWrite
  lines : List BLine         -- in acceptance order
  nextLine : Nat
  reqs : List BReq           -- in acceptance order
  sems : Tbl BSem
  seqs : Tbl BSeq            -- stable
  pel : Log PelEnt
  flushAt : Tbl Nat          -- window: number + 1 below which FLUSH waits
  failedW : List Nat         -- writes that have failed and still hold lines
  deriving DecidableEq, Repr

/-! ### What the block sends -/

/-- Pins that the block drives (R428, R485, R504, R494). -/
inductive Pin where
  | faultN | thermtripN | slotReset (port : Nat) | regEnable (k : Nat) | sideband (p : Nat) | sidebandOff (p : Nat) | smbAlert
  deriving DecidableEq, Repr

/-- An emission: something the block sends to a link partner, a host, a management path, a supply or a pin. -/
inductive Out where
  | link (port : Nat) (t : Tlp)                    -- a TLP transmitted on a PCIe or CXL link
  | nullified (port : Nat) (t : Tlp)               -- a TLP ended as nullified
  | packet (port slot : Nat) (p : Packet)          -- a Mirkel packet: its header slot as R147 lays it out, and its body
  | symbol (port code : Nat) (args : List Nat)     -- a Mirkel control symbol or message
  | engine (port action : Nat) (args : List Nat)   -- an action of a port engine towards its link partner
  | m2s (port code : Nat) (args : List Nat)        -- a CXL.mem request or message
  | reply (acc : Nat) (data : List Word)           -- the answer to a read
  | msg (path code : Nat) (args : List Nat)        -- a management message or answer
  | bus (path code : Nat) (args : List Nat)        -- a write on an expander, supply or flash bus, or a line on the UART
  | pin (p : Pin) (level : Bool)
  | core (code : Nat)                              -- an action on the Enruez cores
  deriving DecidableEq, Repr

/-! ### The machine -/

/-- Everything of the block but the command queue and the page locks. -/
structure Dev where
  regs : Tbl Word            -- the register file, keyed by regKey
  aregs : Tbl Word           -- the accessors' own registers, keyed by aKey
  free : Nat                 -- the model's counter of free values (log entry 4)
  now : Nat                  -- device time in ns (R7)
  out : List Out             -- emissions, newest first
  staging : Staging
  yard : Yard
  ev : Ev
  tally : Tally
  cyc : Cyc
  ports : Ports
  sched : Sched
  path : Path
  logs : Logs
  stall : Stall
  slice : Slice
  saf : Saf
  fn : Fn
  pwr : Pwr
  boot : Boot
  mgt : Mgt
  mkl : Mkl
  dma : Dma
  cxp : Cxp
  brg : Brg
  deriving DecidableEq, Repr

/-- A cycle domain after reset: OFF. -/
def CycDom.reset : CycDom :=
  ⟨.off, false, false, 0, 0, 0, false, 0, 0, none, false, false, 0, [], 0, 0, none⟩

/-- The device at the end of device reset (log entry 1). -/
def Dev.reset : Dev where
  regs := []
  aregs := []
  free := 0
  now := 0
  out := []
  staging := ⟨[], [], [], 0, false, [], [], [], 0⟩
  yard := ⟨.idle, 0, 0, [], [], [], [], [], false, [], [], [], 0, [], [], [], [], [], [], 0, [], [], [], 0, none⟩
  ev := ⟨[], [], [], [], [], ⟨[], false⟩, ⟨[], false⟩, [], [], false, 0, false, 0⟩
  tally := ⟨[], [], [], [], [], 0, []⟩
  cyc := ⟨List.replicate 8 CycDom.reset, [], 0⟩
  ports := ⟨[], [], [], [], []⟩
  sched := ⟨[], [], [], [], [], [], []⟩
  path := ⟨[], 0, 0, 0, [], [], [], [], false, [], [], [], [], []⟩
  logs := ⟨⟨[], false⟩, ⟨[], false⟩, ⟨[], false⟩, ⟨[], false⟩, ⟨[], false⟩⟩
  stall := ⟨[], [], [], [], [], [], [], 0, [], [], []⟩
  slice := ⟨[], [], [], [], [], [], [], [], []⟩
  saf := ⟨[], [], none, [], [], [], [], [], [], [], [], [], []⟩
  fn := ⟨[], [], [], [], [], [], [], []⟩
  pwr := ⟨.none, 0, none, none, 0, true, 0, 0, false, none, false, 0, 0, 0, false, false, 7, true, true, true, false, false, false⟩
  boot := ⟨.rom, [], 0, none, Config.arbFuse.toNat, 0, false, false, none, 0, false, none, none, 4294967295⟩
  mgt := ⟨[], false, 0, 0, 0, 0, false, [], []⟩
  mkl := ⟨[], [], [], []⟩
  dma := ⟨[], []⟩
  cxp := ⟨[], 0, [], [], [], none, 0, []⟩
  brg := ⟨0, [], [], 0, [], [], [], ⟨[], false⟩, [], []⟩

/-- Faults: none. The spec gives every command that reaches the block an effect; the type is closed and empty. -/
inductive Fault where
  deriving DecidableEq, Repr

/-- Refusals. -/
inductive Refusal where
  /-- A command without a meaning in this model, by its mnemonic. Raised by Dispatch alone. Safe: the model stops. -/
  | notModelled (mnemonic : String)
  deriving DecidableEq, Repr

/-- The state of the block: the commands that wait, first in first out; the pages whose PLOCK is set (R47); the rest. -/
structure State where
  pending : List Instr
  plock : List Nat
  dev : Dev
  deriving DecidableEq, Repr

/-- The machine right after reset. -/
def State.reset : State := ⟨[], [], Dev.reset⟩

end Sys2Proof.Machine
end

