-- ==== Sys2Proof/Machine/RegMap.lean ====
section
/-! DEFINITION. The register map: every register the register tables of spec/ name, with its page, offset, access code
(R38), implemented bits, reset value and whether each accessor keeps its own copy; and the reset word of any address. -/

namespace Sys2Proof.Machine

/-- The access codes of R38. -/
inductive Access where
  | rw | ro | rof | rws | rwl | w1c | w1s | rc | wo
  deriving DecidableEq, Repr

/-- One row of a register table: `count` words from `off` in steps of `stride`; `mask` has the implemented bits,
`wmask` the writable ones; `perAcc` when every accessor keeps its own copy (R32, R81). -/
structure RegDesc where
  off : Nat
  stride : Nat
  count : Nat
  acc : Access
  mask : Nat
  wmask : Nat
  reset : Nat
  perAcc : Bool
  deriving DecidableEq, Repr

/-! ### Named registers -/

namespace R

/-! Page DEV. -/
def DEV_DEV_PART : Reg := ⟨0x0, 0x100⟩
def DEV_DEV_SERIAL_LO : Reg := ⟨0x0, 0x104⟩
def DEV_DEV_SERIAL_HI : Reg := ⟨0x0, 0x108⟩
def DEV_DEV_TOKEN : Reg := ⟨0x0, 0x10c⟩
def DEV_YARD_CFG : Reg := ⟨0x0, 0x110⟩
def DEV_YARD_STATUS : Reg := ⟨0x0, 0x114⟩
def DEV_MCTP_NOTIFY : Reg := ⟨0x0, 0x118⟩
def DEV_MCTP_CNT_ERR : Reg := ⟨0x0, 0x11c⟩
def DEV_YARD_SUB : Reg := ⟨0x0, 0x120⟩
/-! Page EVT. -/
def EVT_CAUSE_W (k : Nat) : Reg := ⟨0x11, 0x100 + 4 * k⟩
def EVT_MASK_W (k : Nat) : Reg := ⟨0x11, 0x200 + 4 * k⟩
def EVT_FORCE_W (k : Nat) : Reg := ⟨0x11, 0x300 + 4 * k⟩
def EVT_EVT_COAL : Reg := ⟨0x11, 0x400⟩
def EVT_EVC_IDX : Reg := ⟨0x11, 0x404⟩
def EVT_EVC_DATA : Reg := ⟨0x11, 0x408⟩
def EVT_FAULT_STATUS : Reg := ⟨0x11, 0x40c⟩
def EVT_FMQ_STATUS : Reg := ⟨0x11, 0x500⟩
def EVT_FMQ_W (k : Nat) : Reg := ⟨0x11, 0x504 + 4 * k⟩
def EVT_FMQ_POP : Reg := ⟨0x11, 0x514⟩
def EVT_ENQ_STATUS : Reg := ⟨0x11, 0x520⟩
def EVT_ENQ_W (k : Nat) : Reg := ⟨0x11, 0x524 + 4 * k⟩
def EVT_ENQ_POP : Reg := ⟨0x11, 0x534⟩
def EVT_SVEC (k : Nat) : Reg := ⟨0x11, 0x600 + 4 * k⟩
/-! Page TAL. -/
def TAL_TAL_USER_EN0 : Reg := ⟨0x12, 0x100⟩
def TAL_TAL_USER_EN1 : Reg := ⟨0x12, 0x104⟩
def TAL_SLOT_LO (k : Nat) : Reg := ⟨0x12, 0x200 + 8 * k⟩
def TAL_SLOT_HI (k : Nat) : Reg := ⟨0x12, 0x204 + 8 * k⟩
def TAL_SLOT_SNAP_LO (k : Nat) : Reg := ⟨0x12, 0x280 + 8 * k⟩
def TAL_SLOT_SNAP_HI (k : Nat) : Reg := ⟨0x12, 0x284 + 8 * k⟩
def TAL_SLOT_SNAP_TAG : Reg := ⟨0x12, 0x2d0⟩
def TAL_SLOT_SNAP_T_LO : Reg := ⟨0x12, 0x2d4⟩
def TAL_SLOT_SNAP_T_HI : Reg := ⟨0x12, 0x2d8⟩
def TAL_SLOT_SNAP_POS : Reg := ⟨0x12, 0x2dc⟩
def TAL_TS_OWN : Reg := ⟨0x12, 0x300⟩
def TAL_TS_UNIT : Reg := ⟨0x12, 0x304⟩
def TAL_TS_SEL : Reg := ⟨0x12, 0x308⟩
def TAL_TS_LO : Reg := ⟨0x12, 0x30c⟩
def TAL_TS_HI : Reg := ⟨0x12, 0x310⟩
def TAL_TS_SNAP_LO : Reg := ⟨0x12, 0x314⟩
def TAL_TS_SNAP_HI : Reg := ⟨0x12, 0x318⟩
def TAL_TS_SNAP_T_LO : Reg := ⟨0x12, 0x31c⟩
def TAL_TS_SNAP_T_HI : Reg := ⟨0x12, 0x320⟩
def TAL_TS_SNAP_POS : Reg := ⟨0x12, 0x324⟩
def TAL_TS_SNAP_TAG : Reg := ⟨0x12, 0x328⟩
/-! Page PWR. -/
def PWR_PL_CTRL : Reg := ⟨0x13, 0x100⟩
def PWR_PL_STATUS : Reg := ⟨0x13, 0x104⟩
def PWR_PL_CFG : Reg := ⟨0x13, 0x108⟩
def PWR_SLEEP_CTRL : Reg := ⟨0x13, 0x10c⟩
def PWR_SLEEP_CFG : Reg := ⟨0x13, 0x110⟩
def PWR_SLEEP_STATUS : Reg := ⟨0x13, 0x114⟩
def PWR_WAKE_TIME_LO : Reg := ⟨0x13, 0x118⟩
def PWR_WAKE_TIME_HI : Reg := ⟨0x13, 0x11c⟩
def PWR_SLEEP_T_LO : Reg := ⟨0x13, 0x120⟩
def PWR_SLEEP_T_HI : Reg := ⟨0x13, 0x124⟩
def PWR_WAKE_T_LO : Reg := ⟨0x13, 0x128⟩
def PWR_WAKE_T_HI : Reg := ⟨0x13, 0x12c⟩
def PWR_DRP_CFG : Reg := ⟨0x13, 0x130⟩
def PWR_DRP_STATUS : Reg := ⟨0x13, 0x134⟩
def PWR_CNT_STRETCH_NS : Reg := ⟨0x13, 0x138⟩
def PWR_FACT_VPL (k : Nat) : Reg := ⟨0x13, 0x140 + 16 * k⟩
def PWR_USER_VPL (k : Nat) : Reg := ⟨0x13, 0x144 + 16 * k⟩
def PWR_EFF_VPL (k : Nat) : Reg := ⟨0x13, 0x148 + 16 * k⟩
def PWR_LIM_VPL (k : Nat) : Reg := ⟨0x13, 0x14c + 16 * k⟩
def PWR_AVS_TARGET : Reg := ⟨0x13, 0x180⟩
def PWR_STB_HINT : Reg := ⟨0x13, 0x200⟩
def PWR_STB_HINT_CNT : Reg := ⟨0x13, 0x204⟩
/-! Page BOOT. -/
def BOOT_BOOT_STRAP : Reg := ⟨0x14, 0x100⟩
def BOOT_BOOT_STATUS : Reg := ⟨0x14, 0x104⟩
def BOOT_BOOT_ARB : Reg := ⟨0x14, 0x108⟩
def BOOT_BOOT_CTRL : Reg := ⟨0x14, 0x10c⟩
def BOOT_FLASH_ADDR : Reg := ⟨0x14, 0x110⟩
def BOOT_FLASH_CMD : Reg := ⟨0x14, 0x114⟩
def BOOT_FLASH_DATA (k : Nat) : Reg := ⟨0x14, 0x118 + 4 * k⟩
/-! Page DBG. -/
def DBG_DBG_STATUS : Reg := ⟨0x15, 0x100⟩
def DBG_DBG_CTRL : Reg := ⟨0x15, 0x104⟩
def DBG_DBG_LEVEL : Reg := ⟨0x15, 0x108⟩
def DBG_DBG_CHAL (k : Nat) : Reg := ⟨0x15, 0x110 + 4 * k⟩
def DBG_DBG_RESP (k : Nat) : Reg := ⟨0x15, 0x140 + 4 * k⟩
def DBG_UART_CFG : Reg := ⟨0x15, 0x1a0⟩
/-! Page SBD. -/
def SBD_SB_ROUTE : Reg := ⟨0x16, 0x100⟩
def SBD_SB_OWN : Reg := ⟨0x16, 0x104⟩
def SBD_SB_CLKREQ : Reg := ⟨0x16, 0x108⟩
def SBD_SB_IN0 : Reg := ⟨0x16, 0x180⟩
def SBD_SB_IN1 : Reg := ⟨0x16, 0x184⟩
def SBD_PRST_FORCE (k : Nat) : Reg := ⟨0x16, 0x190 + 4 * k⟩
/-! Page CYC. -/
def CYC_DOM_CTRL : Reg := ⟨0x20, 0x100⟩
def CYC_NOM_PERIOD_LO : Reg := ⟨0x20, 0x104⟩
def CYC_NOM_PERIOD_HI : Reg := ⟨0x20, 0x108⟩
def CYC_TOL : Reg := ⟨0x20, 0x10c⟩
def CYC_HOLD_CYCLES : Reg := ⟨0x20, 0x110⟩
def CYC_MARK_DELAY : Reg := ⟨0x20, 0x114⟩
def CYC_PTM_BASE_LO : Reg := ⟨0x20, 0x118⟩
def CYC_PTM_BASE_HI : Reg := ⟨0x20, 0x11c⟩
def CYC_SCHED_BASE : Reg := ⟨0x20, 0x120⟩
def CYC_SCHED_COUNT : Reg := ⟨0x20, 0x124⟩
def CYC_DOM_STATE : Reg := ⟨0x20, 0x128⟩
def CYC_EST_PERIOD_LO : Reg := ⟨0x20, 0x12c⟩
def CYC_EST_PERIOD_HI : Reg := ⟨0x20, 0x130⟩
def CYC_POS_PHASE : Reg := ⟨0x20, 0x134⟩
def CYC_POS_CYCLE : Reg := ⟨0x20, 0x138⟩
def CYC_POS_TIME_LO : Reg := ⟨0x20, 0x13c⟩
def CYC_POS_TIME_HI : Reg := ⟨0x20, 0x140⟩
def CYC_LAST_MARK_LO : Reg := ⟨0x20, 0x144⟩
def CYC_LAST_MARK_HI : Reg := ⟨0x20, 0x148⟩
def CYC_CNT_EARLY : Reg := ⟨0x20, 0x14c⟩
def CYC_CNT_LATE : Reg := ⟨0x20, 0x150⟩
def CYC_CNT_DISCARD : Reg := ⟨0x20, 0x154⟩
def CYC_CNT_SKIP : Reg := ⟨0x20, 0x158⟩
def CYC_SCHED_ERR : Reg := ⟨0x20, 0x15c⟩
def CYC_ENT_IDX : Reg := ⟨0x20, 0x180⟩
def CYC_ENT_W (k : Nat) : Reg := ⟨0x20, 0x184 + 4 * k⟩
def CYC_ENT_STATUS : Reg := ⟨0x20, 0x194⟩
def CYC_BIND (k : Nat) : Reg := ⟨0x20, 0x1c0 + 4 * k⟩
def CYC_PIN_LEVEL : Reg := ⟨0x20, 0x1e0⟩
/-! Page CAL. -/
def CAL_CAL_POL : Reg := ⟨0x40, 0x100⟩
def CAL_CAL_ROT : Reg := ⟨0x40, 0x104⟩
def CAL_CAL_PSTATUS : Reg := ⟨0x40, 0x108⟩
def CAL_CAL_WIN_REM : Reg := ⟨0x40, 0x10c⟩
def CAL_CAL_CNT_DONE : Reg := ⟨0x40, 0x110⟩
def CAL_CAL_CNT_FAIL : Reg := ⟨0x40, 0x114⟩
def CAL_CAL_CNT_ABORT : Reg := ⟨0x40, 0x118⟩
def CAL_CAL_LOST : Reg := ⟨0x40, 0x11c⟩
def CAL_CAL_REQ : Reg := ⟨0x40, 0x120⟩
def CAL_CAL_LAST : Reg := ⟨0x40, 0x124⟩
def CAL_CAL_CTRL : Reg := ⟨0x40, 0x200⟩
def CAL_CL_TEMP (k : Nat) : Reg := ⟨0x40, 0x240 + 4 * k⟩
def CAL_DRP_CNT (k : Nat) : Reg := ⟨0x40, 0x280 + 8 * k⟩
def CAL_DRP_ALM_CNT (k : Nat) : Reg := ⟨0x40, 0x284 + 8 * k⟩
def CAL_FACT_DRP_TH (k : Nat) : Reg := ⟨0x40, 0x400 + 32 * k⟩
def CAL_USER_DRP_TH (k : Nat) : Reg := ⟨0x40, 0x404 + 32 * k⟩
def CAL_EFF_DRP_TH (k : Nat) : Reg := ⟨0x40, 0x408 + 32 * k⟩
def CAL_LIM_DRP_TH (k : Nat) : Reg := ⟨0x40, 0x40c + 32 * k⟩
def CAL_FACT_DRP_ALM (k : Nat) : Reg := ⟨0x40, 0x410 + 32 * k⟩
def CAL_USER_DRP_ALM (k : Nat) : Reg := ⟨0x40, 0x414 + 32 * k⟩
def CAL_EFF_DRP_ALM (k : Nat) : Reg := ⟨0x40, 0x418 + 32 * k⟩
def CAL_LIM_DRP_ALM (k : Nat) : Reg := ⟨0x40, 0x41c + 32 * k⟩
/-! Page LAN. -/
def LAN_CL_LAYOUT (c : Nat) : Reg := ⟨(0x100 + c), 0x100⟩
def LAN_CL_PORTS (c : Nat) : Reg := ⟨(0x100 + c), 0x104⟩
def LAN_CL_REFCLK (c : Nat) : Reg := ⟨(0x100 + c), 0x108⟩
def LAN_LANE_STATUS (c : Nat) : Reg := ⟨(0x100 + c), 0x200⟩
def LAN_LANE_FEC_CE (c : Nat) : Reg := ⟨(0x100 + c), 0x204⟩
def LAN_LANE_FEC_UE (c : Nat) : Reg := ⟨(0x100 + c), 0x208⟩
def LAN_LANE_TEST (c : Nat) : Reg := ⟨(0x100 + c), 0x20c⟩
def LAN_LANE_TEST_ERR (c : Nat) : Reg := ⟨(0x100 + c), 0x210⟩
def LAN_FACT (c q : Nat) : Reg := ⟨0x100 + c, 0x400 + 16 * q⟩
def LAN_USER (c q : Nat) : Reg := ⟨0x100 + c, 0x404 + 16 * q⟩
def LAN_EFF (c q : Nat) : Reg := ⟨0x100 + c, 0x408 + 16 * q⟩
def LAN_LIM (c q : Nat) : Reg := ⟨0x100 + c, 0x40c + 16 * q⟩
def LAN_LCAL_STATUS (c : Nat) : Reg := ⟨(0x100 + c), 0x480⟩
def LAN_LCAL_TEMP (c : Nat) : Reg := ⟨(0x100 + c), 0x484⟩
def LAN_LCAL_TIME_LO (c : Nat) : Reg := ⟨(0x100 + c), 0x488⟩
def LAN_LCAL_TIME_HI (c : Nat) : Reg := ⟨(0x100 + c), 0x48c⟩
def LAN_LCAL_CNT (c : Nat) : Reg := ⟨(0x100 + c), 0x490⟩
def LAN_ADAPT (c : Nat) : Reg := ⟨(0x100 + c), 0x4a0⟩
def LAN_EYE (c : Nat) : Reg := ⟨(0x100 + c), 0x4a4⟩
/-! Page PRT0. -/
def PRT0_PORT_CFG : Reg := ⟨0x200, 0x100⟩
def PRT0_LINK_WIDTH : Reg := ⟨0x200, 0x104⟩
def PRT0_LINK_LANES : Reg := ⟨0x200, 0x108⟩
def PRT0_LINK_CTRL : Reg := ⟨0x200, 0x10c⟩
def PRT0_LINK_STATUS : Reg := ⟨0x200, 0x110⟩
def PRT0_TRAIN_ERR : Reg := ⟨0x200, 0x114⟩
def PRT0_LINK_DOWN_CNT : Reg := ⟨0x200, 0x118⟩
def PRT0_UP_TIME_LO : Reg := ⟨0x200, 0x11c⟩
def PRT0_UP_TIME_HI : Reg := ⟨0x200, 0x120⟩
/-! Page PRT1. -/
def PRT1_SLOT_CFG : Reg := ⟨0x201, 0x100⟩
def PRT1_SLOT_STATE : Reg := ⟨0x201, 0x104⟩
def PRT1_HP_EXP (k : Nat) : Reg := ⟨0x201, 0x180 + 4 * k⟩
def PRT1_HP_POLL : Reg := ⟨0x201, 0x1a0⟩
def PRT1_HP_ERR : Reg := ⟨0x201, 0x1a4⟩
/-! Page PRT2. -/
def PRT2_ERR_CFG : Reg := ⟨0x202, 0x100⟩
def PRT2_ERR_STATUS : Reg := ⟨0x202, 0x104⟩
def PRT2_ERR_CTRL : Reg := ⟨0x202, 0x108⟩
def PRT2_CNT_COR : Reg := ⟨0x202, 0x10c⟩
def PRT2_CNT_UNCOR : Reg := ⟨0x202, 0x110⟩
def PRT2_CNT_POISON : Reg := ⟨0x202, 0x114⟩
def PRT2_CNT_NULL : Reg := ⟨0x202, 0x118⟩
def PRT2_CNT_UNEXP : Reg := ⟨0x202, 0x11c⟩
def PRT2_CNT_PLOSS : Reg := ⟨0x202, 0x120⟩
def PRT2_PPL_IDX : Reg := ⟨0x202, 0x200⟩
def PRT2_PPL_W (k : Nat) : Reg := ⟨0x202, 0x204 + 4 * k⟩
def PRT2_PPL_STATUS : Reg := ⟨0x202, 0x224⟩
def PRT2_PPL_CTRL : Reg := ⟨0x202, 0x228⟩
def PRT2_PPL_CNT : Reg := ⟨0x202, 0x22c⟩
/-! Page PRT3. -/
def PRT3_IDE_POL : Reg := ⟨0x203, 0x100⟩
def PRT3_IDE_STATUS : Reg := ⟨0x203, 0x104⟩
def PRT3_IDE_CNT_FAIL : Reg := ⟨0x203, 0x108⟩
def PRT3_DOE_IDX : Reg := ⟨0x203, 0x200⟩
def PRT3_DOE_CNT_OBJ : Reg := ⟨0x203, 0x204⟩
def PRT3_DOE_CNT_ABORT : Reg := ⟨0x203, 0x208⟩
def PRT3_SPDM_SESS : Reg := ⟨0x203, 0x20c⟩
/-! Page PRT4. -/
def PRT4_LED_CFG : Reg := ⟨0x204, 0x100⟩
def PRT4_LED_USE : Reg := ⟨0x204, 0x104⟩
def PRT4_LED_CNT_SYNTH : Reg := ⟨0x204, 0x108⟩
def PRT4_LED_TOTAL : Reg := ⟨0x204, 0x180⟩
def PRT4_LED_FREE : Reg := ⟨0x204, 0x184⟩
def PRT4_LED_TO : Reg := ⟨0x204, 0x188⟩
def PRT4_LED_CTX_MAX : Reg := ⟨0x204, 0x18c⟩
def PRT4_LED_CNT_STALE : Reg := ⟨0x204, 0x190⟩
def PRT4_LED_CNT_TIMEOUT : Reg := ⟨0x204, 0x194⟩
def PRT4_LED_CNT_WAIT : Reg := ⟨0x204, 0x198⟩
/-! Page PRT5. -/
def PRT5_SHR_CFG : Reg := ⟨0x205, 0x100⟩
def PRT5_SHR_CNT_CFGW : Reg := ⟨0x205, 0x104⟩
def PRT5_FN_IDX : Reg := ⟨0x205, 0x180⟩
def PRT5_FN_CFG : Reg := ⟨0x205, 0x184⟩
def PRT5_FN_CTRL : Reg := ⟨0x205, 0x188⟩
def PRT5_FN_STATUS : Reg := ⟨0x205, 0x18c⟩
def PRT5_VSLOT_IDX : Reg := ⟨0x205, 0x190⟩
def PRT5_VSLOT_DATA : Reg := ⟨0x205, 0x194⟩
def PRT5_CNT_RRS : Reg := ⟨0x205, 0x198⟩
/-! Page PRT6. -/
def PRT6_PD_CTRL : Reg := ⟨0x206, 0x100⟩
def PRT6_PD_STATUS : Reg := ⟨0x206, 0x104⟩
def PRT6_PD_IDX : Reg := ⟨0x206, 0x108⟩
def PRT6_PD_W (k : Nat) : Reg := ⟨0x206, 0x10c + 4 * k⟩
def PRT6_PD_CNT_P : Reg := ⟨0x206, 0x130⟩
def PRT6_PD_CNT_NP : Reg := ⟨0x206, 0x134⟩
def PRT6_PD_CNT_CPL : Reg := ⟨0x206, 0x138⟩
def PRT6_PD_CNT_UNCONF : Reg := ⟨0x206, 0x13c⟩
def PRT6_PD_CNT_FENCE : Reg := ⟨0x206, 0x140⟩
def PRT6_FLUSH_STATE : Reg := ⟨0x206, 0x144⟩
/-! Page MKL. -/
def MKL_BND_CFG : Reg := ⟨0x300, 0x100⟩
def MKL_BND_STATUS : Reg := ⟨0x300, 0x104⟩
def MKL_BND_PIN_IDX : Reg := ⟨0x300, 0x108⟩
def MKL_BND_PIN_DATA : Reg := ⟨0x300, 0x10c⟩
def MKL_BND_CTRL : Reg := ⟨0x300, 0x110⟩
def MKL_BND_LAST_EV : Reg := ⟨0x300, 0x114⟩
def MKL_BND_CNT_OR : Reg := ⟨0x300, 0x118⟩
def MKL_LK_CFG : Reg := ⟨0x300, 0x200⟩
def MKL_LK_TIMING : Reg := ⟨0x300, 0x204⟩
def MKL_LK_CRED_P : Reg := ⟨0x300, 0x208⟩
def MKL_LK_CRED_NP : Reg := ⟨0x300, 0x20c⟩
def MKL_LK_CRED_CPL : Reg := ⟨0x300, 0x210⟩
def MKL_LK_RXBUF : Reg := ⟨0x300, 0x214⟩
def MKL_LK_STATE : Reg := ⟨0x300, 0x218⟩
def MKL_LK_PARKED : Reg := ⟨0x300, 0x21c⟩
def MKL_LK_PARTNER : Reg := ⟨0x300, 0x220⟩
def MKL_LK_PTOKEN : Reg := ⟨0x300, 0x224⟩
def MKL_LK_SEQ : Reg := ⟨0x300, 0x228⟩
def MKL_LK_UNACK : Reg := ⟨0x300, 0x22c⟩
def MKL_LK_CNT_REPLAY : Reg := ⟨0x300, 0x230⟩
def MKL_LK_CNT_TIMEOUT : Reg := ⟨0x300, 0x234⟩
def MKL_LK_CNT_DUP : Reg := ⟨0x300, 0x238⟩
def MKL_LK_CNT_NAK : Reg := ⟨0x300, 0x23c⟩
def MKL_LK_LEAK_P : Reg := ⟨0x300, 0x240⟩
def MKL_LK_LEAK_NP : Reg := ⟨0x300, 0x244⟩
def MKL_LK_LEAK_CPL : Reg := ⟨0x300, 0x248⟩
def MKL_LK_CNT_HOLD : Reg := ⟨0x300, 0x24c⟩
def MKL_LK_CNT_FLUSH_P : Reg := ⟨0x300, 0x250⟩
def MKL_LK_CNT_FLUSH_NP : Reg := ⟨0x300, 0x254⟩
def MKL_LK_CNT_FLUSH_CPL : Reg := ⟨0x300, 0x258⟩
def MKL_LK_HOLD_LAST : Reg := ⟨0x300, 0x25c⟩
def MKL_MKL_YARD : Reg := ⟨0x300, 0x300⟩
/-! Page SWC. -/
def SWC_SWC_CTRL : Reg := ⟨0x400, 0x100⟩
def SWC_MIR_RING_BASE : Reg := ⟨0x400, 0x104⟩
def SWC_MIR_RING_SIZE : Reg := ⟨0x400, 0x108⟩
def SWC_MIR_RING_PROD : Reg := ⟨0x400, 0x10c⟩
def SWC_MIR_RING_CONS : Reg := ⟨0x400, 0x110⟩
def SWC_PORT_SW_CFG : Reg := ⟨0x400, 0x200⟩
def SWC_MIR_ING : Reg := ⟨0x400, 0x204⟩
def SWC_MIR_EGR : Reg := ⟨0x400, 0x208⟩
def SWC_CNT_CT : Reg := ⟨0x400, 0x20c⟩
def SWC_CNT_SAF : Reg := ⟨0x400, 0x210⟩
def SWC_CT_UNDERRUN : Reg := ⟨0x400, 0x214⟩
def SWC_MIR_CNT_SAMP : Reg := ⟨0x400, 0x218⟩
def SWC_MIR_CNT_SKIP : Reg := ⟨0x400, 0x21c⟩
def SWC_MC_CFG : Reg := ⟨0x400, 0x300⟩
def SWC_MC_PORTS (k : Nat) : Reg := ⟨0x400, 0x304 + 4 * k⟩
def SWC_MC_CNT_TLP : Reg := ⟨0x400, 0x318⟩
def SWC_MC_CNT_PARTIAL : Reg := ⟨0x400, 0x31c⟩
def SWC_MC_LAST : Reg := ⟨0x400, 0x320⟩
def SWC_STABLE_SW_CFG : Reg := ⟨0x400, 0x400⟩
def SWC_STABLE_SW_STATUS : Reg := ⟨0x400, 0x404⟩
def SWC_CAPQ_BASE_LO : Reg := ⟨0x400, 0x408⟩
def SWC_CAPQ_BASE_HI : Reg := ⟨0x400, 0x40c⟩
def SWC_CAPQ_SIZE : Reg := ⟨0x400, 0x410⟩
def SWC_CAPQ_PROD : Reg := ⟨0x400, 0x414⟩
def SWC_CAPQ_CONS : Reg := ⟨0x400, 0x418⟩
/-! Page SHD. -/
def SHD_SHD_CFG : Reg := ⟨0x440, 0x100⟩
def SHD_POOL_SIZE : Reg := ⟨0x440, 0x104⟩
def SHD_POOL_FREE : Reg := ⟨0x440, 0x108⟩
def SHD_CELLS_USED : Reg := ⟨0x440, 0x10c⟩
def SHD_RSV_TOTAL : Reg := ⟨0x440, 0x110⟩
def SHD_MIR_USED : Reg := ⟨0x440, 0x114⟩
def SHD_FREE_MIN : Reg := ⟨0x440, 0x118⟩
def SHD_SHD_CTRL : Reg := ⟨0x440, 0x11c⟩
def SHD_SHD_LOW_TH : Reg := ⟨0x440, 0x120⟩
def SHD_LAST_WAIT : Reg := ⟨0x440, 0x124⟩
def SHD_POOL_CFG : Reg := ⟨0x440, 0x200⟩
def SHD_RSV_P : Reg := ⟨0x440, 0x204⟩
def SHD_RSV_NP : Reg := ⟨0x440, 0x208⟩
def SHD_RSV_CPL : Reg := ⟨0x440, 0x20c⟩
def SHD_USE_SH : Reg := ⟨0x440, 0x210⟩
def SHD_USE_RSV0 : Reg := ⟨0x440, 0x214⟩
def SHD_USE_RSV1 : Reg := ⟨0x440, 0x218⟩
def SHD_WAIT_STATUS : Reg := ⟨0x440, 0x21c⟩
def SHD_CNT_SH_REFUSE : Reg := ⟨0x440, 0x220⟩
def SHD_CNT_RSV_GRANT : Reg := ⟨0x440, 0x224⟩
def SHD_CNT_WAIT_NS : Reg := ⟨0x440, 0x228⟩
def SHD_STABLE_POOL : Reg := ⟨0x440, 0x300⟩
def SHD_STABLE_USE : Reg := ⟨0x440, 0x304⟩
def SHD_STABLE_PEAK : Reg := ⟨0x440, 0x308⟩
/-! Page RTE. -/
def RTE_RTE_CTRL : Reg := ⟨0x500, 0x100⟩
def RTE_WIN_IDX : Reg := ⟨0x500, 0x104⟩
def RTE_WIN_W (k : Nat) : Reg := ⟨0x500, 0x108 + 4 * k⟩
def RTE_WIN_COUNT : Reg := ⟨0x500, 0x118⟩
def RTE_XING_IDX : Reg := ⟨0x500, 0x120⟩
def RTE_XING_W (k : Nat) : Reg := ⟨0x500, 0x124 + 4 * k⟩
def RTE_ERR_IDX : Reg := ⟨0x500, 0x138⟩
def RTE_ERR_W (k : Nat) : Reg := ⟨0x500, 0x13c + 4 * k⟩
def RTE_ERR_STATUS : Reg := ⟨0x500, 0x154⟩
def RTE_ERR_CTRL : Reg := ⟨0x500, 0x158⟩
def RTE_YARD_CFG : Reg := ⟨0x500, 0x160⟩
def RTE_YC_STATUS : Reg := ⟨0x500, 0x164⟩
def RTE_YC_CNT : Reg := ⟨0x500, 0x168⟩
def RTE_STB_ROUTE : Reg := ⟨0x500, 0x200⟩
def RTE_STB_CNT_ERR : Reg := ⟨0x500, 0x204⟩
def RTE_STB_CNT_REDIR : Reg := ⟨0x500, 0x208⟩
def RTE_STB_CNT_XING : Reg := ⟨0x500, 0x20c⟩
def RTE_YROUTE : Reg := ⟨0x500, 0x300⟩
def RTE_YROUTE_STATUS : Reg := ⟨0x500, 0x304⟩
/-! Page ISO. -/
def ISO_ISO_CTRL : Reg := ⟨0x600, 0x100⟩
def ISO_RULE_IDX : Reg := ⟨0x600, 0x104⟩
def ISO_RULE_W (k : Nat) : Reg := ⟨0x600, 0x108 + 4 * k⟩
def ISO_RULE_COUNT : Reg := ⟨0x600, 0x118⟩
def ISO_PERM_IDX : Reg := ⟨0x600, 0x120⟩
def ISO_PERM_DATA : Reg := ⟨0x600, 0x124⟩
def ISO_FLT_IDX : Reg := ⟨0x600, 0x128⟩
def ISO_FLT_W (k : Nat) : Reg := ⟨0x600, 0x12c + 4 * k⟩
def ISO_FLT_STATUS : Reg := ⟨0x600, 0x144⟩
def ISO_FLT_CTRL : Reg := ⟨0x600, 0x148⟩
def ISO_FLT_TIME_HI : Reg := ⟨0x600, 0x14c⟩
def ISO_DRAIN_STATUS : Reg := ⟨0x600, 0x150⟩
def ISO_RECHECK_CNT : Reg := ⟨0x600, 0x154⟩
def ISO_REVOKE_CNT : Reg := ⟨0x600, 0x158⟩
def ISO_REG_DENY_CNT (k : Nat) : Reg := ⟨0x600, 0x160 + 4 * k⟩
def ISO_REG_DENY_LAST : Reg := ⟨0x600, 0x180⟩
def ISO_XPAGE_CNT : Reg := ⟨0x600, 0x184⟩
def ISO_STB_CFG : Reg := ⟨0x600, 0x200⟩
def ISO_STB_UP : Reg := ⟨0x600, 0x204⟩
def ISO_STB_OWN (k : Nat) : Reg := ⟨0x600, 0x208 + 4 * k⟩
def ISO_STB_SHR (k : Nat) : Reg := ⟨0x600, 0x21c + 4 * k⟩
def ISO_STB_CNT_FAULT : Reg := ⟨0x600, 0x230⟩
def ISO_DEF_W0 (k : Nat) : Reg := ⟨0x600, 0x240 + 16 * k⟩
def ISO_DEF_W1 (k : Nat) : Reg := ⟨0x600, 0x244 + 16 * k⟩
def ISO_DEF_W2 (k : Nat) : Reg := ⟨0x600, 0x248 + 16 * k⟩
def ISO_DEF_W3 (k : Nat) : Reg := ⟨0x600, 0x24c + 16 * k⟩
def ISO_PORT_OWN : Reg := ⟨0x600, 0x300⟩
/-! Page STL. -/
def STL_LOFT_CFG : Reg := ⟨0x700, 0x100⟩
def STL_LOFT_BASE_LO : Reg := ⟨0x700, 0x104⟩
def STL_LOFT_BASE_HI : Reg := ⟨0x700, 0x108⟩
def STL_LOFT_STATUS : Reg := ⟨0x700, 0x10c⟩
def STL_LOFT_CTRL : Reg := ⟨0x700, 0x110⟩
def STL_LOFT_USED : Reg := ⟨0x700, 0x114⟩
def STL_STALL_USED : Reg := ⟨0x700, 0x118⟩
def STL_STALL_PINNED : Reg := ⟨0x700, 0x11c⟩
def STL_CNT_MISS : Reg := ⟨0x700, 0x120⟩
def STL_CNT_EVICT : Reg := ⟨0x700, 0x124⟩
def STL_CNT_CREATE : Reg := ⟨0x700, 0x128⟩
def STL_CNT_REFUSE : Reg := ⟨0x700, 0x12c⟩
def STL_PIN_IDX : Reg := ⟨0x700, 0x130⟩
def STL_PIN_W0 : Reg := ⟨0x700, 0x134⟩
def STL_PIN_W1 : Reg := ⟨0x700, 0x138⟩
def STL_CTX_KEY_LO : Reg := ⟨0x700, 0x140⟩
def STL_CTX_KEY_HI : Reg := ⟨0x700, 0x144⟩
def STL_CTX_OP : Reg := ⟨0x700, 0x148⟩
def STL_CTX_RESULT : Reg := ⟨0x700, 0x14c⟩
def STL_RF_IDX : Reg := ⟨0x700, 0x150⟩
def STL_RF_W (k : Nat) : Reg := ⟨0x700, 0x154 + 4 * k⟩
def STL_RF_STATUS : Reg := ⟨0x700, 0x16c⟩
def STL_RF_CTRL : Reg := ⟨0x700, 0x170⟩
def STL_RF_TIME_HI : Reg := ⟨0x700, 0x174⟩
def STL_STL_PORT_CFG : Reg := ⟨0x700, 0x200⟩
def STL_MQ_USE : Reg := ⟨0x700, 0x204⟩
def STL_CNT_PARK : Reg := ⟨0x700, 0x208⟩
def STL_PORT_GEN : Reg := ⟨0x700, 0x20c⟩
def STL_PORT_GEN_CTRL : Reg := ⟨0x700, 0x210⟩
/-! Page SLC. -/
def SLC_TRAP_CFG : Reg := ⟨0x780, 0x100⟩
def SLC_TRAP_STATUS : Reg := ⟨0x780, 0x104⟩
def SLC_TRAP_W (k : Nat) : Reg := ⟨0x780, 0x108 + 4 * k⟩
def SLC_TRAP_POP : Reg := ⟨0x780, 0x118⟩
def SLC_TRAP_CPL_ID : Reg := ⟨0x780, 0x11c⟩
def SLC_TRAP_CPL_STS : Reg := ⟨0x780, 0x120⟩
def SLC_TRAP_CPL_DATA : Reg := ⟨0x780, 0x124⟩
def SLC_TRAP_CPL_GO : Reg := ⟨0x780, 0x128⟩
def SLC_CNT_TRAP : Reg := ⟨0x780, 0x12c⟩
def SLC_DLG_LAST : Reg := ⟨0x780, 0x130⟩
def SLC_SLICE_CFG : Reg := ⟨0x780, 0x200⟩
def SLC_SLICE_PBASE : Reg := ⟨0x780, 0x204⟩
def SLC_SLICE_PCOUNT : Reg := ⟨0x780, 0x208⟩
def SLC_SLICE_NPMAX : Reg := ⟨0x780, 0x20c⟩
def SLC_SLICE_STATUS : Reg := ⟨0x780, 0x210⟩
def SLC_SLICE_CTRL : Reg := ⟨0x780, 0x214⟩
def SLC_SLICE_NP_OUT : Reg := ⟨0x780, 0x218⟩
def SLC_DLG_CFG : Reg := ⟨0x780, 0x300⟩
def SLC_DLG_BASE_LO : Reg := ⟨0x780, 0x304⟩
def SLC_DLG_BASE_HI : Reg := ⟨0x780, 0x308⟩
def SLC_DLG_SIZE : Reg := ⟨0x780, 0x30c⟩
def SLC_DLG_PROD : Reg := ⟨0x780, 0x310⟩
def SLC_DLG_CONS : Reg := ⟨0x780, 0x314⟩
def SLC_DLG_STATUS : Reg := ⟨0x780, 0x318⟩
def SLC_DLG_CTRL : Reg := ⟨0x780, 0x31c⟩
def SLC_DLG_CNT_REC : Reg := ⟨0x780, 0x320⟩
def SLC_DLG_CNT_DEDUP : Reg := ⟨0x780, 0x324⟩
/-! Page CXP. -/
def CXP_CXP_CTRL : Reg := ⟨0x800, 0x100⟩
def CXP_CXP_LAST : Reg := ⟨0x800, 0x104⟩
def CXP_FMAPI_CNT_REJ : Reg := ⟨0x800, 0x108⟩
def CXP_FMAPI_LAST : Reg := ⟨0x800, 0x10c⟩
def CXP_VCS_STATUS : Reg := ⟨0x800, 0x200⟩
def CXP_VCS_CNT_MISS : Reg := ⟨0x800, 0x204⟩
def CXP_VCS_CNT_WDROP : Reg := ⟨0x800, 0x208⟩
def CXP_PORT_CXL_STATUS : Reg := ⟨0x800, 0x300⟩
def CXP_PORT_CNT_WLOST : Reg := ⟨0x800, 0x304⟩
def CXP_PORT_CNT_DENIED : Reg := ⟨0x800, 0x308⟩
def CXP_LD_BIND (k : Nat) : Reg := ⟨0x800, 0x340 + 4 * k⟩
def CXP_LD_STATE (k : Nat) : Reg := ⟨0x800, 0x380 + 4 * k⟩
def CXP_IDEC_BASE_LO : Reg := ⟨0x800, 0x400⟩
def CXP_IDEC_BASE_HI : Reg := ⟨0x800, 0x404⟩
def CXP_IDEC_SIZE : Reg := ⟨0x800, 0x408⟩
def CXP_IDEC_DPA : Reg := ⟨0x800, 0x40c⟩
def CXP_IDEC_CFG : Reg := ⟨0x800, 0x410⟩
def CXP_IDEC_STATUS : Reg := ⟨0x800, 0x414⟩
def CXP_IDEC_CTRL : Reg := ⟨0x800, 0x418⟩
/-! Page BRG. -/
def BRG_BRG_CFG : Reg := ⟨0x900, 0x100⟩
def BRG_WBUF_USED : Reg := ⟨0x900, 0x104⟩
def BRG_RBUF_USED : Reg := ⟨0x900, 0x108⟩
def BRG_NP_USED : Reg := ⟨0x900, 0x10c⟩
def BRG_M2S_OUT : Reg := ⟨0x900, 0x110⟩
def BRG_BRG_LAST : Reg := ⟨0x900, 0x114⟩
def BRG_PEL_IDX : Reg := ⟨0x900, 0x120⟩
def BRG_PEL_W (k : Nat) : Reg := ⟨0x900, 0x124 + 4 * k⟩
def BRG_PEL_STATUS : Reg := ⟨0x900, 0x144⟩
def BRG_PEL_CTRL : Reg := ⟨0x900, 0x148⟩
def BRG_PEL_CNT : Reg := ⟨0x900, 0x14c⟩
def BRG_WIN_CFG : Reg := ⟨0x900, 0x200⟩
def BRG_WIN_IBASE_LO : Reg := ⟨0x900, 0x204⟩
def BRG_WIN_IBASE_HI : Reg := ⟨0x900, 0x208⟩
def BRG_WIN_SIZE : Reg := ⟨0x900, 0x20c⟩
def BRG_WIN_WBUF : Reg := ⟨0x900, 0x210⟩
def BRG_WIN_STATUS : Reg := ⟨0x900, 0x214⟩
def BRG_WIN_CTRL : Reg := ⟨0x900, 0x218⟩
def BRG_WIN_CNT_WR : Reg := ⟨0x900, 0x21c⟩
def BRG_WIN_CNT_RD : Reg := ⟨0x900, 0x220⟩
def BRG_WIN_CNT_ATOM : Reg := ⟨0x900, 0x224⟩
def BRG_WIN_CNT_FAIL : Reg := ⟨0x900, 0x228⟩
def BRG_WIN_CNT_PURGE : Reg := ⟨0x900, 0x22c⟩
def BRG_WIN_CNT_RDERR : Reg := ⟨0x900, 0x230⟩
def BRG_LK_STATE : Reg := ⟨0x900, 0x300⟩
def BRG_LK_ADDR_LO : Reg := ⟨0x900, 0x304⟩
def BRG_LK_ADDR_HI : Reg := ⟨0x900, 0x308⟩
def BRG_LK_CNT : Reg := ⟨0x900, 0x30c⟩
/-! Page DMA. -/
def DMA_DMA_STATUS : Reg := ⟨0xa00, 0x100⟩
def DMA_CH_OWN : Reg := ⟨0xa00, 0x200⟩
def DMA_CH_PASID : Reg := ⟨0xa00, 0x204⟩
def DMA_CH_CFG : Reg := ⟨0xa00, 0x208⟩
def DMA_CH_PACE : Reg := ⟨0xa00, 0x20c⟩
def DMA_CH_RING_LO : Reg := ⟨0xa00, 0x210⟩
def DMA_CH_RING_HI : Reg := ⟨0xa00, 0x214⟩
def DMA_CH_RING_SIZE : Reg := ⟨0xa00, 0x218⟩
def DMA_CH_TAIL : Reg := ⟨0xa00, 0x21c⟩
def DMA_CH_HEAD : Reg := ⟨0xa00, 0x220⟩
def DMA_CH_DONE : Reg := ⟨0xa00, 0x224⟩
def DMA_CH_CTRL : Reg := ⟨0xa00, 0x228⟩
def DMA_CH_STATUS : Reg := ⟨0xa00, 0x22c⟩
def DMA_CH_LAST_ERR : Reg := ⟨0xa00, 0x230⟩
def DMA_CH_CNT_DESC : Reg := ⟨0xa00, 0x234⟩
def DMA_CH_CNT_BYTES : Reg := ⟨0xa00, 0x238⟩
def DMA_CH_CNT_BAD : Reg := ⟨0xa00, 0x23c⟩
def DMA_CH_CNT_STALE : Reg := ⟨0xa00, 0x240⟩
def DMA_CH_CNT_ABORT : Reg := ⟨0xa00, 0x244⟩
/-! Page SCH. -/
def SCH_SCH_CTRL : Reg := ⟨0xb00, 0x100⟩
def SCH_SCH_LAST : Reg := ⟨0xb00, 0x104⟩
def SCH_SH_COUNT : Reg := ⟨0xb00, 0x108⟩
def SCH_PORT_SCH_CFG : Reg := ⟨0xb00, 0x200⟩
def SCH_PORT_POL : Reg := ⟨0xb00, 0x204⟩
def SCH_CNT_SEL : Reg := ⟨0xb00, 0x208⟩
def SCH_CNT_FIT_WAIT : Reg := ⟨0xb00, 0x20c⟩
def SCH_CNT_OVERRUN : Reg := ⟨0xb00, 0x210⟩
def SCH_PORT_V : Reg := ⟨0xb00, 0x214⟩
def SCH_WFQ_W (k : Nat) : Reg := ⟨0xb00, 0x240 + 4 * k⟩
def SCH_GATE (k : Nat) : Reg := ⟨0xb00, 0x280 + 4 * k⟩
def SCH_STB_TC_CFG : Reg := ⟨0xb00, 0x300⟩
def SCH_STB_TC_W : Reg := ⟨0xb00, 0x304⟩
def SCH_STB_PROFILE : Reg := ⟨0xb00, 0x308⟩
def SCH_STB_CNT_HOLD : Reg := ⟨0xb00, 0x30c⟩
def SCH_SH_CFG : Reg := ⟨0xb00, 0x400⟩
def SCH_SH_RATE (k : Nat) : Reg := ⟨0xb00, 0x404 + 8 * k⟩
def SCH_SH_BURST (k : Nat) : Reg := ⟨0xb00, 0x408 + 8 * k⟩
def SCH_SH_TOKENS : Reg := ⟨0xb00, 0x424⟩
def SCH_SH_CNT_BLOCK : Reg := ⟨0xb00, 0x428⟩
def SCH_PP_CFG : Reg := ⟨0xb00, 0x500⟩
def SCH_PP_RATE : Reg := ⟨0xb00, 0x504⟩
def SCH_PP_BURST : Reg := ⟨0xb00, 0x508⟩
def SCH_PP_CNT_OVER : Reg := ⟨0xb00, 0x50c⟩
/-! Page SAF. -/
def SAF_SAF_CTRL : Reg := ⟨0xc00, 0x100⟩
def SAF_SAF_CMD : Reg := ⟨0xc00, 0x104⟩
def SAF_SAF_STATE : Reg := ⟨0xc00, 0x108⟩
def SAF_CTO_CFG : Reg := ⟨0xc00, 0x10c⟩
def SAF_SCRUB_CFG : Reg := ⟨0xc00, 0x110⟩
def SAF_ST_CFG : Reg := ⟨0xc00, 0x114⟩
def SAF_ST_STATUS : Reg := ⟨0xc00, 0x118⟩
def SAF_DIS_CFG : Reg := ⟨0xc00, 0x11c⟩
def SAF_CE_TH : Reg := ⟨0xc00, 0x120⟩
def SAF_AF_LIMIT : Reg := ⟨0xc00, 0x124⟩
def SAF_TEMP_TH : Reg := ⟨0xc00, 0x128⟩
def SAF_VMON_LIM : Reg := ⟨0xc00, 0x12c⟩
def SAF_MON_STATUS : Reg := ⟨0xc00, 0x130⟩
def SAF_INJ_CFG : Reg := ⟨0xc00, 0x134⟩
def SAF_INJ_CTRL : Reg := ⟨0xc00, 0x138⟩
def SAF_INJ_BIT : Reg := ⟨0xc00, 0x13c⟩
def SAF_ESC (k : Nat) : Reg := ⟨0xc00, 0x140 + 4 * k⟩
def SAF_FLOG_IDX : Reg := ⟨0xc00, 0x1c0⟩
def SAF_FLOG_W (k : Nat) : Reg := ⟨0xc00, 0x1c4 + 4 * k⟩
def SAF_FLOG_STATUS : Reg := ⟨0xc00, 0x1d8⟩
def SAF_FLOG_CTRL : Reg := ⟨0xc00, 0x1dc⟩
def SAF_CNT_CE : Reg := ⟨0xc00, 0x1e0⟩
def SAF_CNT_UE : Reg := ⟨0xc00, 0x1e4⟩
def SAF_CNT_DISAGREE : Reg := ⟨0xc00, 0x1e8⟩
def SAF_CNT_CTO : Reg := ⟨0xc00, 0x1ec⟩
def SAF_STB_SAF_STATUS : Reg := ⟨0xc00, 0x200⟩
def SAF_STB_SAF_CTRL : Reg := ⟨0xc00, 0x204⟩
def SAF_STB_CNT_TLPF : Reg := ⟨0xc00, 0x208⟩
end R

/-! ### The tables -/

def regsDEV_0 : List RegDesc := [
  ⟨0x100, 0, 1, .ro, 0xffff, 0xffff, 0x0, false⟩,
  ⟨0x104, 0, 1, .rof, 0xffffffff, 0xffffffff, 0x0, false⟩,
  ⟨0x108, 0, 1, .rof, 0xffffffff, 0xffffffff, 0x0, false⟩,
  ⟨0x10c, 0, 1, .ro, 0xffffffff, 0xffffffff, 0x0, false⟩,
  ⟨0x110, 0, 1, .rw, 0xffffffff, 0xffffffff, 0x0, false⟩,
  ⟨0x114, 0, 1, .ro, 0xffff03ff, 0xffff03ff, 0x0, false⟩,
  ⟨0x118, 0, 1, .rw, 0xffffff, 0xffffff, 0x6400, false⟩,
  ⟨0x11c, 0, 1, .ro, 0xffffffff, 0xffffffff, 0x0, false⟩,
  ⟨0x120, 0, 1, .rw, 0xffff, 0xffff, 0x0, false⟩]
/-- The registers of page DEV. -/
def regsDEV : List RegDesc := regsDEV_0

def regsMGT_0 : List RegDesc := [
]
/-- The registers of page MGT. -/
def regsMGT : List RegDesc := regsMGT_0

def regsEVT_0 : List RegDesc := [
  ⟨0x100, 4, 64, .w1c, 0xffffffff, 0xffffffff, 0x0, false⟩,
  ⟨0x200, 4, 64, .rw, 0xffffffff, 0xffffffff, 0xffffffff, false⟩,
  ⟨0x300, 4, 64, .wo, 0xffffffff, 0xffffffff, 0x0, false⟩,
  ⟨0x400, 0, 1, .rw, 0xffffffff, 0xffffffff, 0xa400000, false⟩,
  ⟨0x404, 0, 1, .rw, 0x7ff, 0x7ff, 0x0, true⟩,
  ⟨0x408, 0, 1, .ro, 0x7ffff, 0x7ffff, 0x0, false⟩,
  ⟨0x40c, 0, 1, .ro, 0x1fff, 0x1fff, 0x0, false⟩,
  ⟨0x500, 0, 1, .w1c, 0x800001ff, 0x80000000, 0x0, false⟩,
  ⟨0x504, 4, 4, .ro, 0xffffffff, 0xffffffff, 0x0, false⟩,
  ⟨0x514, 0, 1, .w1s, 0x1, 0x1, 0x0, false⟩,
  ⟨0x520, 0, 1, .w1c, 0x800001ff, 0x80000000, 0x0, false⟩,
  ⟨0x524, 4, 4, .ro, 0xffffffff, 0xffffffff, 0x0, false⟩,
  ⟨0x534, 0, 1, .w1s, 0x1, 0x1, 0x0, false⟩,
  ⟨0x600, 4, 16, .rw, 0xffffffff, 0xffffffff, 0x0, false⟩]
/-- The registers of page EVT. -/
def regsEVT : List RegDesc := regsEVT_0

def regsTAL_0 : List RegDesc := [
  ⟨0x100, 0, 1, .rw, 0xffffffff, 0xffffffff, 0x0, false⟩,
  ⟨0x104, 0, 1, .rw, 0xffffffff, 0xffffffff, 0x0, false⟩,
  ⟨0x200, 8, 9, .ro, 0xffffffff, 0xffffffff, 0x0, false⟩,
  ⟨0x204, 8, 9, .ro, 0xffff, 0xffff, 0x0, false⟩,
  ⟨0x280, 8, 9, .ro, 0xffffffff, 0xffffffff, 0x0, false⟩,
  ⟨0x284, 8, 9, .ro, 0xffff, 0xffff, 0x0, false⟩,
  ⟨0x2d0, 0, 1, .ro, 0x1ff, 0x1ff, 0x0, false⟩,
  ⟨0x2d4, 0, 1, .ro, 0xffffffff, 0xffffffff, 0x0, false⟩,
  ⟨0x2d8, 0, 1, .ro, 0xffffffff, 0xffffffff, 0x0, false⟩,
  ⟨0x2dc, 0, 1, .ro, 0xffffffff, 0xffffffff, 0x0, false⟩,
  ⟨0x300, 0, 1, .rw, 0x7f, 0x7f, 0x0, false⟩,
  ⟨0x304, 0, 1, .rw, 0xffffffff, 0xffffffff, 0xffffffff, false⟩,
  ⟨0x308, 0, 1, .rw, 0x3ffff, 0x1ffff, 0x0, false⟩,
  ⟨0x30c, 0, 1, .ro, 0xffffffff, 0xffffffff, 0x0, false⟩,
  ⟨0x310, 0, 1, .ro, 0xffff, 0xffff, 0x0, false⟩,
  ⟨0x314, 0, 1, .ro, 0xffffffff, 0xffffffff, 0x0, false⟩,
  ⟨0x318, 0, 1, .ro, 0xffff, 0xffff, 0x0, false⟩,
  ⟨0x31c, 0, 1, .ro, 0xffffffff, 0xffffffff, 0x0, false⟩,
  ⟨0x320, 0, 1, .ro, 0xffffffff, 0xffffffff, 0x0, false⟩,
  ⟨0x324, 0, 1, .ro, 0xffffffff, 0xffffffff, 0x0, false⟩,
  ⟨0x328, 0, 1, .ro, 0x1ff, 0x1ff, 0x0, false⟩]
/-- The registers of page TAL. -/
def regsTAL : List RegDesc := regsTAL_0

def regsPWR_0 : List RegDesc := [
  ⟨0x100, 0, 1, .rw, 0x3f, 0x3f, 0x0, false⟩,
  ⟨0x104, 0, 1, .ro, 0xffff001f, 0xffff001f, 0x0, false⟩,
  ⟨0x108, 0, 1, .rws, 0xffff, 0xffff, 0x32, false⟩,
  ⟨0x10c, 0, 1, .w1s, 0xf, 0xf, 0x0, false⟩,
  ⟨0x110, 0, 1, .rws, 0x3fffff, 0x1fffff, 0x13264, false⟩,
  ⟨0x114, 0, 1, .ro, 0xffff0fff, 0xffff0fff, 0x0, false⟩,
  ⟨0x118, 0, 1, .rw, 0xffffffff, 0xffffffff, 0x0, false⟩,
  ⟨0x11c, 0, 1, .rw, 0xffffffff, 0xffffffff, 0x0, false⟩,
  ⟨0x120, 0, 1, .ro, 0xffffffff, 0xffffffff, 0x0, false⟩,
  ⟨0x124, 0, 1, .ro, 0xffffffff, 0xffffffff, 0x0, false⟩,
  ⟨0x128, 0, 1, .ro, 0xffffffff, 0xffffffff, 0x0, false⟩,
  ⟨0x12c, 0, 1, .ro, 0xffffffff, 0xffffffff, 0x0, false⟩,
  ⟨0x130, 0, 1, .rw, 0xffffffff, 0xffffffff, 0x3200c8, false⟩,
  ⟨0x134, 0, 1, .ro, 0x1ffff, 0x1ffff, 0x0, false⟩,
  ⟨0x138, 0, 1, .ro, 0xffffffff, 0xffffffff, 0x0, false⟩,
  ⟨0x140, 16, 4, .rof, 0xffff, 0xffff, 0x0, false⟩,
  ⟨0x144, 16, 4, .rw, 0xffffffff, 0xffffffff, 0x0, false⟩,
  ⟨0x148, 16, 4, .ro, 0x8000ffff, 0x8000ffff, 0x0, false⟩,
  ⟨0x14c, 16, 4, .rof, 0xffffffff, 0xffffffff, 0x0, false⟩,
  ⟨0x180, 0, 1, .ro, 0x1ffff, 0x1ffff, 0x0, false⟩,
  ⟨0x200, 0, 1, .rw, 0x107, 0x107, 0x0, false⟩,
  ⟨0x204, 0, 1, .ro, 0xffffffff, 0xffffffff, 0x0, false⟩]
/-- The registers of page PWR. -/
def regsPWR : List RegDesc := regsPWR_0

def regsBOOT_0 : List RegDesc := [
  ⟨0x100, 0, 1, .ro, 0x3f, 0x3f, 0x0, false⟩,
  ⟨0x104, 0, 1, .ro, 0xffff0fff, 0xffff0fff, 0x0, false⟩,
  ⟨0x108, 0, 1, .ro, 0xff, 0xff, 0x0, false⟩,
  ⟨0x10c, 0, 1, .w1s, 0x1, 0x1, 0x0, false⟩,
  ⟨0x110, 0, 1, .rw, 0xffffffff, 0xffffffff, 0x0, false⟩,
  ⟨0x114, 0, 1, .rw, 0x703ff, 0x703ff, 0x0, false⟩,
  ⟨0x118, 4, 8, .rw, 0xffffffff, 0xffffffff, 0x0, false⟩]
/-- The registers of page BOOT. -/
def regsBOOT : List RegDesc := regsBOOT_0

def regsDBG_0 : List RegDesc := [
  ⟨0x100, 0, 1, .ro, 0xf, 0xf, 0x0, false⟩,
  ⟨0x104, 0, 1, .w1s, 0x1f, 0x1f, 0x0, false⟩,
  ⟨0x108, 0, 1, .rw, 0x1, 0x1, 0x1, false⟩,
  ⟨0x110, 4, 12, .ro, 0xffffffff, 0xffffffff, 0x0, false⟩,
  ⟨0x140, 4, 24, .wo, 0xffffffff, 0xffffffff, 0x0, false⟩,
  ⟨0x1a0, 0, 1, .rw, 0xffffff, 0xffffff, 0x1c200, false⟩]
/-- The registers of page DBG. -/
def regsDBG : List RegDesc := regsDBG_0

def regsSBD_0 : List RegDesc := [
  ⟨0x100, 0, 1, .rw, 0x3ff, 0x3ff, 0x40, false⟩,
  ⟨0x104, 0, 1, .rw, 0x7f, 0x7f, 0x0, false⟩,
  ⟨0x108, 0, 1, .rw, 0x1ff, 0x1ff, 0x0, false⟩,
  ⟨0x180, 0, 1, .ro, 0xffffffff, 0xffffffff, 0x0, false⟩,
  ⟨0x184, 0, 1, .ro, 0xffffffff, 0xffffffff, 0x0, false⟩,
  ⟨0x190, 4, 4, .rw, 0xffffffff, 0xffffffff, 0x0, false⟩]
/-- The registers of page SBD. -/
def regsSBD : List RegDesc := regsSBD_0

def regsCYC_0 : List RegDesc := [
  ⟨0x100, 0, 1, .rws, 0x1fffff7f, 0x1fffff7f, 0x3440000, false⟩,
  ⟨0x104, 0, 1, .rws, 0xffffffff, 0xffffffff, 0xf4240, false⟩,
  ⟨0x108, 0, 1, .rws, 0xf, 0xf, 0x0, false⟩,
  ⟨0x10c, 0, 1, .rws, 0xffff, 0xffff, 0x148, false⟩,
  ⟨0x110, 0, 1, .rws, 0xffff, 0xffff, 0x10, false⟩,
  ⟨0x114, 0, 1, .rws, 0xffff, 0xffff, 0x0, false⟩,
  ⟨0x118, 0, 1, .rws, 0xffffffff, 0xffffffff, 0x0, false⟩,
  ⟨0x11c, 0, 1, .rws, 0xffffffff, 0xffffffff, 0x0, false⟩,
  ⟨0x120, 0, 1, .rws, 0x3ff, 0x3ff, 0x0, false⟩,
  ⟨0x124, 0, 1, .rws, 0x7ff, 0x7ff, 0x0, false⟩,
  ⟨0x128, 0, 1, .ro, 0xff3f, 0x0, 0x0, false⟩,
  ⟨0x12c, 0, 1, .ro, 0xffffffff, 0xffffffff, 0x0, false⟩,
  ⟨0x130, 0, 1, .ro, 0xf, 0xf, 0x0, false⟩,
  ⟨0x134, 0, 1, .ro, 0xffff, 0xffff, 0x0, false⟩,
  ⟨0x138, 0, 1, .ro, 0xffffffff, 0xffffffff, 0x0, false⟩,
  ⟨0x13c, 0, 1, .ro, 0xffffffff, 0xffffffff, 0x0, false⟩,
  ⟨0x140, 0, 1, .ro, 0xffffffff, 0xffffffff, 0x0, false⟩,
  ⟨0x144, 0, 1, .ro, 0xffffffff, 0xffffffff, 0x0, false⟩,
  ⟨0x148, 0, 1, .ro, 0xffffffff, 0xffffffff, 0x0, false⟩,
  ⟨0x14c, 0, 1, .ro, 0xffffffff, 0xffffffff, 0x0, false⟩,
  ⟨0x150, 0, 1, .ro, 0xffffffff, 0xffffffff, 0x0, false⟩,
  ⟨0x154, 0, 1, .ro, 0xffffffff, 0xffffffff, 0x0, false⟩,
  ⟨0x158, 0, 1, .ro, 0xffffffff, 0xffffffff, 0x0, false⟩,
  ⟨0x15c, 0, 1, .ro, 0x83ff, 0x83ff, 0x0, false⟩,
  ⟨0x180, 0, 1, .rw, 0x3ff, 0x3ff, 0x0, true⟩]
def regsCYC_1 : List RegDesc := [
  ⟨0x184, 0, 1, .rw, 0x1fffff, 0x1fffff, 0x0, true⟩,
  ⟨0x188, 0, 1, .rw, 0xffffffff, 0xffffffff, 0x0, true⟩,
  ⟨0x18c, 0, 1, .rw, 0xffffffff, 0xffffffff, 0x0, true⟩,
  ⟨0x190, 0, 1, .rw, 0x0, 0x0, 0x0, true⟩,
  ⟨0x194, 0, 1, .w1c, 0x1, 0x1, 0x0, false⟩,
  ⟨0x1c0, 4, 8, .rws, 0x77777777, 0x77777777, 0x0, false⟩,
  ⟨0x1e0, 0, 1, .ro, 0xff, 0xff, 0x0, false⟩]
/-- The registers of page CYC. -/
def regsCYC : List RegDesc := regsCYC_0 ++ regsCYC_1

def regsCAL_0 : List RegDesc := [
  ⟨0x100, 0, 1, .rw, 0xffffffff, 0xffffffff, 0x640437, false⟩,
  ⟨0x104, 0, 1, .rw, 0xffff, 0xffff, 0x7d0, false⟩,
  ⟨0x108, 0, 1, .ro, 0xffff0f3f, 0x0, 0x0, false⟩,
  ⟨0x10c, 0, 1, .ro, 0xffffffff, 0xffffffff, 0x0, false⟩,
  ⟨0x110, 0, 1, .ro, 0xffffffff, 0xffffffff, 0x0, false⟩,
  ⟨0x114, 0, 1, .ro, 0xffffffff, 0xffffffff, 0x0, false⟩,
  ⟨0x118, 0, 1, .ro, 0xffffffff, 0xffffffff, 0x0, false⟩,
  ⟨0x11c, 0, 1, .ro, 0xffffffff, 0xffffffff, 0x0, false⟩,
  ⟨0x120, 0, 1, .w1s, 0xffff, 0xffff, 0x0, false⟩,
  ⟨0x124, 0, 1, .ro, 0xffff077f, 0x0, 0x0, false⟩,
  ⟨0x200, 0, 1, .rw, 0xff03, 0xff03, 0x103, false⟩,
  ⟨0x240, 4, 16, .ro, 0xffff, 0xffff, 0x0, false⟩,
  ⟨0x280, 8, 16, .ro, 0xffffffff, 0xffffffff, 0x0, false⟩,
  ⟨0x284, 8, 16, .ro, 0xffffffff, 0xffffffff, 0x0, false⟩,
  ⟨0x400, 32, 16, .rof, 0xffffffff, 0xffffffff, 0x0, false⟩,
  ⟨0x404, 32, 16, .rw, 0xffffffff, 0xffffffff, 0x0, false⟩,
  ⟨0x408, 32, 16, .ro, 0x8000ffff, 0x8000ffff, 0x0, false⟩,
  ⟨0x40c, 32, 16, .rof, 0xffffffff, 0xffffffff, 0x0, false⟩,
  ⟨0x410, 32, 16, .rof, 0xffffffff, 0xffffffff, 0x0, false⟩,
  ⟨0x414, 32, 16, .rw, 0xffffffff, 0xffffffff, 0x0, false⟩,
  ⟨0x418, 32, 16, .ro, 0x8000ffff, 0x8000ffff, 0x0, false⟩,
  ⟨0x41c, 32, 16, .rof, 0xffffffff, 0xffffffff, 0x0, false⟩]
/-- The registers of page CAL. -/
def regsCAL : List RegDesc := regsCAL_0

def regsLAN_0 : List RegDesc := [
  ⟨0x100, 0, 1, .rws, 0x7f, 0x7f, 0x0, false⟩,
  ⟨0x104, 0, 1, .ro, 0xff0f, 0xff0f, 0x0, false⟩,
  ⟨0x108, 0, 1, .ro, 0xffff0003, 0xffff0003, 0x0, false⟩,
  ⟨0x200, 0, 1, .ro, 0xfffff, 0x0, 0xff00, false⟩,
  ⟨0x204, 0, 1, .ro, 0xffffffff, 0xffffffff, 0x0, false⟩,
  ⟨0x208, 0, 1, .ro, 0xffffffff, 0xffffffff, 0x0, false⟩,
  ⟨0x20c, 0, 1, .rw, 0x7f, 0x7f, 0x0, false⟩,
  ⟨0x210, 0, 1, .rc, 0xffffffff, 0xffffffff, 0x0, false⟩,
  ⟨0x400, 16, 8, .rof, 0xffff, 0x0, 0x0, false⟩,
  ⟨0x404, 16, 8, .rw, 0xffffffff, 0xffffffff, 0x0, false⟩,
  ⟨0x408, 16, 8, .ro, 0x8000ffff, 0x0, 0x0, false⟩,
  ⟨0x40c, 16, 8, .rof, 0xffffffff, 0x0, 0x0, false⟩,
  ⟨0x480, 0, 1, .ro, 0xffff07ff, 0x0, 0x0, false⟩,
  ⟨0x484, 0, 1, .ro, 0xffff, 0xffff, 0x0, false⟩,
  ⟨0x488, 0, 1, .ro, 0xffffffff, 0xffffffff, 0x0, false⟩,
  ⟨0x48c, 0, 1, .ro, 0xffffffff, 0xffffffff, 0x0, false⟩,
  ⟨0x490, 0, 1, .ro, 0xffffffff, 0xffffffff, 0x0, false⟩,
  ⟨0x4a0, 0, 1, .ro, 0xffffff, 0xffffff, 0x0, false⟩,
  ⟨0x4a4, 0, 1, .ro, 0xffff, 0xffff, 0x0, false⟩]
/-- The registers of page LAN. -/
def regsLAN : List RegDesc := regsLAN_0

def regsPRT0_0 : List RegDesc := [
  ⟨0x100, 0, 1, .rws, 0xf77, 0xf77, 0x860, false⟩,
  ⟨0x104, 0, 1, .rw, 0x1f, 0x1f, 0x0, false⟩,
  ⟨0x108, 0, 1, .rw, 0xffff, 0xffff, 0x0, false⟩,
  ⟨0x10c, 0, 1, .rw, 0x3f, 0x3f, 0x6, false⟩,
  ⟨0x110, 0, 1, .ro, 0xffffff, 0x0, 0x1, false⟩,
  ⟨0x114, 0, 1, .ro, 0xff, 0xff, 0x0, false⟩,
  ⟨0x118, 0, 1, .ro, 0xffffffff, 0xffffffff, 0x0, false⟩,
  ⟨0x11c, 0, 1, .ro, 0xffffffff, 0xffffffff, 0x0, false⟩,
  ⟨0x120, 0, 1, .ro, 0xffffffff, 0xffffffff, 0x0, false⟩]
/-- The registers of page PRT0. -/
def regsPRT0 : List RegDesc := regsPRT0_0

def regsPRT1_0 : List RegDesc := [
  ⟨0x100, 0, 1, .rws, 0xfff8ff7f, 0xfff8ff7f, 0x6400, false⟩,
  ⟨0x104, 0, 1, .ro, 0x1f, 0x1f, 0x0, false⟩,
  ⟨0x180, 4, 8, .rws, 0xffffffff, 0xffffffff, 0x0, false⟩,
  ⟨0x1a0, 0, 1, .rws, 0xff, 0xff, 0xa, false⟩,
  ⟨0x1a4, 0, 1, .w1c, 0xff, 0xff, 0x0, false⟩]
/-- The registers of page PRT1. -/
def regsPRT1 : List RegDesc := regsPRT1_0

def regsPRT2_0 : List RegDesc := [
  ⟨0x100, 0, 1, .rw, 0x3, 0x3, 0x1, false⟩,
  ⟨0x104, 0, 1, .ro, 0xff3f, 0xff3f, 0x0, false⟩,
  ⟨0x108, 0, 1, .w1s, 0x7, 0x7, 0x0, false⟩,
  ⟨0x10c, 0, 1, .ro, 0xffffffff, 0xffffffff, 0x0, false⟩,
  ⟨0x110, 0, 1, .ro, 0xffffffff, 0xffffffff, 0x0, false⟩,
  ⟨0x114, 0, 1, .ro, 0xffffffff, 0xffffffff, 0x0, false⟩,
  ⟨0x118, 0, 1, .ro, 0xffffffff, 0xffffffff, 0x0, false⟩,
  ⟨0x11c, 0, 1, .ro, 0xffffffff, 0xffffffff, 0x0, false⟩,
  ⟨0x120, 0, 1, .ro, 0xffffffff, 0xffffffff, 0x0, false⟩,
  ⟨0x200, 0, 1, .rw, 0x3f, 0x3f, 0x0, true⟩,
  ⟨0x204, 4, 8, .ro, 0xffffffff, 0xffffffff, 0x0, false⟩,
  ⟨0x224, 0, 1, .ro, 0x8000007f, 0x8000007f, 0x0, false⟩,
  ⟨0x228, 0, 1, .w1s, 0x1, 0x1, 0x0, false⟩,
  ⟨0x22c, 0, 1, .ro, 0xffffffff, 0xffffffff, 0x0, false⟩]
/-- The registers of page PRT2. -/
def regsPRT2 : List RegDesc := regsPRT2_0

def regsPRT3_0 : List RegDesc := [
  ⟨0x100, 0, 1, .rw, 0x1, 0x1, 0x1, false⟩,
  ⟨0x104, 0, 1, .ro, 0x1f, 0x1f, 0x0, false⟩,
  ⟨0x108, 0, 1, .ro, 0xffffffff, 0xffffffff, 0x0, false⟩,
  ⟨0x200, 0, 1, .rw, 0x3f, 0x3f, 0x0, true⟩,
  ⟨0x204, 0, 1, .ro, 0xffffffff, 0xffffffff, 0x0, false⟩,
  ⟨0x208, 0, 1, .ro, 0xffffffff, 0xffffffff, 0x0, false⟩,
  ⟨0x20c, 0, 1, .ro, 0x7f0007, 0x7f0007, 0x0, false⟩]
/-- The registers of page PRT3. -/
def regsPRT3 : List RegDesc := regsPRT3_0

def regsPRT4_0 : List RegDesc := [
  ⟨0x100, 0, 1, .rw, 0x1, 0x1, 0x1, false⟩,
  ⟨0x104, 0, 1, .ro, 0xffff, 0xffff, 0x0, false⟩,
  ⟨0x108, 0, 1, .ro, 0xffffffff, 0xffffffff, 0x0, false⟩,
  ⟨0x180, 0, 1, .ro, 0xffff, 0xffff, 0x8000, false⟩,
  ⟨0x184, 0, 1, .ro, 0xffff, 0xffff, 0x8000, false⟩,
  ⟨0x188, 0, 1, .rw, 0xffff, 0xffff, 0x64, false⟩,
  ⟨0x18c, 0, 1, .rw, 0xffff, 0xffff, 0x100, false⟩,
  ⟨0x190, 0, 1, .ro, 0xffffffff, 0xffffffff, 0x0, false⟩,
  ⟨0x194, 0, 1, .ro, 0xffffffff, 0xffffffff, 0x0, false⟩,
  ⟨0x198, 0, 1, .ro, 0xffffffff, 0xffffffff, 0x0, false⟩]
/-- The registers of page PRT4. -/
def regsPRT4 : List RegDesc := regsPRT4_0

def regsPRT5_0 : List RegDesc := [
  ⟨0x100, 0, 1, .rws, 0x7f, 0x7f, 0x0, false⟩,
  ⟨0x104, 0, 1, .ro, 0xffffffff, 0xffffffff, 0x0, false⟩,
  ⟨0x180, 0, 1, .rw, 0x3f, 0x3f, 0x0, true⟩,
  ⟨0x184, 0, 1, .rws, 0x3f, 0x3f, 0x0, false⟩,
  ⟨0x188, 0, 1, .w1s, 0x1, 0x1, 0x0, false⟩,
  ⟨0x18c, 0, 1, .ro, 0xffffff1f, 0xffffff1f, 0x0, false⟩,
  ⟨0x190, 0, 1, .rw, 0xff, 0xff, 0x0, true⟩,
  ⟨0x194, 0, 1, .rws, 0xfff, 0xfff, 0x0, false⟩,
  ⟨0x198, 0, 1, .ro, 0xffffffff, 0xffffffff, 0x0, false⟩]
/-- The registers of page PRT5. -/
def regsPRT5 : List RegDesc := regsPRT5_0

def regsPRT6_0 : List RegDesc := [
  ⟨0x100, 0, 1, .w1s, 0x1, 0x1, 0x0, false⟩,
  ⟨0x104, 0, 1, .ro, 0x8000001f, 0x8000001f, 0x0, false⟩,
  ⟨0x108, 0, 1, .rw, 0xf, 0xf, 0x0, true⟩,
  ⟨0x10c, 4, 6, .ro, 0xffffffff, 0xffffffff, 0x0, false⟩,
  ⟨0x130, 0, 1, .ro, 0xffffffff, 0xffffffff, 0x0, false⟩,
  ⟨0x134, 0, 1, .ro, 0xffffffff, 0xffffffff, 0x0, false⟩,
  ⟨0x138, 0, 1, .ro, 0xffffffff, 0xffffffff, 0x0, false⟩,
  ⟨0x13c, 0, 1, .ro, 0xffffffff, 0xffffffff, 0x0, false⟩,
  ⟨0x140, 0, 1, .ro, 0xffffffff, 0xffffffff, 0x0, false⟩,
  ⟨0x144, 0, 1, .ro, 0xffff0007, 0xffff0007, 0x0, false⟩]
/-- The registers of page PRT6. -/
def regsPRT6 : List RegDesc := regsPRT6_0

def regsMKL_0 : List RegDesc := [
  ⟨0x100, 0, 1, .rws, 0x3, 0x3, 0x3, false⟩,
  ⟨0x104, 0, 1, .ro, 0x1ffff, 0x1ffff, 0x0, false⟩,
  ⟨0x108, 0, 1, .rw, 0xff, 0xff, 0x0, true⟩,
  ⟨0x10c, 0, 1, .rw, 0x7, 0x7, 0x0, false⟩,
  ⟨0x110, 0, 1, .w1s, 0x1, 0x1, 0x0, false⟩,
  ⟨0x114, 0, 1, .ro, 0x7fff, 0x7fff, 0x0, false⟩,
  ⟨0x118, 0, 1, .ro, 0xffffffff, 0xffffffff, 0x0, false⟩,
  ⟨0x200, 0, 1, .rws, 0x3ffffff, 0x3ffffff, 0x10203c0, false⟩,
  ⟨0x204, 0, 1, .rws, 0x7ffffff, 0x7ffffff, 0x7013214, false⟩,
  ⟨0x208, 0, 1, .rws, 0xfff, 0xfff, 0x0, false⟩,
  ⟨0x20c, 0, 1, .rws, 0xfff, 0xfff, 0x0, false⟩,
  ⟨0x210, 0, 1, .rws, 0xfff, 0xfff, 0x0, false⟩,
  ⟨0x214, 0, 1, .ro, 0xfff, 0xfff, 0x0, false⟩,
  ⟨0x218, 0, 1, .ro, 0xffff01ff, 0x0, 0x0, false⟩,
  ⟨0x21c, 0, 1, .ro, 0xffffffff, 0xffffffff, 0x0, false⟩,
  ⟨0x220, 0, 1, .ro, 0x8007ffff, 0x8007ffff, 0x0, false⟩,
  ⟨0x224, 0, 1, .ro, 0xffffffff, 0xffffffff, 0x0, false⟩,
  ⟨0x228, 0, 1, .ro, 0xffffffff, 0xffffffff, 0x0, false⟩,
  ⟨0x22c, 0, 1, .ro, 0x3fff, 0x3fff, 0x0, false⟩,
  ⟨0x230, 0, 1, .ro, 0xffffffff, 0xffffffff, 0x0, false⟩,
  ⟨0x234, 0, 1, .ro, 0xffffffff, 0xffffffff, 0x0, false⟩,
  ⟨0x238, 0, 1, .ro, 0xffffffff, 0xffffffff, 0x0, false⟩,
  ⟨0x23c, 0, 1, .ro, 0xffffffff, 0xffffffff, 0x0, false⟩,
  ⟨0x240, 0, 1, .ro, 0xffffff, 0xffffff, 0x0, false⟩,
  ⟨0x244, 0, 1, .ro, 0xffffff, 0xffffff, 0x0, false⟩]
def regsMKL_1 : List RegDesc := [
  ⟨0x248, 0, 1, .ro, 0xffffff, 0xffffff, 0x0, false⟩,
  ⟨0x24c, 0, 1, .ro, 0xffffffff, 0xffffffff, 0x0, false⟩,
  ⟨0x250, 0, 1, .ro, 0xffffffff, 0xffffffff, 0x0, false⟩,
  ⟨0x254, 0, 1, .ro, 0xffffffff, 0xffffffff, 0x0, false⟩,
  ⟨0x258, 0, 1, .ro, 0xffffffff, 0xffffffff, 0x0, false⟩,
  ⟨0x25c, 0, 1, .ro, 0xffff, 0xffff, 0x0, false⟩,
  ⟨0x300, 0, 1, .ro, 0xffff, 0xffff, 0x0, false⟩]
/-- The registers of page MKL. -/
def regsMKL : List RegDesc := regsMKL_0 ++ regsMKL_1

def regsSWC_0 : List RegDesc := [
  ⟨0x100, 0, 1, .rw, 0x7, 0x7, 0x7, false⟩,
  ⟨0x104, 0, 1, .rw, 0xffffffff, 0xffffffff, 0x0, false⟩,
  ⟨0x108, 0, 1, .rw, 0xffff, 0xffff, 0x0, false⟩,
  ⟨0x10c, 0, 1, .ro, 0xffff, 0xffff, 0x0, false⟩,
  ⟨0x110, 0, 1, .rw, 0xffff, 0xffff, 0x0, false⟩,
  ⟨0x200, 0, 1, .rw, 0x1, 0x1, 0x1, false⟩,
  ⟨0x204, 0, 1, .rw, 0x1ffff, 0x1ffff, 0x0, false⟩,
  ⟨0x208, 0, 1, .rw, 0x1ffff, 0x1ffff, 0x0, false⟩,
  ⟨0x20c, 0, 1, .ro, 0xffffffff, 0xffffffff, 0x0, false⟩,
  ⟨0x210, 0, 1, .ro, 0xffffffff, 0xffffffff, 0x0, false⟩,
  ⟨0x214, 0, 1, .ro, 0xffffffff, 0xffffffff, 0x0, false⟩,
  ⟨0x218, 0, 1, .ro, 0xffffffff, 0xffffffff, 0x0, false⟩,
  ⟨0x21c, 0, 1, .ro, 0xffffffff, 0xffffffff, 0x0, false⟩,
  ⟨0x300, 0, 1, .rws, 0x3f7f, 0x3f7f, 0x0, false⟩,
  ⟨0x304, 4, 5, .ro, 0xffffffff, 0xffffffff, 0x0, false⟩,
  ⟨0x318, 0, 1, .ro, 0xffffffff, 0xffffffff, 0x0, false⟩,
  ⟨0x31c, 0, 1, .ro, 0xffffffff, 0xffffffff, 0x0, false⟩,
  ⟨0x320, 0, 1, .ro, 0x7ff, 0x7ff, 0x0, false⟩,
  ⟨0x400, 0, 1, .rws, 0x1, 0x1, 0x0, false⟩,
  ⟨0x404, 0, 1, .ro, 0x3, 0x3, 0x0, false⟩,
  ⟨0x408, 0, 1, .rw, 0xffffff80, 0xffffff80, 0x0, false⟩,
  ⟨0x40c, 0, 1, .rw, 0xffffffff, 0xffffffff, 0x0, false⟩,
  ⟨0x410, 0, 1, .rw, 0xffff, 0xffff, 0x0, false⟩,
  ⟨0x414, 0, 1, .ro, 0xffff, 0xffff, 0x0, false⟩,
  ⟨0x418, 0, 1, .rw, 0xffff, 0xffff, 0x0, false⟩]
/-- The registers of page SWC. -/
def regsSWC : List RegDesc := regsSWC_0

def regsSHD_0 : List RegDesc := [
  ⟨0x100, 0, 1, .rws, 0xffff, 0xffff, 0x200, false⟩,
  ⟨0x104, 0, 1, .ro, 0xffffff, 0xffffff, 0x2c8c8, false⟩,
  ⟨0x108, 0, 1, .ro, 0xffffff, 0xffffff, 0x2c8c8, false⟩,
  ⟨0x10c, 0, 1, .ro, 0xffffff, 0xffffff, 0x0, false⟩,
  ⟨0x110, 0, 1, .ro, 0xffffff, 0xffffff, 0x3538, false⟩,
  ⟨0x114, 0, 1, .ro, 0xffff, 0xffff, 0x0, false⟩,
  ⟨0x118, 0, 1, .ro, 0xffffff, 0xffffff, 0x2c8c8, false⟩,
  ⟨0x11c, 0, 1, .w1s, 0x1, 0x1, 0x0, false⟩,
  ⟨0x120, 0, 1, .rw, 0xffffff, 0xffffff, 0x0, false⟩,
  ⟨0x124, 0, 1, .ro, 0x3ff, 0x3ff, 0x0, false⟩,
  ⟨0x200, 0, 1, .rws, 0x7, 0x7, 0x4, false⟩,
  ⟨0x204, 0, 1, .rws, 0xfff, 0xfff, 0x20, false⟩,
  ⟨0x208, 0, 1, .rws, 0xfff, 0xfff, 0x8, false⟩,
  ⟨0x20c, 0, 1, .rws, 0xfff, 0xfff, 0x40, false⟩,
  ⟨0x210, 0, 1, .ro, 0xffffff, 0xffffff, 0x0, false⟩,
  ⟨0x214, 0, 1, .ro, 0xfff0fff, 0xfff0fff, 0x0, false⟩,
  ⟨0x218, 0, 1, .ro, 0xfff, 0xfff, 0x0, false⟩,
  ⟨0x21c, 0, 1, .ro, 0x7, 0x7, 0x0, false⟩,
  ⟨0x220, 0, 1, .ro, 0xffffffff, 0xffffffff, 0x0, false⟩,
  ⟨0x224, 0, 1, .ro, 0xffffffff, 0xffffffff, 0x0, false⟩,
  ⟨0x228, 0, 1, .ro, 0xffffffff, 0xffffffff, 0x0, false⟩,
  ⟨0x300, 0, 1, .rws, 0x7, 0x7, 0x3, false⟩,
  ⟨0x304, 0, 1, .ro, 0xffffff, 0xffffff, 0x0, false⟩,
  ⟨0x308, 0, 1, .ro, 0xffffff, 0xffffff, 0x0, false⟩]
/-- The registers of page SHD. -/
def regsSHD : List RegDesc := regsSHD_0

def regsRTE_0 : List RegDesc := [
  ⟨0x100, 0, 1, .rws, 0x1, 0x1, 0x1, false⟩,
  ⟨0x104, 0, 1, .rw, 0x1fff, 0x1fff, 0x0, true⟩,
  ⟨0x108, 0, 1, .rws, 0xfffff000, 0xfffff000, 0x0, true⟩,
  ⟨0x10c, 0, 1, .rws, 0xffffffff, 0xffffffff, 0x0, true⟩,
  ⟨0x110, 0, 1, .rws, 0xffffffff, 0xffffffff, 0x0, true⟩,
  ⟨0x114, 0, 1, .rws, 0x3ff7ffff, 0x3ff7ffff, 0x0, true⟩,
  ⟨0x118, 0, 1, .ro, 0x3fff, 0x3fff, 0x0, false⟩,
  ⟨0x120, 0, 1, .rw, 0x3ff, 0x3ff, 0x0, true⟩,
  ⟨0x124, 0, 1, .rws, 0xfffff000, 0xfffff000, 0x0, true⟩,
  ⟨0x128, 0, 1, .rws, 0xffffffff, 0xffffffff, 0x0, true⟩,
  ⟨0x12c, 0, 1, .rws, 0xf3f3f, 0xf3f3f, 0x0, true⟩,
  ⟨0x130, 0, 1, .rws, 0x0, 0x0, 0x0, true⟩,
  ⟨0x138, 0, 1, .rw, 0xf, 0xf, 0x0, true⟩,
  ⟨0x13c, 4, 6, .ro, 0xffffffff, 0xffffffff, 0x0, false⟩,
  ⟨0x154, 0, 1, .ro, 0x8000001f, 0x8000001f, 0x0, false⟩,
  ⟨0x158, 0, 1, .w1s, 0x1, 0x1, 0x0, false⟩,
  ⟨0x160, 0, 1, .rws, 0xffff, 0xffff, 0x3e8, false⟩,
  ⟨0x164, 0, 1, .ro, 0xffff007f, 0xffff007f, 0x0, false⟩,
  ⟨0x168, 0, 1, .ro, 0xffffffff, 0xffffffff, 0x0, false⟩,
  ⟨0x200, 0, 1, .rws, 0x1ff, 0x1ff, 0x0, false⟩,
  ⟨0x204, 0, 1, .ro, 0xffffffff, 0xffffffff, 0x0, false⟩,
  ⟨0x208, 0, 1, .ro, 0xffffffff, 0xffffffff, 0x0, false⟩,
  ⟨0x20c, 0, 1, .ro, 0xffffffff, 0xffffffff, 0x0, false⟩,
  ⟨0x300, 0, 1, .rws, 0xffff, 0xffff, 0x0, false⟩,
  ⟨0x304, 0, 1, .ro, 0x1f, 0x0, 0x0, false⟩]
/-- The registers of page RTE. -/
def regsRTE : List RegDesc := regsRTE_0

def regsISO_0 : List RegDesc := [
  ⟨0x100, 0, 1, .rwl, 0x7f, 0x7f, 0x0, false⟩,
  ⟨0x104, 0, 1, .rw, 0x3fff, 0x3fff, 0x0, true⟩,
  ⟨0x108, 0, 1, .rws, 0xfffff03f, 0xfffff03f, 0x0, true⟩,
  ⟨0x10c, 0, 1, .rws, 0xffffffff, 0xffffffff, 0x0, true⟩,
  ⟨0x110, 0, 1, .rws, 0xffffffff, 0xffffffff, 0x0, true⟩,
  ⟨0x114, 0, 1, .rws, 0xffffff, 0xffffff, 0x0, true⟩,
  ⟨0x118, 0, 1, .ro, 0x7fff, 0x7fff, 0x0, false⟩,
  ⟨0x120, 0, 1, .rw, 0x1fff, 0x1fff, 0x0, true⟩,
  ⟨0x124, 0, 1, .rwl, 0x3ff, 0x3ff, 0x0, false⟩,
  ⟨0x128, 0, 1, .rw, 0xf, 0xf, 0x0, true⟩,
  ⟨0x12c, 4, 6, .ro, 0xffffffff, 0xffffffff, 0x0, false⟩,
  ⟨0x144, 0, 1, .ro, 0x8000001f, 0x8000001f, 0x0, false⟩,
  ⟨0x148, 0, 1, .w1s, 0x1, 0x1, 0x0, false⟩,
  ⟨0x14c, 0, 1, .ro, 0xffffffff, 0xffffffff, 0x0, false⟩,
  ⟨0x150, 0, 1, .ro, 0xffffff, 0xffffff, 0x0, false⟩,
  ⟨0x154, 0, 1, .ro, 0xffffffff, 0xffffffff, 0x0, false⟩,
  ⟨0x158, 0, 1, .ro, 0xffffffff, 0xffffffff, 0x0, false⟩,
  ⟨0x160, 4, 5, .ro, 0xffffffff, 0xffffffff, 0x0, false⟩,
  ⟨0x180, 0, 1, .ro, 0x7fffffff, 0x7fffffff, 0x0, false⟩,
  ⟨0x184, 0, 1, .ro, 0xffffffff, 0xffffffff, 0x0, false⟩,
  ⟨0x200, 0, 1, .rws, 0x1, 0x1, 0x0, false⟩,
  ⟨0x204, 0, 1, .ro, 0xff, 0xff, 0xff, false⟩,
  ⟨0x208, 4, 5, .ro, 0xffffffff, 0xffffffff, 0x0, false⟩,
  ⟨0x21c, 4, 5, .ro, 0xffffffff, 0xffffffff, 0x0, false⟩,
  ⟨0x230, 0, 1, .ro, 0xffffffff, 0xffffffff, 0x0, false⟩,
  ⟨0x240, 16, 4, .rws, 0xfffff00f, 0xfffff00f, 0x0, false⟩,
  ⟨0x244, 16, 4, .rws, 0xffffffff, 0xffffffff, 0x0, false⟩,
  ⟨0x248, 16, 4, .rws, 0xfffff000, 0xfffff000, 0x0, false⟩]
def regsISO_1 : List RegDesc := [
  ⟨0x24c, 16, 4, .rws, 0xffffffff, 0xffffffff, 0x0, false⟩,
  ⟨0x300, 0, 1, .rws, 0x13f03, 0x13f03, 0x10000, false⟩]
/-- The registers of page ISO. -/
def regsISO : List RegDesc := regsISO_0 ++ regsISO_1

def regsSTL_0 : List RegDesc := [
  ⟨0x100, 0, 1, .rws, 0x1ffff, 0x1ffff, 0x0, false⟩,
  ⟨0x104, 0, 1, .rws, 0xfffff800, 0xfffff800, 0x0, false⟩,
  ⟨0x108, 0, 1, .rws, 0xffffffff, 0xffffffff, 0x0, false⟩,
  ⟨0x10c, 0, 1, .ro, 0xffff000f, 0xffff000f, 0x0, false⟩,
  ⟨0x110, 0, 1, .w1s, 0x1, 0x1, 0x0, false⟩,
  ⟨0x114, 0, 1, .ro, 0x7ffff, 0x7ffff, 0x0, false⟩,
  ⟨0x118, 0, 1, .ro, 0x1fff, 0x1fff, 0x0, false⟩,
  ⟨0x11c, 0, 1, .ro, 0xfff, 0xfff, 0x0, false⟩,
  ⟨0x120, 0, 1, .ro, 0xffffffff, 0xffffffff, 0x0, false⟩,
  ⟨0x124, 0, 1, .ro, 0xffffffff, 0xffffffff, 0x0, false⟩,
  ⟨0x128, 0, 1, .ro, 0xffffffff, 0xffffffff, 0x0, false⟩,
  ⟨0x12c, 0, 1, .ro, 0xffffffff, 0xffffffff, 0x0, false⟩,
  ⟨0x130, 0, 1, .rw, 0x7ff, 0x7ff, 0x0, true⟩,
  ⟨0x134, 0, 1, .rws, 0xffffffff, 0xffffffff, 0x0, true⟩,
  ⟨0x138, 0, 1, .rws, 0xffffffff, 0xffffffff, 0x0, true⟩,
  ⟨0x140, 0, 1, .rw, 0xffffffff, 0xffffffff, 0x0, true⟩,
  ⟨0x144, 0, 1, .rw, 0xffffffff, 0xffffffff, 0x0, true⟩,
  ⟨0x148, 0, 1, .w1s, 0x7, 0x7, 0x0, false⟩,
  ⟨0x14c, 0, 1, .ro, 0xf003ffff, 0xf003ffff, 0x0, false⟩,
  ⟨0x150, 0, 1, .rw, 0xf, 0xf, 0x0, true⟩,
  ⟨0x154, 4, 6, .ro, 0xffffffff, 0xffffffff, 0x0, false⟩,
  ⟨0x16c, 0, 1, .ro, 0x8000001f, 0x8000001f, 0x0, false⟩,
  ⟨0x170, 0, 1, .w1s, 0x1, 0x1, 0x0, false⟩,
  ⟨0x174, 0, 1, .ro, 0xffffffff, 0xffffffff, 0x0, false⟩,
  ⟨0x200, 0, 1, .rws, 0x7ffff7f, 0x7ffff7f, 0x4020, false⟩]
def regsSTL_1 : List RegDesc := [
  ⟨0x204, 0, 1, .ro, 0x1ff, 0x1ff, 0x0, false⟩,
  ⟨0x208, 0, 1, .ro, 0xffffffff, 0xffffffff, 0x0, false⟩,
  ⟨0x20c, 0, 1, .ro, 0x1ff, 0x1ff, 0x0, false⟩,
  ⟨0x210, 0, 1, .w1s, 0x1, 0x1, 0x0, false⟩]
/-- The registers of page STL. -/
def regsSTL : List RegDesc := regsSTL_0 ++ regsSTL_1

def regsSLC_0 : List RegDesc := [
  ⟨0x100, 0, 1, .rw, 0xffff0001, 0xffff0001, 0x320000, false⟩,
  ⟨0x104, 0, 1, .ro, 0x7f7f, 0x7f7f, 0x0, false⟩,
  ⟨0x108, 4, 4, .ro, 0xffffffff, 0xffffffff, 0x0, false⟩,
  ⟨0x118, 0, 1, .w1s, 0x1, 0x1, 0x0, false⟩,
  ⟨0x11c, 0, 1, .rw, 0x3f, 0x3f, 0x0, true⟩,
  ⟨0x120, 0, 1, .rw, 0x7, 0x7, 0x0, false⟩,
  ⟨0x124, 0, 1, .rw, 0xffffffff, 0xffffffff, 0x0, false⟩,
  ⟨0x128, 0, 1, .w1s, 0x1, 0x1, 0x0, false⟩,
  ⟨0x12c, 0, 1, .ro, 0xffffffff, 0xffffffff, 0x0, false⟩,
  ⟨0x130, 0, 1, .ro, 0x3f, 0x3f, 0x0, false⟩,
  ⟨0x200, 0, 1, .rws, 0x3ffffff, 0x3ffffff, 0x0, false⟩,
  ⟨0x204, 0, 1, .rws, 0xfffff, 0xfffff, 0x0, false⟩,
  ⟨0x208, 0, 1, .rws, 0x1fffff, 0x1fffff, 0x0, false⟩,
  ⟨0x20c, 0, 1, .rws, 0xffff, 0xffff, 0x0, false⟩,
  ⟨0x210, 0, 1, .ro, 0x7ff, 0x7ff, 0x0, false⟩,
  ⟨0x214, 0, 1, .w1s, 0x7, 0x7, 0x0, false⟩,
  ⟨0x218, 0, 1, .ro, 0xffff, 0xffff, 0x0, false⟩,
  ⟨0x300, 0, 1, .rws, 0x7f, 0x7f, 0x0, false⟩,
  ⟨0x304, 0, 1, .rw, 0xfffff000, 0xfffff000, 0x0, false⟩,
  ⟨0x308, 0, 1, .rw, 0xffffffff, 0xffffffff, 0x0, false⟩,
  ⟨0x30c, 0, 1, .rw, 0xffff, 0xffff, 0x0, false⟩,
  ⟨0x310, 0, 1, .ro, 0xffff, 0xffff, 0x0, false⟩,
  ⟨0x314, 0, 1, .rw, 0xffff, 0xffff, 0x0, false⟩,
  ⟨0x318, 0, 1, .w1c, 0x3, 0x3, 0x0, false⟩,
  ⟨0x31c, 0, 1, .w1s, 0x3, 0x3, 0x0, false⟩]
def regsSLC_1 : List RegDesc := [
  ⟨0x320, 0, 1, .ro, 0xffffffff, 0xffffffff, 0x0, false⟩,
  ⟨0x324, 0, 1, .ro, 0xffffffff, 0xffffffff, 0x0, false⟩]
/-- The registers of page SLC. -/
def regsSLC : List RegDesc := regsSLC_0 ++ regsSLC_1

def regsCXP_0 : List RegDesc := [
  ⟨0x100, 0, 1, .rw, 0xffff, 0xffff, 0x64, false⟩,
  ⟨0x104, 0, 1, .ro, 0xffffff, 0xffffff, 0x0, false⟩,
  ⟨0x108, 0, 1, .ro, 0xffffffff, 0xffffffff, 0x0, false⟩,
  ⟨0x10c, 0, 1, .ro, 0xffffffff, 0xffffffff, 0x0, false⟩,
  ⟨0x200, 0, 1, .ro, 0xff3f, 0xff3f, 0x0, false⟩,
  ⟨0x204, 0, 1, .ro, 0xffffffff, 0xffffffff, 0x0, false⟩,
  ⟨0x208, 0, 1, .ro, 0xffffffff, 0xffffffff, 0x0, false⟩,
  ⟨0x300, 0, 1, .ro, 0x7ff, 0x0, 0x0, false⟩,
  ⟨0x304, 0, 1, .ro, 0xffffffff, 0xffffffff, 0x0, false⟩,
  ⟨0x308, 0, 1, .ro, 0xffffffff, 0xffffffff, 0x0, false⟩,
  ⟨0x340, 4, 16, .rws, 0x7f, 0x7f, 0x0, false⟩,
  ⟨0x380, 4, 16, .ro, 0x3ff7f, 0x3ff7f, 0x0, false⟩,
  ⟨0x400, 0, 1, .rws, 0xf0000000, 0xf0000000, 0x0, false⟩,
  ⟨0x404, 0, 1, .rws, 0xfffff, 0xfffff, 0x0, false⟩,
  ⟨0x408, 0, 1, .rws, 0xffffff, 0xffffff, 0x0, false⟩,
  ⟨0x40c, 0, 1, .rws, 0xfff, 0xfff, 0x0, false⟩,
  ⟨0x410, 0, 1, .rws, 0x7fff, 0x7fff, 0x0, false⟩,
  ⟨0x414, 0, 1, .ro, 0xf3, 0xf3, 0x0, false⟩,
  ⟨0x418, 0, 1, .w1s, 0x1, 0x1, 0x0, false⟩]
/-- The registers of page CXP. -/
def regsCXP : List RegDesc := regsCXP_0

def regsBRG_0 : List RegDesc := [
  ⟨0x100, 0, 1, .rws, 0xffff, 0xffff, 0x3e8, false⟩,
  ⟨0x104, 0, 1, .ro, 0x1fff, 0x1fff, 0x0, false⟩,
  ⟨0x108, 0, 1, .ro, 0x1fff, 0x1fff, 0x0, false⟩,
  ⟨0x10c, 0, 1, .ro, 0x3ff, 0x3ff, 0x0, false⟩,
  ⟨0x110, 0, 1, .ro, 0x7ff, 0x7ff, 0x0, false⟩,
  ⟨0x114, 0, 1, .ro, 0x3ffff, 0x3ffff, 0x0, false⟩,
  ⟨0x120, 0, 1, .rw, 0x3f, 0x3f, 0x0, true⟩,
  ⟨0x124, 4, 8, .ro, 0xffffffff, 0xffffffff, 0x0, false⟩,
  ⟨0x144, 0, 1, .ro, 0x8000007f, 0x8000007f, 0x0, false⟩,
  ⟨0x148, 0, 1, .w1s, 0x1, 0x1, 0x0, false⟩,
  ⟨0x14c, 0, 1, .ro, 0xffffffff, 0xffffffff, 0x0, false⟩,
  ⟨0x200, 0, 1, .rws, 0x1fff, 0x1fff, 0x0, false⟩,
  ⟨0x204, 0, 1, .rws, 0xfffff000, 0xfffff000, 0x0, false⟩,
  ⟨0x208, 0, 1, .rws, 0xfffff, 0xfffff, 0x0, false⟩,
  ⟨0x20c, 0, 1, .rws, 0xffffffff, 0xffffffff, 0x0, false⟩,
  ⟨0x210, 0, 1, .rws, 0xfff0fff, 0xfff0fff, 0x1000004, false⟩,
  ⟨0x214, 0, 1, .ro, 0x1fff0007, 0x1fff0007, 0x0, false⟩,
  ⟨0x218, 0, 1, .w1s, 0x3, 0x3, 0x0, false⟩,
  ⟨0x21c, 0, 1, .ro, 0xffffffff, 0xffffffff, 0x0, false⟩,
  ⟨0x220, 0, 1, .ro, 0xffffffff, 0xffffffff, 0x0, false⟩,
  ⟨0x224, 0, 1, .ro, 0xffffffff, 0xffffffff, 0x0, false⟩,
  ⟨0x228, 0, 1, .ro, 0xffffffff, 0xffffffff, 0x0, false⟩,
  ⟨0x22c, 0, 1, .ro, 0xffffffff, 0xffffffff, 0x0, false⟩,
  ⟨0x230, 0, 1, .ro, 0xffffffff, 0xffffffff, 0x0, false⟩,
  ⟨0x300, 0, 1, .ro, 0xffff, 0xffff, 0x0, false⟩]
def regsBRG_1 : List RegDesc := [
  ⟨0x304, 0, 1, .ro, 0xffffffc0, 0xffffffc0, 0x0, false⟩,
  ⟨0x308, 0, 1, .ro, 0xfffff, 0xfffff, 0x0, false⟩,
  ⟨0x30c, 0, 1, .ro, 0xffffffff, 0xffffffff, 0x0, false⟩]
/-- The registers of page BRG. -/
def regsBRG : List RegDesc := regsBRG_0 ++ regsBRG_1

def regsDMA_0 : List RegDesc := [
  ⟨0x100, 0, 1, .ro, 0x7f0fff, 0x7f0fff, 0x0, false⟩,
  ⟨0x200, 0, 1, .rws, 0xff, 0xff, 0x0, false⟩,
  ⟨0x204, 0, 1, .rws, 0x800fffff, 0x800fffff, 0x0, false⟩,
  ⟨0x208, 0, 1, .rw, 0x13f07, 0x13f07, 0x11005, false⟩,
  ⟨0x20c, 0, 1, .rw, 0xffffffff, 0xffffffff, 0x10000, false⟩,
  ⟨0x210, 0, 1, .rw, 0xffffffe0, 0xffffffe0, 0x0, false⟩,
  ⟨0x214, 0, 1, .rw, 0xffffffff, 0xffffffff, 0x0, false⟩,
  ⟨0x218, 0, 1, .rw, 0xffff, 0xffff, 0x0, false⟩,
  ⟨0x21c, 0, 1, .rw, 0xffff, 0xffff, 0x0, false⟩,
  ⟨0x220, 0, 1, .ro, 0xffff, 0xffff, 0x0, false⟩,
  ⟨0x224, 0, 1, .ro, 0xffff, 0xffff, 0x0, false⟩,
  ⟨0x228, 0, 1, .w1s, 0x3f, 0x3f, 0x0, false⟩,
  ⟨0x22c, 0, 1, .ro, 0x1ff3b, 0x20, 0x8, false⟩,
  ⟨0x230, 0, 1, .ro, 0xfffff, 0xfffff, 0x0, false⟩,
  ⟨0x234, 0, 1, .ro, 0xffffffff, 0xffffffff, 0x0, false⟩,
  ⟨0x238, 0, 1, .ro, 0xffffffff, 0xffffffff, 0x0, false⟩,
  ⟨0x23c, 0, 1, .ro, 0xffffffff, 0xffffffff, 0x0, false⟩,
  ⟨0x240, 0, 1, .ro, 0xffffffff, 0xffffffff, 0x0, false⟩,
  ⟨0x244, 0, 1, .ro, 0xffffffff, 0xffffffff, 0x0, false⟩]
/-- The registers of page DMA. -/
def regsDMA : List RegDesc := regsDMA_0

def regsSCH_0 : List RegDesc := [
  ⟨0x100, 0, 1, .rw, 0xffff, 0xffff, 0x64, false⟩,
  ⟨0x104, 0, 1, .ro, 0x3fffffff, 0x3fffffff, 0x0, false⟩,
  ⟨0x108, 0, 1, .ro, 0x7ff, 0x7ff, 0x0, false⟩,
  ⟨0x200, 0, 1, .rw, 0xff, 0xff, 0x0, false⟩,
  ⟨0x204, 0, 1, .rws, 0x7f, 0x7f, 0x0, false⟩,
  ⟨0x208, 0, 1, .ro, 0xffffffff, 0xffffffff, 0x0, false⟩,
  ⟨0x20c, 0, 1, .ro, 0xffffffff, 0xffffffff, 0x0, false⟩,
  ⟨0x210, 0, 1, .ro, 0xffffffff, 0xffffffff, 0x0, false⟩,
  ⟨0x214, 0, 1, .ro, 0xffffffff, 0xffffffff, 0x0, false⟩,
  ⟨0x240, 4, 16, .rw, 0xffffffff, 0xffffffff, 0x1010101, false⟩,
  ⟨0x280, 4, 16, .rw, 0xffffffff, 0xffffffff, 0xffffffff, false⟩,
  ⟨0x300, 0, 1, .rw, 0x1, 0x1, 0x0, false⟩,
  ⟨0x304, 0, 1, .rw, 0xffffffff, 0xffffffff, 0x11111111, false⟩,
  ⟨0x308, 0, 1, .rw, 0x3, 0x3, 0x0, false⟩,
  ⟨0x30c, 0, 1, .ro, 0xffffffff, 0xffffffff, 0x0, false⟩,
  ⟨0x400, 0, 1, .rws, 0xffff7f, 0xffff7f, 0x0, false⟩,
  ⟨0x404, 8, 4, .rw, 0x1fffff, 0x1fffff, 0x0, false⟩,
  ⟨0x408, 8, 4, .rw, 0xfff, 0xfff, 0x0, false⟩,
  ⟨0x424, 0, 1, .ro, 0xffffffff, 0xffffffff, 0x0, false⟩,
  ⟨0x428, 0, 1, .ro, 0xffffffff, 0xffffffff, 0x0, false⟩,
  ⟨0x500, 0, 1, .rws, 0x3, 0x3, 0x0, false⟩,
  ⟨0x504, 0, 1, .rw, 0x1fffff, 0x1fffff, 0x0, false⟩,
  ⟨0x508, 0, 1, .rw, 0xfff, 0xfff, 0x0, false⟩,
  ⟨0x50c, 0, 1, .ro, 0xffffffff, 0xffffffff, 0x0, false⟩]
/-- The registers of page SCH. -/
def regsSCH : List RegDesc := regsSCH_0

def regsSAF_0 : List RegDesc := [
  ⟨0x100, 0, 1, .rwl, 0x1, 0x1, 0x0, false⟩,
  ⟨0x104, 0, 1, .w1s, 0x1, 0x1, 0x0, false⟩,
  ⟨0x108, 0, 1, .ro, 0xff07, 0xff07, 0x0, false⟩,
  ⟨0x10c, 0, 1, .rws, 0x3fffff, 0x3fffff, 0x2710, false⟩,
  ⟨0x110, 0, 1, .rwl, 0xffff, 0xffff, 0xa, false⟩,
  ⟨0x114, 0, 1, .rwl, 0xffff, 0xffff, 0x64, false⟩,
  ⟨0x118, 0, 1, .ro, 0xffffff03, 0xffffff03, 0x0, false⟩,
  ⟨0x11c, 0, 1, .rwl, 0xffff00ff, 0xffff00ff, 0x3e80004, false⟩,
  ⟨0x120, 0, 1, .rw, 0xffff, 0xffff, 0x64, false⟩,
  ⟨0x124, 0, 1, .rwl, 0xffff, 0xffff, 0x0, false⟩,
  ⟨0x128, 0, 1, .rwl, 0xffff, 0xffff, 0x7d73, false⟩,
  ⟨0x12c, 0, 1, .rof, 0xffffffff, 0xffffffff, 0x0, false⟩,
  ⟨0x130, 0, 1, .ro, 0xffff003f, 0xffff003f, 0xf, false⟩,
  ⟨0x134, 0, 1, .rw, 0x3fffffff, 0x3fffffff, 0x0, false⟩,
  ⟨0x138, 0, 1, .w1s, 0x1, 0x1, 0x0, false⟩,
  ⟨0x13c, 0, 1, .rw, 0x3ff, 0x3ff, 0x0, false⟩,
  ⟨0x144, 4, 26, .rwl, 0x77, 0x7, 0x0, false⟩,
  ⟨0x1c0, 0, 1, .rw, 0x1f, 0x1f, 0x0, true⟩,
  ⟨0x1c4, 4, 5, .ro, 0xffffffff, 0xffffffff, 0x0, false⟩,
  ⟨0x1d8, 0, 1, .ro, 0x8000003f, 0x8000003f, 0x0, false⟩,
  ⟨0x1dc, 0, 1, .w1s, 0x1, 0x1, 0x0, false⟩,
  ⟨0x1e0, 0, 1, .ro, 0xffffffff, 0xffffffff, 0x0, false⟩,
  ⟨0x1e4, 0, 1, .ro, 0xffffffff, 0xffffffff, 0x0, false⟩,
  ⟨0x1e8, 0, 1, .ro, 0xffffffff, 0xffffffff, 0x0, false⟩,
  ⟨0x1ec, 0, 1, .ro, 0xffffffff, 0xffffffff, 0x0, false⟩]
def regsSAF_1 : List RegDesc := [
  ⟨0x200, 0, 1, .ro, 0xff03, 0xff03, 0x0, false⟩,
  ⟨0x204, 0, 1, .w1s, 0x3, 0x3, 0x0, false⟩,
  ⟨0x208, 0, 1, .ro, 0xffffffff, 0xffffffff, 0x0, false⟩]
/-- The registers of page SAF. -/
def regsSAF : List RegDesc := regsSAF_0 ++ regsSAF_1

/-- The part of the common page layout (R36) that holds plain stored words. -/
def regsCommon : List RegDesc := [
  ⟨0x1c, 0, 1, .rw, 0xffffffff, 0xffffffff, 0, true⟩,
  ⟨0x28, 0, 1, .rws, 0x8000ff0f, 0x0000ff0f, 1, false⟩,
  ⟨0x40, 0, 1, .w1c, 0xffffffff, 0xffffffff, 0, false⟩,
  ⟨0x44, 0, 1, .rw, 0xffffffff, 0xffffffff, 0, false⟩,
  ⟨0x48, 0, 1, .wo, 0xffffffff, 0xffffffff, 0, false⟩,
  ⟨0x4c, 0, 1, .rw, 0xffff, 0xffff, 0, false⟩,
  ⟨0x80, 0, 1, .w1s, 3, 3, 0, false⟩,
  ⟨0x8c, 4, 5, .ro, 0xffffffff, 0, 0, false⟩,
  ⟨0xc0, 0, 1, .rw, 0xfffff, 0xfffff, 0, true⟩,
  ⟨0xc4, 0, 1, .w1c, 0xffff001f, 0x1e, 0, true⟩,
  ⟨0xf08, 16, 8, .rw, 0xffff03ff, 0xffff03ff, 0, false⟩,
  ⟨0xf80, 0, 1, .rw, 0xffffff, 0xffff, 0, false⟩]

/-- The register table of a page (R35); the LAN pages share one. -/
def pageTable (page : Nat) : List RegDesc :=
  if page = 0x0 then regsDEV
  else if page = 0x10 then regsMGT
  else if page = 0x11 then regsEVT
  else if page = 0x12 then regsTAL
  else if page = 0x13 then regsPWR
  else if page = 0x14 then regsBOOT
  else if page = 0x15 then regsDBG
  else if page = 0x16 then regsSBD
  else if page = 0x20 then regsCYC
  else if page = 0x40 then regsCAL
  else if 0x100 ≤ page ∧ page ≤ 0x10f then regsLAN
  else if page = 0x200 then regsPRT0
  else if page = 0x201 then regsPRT1
  else if page = 0x202 then regsPRT2
  else if page = 0x203 then regsPRT3
  else if page = 0x204 then regsPRT4
  else if page = 0x205 then regsPRT5
  else if page = 0x206 then regsPRT6
  else if page = 0x300 then regsMKL
  else if page = 0x400 then regsSWC
  else if page = 0x440 then regsSHD
  else if page = 0x500 then regsRTE
  else if page = 0x600 then regsISO
  else if page = 0x700 then regsSTL
  else if page = 0x780 then regsSLC
  else if page = 0x800 then regsCXP
  else if page = 0x900 then regsBRG
  else if page = 0xa00 then regsDMA
  else if page = 0xb00 then regsSCH
  else if page = 0xc00 then regsSAF
  else []

/-- Whether the row covers the offset. -/
def RegDesc.covers (r : RegDesc) (off : Nat) : Bool :=
  if r.count ≤ 1 then off == r.off
  else decide (r.off ≤ off) && (off - r.off) % r.stride == 0 && decide ((off - r.off) / r.stride < r.count)

/-- The table row of an offset of a page, common layout included. -/
def findReg (page off : Nat) : Option RegDesc :=
  if off < 0x100 ∨ 0xf00 ≤ off then regsCommon.find? (·.covers off)
  else (pageTable page).find? (·.covers off)

/-- A page R35 lists as populated. -/
def pagePopulated (page : Nat) : Bool :=
  page = 0x207 || page = 0x10 || !(pageTable page).isEmpty

/-! ### Reset words -/

/-- The permission word of a page at reset (R250): two bits a class, R then W, for TENANT, FM, ENRUEZ_P, ENRUEZ_U and
DEBUG. -/
def permReset (page : Nat) : Nat :=
  let p (t f ep eu dbg : Nat) := t + 4 * f + 16 * ep + 64 * eu + 256 * dbg
  if page = 0x0 then p 1 3 3 1 1
  else if page = 0x10 ∨ page = 0x14 then p 0 1 3 0 1
  else if page = 0x11 ∨ page = 0x12 ∨ page = 0x13 ∨ page = 0x16 ∨ page = 0xa00 ∨ page = 0x400 then p 3 3 3 3 1
  else if page = 0x15 then p 0 1 3 0 3
  else if page = 0x20 ∨ page = 0x40 ∨ page = 0x300 ∨ page = 0x440 ∨ page = 0x500 ∨ page = 0x700 ∨ page = 0x780
      ∨ page = 0x800 ∨ page = 0x900 ∨ page = 0xb00 then p 1 3 3 1 1
  else if 0x100 ≤ page ∧ page ≤ 0x10f then p 1 3 3 1 3
  else if page = 0x203 then p 0 3 3 0 0
  else if 0x200 ≤ page ∧ page ≤ 0x206 then p 1 3 3 1 1
  else if page = 0x600 then p 1 3 3 0 1
  else if page = 0xc00 then p 0 3 3 1 1
  else 0

/-- The minimum scope of a fault class (R380). -/
def classMin (k : Nat) : Nat :=
  if 0x02 ≤ k ∧ k ≤ 0x07 then 1
  else if k = 0x08 ∨ k = 0x09 then 4
  else if k = 0x0a ∨ k = 0x0e ∨ k = 0x0f ∨ k = 0x10 ∨ k = 0x1a then 5
  else if k = 0x0b ∨ k = 0x0c ∨ k = 0x0d ∨ k = 0x15 then 2
  else 0

/-- ESCk at reset (R380): SCOPE, and EFF in [6:4]. -/
def escReset (k : Nat) : Nat :=
  let s := if k = 0x11 then 5 else classMin k
  s + 16 * s

/-- The block width of port P(8c) in the layout after reset is 16 lanes; the other numbers of the cluster have no block
(R87, R88). -/
def rxbufReset (port : Nat) : Nat := if port % 8 = 0 then 2048 else 0

/-- EFF_x of a calibratable quantity (R64): FACT_x plus the signed USER_x, clamped to the bounds in the limit word, with SAT
in bit 31 while the clamp limits the sum. -/
def effOf (fact user lim : Word) : Word :=
  let v : Int := (fact.toNat % 65536 : Nat) + user.toInt
  let lo := lim.toNat % 65536
  let hi := lim.toNat / 65536
  if v < (lo : Int) then BitVec.ofNat 32 (lo + 2147483648)
  else if (hi : Int) < v then BitVec.ofNat 32 (hi + 2147483648)
  else BitVec.ofNat 32 v.toNat

/-- EFF_x with USER_x = 0. -/
def clampFact (fact lim : Word) : Word := effOf fact 0 lim

/-- A factory limit word whose MIN and MAX lie in a code range, MIN not above MAX (R116, R141); within it the part is free. -/
def limWord (lo hi : Nat) (w : Word) : Word :=
  let mn := lo + w.toNat % 65536 % (hi - lo + 1)
  BitVec.ofNat 32 (mn + 65536 * (mn + w.toNat / 65536 % (hi - mn + 1)))

/-- The highest code of the calibratable quantity q of a lane (R116). -/
def codeMax (q : Nat) : Nat := [63, 15, 31, 31, 63, 127, 31, 255].getD q 0

/-- LIM_DRP_TH and LIM_DRP_ALM (R141), at their offsets within a cluster's block, and LIM_x of quantity q of a lane (R116). -/
def drpLim (off : Nat) : Word :=
  if off % 0x20 = 0xc then limWord 10 60 (Config.factory 0x40 0 off) else limWord 20 120 (Config.factory 0x40 0 off)
/-- The limits of VPLn, within the AVS range of the core supply (R449, R464). -/
def vplLim (off : Nat) : Word := limWord 650 850 (Config.factory 0x13 0 off)
/-- The low word of the serial number: no part has the number 0 or all ones (R508). -/
def serialLo : Word :=
  let lo := Config.factory 0 0 0x104
  let hi := Config.factory 0 0 0x108
  if (lo = 0 ∧ hi = 0) ∨ (lo = 0xffffffff ∧ hi = 0xffffffff) then 1 else lo
def laneLim (page inst off : Nat) : Word := limWord 0 (codeMax ((off - 0x400) / 0x10)) (Config.factory page inst off)

/-- The count registers (R435): offsets of the registers whose summary says that they wrap at 2^32 or saturate, by page; the
LAN pages share one row. -/
def countRegs (page : Nat) : List Nat :=
  if page = 0x20 then [0x14c, 0x150, 0x154, 0x158]
  else if 0x100 ≤ page ∧ page ≤ 0x10f then [0x204, 0x208, 0x210, 0x490]
  else if page = 0x200 then [0x118]
  else if page = 0x40 then [0x110, 0x114, 0x118, 0x11c, 0x280, 0x284, 0x288, 0x28c, 0x290, 0x294, 0x298, 0x29c, 0x2a0, 0x2a4, 0x2a8, 0x2ac, 0x2b0, 0x2b4, 0x2b8, 0x2bc, 0x2c0, 0x2c4, 0x2c8, 0x2cc, 0x2d0, 0x2d4, 0x2d8, 0x2dc, 0x2e0, 0x2e4, 0x2e8, 0x2ec, 0x2f0, 0x2f4, 0x2f8, 0x2fc]
  else if page = 0x300 then [0x118, 0x230, 0x234, 0x238, 0x23c, 0x24c, 0x250, 0x254, 0x258]
  else if page = 0x400 then [0x20c, 0x210, 0x214, 0x218, 0x21c, 0x318, 0x31c]
  else if page = 0x440 then [0x220, 0x224, 0x228]
  else if page = 0x206 then [0x130, 0x134, 0x138, 0x13c, 0x140]
  else if page = 0x500 then [0x168, 0x204, 0x208, 0x20c]
  else if page = 0x600 then [0x154, 0x158, 0x160, 0x164, 0x168, 0x16c, 0x170, 0x184, 0x230]
  else if page = 0x700 then [0x120, 0x124, 0x128, 0x12c, 0x208]
  else if page = 0x780 then [0x12c, 0x320, 0x324]
  else if page = 0x204 then [0x108, 0x190, 0x194, 0x198]
  else if page = 0x800 then [0x108, 0x204, 0x208, 0x304, 0x308]
  else if page = 0x900 then [0x14c, 0x21c, 0x220, 0x224, 0x228, 0x22c, 0x230, 0x30c]
  else if page = 0xa00 then [0x234, 0x238, 0x23c, 0x240, 0x244]
  else if page = 0xb00 then [0x208, 0x20c, 0x210, 0x30c, 0x428, 0x50c]
  else if page = 0xc00 then [0x1e0, 0x1e4, 0x1e8, 0x1ec, 0x208]
  else if page = 0x202 then [0x10c, 0x110, 0x114, 0x118, 0x11c, 0x120, 0x22c]
  else if page = 0x205 then [0x104, 0x198]
  else if page = 0x203 then [0x108, 0x204, 0x208]
  else if page = 0x13 then [0x138, 0x204]
  else if page = 0x0 then [0x11c]
  else []

/-- What a register reads as at the end of device reset: the Reset column, with the values it calls factory, per part,
per port, per page and per class. -/
def resetWord (page inst off : Nat) : Word :=
  if page = 0x600 ∧ off = 0x124 then BitVec.ofNat 32 (permReset inst)
  else if page = 0x600 ∧ 0x240 ≤ off ∧ off < 0x250 then
    BitVec.ofNat 32 (if off = 0x240 then 0xf else if off = 0x248 then 0xfffff000 else if off = 0x24c then 0xffffffff else 0)
  else if page = 0xc00 ∧ 0x140 ≤ off ∧ off < 0x1c0 then
    (if (off - 0x140) % 4 = 0 then BitVec.ofNat 32 (escReset ((off - 0x140) / 4)) else 0)
  else if page = 0x11 ∧ 0x600 ≤ off ∧ off < 0x640 then
    (if off % 4 = 0 then
      let k := (off - 0x600) / 4
      BitVec.ofNat 32 (4 * k + 256 * (4 * k + 1) + 65536 * (4 * k + 2) + 16777216 * (4 * k + 3))
     else 0)
  else if page = 0x0 ∧ off = 0x100 then 0x9256
  else if page = 0x0 ∧ off = 0x104 then serialLo
  else if page = 0x0 ∧ off = 0x108 then Config.factory page 0 off
  else if page = 0x0 ∧ off = 0x10c then Config.deviceToken 0
  else if page = 0x14 ∧ off = 0x100 then BitVec.setWidth 32 Config.straps
  else if page = 0x14 ∧ off = 0x108 then BitVec.setWidth 32 Config.arbFuse
  else if page = 0x300 ∧ off = 0x208 then BitVec.ofNat 32 (rxbufReset (inst - 0x100) / 2)
  else if page = 0x300 ∧ off = 0x20c then BitVec.ofNat 32 (rxbufReset (inst - 0x100) / 8)
  else if page = 0x300 ∧ off = 0x210 then BitVec.ofNat 32 (3 * rxbufReset (inst - 0x100) / 8)
  else if page = 0x40 ∧ 0x400 ≤ off ∧ off < 0x600 then
    (let o := off % 0x20
     if o = 0x0 ∨ o = 0x10 then Config.factory page 0 off
     else if o = 0xc ∨ o = 0x1c then drpLim off
     else if o = 0x8 ∨ o = 0x18 then clampFact (Config.factory page 0 (off - 8)) (drpLim (off + 4))
     else 0)
  else if 0x100 ≤ page ∧ page ≤ 0x10f ∧ 0x400 ≤ off ∧ off < 0x480 then
    (let o := off % 0x10
     if o = 0x0 then Config.factory page inst off
     else if o = 0xc then laneLim page inst off
     else if o = 0x8 then clampFact (Config.factory page inst (off - 8)) (laneLim page inst (off + 4))
     else 0)
  else if page = 0x13 ∧ 0x140 ≤ off ∧ off < 0x180 then
    (let o := off % 0x10
     if o = 0x0 then Config.factory page 0 off
     else if o = 0xc then vplLim off
     else if o = 0x8 then clampFact (Config.factory page 0 (off - 8)) (vplLim (off + 4))
     else 0)
  else if page = 0x13 ∧ off = 0x180 then
    clampFact (Config.factory page 0 0x140) (vplLim 0x14c) &&& 0xffff
  else
    match findReg page off with
    | none => 0
    | some r => if r.acc = .rof then Config.factory page inst off else BitVec.ofNat 32 r.reset

end Sys2Proof.Machine
end

