-- ==== Sys2Proof/Machine/Ops.lean ====
section
/-! DEFINITION. The named operations over sparse tables, registers, bit fields, logs and time that every meaning uses. -/

namespace Sys2Proof.Machine

/-! ### Bit fields -/

/-- Bits [hi:lo] of a word. -/
def fld (w : Word) (hi lo : Nat) : Nat := (w.toNat / 2 ^ lo) % 2 ^ (hi + 1 - lo)

/-- Bit i of a word. -/
def bit (w : Word) (i : Nat) : Bool := w.toNat.testBit i

/-- The word with bits [hi:lo] set to v. -/
def setFld (w : Word) (hi lo : Nat) (v : Nat) : Word :=
  let n := w.toNat
  let width := hi + 1 - lo
  BitVec.ofNat 32 (n - (n / 2 ^ lo % 2 ^ width) * 2 ^ lo + (v % 2 ^ width) * 2 ^ lo)

/-- A word from a number, modulo 2^32. -/
def word (n : Nat) : Word := BitVec.ofNat 32 n

/-- 1 or 0. -/
def b2n (b : Bool) : Nat := if b then 1 else 0

/-- The two's-complement value of the low n bits of a number. -/
def signed (bits n : Nat) : Int :=
  let m := n % 2 ^ bits
  if m < 2 ^ (bits - 1) then (m : Int) else (m : Int) - (2 ^ bits : Nat)

/-- The number of bits set among the low n. -/
def popCount (n w : Nat) : Nat := ((List.range n).filter w.testBit).length

/-- The indices of the bits set among the low n, ascending. -/
def bitsOf (n w : Nat) : List Nat := (List.range n).filter w.testBit

/-- The number whose set bits are the listed indices. -/
def ofBits (l : List Nat) : Nat := l.foldl (fun a i => if a.testBit i then a else a + 2 ^ i) 0

/-- Ceiling division. -/
def cdiv (a b : Nat) : Nat := (a + b - 1) / b

/-! ### Sparse tables -/

/-- The entry at an index, if one is listed. -/
def Tbl.find {α : Type} : Tbl α → Nat → Option α
  | [], _ => none
  | (k, v) :: t, i => if k = i then some v else Tbl.find t i

/-- What an index reads as: its entry, or the default. -/
def Tbl.getD {α : Type} (t : Tbl α) (i : Nat) (dflt : α) : α := (Tbl.find t i).getD dflt

/-- Remove the entry of an index. -/
def Tbl.erase {α : Type} : Tbl α → Nat → Tbl α
  | [], _ => []
  | (k, v) :: t, i => if k = i then Tbl.erase t i else (k, v) :: Tbl.erase t i

/-- Enter a value at an index, keeping the indices rising. -/
def Tbl.insert {α : Type} : Tbl α → Nat → α → Tbl α
  | [], i, a => [(i, a)]
  | (k, v) :: t, i, a =>
    if i < k then (i, a) :: (k, v) :: t
    else if k = i then (i, a) :: t
    else (k, v) :: Tbl.insert t i a

/-- Write a value at an index: an entry equal to the default is removed, so that equal tables are equal data. -/
def Tbl.put {α : Type} [DecidableEq α] (t : Tbl α) (i : Nat) (dflt a : α) : Tbl α :=
  if a = dflt then Tbl.erase t i else Tbl.insert t i a

/-- The canonical form: indices strictly rising and no entry equal to its default. -/
def Tbl.wf {α : Type} [DecidableEq α] (dflt : Nat → α) : Tbl α → Bool
  | [] => true
  | (k, v) :: t => decide (v ≠ dflt k) && t.all (fun e => decide (k < e.1)) && Tbl.wf dflt t

/-! ### Registers -/

/-- The index of a register in the register file. -/
def regKey (page inst off : Nat) : Nat := (page * 65536 + inst) * 4096 + off

/-- The reset word of a register file index. -/
def resetOfKey (k : Nat) : Word := resetWord (k / 268435456) (k / 4096 % 65536) (k % 4096)

/-- The word a register holds for a select value (0 where it is not windowed). -/
def Dev.rd (d : Dev) (r : Reg) (inst : Nat := 0) : Word :=
  d.regs.getD (regKey r.page inst r.off) (resetWord r.page inst r.off)

/-- Write the word of a register. -/
def Dev.wr (d : Dev) (r : Reg) (inst : Nat) (w : Word) : Dev :=
  { d with regs := Tbl.put d.regs (regKey r.page inst r.off) (resetWord r.page inst r.off) w }

/-- The number a register holds. -/
def Dev.rn (d : Dev) (r : Reg) (inst : Nat := 0) : Nat := (d.rd r inst).toNat

/-- Bits [hi:lo] of a register. -/
def Dev.rf (d : Dev) (r : Reg) (inst hi lo : Nat) : Nat := fld (d.rd r inst) hi lo

/-- Bit i of a register. -/
def Dev.rb (d : Dev) (r : Reg) (inst i : Nat) : Bool := bit (d.rd r inst) i

/-- Set bits [hi:lo] of a register. -/
def Dev.wf (d : Dev) (r : Reg) (inst hi lo v : Nat) : Dev := d.wr r inst (setFld (d.rd r inst) hi lo v)

/-- Write a number to a register, modulo 2^32. -/
def Dev.wn (d : Dev) (r : Reg) (inst n : Nat) : Dev := d.wr r inst (word n)

/-- The 64-bit number in a LO and HI register pair. -/
def Dev.rd64 (d : Dev) (lo hi : Reg) (inst : Nat := 0) : Nat := d.rn lo inst + 4294967296 * d.rn hi inst

/-- Write a 64-bit number to a LO and HI register pair. -/
def Dev.wr64 (d : Dev) (lo hi : Reg) (inst n : Nat) : Dev :=
  (d.wn lo inst n).wn hi inst (n / 4294967296)

/-! ### The accessors' own registers (R32) -/

/-- The index of an accessor's own copy of a register. -/
def aKey (acc page off : Nat) : Nat := (acc * 8192 + page) * 4096 + off

/-- The index under which an accessor keeps its own copy of a windowed register: one for each instance (R49, R85). -/
def winAcc (acc inst : Nat) : Nat := acc + 128 * inst

/-- An accessor's own copy of a register. -/
def Dev.ard (d : Dev) (acc : Nat) (r : Reg) : Word := d.aregs.getD (aKey acc r.page r.off) 0

/-- Write an accessor's own copy of a register. -/
def Dev.awr (d : Dev) (acc : Nat) (r : Reg) (w : Word) : Dev :=
  { d with aregs := Tbl.put d.aregs (aKey acc r.page r.off) 0 w }

/-- The number in an accessor's own copy. -/
def Dev.arn (d : Dev) (acc : Nat) (r : Reg) : Nat := (d.ard acc r).toNat

/-- Write a number to an accessor's own copy. -/
def Dev.awn (d : Dev) (acc : Nat) (r : Reg) (n : Nat) : Dev := d.awr acc r (word n)

/-- Drop every own register of an accessor that the predicate on page and offset selects (R61). -/
def Dev.dropAcc (d : Dev) (acc : Nat) (p : Nat → Nat → Bool) : Dev :=
  { d with aregs := d.aregs.filter fun e =>
      !(e.1 / 33554432 == acc && p (e.1 / 4096 % 8192) (e.1 % 4096)) }

/-! ### The common page layout (R36) -/

def unitId (page : Nat) : Reg := ⟨page, 0x000⟩
def unitChild (page : Nat) : Reg := ⟨page, 0x01c⟩
def unitCtrl (page : Nat) : Reg := ⟨page, 0x028⟩
def evRoute (page : Nat) : Reg := ⟨page, 0x04c⟩
def stageEpoch (page : Nat) : Reg := ⟨page, 0x088⟩
def hlgReg (page : Nat) : Reg := ⟨page, 0x08c⟩
def hlgStartLo (page : Nat) : Reg := ⟨page, 0x090⟩
def hlgStartHi (page : Nat) : Reg := ⟨page, 0x094⟩
def hlgEndLo (page : Nat) : Reg := ⟨page, 0x098⟩
def hlgEndHi (page : Nat) : Reg := ⟨page, 0x09c⟩
def selReg (page : Nat) : Reg := ⟨page, 0x0c0⟩
def selStatus (page : Nat) : Reg := ⟨page, 0x0c4⟩
def talEvsel (page n : Nat) : Reg := ⟨page, 0xf08 + 16 * n⟩
def talCtrl (page : Nat) : Reg := ⟨page, 0xf80⟩

/-! ### Free values, emissions, logs -/

/-- A value the spec leaves open, and the device with the counter of such values advanced (log entry 4). -/
def Dev.fresh (d : Dev) : Word × Dev := (Config.freeWord d.free, { d with free := d.free + 1 })

/-- Bytes that the spec leaves open: free values. -/
def Dev.freshBytes (d : Dev) (n : Nat) : List Byte × Dev :=
  ((List.range n).map fun i => (Config.freeWord (d.free + i)).setWidth 8, { d with free := d.free + n })

/-- Record an emission: what the block sends to a partner, host, supply or pin. -/
def Dev.emit (d : Dev) (o : Out) : Dev := { d with out := o :: d.out }

/-- A register of a pair that must agree, as the block acts on it: the last consistent pair while the values last written
disagree (R62). -/
def Dev.pairVal (d : Dev) (r : Reg) (inst : Nat) : Word :=
  if d.staging.disagree.any fun e => e.1 == r.page && e.2.1 == inst && e.2.2 == r.off then
    d.staging.adopted.getD (regKey r.page inst r.off) (resetWord r.page inst r.off)
  else d.rd r inst

/-- Append to a log that fills to `cap` entries and then sets its overflow flag. -/
def Log.add {α : Type} (l : Log α) (cap : Nat) (a : α) : Log α :=
  if l.entries.length < cap then { l with entries := l.entries ++ [a] } else { l with overflow := true }

/-- The empty log. -/
def Log.clear {α : Type} (_ : Log α) : Log α := ⟨[], false⟩

/-- The status word of a log: entries valid and OVERFLOW in [31]. -/
def Log.status {α : Type} (l : Log α) : Word := word (l.entries.length + 2147483648 * b2n l.overflow)

/-- Replace the first element that satisfies p. -/
def updFirst {α : Type} (p : α → Bool) (f : α → α) : List α → List α
  | [] => []
  | a :: l => if p a then f a :: l else a :: updFirst p f l

/-- Remove the first element that satisfies p. -/
def dropFirst {α : Type} (p : α → Bool) : List α → List α
  | [] => []
  | a :: l => if p a then l else a :: dropFirst p l

/-- The last elements of a list, at most n. -/
def lastN {α : Type} (n : Nat) (l : List α) : List α := l.drop (l.length - n)

end Sys2Proof.Machine
end

