-- ==== Sys2Proof/Machine/Operands.lean ====
section
/-! DEFINITION. Operands: accessors and their classes (R33, R249), the select windows of each page (R49), the cluster
layout and the unit tree (R19–R22, R40–R44, R87–R89), and the queries by which every block finds owners, members and
bindings. -/

namespace Sys2Proof.Machine

/-! ### Listed instances -/

/-- The instances at which a register holds another word than its reset word, ascending, with the word. -/
def Dev.listed (d : Dev) (r : Reg) : List (Nat × Word) :=
  d.regs.filterMap fun e =>
    if e.1 / 268435456 = r.page ∧ e.1 % 4096 = r.off then some (e.1 / 4096 % 65536, e.2) else none

/-! ### Accessors (R33, R249) -/

/-- The index of an accessor. -/
def accIdx : Acc → Nat
  | .ctl s => s % 64
  | .core _ => 64
  | .smbus => 65
  | .debug => 66
  | .remote _ _ => 67

/-- FM_STABLE while FM_EN = 1. -/
def Dev.fmStable (d : Dev) : Option Nat :=
  if d.rb R.ISO_ISO_CTRL 0 0 then some (d.rf R.ISO_ISO_CTRL 0 6 1) else none

/-- The class of an accessor: 0 TENANT, 1 FM, 2 ENRUEZ_P, 3 ENRUEZ_U, 4 DEBUG. -/
def Dev.accClass (d : Dev) : Acc → Nat
  | .ctl s => if d.fmStable = some (s % 64) then 1 else 0
  | .core true => 2
  | .core false => 3
  | .smbus => 1
  | .debug => 4
  | .remote c _ => c

/-- The local stable that takes part in the yard with a yard stable number (R220). -/
def Dev.localOf (d : Dev) (ystable : Nat) : Option Nat :=
  ((d.listed R.RTE_STB_ROUTE).find? fun e => bit e.2 8 && fld e.2 7 0 == ystable).map (·.1)

/-- The stable on whose behalf a TENANT access is made: σ of its control function, or for a remote access the local
stable of the same yard number (R249). -/
def Dev.accStable (d : Dev) : Acc → Option Nat
  | .ctl s => some (s % 64)
  | .remote _ y => d.localOf y
  | _ => none

/-- Whether the views of R425 and the filters of R252 are those of one stable. -/
def Dev.tenant (d : Dev) (a : Acc) : Option Nat := if d.accClass a = 0 then d.accStable a else none

/-! ### Cluster layout (R87, R88) -/

/-- The unsplit blocks of a layout, by first lane: first lane and width. -/
def layoutBlocks (split : Nat) : List (Nat × Nat) :=
  if split.testBit 0 then
    [0, 1].flatMap fun h =>
      if split.testBit (1 + h) then
        [2 * h, 2 * h + 1].flatMap fun q =>
          if split.testBit (3 + q) then [(4 * q, 2), (4 * q + 2, 2)] else [(4 * q, 4)]
      else [(8 * h, 8)]
  else [(0, 16)]

/-- The blocks in port order: wider first, then by first lane. -/
def portBlocks (split : Nat) : List (Nat × Nat) :=
  [16, 8, 4, 2].flatMap fun w => (layoutBlocks split).filter (·.2 == w)

/-- A valid layout: every set bit's parent is set. -/
def layoutValid (split : Nat) : Bool :=
  let t := split.testBit
  (!(t 1) || t 0) && (!(t 2) || t 0) && (!(t 3) || t 1) && (!(t 4) || t 1) && (!(t 5) || t 2) && (!(t 6) || t 2)

/-- The blocks of cluster c in port order, in force. -/
def Dev.blocks (d : Dev) (c : Nat) : List (Nat × Nat) := portBlocks (d.rf (R.LAN_CL_LAYOUT c) 0 6 0)

/-- The block of a physical port: first cluster-relative lane and width; none where the port does not exist. -/
def Dev.block (d : Dev) (p : Nat) : Option (Nat × Nat) :=
  if p < 128 then (d.blocks (p / 8))[p % 8]? else none

/-- A port number that exists: in the layout, or internal. -/
def Dev.portExists (d : Dev) (p : Nat) : Bool := (d.block p).isSome || (decide (128 ≤ p) && decide (p ≤ 130))

/-- The existing ports of a cluster. -/
def Dev.clusterPorts (d : Dev) (c : Nat) : List Nat := (List.range (d.blocks c).length).map (8 * c + ·)

/-- All existing physical ports. -/
def Dev.physPorts (d : Dev) : List Nat := (List.range 16).flatMap d.clusterPorts

/-- The port whose block holds lane k of cluster c. -/
def Dev.blockPort (d : Dev) (c k : Nat) : Option Nat :=
  (d.clusterPorts c).find? fun p => match d.block p with
    | some (f, w) => decide (f ≤ k) && decide (k < f + w)
    | none => false

/-! ### Port roles and states -/

/-- ROLE of a port in force: 0 downstream, 1 upstream, 2 fabric. -/
def Dev.role (d : Dev) (p : Nat) : Nat := d.rf R.PRT0_PORT_CFG p 1 0
def Dev.isFabric (d : Dev) (p : Nat) : Bool := decide (p < 128) && d.role p == 2
def Dev.isUp (d : Dev) (p : Nat) : Bool := decide (p < 128) && d.role p == 1
def Dev.isDown (d : Dev) (p : Nat) : Bool := decide (p < 128) && d.role p == 0
/-- UNIT_CTRL.EN of a port. -/
def Dev.portEn (d : Dev) (p : Nat) : Bool := d.rb (unitCtrl 0x200) p 0
def Dev.curWidth (d : Dev) (p : Nat) : Nat := d.rf R.PRT0_LINK_STATUS p 11 7
def Dev.curRate (d : Dev) (p : Nat) : Nat := d.rf R.PRT0_LINK_STATUS p 6 4
def Dev.lstate (d : Dev) (p : Nat) : Nat := d.rf R.PRT0_LINK_STATUS p 3 0
def Dev.isCxl (d : Dev) (p : Nat) : Bool := d.rb R.PRT0_LINK_STATUS p 14
def Dev.fenced (d : Dev) (p : Nat) : Bool := d.rb R.PRT6_FLUSH_STATE p 1
def Dev.flushing (d : Dev) (p : Nat) : Bool := d.rb R.PRT6_FLUSH_STATE p 0
def Dev.portContained (d : Dev) (p : Nat) : Bool := d.rb R.PRT2_ERR_STATUS p 0
/-- LK_STATE.STATE of a fabric link. -/
def lkInst (p : Nat) : Nat := 0x100 + p
def Dev.lkState (d : Dev) (p : Nat) : Nat := d.rf R.MKL_LK_STATE (lkInst p) 2 0

/-- The bundle a fabric port is a member of. -/
def Dev.bundleOf (d : Dev) (p : Nat) : Option Nat :=
  if d.isFabric p && d.rb R.MKL_LK_CFG (lkInst p) 0 then some (d.rf R.MKL_LK_CFG (lkInst p) 4 1) else none

/-- The member ports of a bundle in ascending order; a member's place is its link slot (R164). -/
def Dev.bundlePorts (d : Dev) (b : Nat) : List Nat := d.physPorts.filter fun p => d.bundleOf p == some b

/-- The state of a physical port, with the default where nothing is kept yet. -/
def PortSt.reset : PortSt := ⟨0, 0, [], 0, none, false, false, [], none, [], 0, false, 0, false, false, false⟩
def Dev.pst (d : Dev) (p : Nat) : PortSt := d.ports.port.getD p PortSt.reset
/-- The data link of a port is up and its training complete: LINK_STATUS.DL_UP, but for a link that still rises to its rate (R96). -/
def Dev.dlUp (d : Dev) (p : Nat) : Bool := d.rb R.PRT0_LINK_STATUS p 12 && !(d.pst p).rising
def Dev.setPst (d : Dev) (p : Nat) (s : PortSt) : Dev :=
  { d with ports := { d.ports with port := Tbl.put d.ports.port p PortSt.reset s } }

/-! ### Ownership (R230–R233, R252) -/

/-- MODE and OWNER of PORT_OWN: the owner of an OWNED port. -/
def Dev.ownMode (d : Dev) (p : Nat) : Nat := if p < 128 then d.rf R.ISO_PORT_OWN (0x100 + p) 1 0 else 0
def Dev.owner (d : Dev) (p : Nat) : Option Nat :=
  if d.ownMode p = 1 then some (d.rf R.ISO_PORT_OWN (0x100 + p) 13 8) else none

/-- The slices that are enabled on a port: slice and SLICE_CFG. -/
def Dev.portSlices (d : Dev) (p : Nat) : List (Nat × Word) :=
  (d.listed R.SLC_SLICE_CFG).filter fun e => bit e.2 0 && fld e.2 8 1 == p

/-- The stable of a slice. -/
def Dev.sliceStable (d : Dev) (k : Nat) : Nat := d.rf R.SLC_SLICE_CFG k 14 9

/-- The stables that hold a slice of a port, or to which an LD of an MLD port is bound (R297), without repeats. -/
def Dev.sharers (d : Dev) (p : Nat) : List Nat :=
  let lds := if d.rf R.CXP_PORT_CXL_STATUS (0x100 + p) 1 0 = 2 then
      (List.range 16).filterMap fun ld =>
        let w := d.rd (R.CXP_LD_BIND ld) (0x100 + p)
        if bit w 0 then some (fld w 6 1) else none
    else []
  ((d.portSlices p).map (fun e => fld e.2 14 9) ++ lds).eraseDups

/-- The stables that own or share a port (R252). DEDUCED: log entry 48. -/
def Dev.portStables (d : Dev) (p : Nat) : List Nat :=
  match d.ownMode p with
  | 1 => (d.owner p).toList
  | 2 => d.sharers p
  | _ => []

/-- The local upstream port of a stable (R229). -/
def Dev.upPort (d : Dev) (s : Nat) : Option Nat :=
  ((d.listed R.ISO_PORT_OWN).find? fun e =>
    fld e.2 1 0 == 1 && fld e.2 13 8 == s && d.isUp (e.1 - 0x100) && d.portExists (e.1 - 0x100)).map (·.1 - 0x100)

/-- The ports that a stable owns alone, ascending. -/
def Dev.ownedPorts (d : Dev) (s : Nat) : List Nat :=
  (d.listed R.ISO_PORT_OWN).filterMap fun e =>
    if fld e.2 1 0 == 1 && fld e.2 13 8 == s then some (e.1 - 0x100) else none

/-- The OWNED downstream ports of a stable. -/
def Dev.ownedDown (d : Dev) (s : Nat) : List Nat := (d.ownedPorts s).filter d.isDown

/-- The SHARED ports that hold a slice of a stable. -/
def Dev.sharedPorts (d : Dev) (s : Nat) : List Nat :=
  ((d.listed R.ISO_PORT_OWN).filterMap fun e => if fld e.2 1 0 == 2 then some (e.1 - 0x100) else none).filter
    fun p => (d.sharers p).contains s

/-- The enabled slices of a stable. -/
def Dev.stableSlices (d : Dev) (s : Nat) : List Nat :=
  (d.listed R.SLC_SLICE_CFG).filterMap fun e => if bit e.2 0 && fld e.2 14 9 == s then some e.1 else none

/-- STB_CFG.EN. -/
def Dev.stbEn (d : Dev) (s : Nat) : Bool := d.rb R.ISO_STB_CFG s 0
/-- STB_ROUTE.YEN and YSTABLE. -/
def Dev.yen (d : Dev) (s : Nat) : Bool := d.rb R.RTE_STB_ROUTE s 8
def Dev.ystable (d : Dev) (s : Nat) : Nat := d.rf R.RTE_STB_ROUTE s 7 0

/-- The domain a stable is bound to (R83). -/
def Dev.domOf (d : Dev) (s : Nat) : Nat := d.rf (R.CYC_BIND (s / 8)) 0 (4 * (s % 8) + 2) (4 * (s % 8))

/-- The stables bound to a domain. -/
def Dev.boundTo (d : Dev) (dom : Nat) : List Nat := (List.range 64).filter fun s => d.domOf s == dom

/-- The completion timeout that a request issued now gets, in ns (R390). -/
def Dev.ctoNs (d : Dev) : Nat := 1000 * d.rf R.SAF_CTO_CFG 0 21 0

/-- The stable that owns a DMA channel (R511). -/
def Dev.chOwner (d : Dev) (c : Nat) : Option Nat :=
  if d.rb R.DMA_CH_OWN c 0 then some (d.rf R.DMA_CH_OWN c 6 1) else none

/-- An egress port is a member of σ (R233). -/
def Dev.member (d : Dev) (s p : Nat) : Bool :=
  if 128 ≤ p then decide (p ≤ 130)
  else if d.isFabric p then d.yen s
  else (d.portStables p).contains s

/-! ### The yard (R24, R28, R474) -/

def Dev.yardEn (d : Dev) : Bool := d.rb R.DEV_YARD_CFG 0 0
/-- The device's own member number, 0 where it is no yard member. -/
def Dev.me (d : Dev) : Nat := if d.yardEn then d.rf R.DEV_YARD_CFG 0 11 9 else 0
def Dev.headNo (d : Dev) : Nat := d.rf R.DEV_YARD_CFG 0 14 12
def Dev.isHead (d : Dev) : Bool := d.yardEn && d.headNo == d.rf R.DEV_YARD_CFG 0 11 9
/-- A member declared lost. -/
def Dev.isLost (d : Dev) (m : Nat) : Bool := d.yard.lost.contains m
/-- The members that EXPECT lists, or that have been reached. -/
def Dev.reach (d : Dev) : Nat := d.rf R.MKL_MKL_YARD 0 7 0

/-! ### Units (R19–R22, R40–R44) -/

/-- The units of the tree, and the block headers. -/
inductive Unit where
  | lane (n : Nat) | port (n : Nat) | bundle (b : Nat) | cluster (c : Nat) | device | yard | sub (s : Nat)
  | block (page : Nat)
  | remoteDev (m : Nat)
  deriving DecidableEq, Repr

/-- Page and select value of a unit's header (R43). Block headers use the select value 0xFFFE of the register file. -/
def Unit.place : Unit → Nat × Nat
  | .lane n => (0x100 + n / 16, n % 16)
  | .cluster c => (0x100 + c, 0xffff)
  | .port n => (0x200, n)
  | .bundle b => (0x300, b)
  | .device => (0x0, 0xffff)
  | .remoteDev _ => (0x0, 0xffff)
  | .yard => (0x0, 0xfffe)
  | .sub s => (0x0, 0xfff0 + s)
  | .block page => (page, if page = 0x300 then 0xffff else 0xfffe)

/-- The null reference. -/
def nullRef : Word := 0xffffffff

/-- The reference of a unit (R40). -/
def Dev.unitRef (d : Dev) (u : Unit) : Word :=
  let m := match u with
    | .remoteDev m => m
    | .yard | .sub _ => if d.yardEn then d.headNo else 0
    | _ => d.me
  word (m * 536870912 + u.place.1 * 65536 + u.place.2)

/-- The sub-yard number of a member, as the last yard commit made it. -/
def Dev.subOf (d : Dev) (m : Nat) : Nat := d.yard.subs / 4 ^ m % 4

/-- The yard's members as this device knows them now: itself and those reached or expected. -/
def Dev.yardMembers (d : Dev) : List Nat :=
  (List.range 8).filter fun m => m == d.me || (d.rf R.DEV_YARD_CFG 0 22 15).testBit m || d.reach.testBit m

/-- The members of the unit tree: those of the last yard commit, since the tree changes at a commit only (R21); none before the
first one. DEDUCED: log entry 78. -/
def Dev.members (d : Dev) : List Nat := bitsOf 8 d.yard.tree

/-- Sub-yard units exist while the members do not all carry one number (R28). -/
def Dev.hasSubs (d : Dev) : Bool := (d.members.map d.subOf).eraseDups.length != 1

def Dev.devUnit (d : Dev) (m : Nat) : Unit := if m = d.me then .device else .remoteDev m

/-- The children of a unit, in order (R19, R28, R89). -/
def Dev.children (d : Dev) : Unit → List Unit
  | .lane _ | .block _ | .remoteDev _ => []
  | .port n =>
    match d.block n with
    | some (f, w) => if d.portEn n then (List.range w).map fun i => .lane (16 * (n / 8) + f + i) else []
    | none => []
  | .bundle b => (d.bundlePorts b).map .port
  | .cluster c =>
    ((d.clusterPorts c).filter fun p => (d.bundleOf p).isNone).map Unit.port ++
    ((List.range 16).filter fun k => match d.blockPort c k with
        | some p => !d.portEn p
        | none => true).map fun k => .lane (16 * c + k)
  | .device =>
    (List.range 16).map Unit.cluster ++
    ((List.range 16).filter fun b => !(d.bundlePorts b).isEmpty).map Unit.bundle ++
    [.port 128, .port 129, .port 130]
  | .yard =>
    if d.hasSubs then ((List.range 4).filter fun s => d.members.any fun m => d.subOf m == s).map Unit.sub
    else d.members.map d.devUnit
  | .sub s => (d.members.filter fun m => d.subOf m == s).map d.devUnit

/-- The parent of a unit. -/
def Dev.parent (d : Dev) : Unit → Option Unit
  | .lane n =>
    match d.blockPort (n / 16) (n % 16) with
    | some p => if d.portEn p then some (.port p) else some (.cluster (n / 16))
    | none => some (.cluster (n / 16))
  | .port n =>
    if 128 ≤ n then some .device
    else match d.bundleOf n with
      | some b => some (.bundle b)
      | none => some (.cluster (n / 8))
  | .bundle _ | .cluster _ => some .device
  | .device => if d.yardEn && d.yard.tree != 0 then (if d.hasSubs then some (.sub (d.subOf d.me)) else some .yard) else none
  | .remoteDev m => if d.hasSubs then some (.sub (d.subOf m)) else some .yard
  | .sub _ => some .yard
  | .yard => none
  | .block _ => none

/-- A unit and all units below it. -/
def Dev.subtree (d : Dev) (u : Unit) : List Unit :=
  let l1 := d.children u
  let l2 := l1.flatMap d.children
  let l3 := l2.flatMap d.children
  let l4 := l3.flatMap d.children
  let l5 := l4.flatMap d.children
  u :: (l1 ++ l2 ++ l3 ++ l4 ++ l5)

/-- The units above a unit. -/
def Dev.ancestors (d : Dev) (u : Unit) : List Unit :=
  let step (o : Option Unit) := o.bind d.parent
  let a1 := d.parent u
  let a2 := step a1
  let a3 := step a2
  let a4 := step a3
  let a5 := step a4
  [a1, a2, a3, a4, a5].filterMap id

/-- QUIESCE of a port, or of a unit above it, stops the acceptance of new TLPs at the port's ingress (R46). -/
def Dev.quiesced (d : Dev) (p : Nat) : Bool :=
  (Unit.port p :: d.ancestors (.port p)).any fun u => d.rb (unitCtrl u.place.1) u.place.2 1

/-- The unit whose counters an instance of a page counts in: the unit of the header window, the port of a fabric link, or the
page's block. -/
def unitAt (page inst : Nat) : Unit :=
  if page = 0 then (if inst = 0xfffe then .yard else if 0xfff0 ≤ inst ∧ inst < 0xfff4 then .sub (inst - 0xfff0) else .device)
  else if 0x100 ≤ page ∧ page ≤ 0x10f then
    (if inst < 16 then .lane (16 * (page - 0x100) + inst) else .cluster (page - 0x100))
  else if page = 0x200 then (if inst < 131 then .port inst else .block page)
  else if page = 0x300 then
    (if inst < 16 then .bundle inst else if 0x100 ≤ inst ∧ inst < 0x180 then .port (inst - 0x100) else .block page)
  else .block page

/-! ### Selects and windows (R49–R51) -/

/-- What a select value names on a page. -/
inductive Kind where
  | none | domain | lane | cluster | port | bundle | link | group | stable | slice | mcast | member | shaper | pol
  | channel | window | sem | idec | slot | pin | device | yardU | subU | blockHdr
  deriving DecidableEq, Repr

def inR (lo n v : Nat) : Bool := decide (lo ≤ v) && decide (v < lo + n)

/-- The kind of instance a select value names on a page; `none` out of range (R49 and the register sections). -/
def selKind (page v : Nat) : Kind :=
  if page = 0x0 then (if v = 0xffff then .device else if v = 0xfffe then .yardU else if inR 0xfff0 4 v then .subU else .none)
  else if page = 0x11 then (if v < 64 then .stable else .none)
  else if page = 0x12 then (if v < 128 then .port else if inR 0x100 256 v then .slot else .none)
  else if page = 0x13 then (if v < 64 then .stable else .none)
  else if page = 0x16 then (if v < 64 then .pin else .none)
  else if page = 0x20 then (if v < 8 then .domain else .none)
  else if page = 0x40 then (if v < 128 then .port else .none)
  else if 0x100 ≤ page ∧ page ≤ 0x10f then (if v < 16 then .lane else if v = 0xffff then .cluster else .none)
  else if 0x200 ≤ page ∧ page ≤ 0x207 then (if v < 131 then .port else .none)
  else if page = 0x300 then (if v < 16 then .bundle else if inR 0x100 128 v then .link else if v = 0xffff then .blockHdr else .none)
  else if page = 0x400 then (if v < 131 then .port else if inR 0x100 64 v then .mcast else if inR 0x200 64 v then .stable else .none)
  else if page = 0x440 then (if v < 131 then .port else if inR 0x200 64 v then .stable else .none)
  else if page = 0x500 then (if v < 64 then .stable else if inR 0x100 8 v then .member else .none)
  else if page = 0x600 then (if v < 64 then .stable else if inR 0x100 131 v then .port else .none)
  else if page = 0x700 then (if v < 131 then .port else .none)
  else if page = 0x780 then (if v < 1024 then .slice else if inR 0x1000 64 v then .group else .none)
  else if page = 0x800 then (if v < 64 then .stable else if inR 0x100 131 v then .port else if inR 0x200 16 v then .idec else .none)
  else if page = 0x900 then (if v < 256 then .window else if inR 0x100 64 v then .sem else .none)
  else if page = 0xa00 then (if v < 64 then .channel else .none)
  else if page = 0xb00 then
    (if v < 131 then .port else if inR 0x100 64 v then .stable else if inR 0x1000 1024 v then .shaper
     else if inR 0x2000 64 v then .pol else .none)
  else if page = 0xc00 then (if v < 64 then .stable else .none)
  else .none

/-- The number within its kind that a select value names. -/
def selIdx (page v : Nat) : Nat :=
  match selKind page v with
  | .slot | .link | .mcast | .member | .sem => v - 0x100
  | .idec => v - 0x200
  | .port => if page = 0x600 ∨ page = 0x800 then v - 0x100 else v
  | .stable => if page = 0x400 ∨ page = 0x440 then v - 0x200 else if page = 0xb00 then v - 0x100 else v
  | .group | .shaper => v - 0x1000
  | .pol => v - 0x2000
  | .subU => v - 0xfff0
  | _ => v

/-- SEL_STATUS.NINST of a page; 0 where it has no select. Page 0x0000 ranges over a number that the spec leaves open. -/
def ninst (page : Nat) : Nat :=
  if page = 0x0 then (Config.factory 0 0 0xc4).toNat % 65536
  else if page = 0x11 ∨ page = 0x13 ∨ page = 0x16 ∨ page = 0xa00 ∨ page = 0xc00 then 64
  else if page = 0x12 then 384 else if page = 0x20 then 8 else if page = 0x40 then 128
  else if 0x100 ≤ page ∧ page ≤ 0x10f then 16 else if 0x200 ≤ page ∧ page ≤ 0x207 then 131
  else if page = 0x300 then 144 else if page = 0x400 then 259 else if page = 0x440 then 195
  else if page = 0x500 then 72 else if page = 0x600 then 195 else if page = 0x700 then 131
  else if page = 0x780 then 1088 else if page = 0x800 then 211 else if page = 0x900 then 320
  else if page = 0xb00 then 1283 else 0

/-- The kind of instance that windows an offset of a page; `none` where the offset is not windowed. -/
def winKind (page off : Nat) : Kind :=
  let h := off / 256
  if off < 0x100 ∨ 0xf00 ≤ off then .none
  else if page = 0x11 then (if h = 6 then .stable else .none)
  else if page = 0x12 then (if h = 2 then .port else if h = 3 then .slot else .none)
  else if page = 0x13 then (if h = 2 then .stable else .none)
  else if page = 0x16 then (if off ≤ 0x108 then .pin else .none)
  else if page = 0x20 then (if off ≤ 0x194 then .domain else .none)
  else if page = 0x40 then (if off ≤ 0x124 then .port else .none)
  else if 0x100 ≤ page ∧ page ≤ 0x10f then (if 0x200 ≤ off ∧ off < 0x800 then .lane else .none)
  else if page = 0x200 then .port
  else if page = 0x201 then (if off < 0x180 then .port else .none)
  else if page = 0x202 then (if off < 0x200 then .port else .none)
  else if page = 0x203 then (if off < 0x110 ∨ 0x800 ≤ off then .port else .none)
  else if page = 0x204 ∨ page = 0x205 then (if off < 0x110 then .port else .none)
  else if page = 0x206 then .port
  else if page = 0x300 then (if h = 1 then .bundle else if h = 2 then .link else .none)
  else if page = 0x400 then (if h = 2 then .port else if h = 3 then .mcast else if h = 4 then .stable else .none)
  else if page = 0x440 then (if h = 2 then .port else if h = 3 then .stable else .none)
  else if page = 0x500 then (if h = 2 then .stable else if h = 3 then .member else .none)
  else if page = 0x600 then (if h = 2 then .stable else if h = 3 then .port else .none)
  else if page = 0x700 then (if h = 2 then .port else .none)
  else if page = 0x780 then (if h = 2 then .slice else if h = 3 then .group else .none)
  else if page = 0x800 then (if h = 2 then .stable else if h = 3 then .port else if h = 4 then .idec else .none)
  else if page = 0x900 then (if h = 2 then .window else if h = 3 then .sem else .none)
  else if page = 0xa00 then (if h = 2 then .channel else .none)
  else if page = 0xb00 then
    (if h = 2 then .port else if h = 3 then .stable else if h = 4 then .shaper else if h = 5 then .pol else .none)
  else if page = 0xc00 then (if h = 2 then .stable else .none)
  else .none

/-- The index under which an accessor keeps its own copy of a register at an offset, of an instance where it is windowed. -/
def accOf (acc page off inst : Nat) : Nat := if winKind page off = .none then acc else winAcc acc inst

/-- The select of an accessor on a page; the PRT pages share one (R49). -/
def selPage (page : Nat) : Nat := if 0x200 ≤ page ∧ page ≤ 0x207 then 0x200 else page
def Dev.sel (d : Dev) (acc page : Nat) : Nat := d.arn acc (selReg (selPage page)) % 65536

/-- The owner of bridge window w (R312) while it is enabled. DEDUCED, log entry 5: a window of SIZE 0 has no owner. -/
def Dev.winOwner (d : Dev) (w : Nat) : Option Nat :=
  if d.rd R.BRG_WIN_SIZE w ≠ 0 then some (d.rf R.BRG_WIN_CFG w 5 0) else none

/-- Ownership of a selected instance by stable σ (R252): 2 as PERM, 1 read only, 0 not owned. -/
def Dev.ownLevel (d : Dev) (page v s : Nat) : Nat :=
  let i := selIdx page v
  match selKind page v with
  | .port | .link =>
    if 128 ≤ i then 0
    else if d.owner i = some s then 2
    else if d.ownMode i = 2 && (d.sharers i).contains s then 1 else 0
  | .lane =>
    match d.blockPort (page - 0x100) i with
    | some p => if d.owner p = some s then 2 else if d.ownMode p = 2 && (d.sharers p).contains s then 1 else 0
    | none => 0
  | .stable => if page = 0x800 then (if i = s then 2 else 0) else if i = s then 2 else 0
  | .channel => if d.chOwner i = some s then 2 else 0
  | .window => if d.winOwner i = some s then 2 else 0
  | .domain => if d.domOf s = i then 1 else 0
  | .mcast => if d.rb R.SWC_MC_CFG v 0 && d.rf R.SWC_MC_CFG v 6 1 == s then 2 else 0
  | .slot => if d.rb R.TAL_TS_OWN v 6 && d.rf R.TAL_TS_OWN v 5 0 == s then 2 else 0
  | .pin => if d.rb R.SBD_SB_OWN v 6 && d.rf R.SBD_SB_OWN v 5 0 == s then 2 else 0
  | .device | .yardU => 1
  | _ => 0

/-- A select value in range: it names an instance that exists. -/
def Dev.selInRange (d : Dev) (page v : Nat) : Bool :=
  match selKind page v with
  | .none => false
  | .port => if page = 0x12 ∨ page = 0x40 then (d.block (selIdx page v)).isSome else d.portExists (selIdx page v)
  | .link => (d.block (selIdx page v)).isSome
  | .yardU => d.isHead
  | .subU => d.isHead && d.hasSubs && d.members.any fun m => d.subOf m == selIdx page v
  | _ => true

/-- SEL_STATUS.INVALID of an accessor on a page (R50, R52). -/
def Dev.selInvalid (d : Dev) (a : Acc) (page : Nat) : Bool :=
  let acc := accIdx a
  let v := d.sel acc page
  let w := d.ard acc (selReg (selPage page))
  let ms := page == 0 && bit w 19 && !(d.isHead || fld w 18 16 == d.me)
  (page == 0 || decide (ninst page ≠ 0)) &&
  (ms || !d.selInRange page v ||
    (match d.tenant a with
     | some s => d.ownLevel page v s == 0
     | none => d.accClass a == 0))

end Sys2Proof.Machine
end

