-- ==== Sys2Proof/Machine/Flags.lean ====
section
/-! DEFINITION. Events (R422–R433), tally counters (R434–R442) and the FAULT_N pin (R428): what a raise sets, what a
delivery does, and what an increment of a count register counts. -/

namespace Sys2Proof.Machine

/-! ### Sources -/

/-- The severity of an event source: 0 info, 1 warn, 2 error, 3 fatal; none for a source that no block defines. -/
def evSev (n : Nat) : Option Nat :=
  let tab (base : Nat) (l : List Nat) := l[n - base]?
  if n < 0x010 then tab 0 [0, 1, 2, 2, 0, 0, 1, 1]
  else if n < 0x018 then tab 0x010 [1, 1]
  else if n < 0x020 then tab 0x018 [1, 0, 1, 1]
  else if n < 0x040 then tab 0x020 [0, 0, 0, 0, 1, 1, 1, 2, 1]
  else if n < 0x080 then [0, 1, 2, 0, 0, 1, 0, 1][n % 8]?
  else if n < 0x0c0 then [1, 2, 1, 0][n % 4]?
  else if n < 0x100 then tab 0x0c0 [1, 1, 0]
  else if n < 0x200 then some 1
  else if n < 0x400 then [0, 2, 1, 0][n % 4]?
  else if n < 0x460 then [1, 0, 2, 1, 1, 2][(n - 0x400) % 6]?
  else if n < 0x468 then some 2
  else if n < 0x480 then none
  else if n < 0x488 then tab 0x480 [1, 0, 2, 0, 1, 1, 2, 0]
  else if n < 0x4c0 then none
  else if n < 0x500 then some 1
  else if n < 0x540 then tab 0x500 [1, 2, 1, 0, 1, 2]
  else if n < 0x5c0 then [1, 0][n % 2]?
  else if n < 0x600 then tab 0x5c0 [1, 1, 2, 2, 0, 1, 1, 0, 0, 1, 1, 2]
  else if n < 0x680 then tab 0x600 [0, 0, 1, 1, 2, 2, 1, 2, 0, 1]
  else if n < 0x6c0 then some 2
  else if n < 0x740 then [0, 2][n % 2]?
  else if n < 0x780 then tab 0x740 [1, 0, 0, 1]
  else if n < 0x7c0 then tab 0x780 [1, 2, 2, 1, 2, 2, 2, 2, 3, 2, 2, 2, 1, 2, 1, 1, 2, 0, 2, 2, 1, 0]
  else if n < 0x800 then some 2
  else none

/-- The home page of a source: the page whose EV_ROUTE governs it (R425, R427). -/
def evHome (n : Nat) : Nat :=
  if n < 0x010 then 0x0 else if n < 0x018 then 0x11 else if n < 0x020 then 0x10 else if n < 0x040 then 0x13
  else if n < 0x080 then 0x20 else if n < 0x100 then 0x40 else if n < 0x200 then 0x100 + (n - 0x100) / 16
  else if n < 0x400 then 0x200 else if n < 0x480 then 0x300 else if n < 0x500 then 0x400 else if n < 0x540 then 0x500
  else if n < 0x5c0 then 0x600 else if n < 0x600 then 0x700 else if n < 0x680 then 0x800 else if n < 0x6c0 then 0x900
  else if n < 0x740 then 0xa00 else if n < 0x780 then 0xb00 else 0xc00

/-- The page whose EV_ROUTE register a page's EV_ROUTE is (R425). -/
def routePage (page : Nat) : Nat :=
  if page = 0x14 then 0x0 else if page = 0x12 then 0x11 else if page = 0x15 ∨ page = 0x16 then 0x10
  else if 0x200 ≤ page ∧ page ≤ 0x207 then 0x200 else if page = 0x440 then 0x400 else if page = 0x780 then 0x700 else page

/-- The source that bit b of the event block of a page addresses under a select value, defined or not (R425). DESIGN CHOICE: log entry 81. -/
def Dev.viewBit (d : Dev) (page v b : Nat) : Option Nat :=
  let one (lim base : Nat) := if b < lim then some (base + b) else none
  if page = 0x0 ∨ page = 0x14 then one 16 0
    else if page = 0x11 ∨ page = 0x12 then one 8 0x010
    else if page = 0x10 ∨ page = 0x15 ∨ page = 0x16 then one 8 0x018
    else if page = 0x13 then one 32 0x020
    else if page = 0x20 then (if v < 8 then one 8 (0x040 + 8 * v) else none)
    else if page = 0x40 then
      (if b < 4 then (if v < 128 then some (0x080 + 4 * (v / 8) + b) else none)
       else if inR 16 3 b then some (0x0c0 + b - 16) else none)
    else if 0x100 ≤ page ∧ page ≤ 0x10f then one 16 (0x100 + 16 * (page - 0x100))
    else if 0x200 ≤ page ∧ page ≤ 0x207 then (if v < 128 then one 4 (0x200 + 4 * v) else none)
    else if page = 0x300 then
      (if b < 6 then
        (if v < 16 then some (0x400 + 6 * v + b)
         else if inR 0x100 128 v then
          (match d.bundleOf (v - 0x100) with
           | some k => some (0x400 + 6 * k + b)
           | none => none)
         else none)
       else if inR 16 8 b then some (0x460 + b - 16) else none)
    else if page = 0x400 ∨ page = 0x440 then
      (if b < 8 then some (0x480 + b) else if b = 8 ∧ page = 0x400 ∧ inR 0x100 64 v then some (0x4c0 + v - 0x100) else none)
    else if page = 0x500 then one 6 0x500
    else if page = 0x600 then (if v < 64 then one 2 (0x540 + 2 * v) else none)
    else if page = 0x700 ∨ page = 0x780 then one 12 0x5c0
    else if page = 0x800 then one 10 0x600
    else if page = 0x900 then
      (if b = 0 ∧ v < 256 then some (0x680 + d.rf R.BRG_WIN_CFG v 5 0) else none)
    else if page = 0xa00 then (if v < 64 then one 2 (0x6c0 + 2 * v) else none)
    else if page = 0xb00 then one 4 0x740
    else if page = 0xc00 then (if b < 22 then some (0x780 + b) else if b = 31 ∧ v < 64 then some (0x7c0 + v) else none)
    else none

/-- The defined source that bit b of the event block of a page addresses. -/
def Dev.viewSrc (d : Dev) (page v b : Nat) : Option Nat := (d.viewBit page v b).filter fun n => (evSev n).isSome

/-- The stables that own a source at a raise, first owner first (R423). `named` gives the owner that the raise itself
names (LD_BOUND, HDM_MISS, MEMDEV_FAILED and the like). -/
def Dev.evOwners (d : Dev) (n : Nat) (named : List Nat) : List Nat :=
  if 0x040 ≤ n ∧ n < 0x080 then d.boundTo ((n - 0x040) / 8)
  else if 0x100 ≤ n ∧ n < 0x200 then
    match d.blockPort ((n - 0x100) / 16) (n % 16) with
    | some p => d.portStables p
    | none => []
  else if 0x200 ≤ n ∧ n < 0x400 then d.portStables ((n - 0x200) / 4)
  else if 0x4c0 ≤ n ∧ n < 0x500 then [d.rf R.SWC_MC_CFG (0x100 + n - 0x4c0) 6 1]
  else if 0x540 ≤ n ∧ n < 0x5c0 then [(n - 0x540) / 2]
  else if 0x680 ≤ n ∧ n < 0x6c0 then [n - 0x680]
  else if 0x6c0 ≤ n ∧ n < 0x740 then (d.chOwner ((n - 0x6c0) / 2)).toList
  else if 0x7c0 ≤ n then [n - 0x7c0]
  else if n = 0x5ca ∨ n = 0x5cb ∨ (0x600 ≤ n ∧ n ≤ 0x603) ∨ n = 0x605 ∨ n = 0x607 then named
  else []

/-! ### Cause bits -/

def evKey (arr n : Nat) : Nat := arr * 2048 + n

def Dev.cause (d : Dev) (arr n : Nat) : Bool := d.ev.cause.getD (evKey arr n) false
def Dev.unmasked (d : Dev) (arr n : Nat) : Bool := d.ev.unmask.getD (evKey arr n) false
/-- A source is pending in an array (R426). -/
def Dev.evPending (d : Dev) (arr n : Nat) : Bool := d.cause arr n && d.unmasked arr n

/-- Bit [4s+k] of the EV_ROUTE that governs a source of severity s. -/
def Dev.routed (d : Dev) (n k : Nat) : Bool :=
  match evSev n with
  | some s => d.rb (evRoute (evHome n)) 0 (4 * s + k)
  | none => false

/-! ### FAULT_N (R428, R385) -/

/-- The device is in fail-safe. -/
def Dev.failsafe (d : Dev) : Bool := d.rf R.SAF_SAF_STATE 0 1 0 == 2

/-- The sources pending in the management array with FAULT set for their severity, ascending. -/
def Dev.faultSrcs (d : Dev) : List Nat :=
  d.ev.cause.filterMap fun e =>
    if e.1 / 2048 = 64 ∧ d.evPending 64 (e.1 % 2048) ∧ d.routed (e.1 % 2048) 2 then some (e.1 % 2048) else none

/-- FAULT_N is asserted under fail-safe, under the isolation clamps (R502), or while a source with FAULT set is pending in the management
array. -/
def Dev.faultCond (d : Dev) : Bool := d.failsafe || d.pwr.clamped || !d.faultSrcs.isEmpty

/-- Drive FAULT_N as its condition says, recording the source that first asserted it (R444). DEDUCED: log entry 68. -/
def Dev.settle (d : Dev) : Dev :=
  let c := d.faultCond
  if c = d.ev.faultPin then d
  else
    let src := if c then (if d.failsafe then 0x788 else d.faultSrcs.headD d.ev.faultSrc) else d.ev.faultSrc
    { d with ev := { d.ev with faultPin := c, faultSrc := src }, out := .pin .faultN c :: d.out }

/-! ### Delivery -/

/-- Append a record to a queue of 256; false where it found the queue full. -/
def EvQueue.push (q : EvQueue) (r : EvRec) : EvQueue × Bool :=
  if q.recs.length < 256 then ({ q with recs := q.recs ++ [r] }, true) else ({ q with overflow := true }, false)

/-- Add 1 to REPEAT of the newest unread record of a source, saturating at 2,047 (R430). -/
def EvQueue.repeat (q : EvQueue) (n : Nat) : EvQueue :=
  { q with recs := (updFirst (fun r => r.src == n)
      (fun r => { r with reps := if r.reps < 2047 then r.reps + 1 else r.reps }) q.recs.reverse).reverse }

/-- Set a pending MSI-X vector of a control function (R407, R428). -/
def Dev.pbaSet (d : Dev) (s v : Nat) : Dev :=
  if d.ev.pba.contains (s, v) then d else { d with ev := { d.ev with pba := d.ev.pba ++ [(s, v)] } }

/-- Byte i of SVEC (R444): the vector of word w of a stable. -/
def Dev.svec (d : Dev) (s w : Nat) : Nat := d.rf (R.EVT_SVEC (w / 4)) s (8 * (w % 4) + 5) (8 * (w % 4))

/-- The NOTIFY message of R478, sent when the unread count of the FM queue rises from 0. -/
def Dev.notify (d : Dev) : Dev :=
  let eid := d.rf R.DEV_MCTP_NOTIFY 0 7 0
  if eid = 0 then d
  else { d with ev := { d.ev with notifyAt := d.now + 1 }
                out := .msg 0 0x10 [eid, d.ev.fmq.recs.length] :: d.out }

/-- One storm-guard step (R432): whether the delivery is made, the guard's new state, and whether it acts now. -/
def Dev.stormStep (d : Dev) (arr n : Nat) : Bool × Storm × Bool :=
  let th := d.rf R.EVT_EVT_COAL 0 23 16
  let quiet := d.rf R.EVT_EVT_COAL 0 31 24
  let ms := d.now / 1000000
  let g := d.ev.storm.getD (evKey arr n) ⟨0, 0, 0⟩
  let cnt := if g.ms = ms then g.n else 0
  if g.quietEnd ≠ 0 ∧ d.now < g.quietEnd then (false, g, false)
  else if th ≠ 0 ∧ th ≤ cnt then (false, ⟨ms, cnt, (ms + 1 + quiet) * 1000000⟩, true)
  else (true, ⟨ms, cnt + 1, 0⟩, false)

/-- Set a vector of the FM stable's control function, where there is one (R428). -/
def Dev.fmVector (d : Dev) (v : Nat) : Dev :=
  match d.fmStable with
  | some s => d.pbaSet s v
  | none => d

/-- A record to the FM queue: NOTIFY where it was empty, and the vector of the FM stable's control function; whether it was full. -/
def Dev.pushFm (d : Dev) (n : Nat) (r : EvRec) : Dev × Bool :=
  let p := d.ev.fmq.push r
  let d1 : Dev := { d with ev := { d.ev with fmq := p.1 } }
  let d2 := if p.2 ∧ d.ev.fmq.recs.length = 0 then d1.notify else d1
  (d2.fmVector (4 * (n / 32) + r.sev), !p.2)

/-- A record to the Enruez queue, with the core's event interrupt; whether it was full. -/
def Dev.pushEnq (d : Dev) (r : EvRec) : Dev × Bool :=
  let p := d.ev.enq.push r
  ({ d with ev := { d.ev with enq := p.1, coreIrq := true } }, !p.2)

/-- A source is recorded in the FM queue: EV_ROUTE, or, of TRAP, TRAP_CFG.DEST (R287). DEDUCED: log entry 47. -/
def Dev.toFm (d : Dev) (n : Nat) : Bool := if n = 0x5c8 then !d.rb R.SLC_TRAP_CFG 0 0 else d.routed n 0

/-- A source is recorded in the Enruez queue. DEDUCED: log entry 47. -/
def Dev.toEnruez (d : Dev) (n : Nat) : Bool := if n = 0x5c8 then d.rb R.SLC_TRAP_CFG 0 0 else d.routed n 1

/-- The deliveries of a source in the management array: records to the queues that EV_ROUTE names; TRAP goes to the
destination in TRAP_CFG.DEST (R287). The result lists an EVQ_OVERFLOW for each queue that was full (R433). -/
def Dev.deliverMgmt (d : Dev) (n : Nat) (i : RaiseInfo) : Dev × List (Nat × Word) :=
  let r : EvRec := ⟨n, (evSev n).getD 0, i.forced, i.stable, 0, i.detail, i.time⟩
  let f := if d.toFm n then d.pushFm n r else (d, false)
  let e := if f.1.toEnruez n then f.1.pushEnq r else (f.1, false)
  (e.1, (if f.2 then [(0x011, 0)] else []) ++ (if e.2 then [(0x011, 0)] else []))

/-- The delivery of a source in a stable's copy (R428), unless EV_ROUTE blocks it. -/
def Dev.deliverStable (d : Dev) (s n : Nat) : Dev := if d.routed n 3 then d else d.pbaSet s (d.svec s (n / 32))

/-- Deliver a pending source in an array, subject to the storm guard, without raising the controller's own events; the
result lists the controller events that follow: EV_STORM with its DETAIL, EVQ_OVERFLOW. -/
def Dev.deliver (d : Dev) (arr n : Nat) : Dev × List (Nat × Word) :=
  let i := d.ev.info.getD n ⟨0, 0, none, false⟩
  let (go, g, acts) := d.stormStep arr n
  let d := { d with ev := { d.ev with storm := Tbl.put d.ev.storm (evKey arr n) ⟨0, 0, 0⟩ g } }
  let stormEv := if acts then [(0x010, word (n + (if arr < 64 then 2048 * arr + 131072 else 0)))] else []
  if !go then (d, stormEv)
  else if arr = 64 then
    let (d, overflow) := d.deliverMgmt n i
    (d, stormEv ++ overflow)
  else (d.deliverStable arr n, stormEv)

/-! ### Tallies -/

/-- Whether the counters of an instance of a page are frozen by TAL_FREEZE of its unit or a unit above (R434). -/
def Dev.talFrozen (d : Dev) (page inst : Nat) : Bool :=
  let u := unitAt page inst
  (u :: d.ancestors u).any fun x => d.rb (unitCtrl x.place.1) x.place.2 3

/-- A source code counts nothing for an instance of a page (R435). -/
def Dev.srcBad (d : Dev) (page inst src : Nat) : Bool :=
  let all := inst == 0xffff
  if src = 0 ∨ src = 1 ∨ src = 2 then false
  else if src = 3 then !(all || (List.range 32).any fun b => (d.viewSrc page inst b).isSome)
  else if 0x10 ≤ src ∧ src ≤ 0x18 then !(page == 0x200 && (all || decide (inst < 128)))
  else if (countRegs page).contains (4 * src) then
    (if winKind page (4 * src) = .none then !(all || inst == 0) else !(all || selKind page inst == winKind page (4 * src)))
  else true

/-- BAD of a tally slot (R440, R441): its reference names a unit of another member, its source counts nothing there, or it
belongs to a stable that may not count the unit. The null reference counts nothing and is not BAD. -/
def Dev.tsBad (d : Dev) (slot : Nat) : Bool :=
  let ref := d.rd R.TAL_TS_UNIT (0x100 + slot)
  let own := d.rd R.TAL_TS_OWN (0x100 + slot)
  let page := fld ref 28 16
  let inst := fld ref 15 0
  let s := fld own 5 0
  let en := if s < 32 then d.rb R.TAL_TAL_USER_EN0 0 s else d.rb R.TAL_TAL_USER_EN1 0 (s - 32)
  ref != nullRef && (fld ref 31 29 != d.me || !pagePopulated page ||
    (!(Unit.place (unitAt page inst) == (page, inst)) && inst != 0xffff && unitAt page inst != .block page) ||
    (let src := d.rf R.TAL_TS_SEL (0x100 + slot) 9 0
     d.srcBad page inst src && !(src == 3 || (countRegs page).contains (4 * src))) ||
    (bit own 6 && (!en || d.ownLevel page inst s == 0)))

/-- A unit of this device that has other members below it: the yard, or a sub-yard. -/
def Dev.farUnit (d : Dev) (page inst : Nat) : Bool :=
  page == 0 && (d.subtree (unitAt page inst)).any fun u => match u with | .remoteDev _ => true | _ => false

/-- What a count of a unit reads as: of a yard or sub-yard it is the sum over its members (R22, R45), and what the others
contribute reaches this device in no message of the spec: a free value (log entry 50). -/
def Dev.farCount (d : Dev) (page inst n : Nat) : Nat × Dev :=
  if d.farUnit page inst then
    let (x, d) := d.fresh
    let (y, d) := d.fresh
    ((n + x.toNat + 4294967296 * y.toNat) % 281474976710656, d)
  else (n, d)

/-- The value of a tally slot, with what other members contribute. -/
def Dev.tsNow (d : Dev) (slot : Nat) : Nat × Dev :=
  let ref := d.rd R.TAL_TS_UNIT (0x100 + slot)
  let n := d.tally.ts.getD slot 0
  if d.tsBad slot then (n, d) else d.farCount (fld ref 28 16) (fld ref 15 0) n

def inc48 (t : Tbl Nat) (k n : Nat) : Tbl Nat := Tbl.put t k 0 ((t.getD k 0 + n) % 281474976710656)

/-- Count n increments of source code `src` for an instance of a page, attributable to a stable or not: the page's own
counters that select it (R434, R435), and the tally slots whose unit it is or lies below (R440). -/
def Dev.tick (d : Dev) (page inst src n : Nat) (stb : Option Nat) : Dev :=
  let hdrPage := page
  if n = 0 then d
  else
    let frozen := d.talFrozen page inst
    let pageT := if frozen then d.tally.page else
      (List.range 8).foldl (fun t k =>
        let e := d.rd (talEvsel hdrPage k) 0
        if fld e 9 0 = src ∧ src ≠ 0 ∧ (src < 3 ∨ fld e 31 16 = inst ∨ fld e 31 16 = 0xffff) ∧ !d.rb (talCtrl hdrPage) 0 (8 + k)
        then inc48 t (page * 8 + k) n else t) d.tally.page
    let u := unitAt page inst
    let chain := u :: d.ancestors u
    let ts := (d.listed R.TAL_TS_UNIT).foldl (fun t e =>
      let slot := e.1 - 0x100
      let sel := d.rd R.TAL_TS_SEL e.1
      let own := d.rd R.TAL_TS_OWN e.1
      let fromStb := if bit own 6 then some (fld own 5 0) else if bit sel 16 then some (fld sel 15 10) else none
      let stbOk := match fromStb with
        | some s => stb == some s
        | none => true
      let hit := (chain.any fun x => d.unitRef x == e.2 && x.place.1 == page)
        || (page == 0x300 && d.unitRef (.block page) == e.2)
        || (u == .block page && fld e.2 31 29 == d.me && fld e.2 28 16 == page
            && (fld e.2 15 0 == inst || fld e.2 15 0 == 0xffff || src < 3))
      if hit && fld sel 9 0 == src && !d.tsBad slot && stbOk && !frozen then inc48 t slot n else t) d.tally.ts
    { d with tally := { d.tally with page := pageT, ts := ts } }

/-- Increment a count register that wraps at 2^32 (R435). -/
def Dev.bumpBy (d : Dev) (r : Reg) (inst n : Nat) (stb : Option Nat := none) : Dev :=
  (d.wn r inst (d.rn r inst + n)).tick r.page inst (r.off / 4) n stb

def Dev.bump (d : Dev) (r : Reg) (inst : Nat := 0) (stb : Option Nat := none) : Dev := d.bumpBy r inst 1 stb

/-! ### Raises -/

/-- The select value for which the view of R425 gives a source on its home page (for SRC 0x003 of R435). -/
def evInst (n : Nat) : Nat :=
  if 0x040 ≤ n ∧ n < 0x080 then (n - 0x040) / 8
  else if 0x080 ≤ n ∧ n < 0x0c0 then 8 * ((n - 0x080) / 4)
  else if 0x100 ≤ n ∧ n < 0x200 then n % 16
  else if 0x200 ≤ n ∧ n < 0x400 then (n - 0x200) / 4
  else if 0x400 ≤ n ∧ n < 0x460 then (n - 0x400) / 6
  else if 0x4c0 ≤ n ∧ n < 0x500 then 0x100 + n - 0x4c0
  else if 0x540 ≤ n ∧ n < 0x5c0 then (n - 0x540) / 2
  else if 0x6c0 ≤ n ∧ n < 0x740 then (n - 0x6c0) / 2
  else if 0x7c0 ≤ n ∧ n < 0x800 then n - 0x7c0
  else 0

/-- The pages whose view assigns a bit to a source: its home page, and those whose EV_ROUTE is an alias of that page's (R425). -/
def viewPages (n : Nat) : List Nat :=
  let h := evHome n
  h :: (if h = 0 then [0x14] else if h = 0x11 then [0x12] else if h = 0x10 then [0x15, 0x16]
    else if h = 0x200 then (List.range 7).map (0x201 + ·) else if h = 0x400 then [0x440] else if h = 0x700 then [0x780] else [])

/-- The view of a page assigns a source to an instance; to the page's group it assigns every source of the page. -/
def Dev.views (d : Dev) (page inst n : Nat) : Bool :=
  inst == 0xffff || (List.range 32).any fun b => d.viewSrc page inst b == some n

/-- Count a raise of a source in the given arrays under SRC 0x003 (R435, R440): on every page whose view assigns it, and in the
tally slots; it is attributable to the stables in whose copies it sets the bit. DEDUCED: log entry 47. -/
def Dev.tickRaise (d : Dev) (n : Nat) (arrs : List Nat) : Dev :=
  let pages := viewPages n
  let at1 (v : Nat) : Nat := if v = 0xffff then evInst n else v
  let pageT := pages.foldl (fun t page => (List.range 8).foldl (fun t k =>
      let e := d.rd (talEvsel page k) 0
      let v := fld e 31 16
      if fld e 9 0 = 3 ∧ d.views page v n ∧ !d.rb (talCtrl page) 0 (8 + k) ∧ !d.talFrozen page (at1 v) then inc48 t (page * 8 + k) 1
      else t) t) d.tally.page
  let home := unitAt (evHome n) (evInst n)
  let ts := (d.listed R.TAL_TS_UNIT).foldl (fun t e =>
    let slot := e.1 - 0x100
    let sel := d.rd R.TAL_TS_SEL e.1
    let own := d.rd R.TAL_TS_OWN e.1
    let page := fld e.2 28 16
    let inst := fld e.2 15 0
    let fromStb := if bit own 6 then some (fld own 5 0) else if bit sel 16 then some (fld sel 15 10) else none
    let stbOk : Bool := match fromStb with
      | some s => arrs.contains s
      | none => true
    if fld sel 9 0 = 3 ∧ pages.contains page ∧ stbOk ∧ !d.tsBad slot ∧ !d.talFrozen page (at1 inst) ∧
        (d.views page inst n || (home :: d.ancestors home).any fun x => d.unitRef x == e.2 && x.place.1 == page)
    then inc48 t slot 1 else t) d.tally.ts
  { d with tally := { d.tally with page := pageT, ts := ts } }

/-- Set a source's cause bit in one array and, where it becomes pending, deliver it; a raise that finds it pending in
the management array adds to REPEAT (R430). -/
def Dev.raiseIn (d : Dev) (arr n : Nat) : Dev × List (Nat × Word) :=
  if d.evPending arr n then
    if arr = 64 then ({ d with ev := { d.ev with fmq := d.ev.fmq.repeat n, enq := d.ev.enq.repeat n } }, [])
    else (d, [])
  else
    let d := { d with ev := { d.ev with cause := Tbl.put d.ev.cause (evKey arr n) false true } }
    if d.unmasked arr n then d.deliver arr n else (d, [])

/-- Raise a source in the given arrays; `info` is what its records carry. The controller events that follow are raised
in the management array in turn; the fuel bounds that chain, which the storm guard ends before it does. -/
def Dev.raiseArrs : Nat → Dev → List Nat → Nat → RaiseInfo → Dev
  | 0, d, _, _, _ => d
  | fuel + 1, d, arrs, n, info =>
    match evSev n with
    | none => d
    | some _ =>
      let d := { d with ev := { d.ev with count := Tbl.put d.ev.count n 0 ((d.ev.count.getD n 0 + 1) % 65536)
                                          info := if arrs.contains 64 then Tbl.put d.ev.info n ⟨0, 0, none, false⟩ info else d.ev.info } }
      let d := d.tickRaise n arrs
      let (d, follow) := arrs.foldl (fun (acc : Dev × List (Nat × Word)) arr =>
        let (d', f) := acc.1.raiseIn arr n
        (d', acc.2 ++ f)) (d, [])
      (follow.foldl (fun d f => Dev.raiseArrs fuel d [64] f.1 ⟨f.2, d.now, none, false⟩) d).settle

/-- DETAIL of a raise (R429): the LAST register of the raising block, where it has one. DEDUCED: log entry 47. -/
def Dev.lastOf (d : Dev) (n : Nat) : Word :=
  if 0x400 ≤ n ∧ n < 0x460 then d.rd R.MKL_BND_LAST_EV ((n - 0x400) / 6)
  else if 0x4c0 ≤ n ∧ n < 0x500 then d.rd R.SWC_MC_LAST (0x100 + n - 0x4c0)
  else if 0x540 ≤ n ∧ n < 0x5c0 then d.rd R.ISO_REG_DENY_LAST 0
  else if n = 0x5ca then d.rd R.SLC_DLG_LAST 0
  else if 0x600 ≤ n ∧ n < 0x680 then d.rd R.CXP_CXP_LAST 0
  else if 0x680 ≤ n ∧ n < 0x6c0 then d.rd R.BRG_BRG_LAST 0
  else if 0x6c0 ≤ n ∧ n < 0x740 then d.rd R.DMA_CH_LAST_ERR ((n - 0x6c0) / 2)
  else if 0x740 ≤ n ∧ n < 0x780 then d.rd R.SCH_SCH_LAST 0
  else 0

/-- A raise with a DETAIL of its own, for the owners that it names. -/
def Dev.raiseWith (d : Dev) (n : Nat) (detail : Word) (named : List Nat) : Dev :=
  let owners := d.evOwners n named
  Dev.raiseArrs 4 d (64 :: owners) n ⟨detail, d.now, owners.head?, false⟩

/-- A raise for the owners that it names (R423). -/
def Dev.raiseFor (d : Dev) (n : Nat) (named : List Nat) : Dev := d.raiseWith n (d.lastOf n) named

/-- A raise of a source whose owners follow from its number. -/
def Dev.raise (d : Dev) (n : Nat) : Dev := d.raiseFor n []

/-- Raise event e of the cluster of a port in CAL (R144), whose LAST register is that of the port. -/
def Dev.raiseCal (d : Dev) (p e : Nat) : Dev := d.raiseWith (0x080 + 4 * (p / 8) + e) (d.rd R.CAL_CAL_LAST p) []

/-- A forced raise (R426): from a stable's control function only in its copy; else in the management array and the
owners' copies, but in no copy where R423 takes the owner from a LAST register, nor, since a forced raise concerns no slice, request or
port, where it takes it from what the raise itself concerns. DEDUCED: log entry 47. -/
def Dev.force (d : Dev) (n : Nat) (tenant : Option Nat) : Dev :=
  match tenant with
  | some s => Dev.raiseArrs 4 d [s] n ⟨0, d.now, some s, true⟩
  | none =>
    let owners := d.evOwners n []
    Dev.raiseArrs 4 d (64 :: owners) n ⟨0, d.now, owners.head?, true⟩

/-- Clear a mask bit of a source in an array: a set cause becomes pending and is delivered (R426). -/
def Dev.unmaskSrc (d : Dev) (arr n : Nat) : Dev :=
  match evSev n with
  | none => d
  | some _ =>
    if d.unmasked arr n then d
    else
      let d := { d with ev := { d.ev with unmask := Tbl.put d.ev.unmask (evKey arr n) false true } }
      if d.cause arr n then
        let (d, follow) := d.deliver arr n
        follow.foldl (fun d f => d.raiseWith f.1 f.2 []) d
      else d

/-- Set a mask bit of a source in an array. -/
def Dev.maskSrc (d : Dev) (arr n : Nat) : Dev :=
  { d with ev := { d.ev with unmask := Tbl.put d.ev.unmask (evKey arr n) false false } }

/-- Clear a cause bit in one array only (R424). -/
def Dev.clearCause (d : Dev) (arr n : Nat) : Dev :=
  { d with ev := { d.ev with cause := Tbl.put d.ev.cause (evKey arr n) false false } }

end Sys2Proof.Machine
end

