-- ==== Sys2Proof/Machine/Access.lean ====
section
/-! DEFINITION. Register-space protection (R31, R32, R49–R51, R249–R256): whether an access is made, which instance it
addresses, and what a refused access does. -/

namespace Sys2Proof.Machine

/-! ### The check copies (R370, R375, R377) -/

/-- Toggle bit b of the data of entry i of a duplicated structure (R396): 0 rules, 1 windows, 2 crossings, 3 PORT_OWN,
4 slices. -/
def Dev.flipBit (d : Dev) (st i b : Nat) : Dev :=
  let r : Reg × Nat :=
    if st = 0 then (R.ISO_RULE_W (b / 32 % 4), i)
    else if st = 1 then (R.RTE_WIN_W (b / 32 % 4), i)
    else if st = 2 then (R.RTE_XING_W (b / 32 % 4), i)
    else if st = 3 then (R.ISO_PORT_OWN, 0x100 + i)
    else (⟨0x780, 0x200 + 4 * (b / 32 % 4)⟩, i)
  d.wr r.1 r.2 (d.rd r.1 r.2 ^^^ word (2 ^ (b % 32)))

/-- The device as the check copies show it. DESIGN CHOICE: log entry 24. -/
def Dev.chkView (d : Dev) : Dev := d.saf.flips.foldl (fun d (f : Nat × Nat × Nat) => d.flipBit f.1 f.2.1 f.2.2) d

/-- Note a fault, for the reaction of R380 at the end of the step. -/
def Dev.faultDue (d : Dev) (cls : Nat) (s p : Option Nat) (detail : Word) : Dev :=
  { d with saf := { d.saf with due := d.saf.due ++ [(cls, s, p, detail)] } }

/-! ### The checks of an access -/

/-- The outcome of the checks of an access: no register there, denied, void under an invalid select, made. -/
inductive Dec where
  | void | deny | invalid | ok
  deriving DecidableEq, Repr

/-- PERM grants a class read or write of a page (R250). -/
def Dev.perm (d : Dev) (c page : Nat) (wr : Bool) : Bool :=
  d.rb R.ISO_PERM_DATA page (2 * c + b2n wr)

/-- Debug is authenticated (R481). DEDUCED: log entry 17. -/
def Dev.dbgAuth (d : Dev) : Bool := d.rb R.DBG_DBG_STATUS 0 0

/-- The unit header window and the select block (R50). -/
def hdrOff (off : Nat) : Bool := decide (off ≤ 0x028) || off == 0x0c0 || off == 0x0c4

/-- The per-accessor cursor registers (R251). -/
def cursorReg (page off : Nat) : Bool :=
  [(0x20, 0x180), (0x300, 0x108), (0x206, 0x108), (0x500, 0x104), (0x500, 0x120), (0x500, 0x138), (0x600, 0x104),
   (0x600, 0x120), (0x600, 0x128), (0x700, 0x130), (0x700, 0x150), (0x900, 0x120), (0xc00, 0x1c0), (0x202, 0x200),
   (0x205, 0x180), (0x205, 0x190), (0x203, 0x200), (0x11, 0x404)].contains (page, off)

/-- The sealed regions of R253. -/
def sealedReg (page off : Nat) : Bool :=
  (page == 0x203 && decide (0x800 ≤ off) && decide (off < 0xf00)) ||
  (page == 0x14 && decide (0x800 ≤ off) && decide (off < 0xf00))

/-- An offset of a populated page at which a register stands. -/
def hasReg (page off : Nat) : Bool :=
  off % 4 == 0 &&
  (decide (off ≤ 0x028) || off == 0x084 || off == 0x088 ||
   (decide (0xf00 ≤ off) && decide (off < 0xf80) && off % 16 != 12) || (findReg page off).isSome)

/-- The non-windowed registers that a tenant reaches because their chapter filters them per stable (R252): the logs of
R217, R244, R273, R330 and R389 with BRG_LAST, CTX_KEY, CTX_OP and CTX_RESULT (R288), the EVT words (R444), and FN_STATUS and
CNT_RRS (R420). -/
def tenantReg (page off : Nat) : Bool :=
  (page == 0x500 && decide (0x13c ≤ off) && decide (off < 0x160)) ||
  (page == 0x600 && decide (0x12c ≤ off) && decide (off < 0x150)) ||
  (page == 0x700 && decide (0x140 ≤ off) && decide (off < 0x178)) ||
  (page == 0x900 && ((decide (0x124 ≤ off) && decide (off < 0x14c)) || off == 0x114)) ||
  (page == 0x11 && decide (0x100 ≤ off) && decide (off < 0x400)) ||
  (page == 0x202 && decide (0x204 ≤ off) && decide (off < 0x22c)) ||
  (page == 0x205 && (off == 0x18c || off == 0x198))

/-- Registers that only some classes write, or reach at all (R334, R382, R396, R434, R441, R444, R450, R486, R471). -/
def classLimit (page off c : Nat) (wr : Bool) : Bool :=
  let fmEp := c == 1 || c == 2
  if page = 0x11 ∧ 0x500 ≤ off ∧ off < 0x520 then c == 1
  else if page = 0x11 ∧ 0x520 ≤ off ∧ off < 0x538 then decide (2 ≤ c)
  else if !wr then true
  else if 0xf00 ≤ off then fmEp || c == 4
  else if page = 0x12 ∧ (off = 0x100 ∨ off = 0x104 ∨ off = 0x300) then fmEp
  else if page = 0xa00 ∧ (off = R.DMA_CH_OWN.off ∨ off = R.DMA_CH_PASID.off) then fmEp
  else if page = 0x13 ∧ (off = 0x100 ∨ off = 0x108 ∨ off = 0x10c ∨ off = 0x110 ∨ off = 0x118 ∨ off = 0x11c ∨ off = 0x130
      ∨ (0x140 ≤ off ∧ off < 0x180)) then fmEp
  else if page = 0x16 ∧ (off = 0x104 ∨ 0x190 ≤ off) then fmEp
  else if page = 0xc00 ∧ off = 0x138 then fmEp
  else if page = 0x14 ∧ off = 0x10c then c == 2
  else true

/-- The checks of ownership on an access of a tenant of stable σ (R252). -/
def Dev.tenantDec (d : Dev) (acc page off s : Nat) (wr : Bool) : Dec :=
  let lvl := d.ownLevel page (d.sel acc page) s
  if 0x040 ≤ off ∧ off < 0x0c8 then .ok
  else if 0xf00 ≤ off then .ok
  else if off ≤ 0x028 then
    (if lvl = 2 ∧ (page = 0 ∨ (0x100 ≤ page ∧ page ≤ 0x10f) ∨ page = 0x200 ∨ page = 0x300) then .ok else .deny)
  else if winKind page off ≠ .none then
    (if lvl = 0 then .invalid else if lvl = 1 ∧ wr then .deny else .ok)
  else if tenantReg page off then .ok
  else .deny

/-- The class may make the access (R250, R251, R255): under PERM, or, for unauthenticated debug, to read the DBG and DEV pages, unit headers
and select blocks, and to authenticate. DEDUCED: log entry 17. -/
def Dev.classMay (d : Dev) (c page off : Nat) (wr : Bool) : Bool :=
  let r := d.perm c page false
  let w := d.perm c page true
  if c = 4 ∧ !d.dbgAuth then
    (if wr then page == 0x15 && (off == 0x104 || (decide (0x140 ≤ off) && decide (off < 0x1a0)))
     else hdrOff off || page == 0 || page == 0x15)
  else if !wr ∧ hdrOff off then r || w
  else if wr ∧ (off = 0x0c0 ∨ off = 0x01c ∨ cursorReg page off) then r || w
  else if wr ∧ off = 0x080 then w || (c == 0 && r)
  else (if wr then w else r) && classLimit page off c wr

/-- What becomes of an access: R31, R51 and R249–R255. DEDUCED: log entry 16. DEDUCED: log entry 17. -/
def Dev.accessDec (d : Dev) (a : Acc) (page off : Nat) (wr : Bool) : Dec :=
  let c := d.accClass a
  let acc := accIdx a
  if !pagePopulated page then .void
  else if c = 0 ∧ d.tenant a = none then .deny
  else if sealedReg page off then
    (if wr && page == 0x14 && decide (0xc00 ≤ off) && c == 2 && (d.boot.phase == .rom || d.boot.phase == .kci) then .void
     else if wr && page == 0x203 && c == 2 && d.perm c page true then
      (if d.selInvalid a page then .invalid else .ok) else .deny)
  else if !d.classMay c page off wr then .deny
  else if !hasReg page off then .void
  else if (c = 4 ∧ !d.dbgAuth) ∨ (!wr ∧ hdrOff off) ∨ (wr ∧ off = 0x080) then .ok
  else if wr && (off == 0x0c0 || off == 0x01c || cursorReg page off) then
    (if winKind page off ≠ .none ∧ d.selInvalid a page then .invalid else .ok)
  else
    match (match d.tenant a with | some s => d.tenantDec acc page off s wr | none => Dec.ok) with
    | .ok =>
      if winKind page off ≠ .none then
        (if d.selInvalid a page then .invalid
         else if winKind page off ≠ selKind page (d.sel acc page) then .void else .ok)
      else if off = 0x028 ∧ wr ∧ (page = 0 ∨ (0x100 ≤ page ∧ page ≤ 0x10f) ∨ page = 0x200 ∨ page = 0x300)
          ∧ d.selInvalid a page then .invalid
      else .ok
    | x => x

/-- What a denied access does (R251). -/
def Dev.denied (d : Dev) (a : Acc) (page off : Nat) (wr : Bool) : Dev :=
  let acc := accIdx a
  let c := d.accClass a
  let d := d.awr acc (selStatus page) (setFld (d.ard acc (selStatus page)) 1 1 1)
  let d := d.bump (R.ISO_REG_DENY_CNT c) 0 (d.tenant a)
  let d := d.wn R.ISO_REG_DENY_LAST 0 (acc + 128 * b2n wr + 256 * page + 2097152 * (off / 4 % 1024))
  match d.tenant a with
  | some s => d.raise (0x541 + 2 * s)
  | none => d

/-- Set a sticky bit of the accessor's SEL_STATUS on a page (R50). -/
def Dev.sticky (d : Dev) (acc page i : Nat) : Dev :=
  d.awr acc (selStatus page) (setFld (d.ard acc (selStatus page)) i i 1)

/-- The primary and the check logic of the protection disagree (R377): DENIED is set, and class REG_DISAGREE noted. -/
def Dev.disagreed (d : Dev) (a : Acc) (page : Nat) : Dev := (d.sticky (accIdx a) page 1).faultDue 0x14 (d.tenant a) none 0

/-- A decision of the protection as both logics make it, the check logic on the check copies (R377); `none` where they differ. -/
def Dev.bothDecide (d : Dev) (f : Dev → Dec) : Option Dec := if f d = f d.chkView then some (f d) else none

/-- The select value whose unit header a page shows to an accessor (R43, R51): 0xFFFE for a block header on a page whose
headers are read through the select, and on every other page. -/
def Dev.hdrInst (d : Dev) (a : Acc) (page : Nat) : Nat :=
  let v := d.sel (accIdx a) page
  let inv := d.selInvalid a page
  if page = 0 ∨ (0x100 ≤ page ∧ page ≤ 0x10f) then (if inv then 0xffff else v)
  else if page = 0x200 then (if inv then 0xfffe else v)
  else if page = 0x300 then (if inv ∨ selKind page v ≠ .bundle then 0xffff else v)
  else 0xfffe

/-- The instance of the register file that an access at an offset addresses. -/
def Dev.instOf (d : Dev) (a : Acc) (page off : Nat) : Nat :=
  if off ≤ 0x028 then d.hdrInst a page
  else if winKind page off ≠ .none then d.sel (accIdx a) page else 0

/-- An accessor can make accesses now: none during device reset and while the core supply is off; not the Enruez core while
it is halted or held in reset (R381, R481) or its clock is gated, the debug port while TRST_N is low (R499), nor SMBus
controller 0 in SL1 while it is a wake source, since the waking transaction is not acknowledged (R460). -/
def Dev.canAccess (d : Dev) (a : Acc) : Bool :=
  let sl1 := d.rf R.PWR_SLEEP_STATUS 0 2 0 == 2
  !d.pwr.off && !d.pwr.perst && (match a with
    | .core _ => !d.boot.coresDown && !d.boot.halted && !sl1
    | .smbus => !(sl1 && d.rb R.PWR_SLEEP_CFG 0 17)
    | .debug => !d.mgt.trst
    | .ctl s => decide (s < 64)
    | .remote c _ => decide (c ≤ 4) && d.yardEn && !d.isHead)

/-- The member that an accessor's accesses are carried out on, where that is not this device. -/
def Dev.carriedTo (d : Dev) (a : Acc) : Option Nat :=
  let w := d.ard (accIdx a) (selReg 0)
  if d.isHead && bit w 19 && fld w 18 16 != d.me then some (fld w 18 16) else none

/-- A write with its effect: made, ignored or denied. One that is carried out on another member is not made here. DEDUCED: log entry 19. -/
def Dev.guardW (d : Dev) (a : Acc) (r : Reg) (eff : Nat → Dev → Dev) : Dev :=
  if !d.canAccess a || (d.carriedTo a).isSome then d
  else match d.bothDecide fun d => d.accessDec a r.page r.off true with
  | none => d.disagreed a r.page
  | some .deny => d.denied a r.page r.off true
  | some .void | some .invalid => d
  | some .ok => eff (d.instOf a r.page r.off) d

/-- A read with its value and its effect: a read that is not made returns 0. The answer goes to the accessor. DEDUCED: log entry 19. -/
def Dev.guardR (d : Dev) (a : Acc) (r : Reg) (eff : Nat → Dev → Word × Dev) : Dev :=
  if !d.canAccess a || (d.carriedTo a).isSome then d
  else
    let (w, d) := match d.bothDecide fun d => d.accessDec a r.page r.off false with
      | none => (0, d.disagreed a r.page)
      | some .deny => (0, d.denied a r.page r.off false)
      | some .void | some .invalid => (0, d)
      | some .ok => eff (d.instOf a r.page r.off) d
    d.emit (.reply (accIdx a) [w])

/-- A write to an RWL register: ignored, with SEL_STATUS.LOCKED, while the page's PLOCK is set (R38, R47). -/
def Dev.rwl (d : Dev) (lk : List Nat) (a : Acc) (page : Nat) (eff : Dev → Dev) : Dev :=
  if lk.contains page then d.sticky (accIdx a) page 3 else eff d

end Sys2Proof.Machine
end

