-- ==== Sys2Proof/Machine/Shed.lean ====
section
/-! DEFINITION. TLPs and the shed (R168–R182): classes, cells, regions and the counts from which a grant is decided. -/

namespace Sys2Proof.Machine

/-! ### TLPs -/

/-- The class of a TLP: 0 posted, 1 non-posted, 2 completion. -/
def tcls (t : Tlp) : Nat :=
  match t.kind with
  | .memWr | .msg | .m2sWr => 0
  | .cpl | .s2m => 2
  | _ => 1

/-- A CXL.mem message (R294). -/
def isMem (t : Tlp) : Bool :=
  match t.kind with
  | .m2sRd | .m2sWr | .s2m => true
  | _ => false

/-- The cells of a TLP (R173). -/
def tcells (t : Tlp) : Nat := max 1 (cdiv t.data.length 256)

/-- The TLP Length in DW; 0 means 1,024 (R66). -/
def dwLen (t : Tlp) : Nat := if t.len = 0 then 1024 else t.len

/-- First and last byte of the range of R204. -/
def tlo (t : Tlp) : Nat := t.addr / 4 * 4
def thi (t : Tlp) : Nat := tlo t + 4 * dwLen t - 1

/-- An address-routed request. -/
def isAddr (t : Tlp) : Bool :=
  match t.kind with
  | .memRd | .memRdLk | .memWr | .atomic | .ioRd | .ioWr => true
  | .msg => t.rtype == 1
  | _ => false

/-- A request that uses a stall context (R259). -/
def isReq (t : Tlp) : Bool :=
  match t.kind with
  | .cpl | .m2sRd | .m2sWr | .s2m => false
  | .msg => t.rtype == 1
  | _ => true

/-- A TLP with every field at its plain value, from which the block builds its own. -/
def Tlp.blank : Tlp :=
  { kind := .msg, fmtType := 0, addr := 0, len := 1, fbe := 15, lbe := 0, rid := 0, tag := 0, tc := 0, ro := false, ido := false, ns := false,
    ep := false, at2 := false, pmr := false, er := false, pasid := none, ld := none, tgt := 0, reg := 0, status := 0,
    lastCpl := true, bytes := 0, code := 0, rtype := 0, vid := 0, vdw := 0, pre := [], ohc := [], digestBad := false, data := [] }

/-- A posted write of the block: at most 4 KiB, inside one page. -/
def mkWrite (addr rid tc : Nat) (data : List Byte) : Tlp :=
  { Tlp.blank with
    kind := .memWr, fmtType := 0x60, addr := addr, len := cdiv data.length 4 % 1024
    lbe := if data.length ≤ 4 then 0 else 15, rid := rid, tc := tc, data := data }

/-- A memory read of the block. -/
def mkRead (addr rid tag tc dws : Nat) : Tlp :=
  { Tlp.blank with
    kind := .memRd, fmtType := 0x20, addr := addr, len := dws % 1024, lbe := if dws ≤ 1 then 0 else 15, rid := rid, tag := tag
    tc := tc, bytes := 4 * dws }

/-- The little-endian bytes of a number. -/
def bytesOf : Nat → Nat → List Byte
  | 0, _ => []
  | k + 1, n => BitVec.ofNat 8 n :: bytesOf k (n / 256)

/-- The number that little-endian bytes hold. -/
def numOf : List Byte → Nat
  | [] => 0
  | b :: l => b.toNat + 256 * numOf l

/-! ### Header bytes, the carriage CRC and packets (R147, R189, R372) -/

/-- Big-endian bytes of a number. -/
def beBytes (k n : Nat) : List Byte := (bytesOf k n).reverse

/-- Bytes 0 to 3 of a header, and what a request holds in bytes 4 to 7. -/
def hdrW0 (t : Tlp) : Nat :=
  t.fmtType * 16777216 + t.tag / 512 % 2 * 8388608 + t.tc % 8 * 1048576 + t.tag / 256 % 2 * 524288 + b2n t.ido * 262144 +
  b2n t.ep * 16384 + b2n t.ro * 8192 + b2n t.ns * 4096 + b2n t.at2 * 2048 + t.len % 1024
def reqW1 (t : Tlp) (low : Nat) : Nat := t.rid % 65536 * 65536 + t.tag % 256 * 256 + low % 256

/-- The header bytes of a TLP, prefixes and OHC included. PRESUMED: log entry 49, the standard's header layouts. -/
def hdrBytes (t : Tlp) : List Byte :=
  t.pre ++ beBytes 4 (hdrW0 t) ++
  (match t.kind with
   | .cpl =>
     beBytes 4 (t.tgt % 65536 * 65536 + t.status % 8 * 8192 + t.bytes % 4096) ++
     beBytes 4 (t.rid % 65536 * 65536 + t.tag % 256 * 256 + t.addr % 128)
   | .cfgRd | .cfgWr => beBytes 4 (reqW1 t (t.lbe * 16 + t.fbe)) ++ beBytes 4 (t.tgt % 65536 * 65536 + t.reg % 4096)
   | .msg =>
     beBytes 4 (reqW1 t t.code) ++
     (if t.rtype = 1 then beBytes 8 (tlo t) else beBytes 4 (t.tgt % 65536 * 65536 + t.vid % 65536) ++ bytesOf 4 t.vdw)
   | .m2sRd | .m2sWr | .s2m => beBytes 4 (reqW1 t t.code) ++ beBytes 8 t.addr
   | _ => beBytes 4 (reqW1 t (t.lbe * 16 + t.fbe)) ++ (if t.fmtType.testBit 5 then beBytes 8 (tlo t) else beBytes 4 (tlo t))) ++
  t.ohc

/-- The bytes of a TLP, header and payload (R352). -/
def tbytes (t : Tlp) : Nat := (hdrBytes t).length + t.data.length

/-- One bit of the reflected CRC-32 of polynomial 0x04C11DB7. -/
def crc32Bit (c : Nat) : Nat := if c % 2 = 1 then c / 2 ^^^ 0xedb88320 else c / 2

/-- The CRC-32 state after bytes. -/
def crc32 (c : Nat) (l : List Byte) : Nat := l.foldl (fun c x => (List.range 8).foldl (fun c _ => crc32Bit c) (c ^^^ x.toNat)) c

/-- The header check (R372): the CRC state after the header bytes as stage 2 receives them, EP, which a later stage may set, aside. -/
def headerCheck (t : Tlp) : Nat := crc32 0xffffffff (hdrBytes { t with ep := false })

/-- The carriage CRC of a TLP (R372), over its header bytes and its payload. -/
def carriageCrc (t : Tlp) : Nat := crc32 (headerCheck t) t.data ^^^ 0xffffffff

/-- The header slot of a packet (R147). -/
def pktHead (p : Packet) : Nat :=
  p.seq + p.cls * 2 ^ 16 + p.slots * 2 ^ 18 + b2n p.ro * 2 ^ 27 + b2n p.ido * 2 ^ 28 + b2n p.off * 2 ^ 29 + b2n p.poison * 2 ^ 30 +
  b2n p.ctl * 2 ^ 31 + p.dst * 2 ^ 32 + p.src * 2 ^ 35 + p.dstPort * 2 ^ 38 + p.srcPort * 2 ^ 46 + p.stable * 2 ^ 54 +
  p.hops * 2 ^ 62 + p.epoch * 2 ^ 64 + p.gen * 2 ^ 65 + p.wait * 2 ^ 73 + p.ccrc * 2 ^ 96

/-! ### Items -/

/-- The plain evaluation of a TLP whose destination the block itself fixes. -/
def mkEval (s : Option Nat) (dst : Dest) (addr : Nat) : Eval := ⟨s, s, dst, none, addr, .ok, 0, false⟩

/-- A new item at stage 6. -/
def mkItem (t : Tlp) (ing : Nat) (src : Src) (e c : Eval) : Item :=
  { id := 0, stored := 0, tlp := t, ingress := ing, src := src, priv := true, slice := none, key := none, track := false
    logged := none, dom := none, prim := e, chk := c, refuse := none, epoch := 0, stage := .store, shared := false, cells := [], hchk := 0, ccrc := 0
    refused := false, waited := false, marked := false, cut := false, gateClose := none, copies := [], since := 0
    transit := none, hops := 0, pkt := none, link := none, own := false, sched := none }

/-! ### Fabric links and bundles (R147, R153) -/

def Trio.get (t : Trio) (k : Nat) : Nat := if k = 0 then t.p else if k = 1 then t.n else t.c
def Trio.set (t : Trio) (k v : Nat) : Trio :=
  if k = 0 then { t with p := v } else if k = 1 then { t with n := v } else { t with c := v }
def Trio.zero : Trio := ⟨0, 0, 0⟩

def Link.reset : Link :=
  { nextSeq := 0, expect := 0, replay := [], resend := [], gap := false, sinceAck := 0, firstAt := 0, expiries := 0, timerAt := 0
    charged := Trio.zero, limit := Trio.zero, cred := Trio.zero, freed := Trio.zero, old := Trio.zero, unsent := 0, freedAt := 0, creditAt := 0
    census := 0, marked := Trio.zero, leakSaid := 0, rx := [], holdAt := 0, full := false, same := false, park := none, join := none
    joinAt := 0, swap := none, guest := none, left := 0, mapGen := 0, lastTok := 0, lastPartner := none }
def Bundle.reset : Bundle := ⟨[], [], [], [], [], [], 0, []⟩

def Dev.lnk (d : Dev) (p : Nat) : Link := d.mkl.link.getD p Link.reset
def Dev.setLnk (d : Dev) (p : Nat) (l : Link) : Dev :=
  { d with mkl := { d.mkl with link := Tbl.put d.mkl.link p Link.reset l } }
def Dev.bnd (d : Dev) (b : Nat) : Bundle := d.mkl.bundle.getD b Bundle.reset
def Dev.setBnd (d : Dev) (b : Nat) (x : Bundle) : Dev :=
  { d with mkl := { d.mkl with bundle := Tbl.put d.mkl.bundle b Bundle.reset x } }

/-- The slots of a TLP's packet (R147). -/
def pktSlots (t : Tlp) : Nat := 1 + min 4 (cdiv (hdrBytes t).length 16) + cdiv t.data.length 16

/-- The units of a packet (R153). -/
def pktUnits (slots : Nat) : Nat := cdiv slots 4

/-- Send CREDIT: the cumulative limits of the three classes (R154). -/
def Dev.creditSend (d : Dev) (p : Nat) : Dev :=
  let l := d.lnk p
  let lim (k : Nat) : Nat := (l.cred.get k - l.old.get k + l.freed.get k) % 16777216
  (d.setLnk p { l with unsent := 0, freedAt := 0, creditAt := d.now }).emit (.symbol p 3 [lim 0, lim 1, lim 2])

/-- Units of a class leave the receive buffer of a link into the shed (R154). -/
def Dev.unitsFreed (d : Dev) (p k n : Nat) : Dev :=
  let l := d.lnk p
  let o := min n (l.old.get k)
  let l := { l with
    old := l.old.set k (l.old.get k - o), freed := l.freed.set k (l.freed.get k + (n - o)), unsent := l.unsent + n
    freedAt := if l.unsent = 0 then d.now + 1 else l.freedAt }
  let d := d.setLnk p l
  if 32 ≤ l.unsent ∧ d.lkState p = 3 then d.creditSend p else d

/-- Link-level credits of a TLP return to the partner of a PCIe or CXL port (R179): class, one header, and data in units of 16 B.
PRESUMED: log entry 94. -/
def Dev.creditBack (d : Dev) (p : Nat) (t : Tlp) : Dev := d.emit (.engine p 11 [tcls t, 1, cdiv t.data.length 16])

/-- A TLP leaves the ingress buffer of its port: the units of its packet are freed (R155), or its credits return (R179). -/
def Dev.rxFreed (d : Dev) (i : Item) : Dev := if i.own then d else match i.pkt, i.stage with
  | some k, .store => d.unitsFreed i.ingress k.cls (pktUnits k.slots)
  | none, .store => if i.src = .ext ∧ i.ingress < 128 then d.creditBack i.ingress i.tlp else d
  | _, _ => d

/-- Enter an item at stage 6 under the epoch in force. -/
def Dev.addItem (d : Dev) (it : Item) : Dev :=
  { d with path := { d.path with
      items := d.path.items ++ [{ it with
        id := d.path.nextId, epoch := d.staging.epoch, since := d.now, hchk := headerCheck it.tlp, ccrc := carriageCrc it.tlp }]
      nextId := d.path.nextId + 1 } }

def Dev.item (d : Dev) (id : Nat) : Option Item := d.path.items.find? fun i => i.id == id
def Dev.updItem (d : Dev) (id : Nat) (f : Item → Item) : Dev :=
  { d with path := { d.path with items := updFirst (fun i => i.id == id) f d.path.items } }
def Dev.rmItem (d : Dev) (id : Nat) : Dev :=
  let d := match d.item id with
    | some i => d.rxFreed i
    | none => d
  { d with path := { d.path with items := dropFirst (fun i => i.id == id) d.path.items } }

/-- The stable that holds an item's cells (R176). -/
def Item.stb (i : Item) : Option Nat := i.prim.stable

/-- Insertion into a list that rises in a key, after equal keys. -/
def insertBy {α : Type} (f : α → Nat) (a : α) : List α → List α
  | [] => [a]
  | b :: l => if f a < f b then a :: b :: l else b :: insertBy f a l

/-- A list sorted by a key, equal keys in their order. -/
def sortBy {α : Type} (f : α → Nat) (l : List α) : List α := l.foldl (fun acc a => insertBy f a acc) []

/-! ### Cells (R173–R181) -/

def sumOf {α : Type} (f : α → Nat) (l : List α) : Nat := l.foldl (fun a x => a + f x) 0

def Item.held (i : Item) : Nat := i.cells.length

/-- A TLP counts towards the drain of its epoch (R246): its first flit, or the last copy of a multicast TLP, has not left. -/
def Item.drains (i : Item) : Bool :=
  if i.copies.isEmpty then i.stage != .sending && i.stage != .resend else i.copies.any fun c => c.st == .pending || c.st == .queued

/-- The cells of the shed that TLPs hold. -/
def Dev.cellNums (d : Dev) : List Nat := d.path.items.flatMap fun i => i.cells.map (·.num)

/-- The lowest free cell of a bank. -/
def freeIn (used : List Nat) (b : Nat) : Option Nat :=
  let mine := used.filter fun n => n % 64 == b
  ((List.range (mine.length + 1)).find? fun r => decide (r < 3072) && !mine.contains (64 * r + b)).map fun r => 64 * r + b

/-- Cells for a TLP of c cells, in consecutive banks modulo 64 from the bank after the last one granted, or from the first bank after it
from which every bank has a free cell (R173). DESIGN CHOICE: log entry 93. -/
def Dev.takeCells (d : Dev) (c : Nat) : List Nat :=
  let used := d.cellNums
  ((List.range 64).findSome? fun k =>
    let l := (List.range c).filterMap fun j => freeIn used ((d.path.nextBank + k + j) % 64)
    if l.length = c then some l else none).getD (((List.range 196608).filter fun n => !used.contains n).take c)

/-- The cells with their side fields (R173). -/
def mkCells (nums : List Nat) (tag : Option Nat) (epoch : BitVec 32) (gen : Nat) : List Cell :=
  (List.range nums.length).map fun k =>
    ⟨nums.getD k 0, tag, (popCount 6 (tag.getD 0) % 2 == 1), epoch, gen, nums[k + 1]?⟩

/-- The side fields of an item's cells hold the stable tag, with its parity, of its evaluation (R13). -/
def Item.cellsOk (i : Item) : Bool :=
  i.cells.all fun c => c.tag == i.prim.tagStb && c.parity == (popCount 6 (c.tag.getD 0) % 2 == 1)

/-- Shared cells in use, sh[p], st[σ] and rv[p][k]. -/
def Dev.sharedUsed (d : Dev) : Nat := sumOf (fun i : Item => if i.shared then i.held else 0) d.path.items
def Dev.shOf (d : Dev) (p : Nat) : Nat :=
  sumOf (fun i : Item => if i.shared && i.ingress == p then i.held else 0) d.path.items
def Dev.stOf (d : Dev) (s : Nat) : Nat :=
  sumOf (fun i : Item => if i.shared && i.stb == some s then i.held else 0) d.path.items
def Dev.rvOf (d : Dev) (p k : Nat) : Nat :=
  sumOf (fun i : Item => if !i.shared && i.ingress == p && tcls i.tlp == k then i.held else 0) d.path.items

/-- The reserve of a port and class. -/
def rsvReg (k : Nat) : Reg := if k = 0 then R.SHD_RSV_P else if k = 1 then R.SHD_RSV_NP else R.SHD_RSV_CPL
def Dev.rsv (d : Dev) (p k : Nat) : Nat := d.rf (rsvReg k) p 11 0

/-- The reserve region (R174). -/
def Dev.rsvTotal (d : Dev) : Nat :=
  sumOf (fun p => d.rsv p 0 + d.rsv p 1 + d.rsv p 2) (List.range 131)

def Dev.mirrorCells (d : Dev) : Nat := d.rf R.SHD_SHD_CFG 0 15 0
/-- Mirror cells held: samples whose record write has not left (R188). -/
def Dev.mirUsed (d : Dev) : Nat :=
  (d.path.items.filter fun i => match i.src with | .capture _ => true | _ => false).length

/-- The shared pool S and its free cells F. -/
def Dev.poolS (d : Dev) : Nat := 196608 - (d.rsvTotal + d.mirrorCells)
def Dev.poolF (d : Dev) : Nat := d.poolS - d.sharedUsed

/-- Cells held in all regions. -/
def Dev.cellsUsed (d : Dev) : Nat := sumOf (fun i : Item => i.held) d.path.items + d.mirUsed

/-- The grant of R176 for a TLP of c cells: from the shared pool, from the reserve, or none. -/
def Dev.grantFor (d : Dev) (p : Nat) (s : Option Nat) (k c : Nat) : Option Bool :=
  let f := d.poolF
  let okPort := decide (d.shOf p + c ≤ f * 2 ^ d.rf R.SHD_POOL_CFG p 2 0 / 16)
  let okStb : Bool := match s with
    | some s => decide (d.stOf s + c ≤ f * 2 ^ d.rf R.SHD_STABLE_POOL (0x200 + s) 2 0 / 16)
    | none => true
  if c ≤ f ∧ okPort ∧ okStb then some true
  else if d.rvOf p k + c ≤ d.rsv p k then some false
  else none

/-- After a change of the cells held: FREE_MIN, the peaks and POOL_LOW (R197, R199). -/
def Dev.poolChanged (d : Dev) : Dev :=
  let f := d.poolF
  let d := if f < d.rf R.SHD_FREE_MIN 0 23 0 then d.wn R.SHD_FREE_MIN 0 f else d
  let th := d.rf R.SHD_SHD_LOW_TH 0 23 0
  let low := decide (f < th)
  if low = d.path.lowF then d
  else
    let d := { d with path := { d.path with lowF := low } }
    if low then d.raise 0x480 else d

/-- Raise the peak of a stable to its use. -/
def Dev.peak (d : Dev) (s : Option Nat) : Dev :=
  match s with
  | some s => if d.rn R.SHD_STABLE_PEAK (0x200 + s) < d.stOf s then d.wn R.SHD_STABLE_PEAK (0x200 + s) (d.stOf s) else d
  | none => d

/-- A TLP waits at stage 6 with credits withheld for a port and class. -/
def Dev.waiting (d : Dev) (p k : Nat) : Bool :=
  d.path.items.any fun i => i.stage == .store && i.waited && i.ingress == p && tcls i.tlp == k

/-! ### Yard paths (R220–R222) -/

/-- A bundle has a link ACTIVE or in HOLD. -/
def Dev.bundleLive (d : Dev) (b : Nat) : Bool := (d.bundlePorts b).any fun p => d.lkState p == 3 || d.lkState p == 4

/-- The member at the far end of a bundle. -/
def Dev.bundlePartner (d : Dev) (b : Nat) : Option Nat :=
  ((d.bundlePorts b).find? fun p => d.rb R.MKL_LK_PARTNER (lkInst p) 31).map fun p => d.rf R.MKL_LK_PARTNER (lkInst p) 2 0

/-- An entry of YROUTE is usable: valid, its bundle live, with the expected partner. -/
def Dev.nhOk (d : Dev) (v b nh : Nat) : Bool := v == 1 && d.bundleLive b && d.bundlePartner b == some nh

/-- The usable entry towards a member (R221): 1 the primary, 2 the alternate, 0 none. The alternate takes over only when the primary
bundle has no link left in ACTIVE or HOLD. -/
def Dev.pathKind (d : Dev) (m : Nat) : Nat :=
  let w := d.rd R.RTE_YROUTE (0x100 + m)
  if d.isLost m then 0
  else if d.nhOk (fld w 7 7) (fld w 3 0) (fld w 6 4) then 1
  else if bit w 7 && d.bundleLive (fld w 3 0) then 0
  else if d.nhOk (fld w 15 15) (fld w 11 8) (fld w 14 12) then 2
  else 0

/-- The bundle in use towards a member: the primary while it is usable, else the alternate. A member that has become
unreachable stays so until the next yard commit (R222). -/
def Dev.memberPath (d : Dev) (m : Nat) : Option Nat :=
  let w := d.rd R.RTE_YROUTE (0x100 + m)
  if d.yard.unreach.contains m then none
  else match d.pathKind m with
    | 1 => some (fld w 3 0)
    | 2 => some (fld w 11 8)
    | _ => none

/-- The bundles present, with the member at the far end (R161). -/
def Dev.present (d : Dev) : List (Nat × Nat) :=
  (List.range 16).filterMap fun b => if d.bundleLive b then (d.bundlePartner b).map fun m => (b, m) else none

/-- Pairs of neighbours that this member knows of: its own, those of TOPO messages, and, on a member that is not the head,
the assumption that a neighbour which has sent none is joined to the head. -/
def Dev.yardEdges (d : Dev) : List (Nat × Nat) :=
  let own := d.present.map fun e => (d.me, e.2)
  let guess := if d.isHead then [] else
    (d.present.map (·.2)).filterMap fun m => if d.yard.links.any fun e => e.1 == m then none else some (m, d.headNo)
  own ++ d.yard.links ++ guess

/-- The members joined to a set by chains of at most n pairs. -/
def joinedBy (edges : List (Nat × Nat)) : Nat → List Nat → List Nat
  | 0, l => l
  | n + 1, l =>
    joinedBy edges n (l ++ ((edges.flatMap fun e =>
      (if l.contains e.1 then [e.2] else []) ++ (if l.contains e.2 then [e.1] else [])).filter fun m => !l.contains m).eraseDups)

/-- The members that this one reaches, itself included. -/
def Dev.reachSet (d : Dev) : List Nat := joinedBy d.yardEdges 8 [d.me]

/-- The bundle on which a control message leaves for a member: the route of YROUTE, or, where that gives none, the first
present bundle from whose far end the member is reached without this one. -/
def Dev.ctlPath (d : Dev) (m : Nat) : Option Nat :=
  match d.memberPath m with
  | some b => some b
  | none =>
    let rest := d.yardEdges.filter fun e => e.1 != d.me && e.2 != d.me
    (d.present.find? fun e => (joinedBy rest 8 [e.2]).contains m).map (·.1)

/-- The egress port at which a bundle is scheduled (R350). -/
def Dev.bundleLead (d : Dev) (b : Nat) : Option Nat := (d.bundlePorts b).head?

/-- The egress port of a unicast item. -/
def Dev.egressOf (d : Dev) (i : Item) : Option Nat :=
  match i.transit with
  | some m => (d.memberPath m).bind d.bundleLead
  | none =>
    match i.prim.dest with
    | .port m p => if m = d.me then some p else (d.memberPath m).bind d.bundleLead
    | .func => some 130
    | .bridge _ _ => some 129
    | _ => none

/-- The copies of an item, each with the port it is queued for. -/
def Dev.queuedAt (d : Dev) (p : Nat) (i : Item) : Bool :=
  (i.stage == .queued || i.stage == .resend) &&
  (if i.copies.isEmpty then d.egressOf i == some p else i.copies.any fun c => c.port == p && c.st == .queued)

/-- The items queued for a port, in storing order. -/
def Dev.queueOf (d : Dev) (p : Nat) : List Item := sortBy (fun i => i.stored) (d.path.items.filter (d.queuedAt p))

end Sys2Proof.Machine
end

