-- ==== Sys2Proof/Machine/Route.lean ====
section
/-! DEFINITION. Stage 5 (R200–R248, R275, R512): the virtual hierarchy as a route table, windows, crossings, access rules,
and the evaluation of a request. Everything here reads one device; the check evaluation reads the device as the check
copies show it (`Dev.chkView`). -/

namespace Sys2Proof.Machine

/-! ### Standard registers of the switch functions (R401–R410; offsets of capabilities: log entry 7) -/

def cfgKey (s fn dw : Nat) : Nat := (s * 256 + fn) * 1024 + dw

/-- The extended capabilities of a function (R403, R406, R409), in address order: DW, capability ID and version. The bridge function,
which has no capability at the first place, has a null one there. PRESUMED, log entry 7: the places. -/
def extCaps (fn : Nat) : List (Nat × Nat) :=
  if fn = 1 then [(64, 0x20001), (104, 0x10023)]
  else if fn = 2 then [(64, 0), (104, 0x10023)]
  else
    let link := [(118, 0x10019), (129, 0x10025), (132, 0x10026), (144, 0x10027), (162, 0x1002a), (174, 0x10031), (182, 0x1002f)]
    if fn = 0 then [(64, 0x20001), (84, 0x10012), (112, 0x1001f), (115, 0x10003)] ++ link ++ [(186, 0x2002e), (192, 0x10030)]
    else [(64, 0x20001), (82, 0x1000d), (84, 0x10012), (96, 0x1001d), (112, 0x1001f)] ++ link ++ [(192, 0x10030)]

/-- The header of the extended capability at a DW, with the place of the next one. -/
def extHeader (fn dw : Nat) : Option Nat :=
  match (extCaps fn).dropWhile fun e => e.1 != dw with
  | [] => none
  | [e] => some e.2
  | e :: n :: _ => some (e.2 + 4194304 * n.1)

/-- The Golbuent PCI Vendor ID, which the functions report: a value of the part (log entry 3). -/
def vendorId : Nat := (Config.factory 0x205 0 0xff0).toNat % 65536

/-- The reset value of a standard register of a function: 0 upstream port, 1 control, 2 bridge, 8 + k the port of slot k; the number 3,
which no function has, holds the CXL RAS registers of the upstream port. PRESUMED: log entry 7. -/
def cfgReset (fn dw : Nat) : Word :=
  if fn = 3 then (if dw = 1 ∨ dw = 2 then 0x0001cfff else if dw = 4 then 0x7f else 0)
  else if dw = 0 then
    word ((if fn = 1 then 0x9256 else if fn = 2 then 0x9257 else 0x9250) * 65536 + vendorId)
  else if dw = 1 then 0x00100000
  else if dw = 2 then word ((if fn = 1 then 0x088000 else if fn = 2 then 0x058000 else 0x060400) * 256)
  else if dw = 3 then (if fn = 1 ∨ fn = 2 then 0 else 0x00010000)
  else if dw = 13 then 0x40
  else if dw = 15 then (if fn = 1 then 0x00000100 else 0)
  else if dw = 16 then 0x00035001
  else if dw = 17 then (if fn < 8 then 0x00000008 else 0)
  else if dw = 20 then (if fn = 1 then 0x00029010 else if fn = 2 then 0x00020010 else if fn = 0 then 0x00520010 else 0x00620010)
  else if dw = 21 then (if fn = 1 ∨ fn = 2 then 0x10008000 else 0x00008000)
  else if dw = 22 then (if fn = 1 then 0x2810 else 0)
  else if dw = 29 then (if fn < 8 then 0x40 else 0x60)
  else if dw = 36 then (if fn = 1 then 0x003f0011 else 0)
  else if dw = 37 then (if fn = 1 then 0x00000002 else 0)
  else if dw = 38 then (if fn = 1 then 0x00002002 else 0)
  else if dw = 83 then (if 8 ≤ fn then 0x0000005f else 0)
  else if dw = 85 then (if fn = 0 ∨ 8 ≤ fn then 0x0000003f else 0)
  else if dw = 97 then (if 8 ≤ fn then 0x000010c0 else 0)
  else if dw = 105 then (if fn = 1 then word (0x01c00000 + vendorId)
    else if fn = 2 then word (0x02000000 + vendorId) else 0)
  else if dw = 113 then (if fn = 0 then 1 else if 8 ≤ fn then 2 else 0)
  else if dw = 130 then (if fn = 0 ∨ 8 ≤ fn then 0x80000001 else 0)
  else if dw = 193 then (if fn = 0 ∨ 8 ≤ fn then 0x43 else 0)
  else word ((extHeader fn dw).getD 0)

def Dev.cfg (d : Dev) (s fn dw : Nat) : Word := d.fn.cfg.getD (cfgKey s fn dw) (cfgReset fn dw)
def Dev.setCfg (d : Dev) (s fn dw : Nat) (w : Word) : Dev :=
  { d with fn := { d.fn with cfg := Tbl.put d.fn.cfg (cfgKey s fn dw) (cfgReset fn dw) w } }

/-- Command register bits: I/O Space, Memory Space, Bus Master Enable. -/
def Dev.cmdBit (d : Dev) (s fn i : Nat) : Bool := bit (d.cfg s fn 1) i
def Dev.secBus (d : Dev) (s fn : Nat) : Nat := fld (d.cfg s fn 6) 15 8
def Dev.subBus (d : Dev) (s fn : Nat) : Nat := fld (d.cfg s fn 6) 23 16

/-- A valid slot-table entry of a stable (R402): slot, member, port. -/
def Dev.slotTable (d : Dev) (s : Nat) : List (Nat × Nat × Nat) :=
  (d.listed R.PRT5_VSLOT_DATA).filterMap fun e =>
    if e.1 / 256 = s ∧ bit e.2 0 then some (e.1 % 256, fld e.2 3 1, fld e.2 11 4) else none

/-- A port of an MLD device. -/
def Dev.isMld (d : Dev) (p : Nat) : Bool := d.rf R.CXP_PORT_CXL_STATUS (0x100 + p) 1 0 == 2

/-- The stable that an LD of a port is bound to. -/
def Dev.ldStable (d : Dev) (p ld : Nat) : Option Nat :=
  let w := d.rd (R.CXP_LD_BIND ld) (0x100 + p)
  if bit w 0 then some (fld w 6 1) else none

/-- The LD of a port that is bound to a stable. -/
def Dev.boundLd (d : Dev) (p s : Nat) : Option Nat := (List.range 16).find? fun ld => d.ldStable p ld == some s

/-- The slots that present a function: the port is owned or shared by the stable, or is a SHARED MLD port, whose unbound vPPB
reports its link down (R295, R402); ports of other members stand as the table names them. DEDUCED: log entry 30. -/
def Dev.slots (d : Dev) (s : Nat) : List (Nat × Nat × Nat) :=
  (d.slotTable s).filter fun e => e.2.1 != d.me || (d.portStables e.2.2).contains s || (d.isMld e.2.2 && d.ownMode e.2.2 == 2)

/-- The slot of a port of a member in a stable's hierarchy, and of a local port. -/
def Dev.slotFor (d : Dev) (s m p : Nat) : Option Nat := ((d.slots s).find? fun e => e.2.1 == m && e.2.2 == p).map (·.1)
def Dev.slotOf (d : Dev) (s p : Nat) : Option Nat := d.slotFor s d.me p

/-- A place of entry as the decode sees it: a port of this member by its number, a port of another member as 1024 + 256 × member + port. -/
def farIn (m p : Nat) : Nat := 1024 + 256 * m + p % 256
def Dev.inMember (d : Dev) (ing : Nat) : Nat := if ing < 1024 then d.me else ing / 256 - 4
def Dev.inPort (ing : Nat) : Nat := ing % 256

/-- A stable that has a local upstream port, or one on another member (R512). DESIGN CHOICE: log entry 6. -/
def Dev.farUp (d : Dev) (s : Nat) : Option (Nat × Nat) :=
  if (d.upPort s).isNone && d.yardEn && d.yen s then
    let u := Config.remoteUp (d.ystable s)
    some (u / 128 % 8, u % 128)
  else none
def Dev.hasUp (d : Dev) (s : Nat) : Bool := (d.upPort s).isSome || (d.farUp s).isSome

/-- A TLP entered at the stable's upstream port, on whichever member that lies; or at a downstream port of it. -/
def Dev.fromUp (d : Dev) (s ing : Nat) : Bool :=
  if ing < 1024 then d.upPort s == some ing else d.farUp s == some (d.inMember ing, Dev.inPort ing)
def Dev.fromDown (d : Dev) (s ing : Nat) : Bool :=
  if ing < 1024 then d.isDown ing else decide (Dev.inPort ing < 128) && !d.fromUp s ing

/-- A request from the upstream port whose requester lies behind the downstream port that it is routed to: with ACS Upstream
Forwarding set there, it is not reflected (R212). DEDUCED: log entry 95. -/
def Dev.reflects (d : Dev) (s ing m p : Nat) (t : Tlp) : Bool :=
  d.fromUp s ing && match d.slotFor s m p with
    | some k => (fld (d.cfg s (8 + k) 83) 31 16).testBit 4 && decide (d.secBus s (8 + k) ≤ t.rid / 256) &&
        decide (t.rid / 256 ≤ d.subBus s (8 + k))
    | none => false

/-- ACS P2P Completion Redirect at the port where a completion enters (R212), for one that goes to another downstream port. -/
def Dev.cplRedirect (d : Dev) (s ing : Nat) (t : Tlp) : Bool :=
  t.kind == .cpl && !t.ro && d.fromDown s ing && match d.slotFor s (d.inMember ing) (Dev.inPort ing) with
    | some k => (fld (d.cfg s (8 + k) 83) 31 16).testBit 3
    | none => false

/-- RTE decodes nothing to an unbound vPPB of an MLD port (R295). DEDUCED: log entry 30. -/
def Dev.decodes (d : Dev) (s m p : Nat) : Bool := m != d.me || !d.isMld p || d.ownMode p == 1 || (d.boundLd p s).isSome

/-! ### Decode of one byte (R204) -/

/-- Where a byte decodes to. -/
inductive Tgt where
  | func | fpeer
  | mc (group : Nat)
  | win (idx kind member target xing base : Nat)
  | dsp (slot member port : Nat)
  | up | miss
  deriving DecidableEq, Repr

def inRange (lo hi x : Nat) : Bool := decide (lo ≤ x) && decide (x ≤ hi)

/-- The address in a 64-bit BAR. -/
def Dev.bar64 (d : Dev) (s fn dw : Nat) : Nat := (d.cfg s fn dw).toNat / 16 * 16 + 4294967296 * (d.cfg s fn (dw + 1)).toNat

/-- The size of a function's BAR pair by its first DW; 0 where none is implemented. -/
def Dev.barSize (d : Dev) (s fn dw : Nat) : Nat :=
  if fn = 1 ∧ dw = 4 then 33554432
  else if fn = 1 ∧ dw = 6 then 16384
  else if fn = 2 ∧ dw = 4 then 1048576 * 2 ^ d.rf R.PRT5_FN_CFG s 5 1
  else if fn = 0 ∧ dw = 4 then
    (match d.upPort s with
     | some p => if d.isCxl p then 65536 else 0
     | none => 0)
  else 0

/-- The function BAR that a byte hits (R204 step 1): function, first DW of the BAR and offset. -/
def Dev.funcBar (d : Dev) (s x : Nat) : Option (Nat × Nat × Nat) :=
  [(1, 4), (1, 6), (0, 4)].findSome? fun (fn, dw) =>
    let n := d.barSize s fn dw
    let b := d.bar64 s fn dw
    if n ≠ 0 ∧ d.cmdBit s fn 1 ∧ (d.upPort s).isSome ∧ b ≤ x ∧ x < b + n then some (fn, dw, x - b) else none

/-- The PCIe multicast group of a byte (R208). -/
def Dev.mcGroup (d : Dev) (s x : Nat) : Option Nat :=
  let c := d.cfg s 0 85
  let lo := d.cfg s 0 86
  let pos := fld lo 5 0
  let base := fld lo 31 12 * 4096 + 4294967296 * (d.cfg s 0 87).toNat
  if bit c 31 ∧ d.hasUp s ∧ base ≤ x ∧ x < base + (fld c 21 16 + 1) * 2 ^ pos then some ((x - base) / 2 ^ pos) else none

/-- The words of a window, crossing or rule in force. -/
def Dev.winW (d : Dev) (i k : Nat) : Word := d.rd (R.RTE_WIN_W k) i
def Dev.xingW (d : Dev) (i k : Nat) : Word := d.rd (R.RTE_XING_W k) i
def Dev.ruleW (d : Dev) (i k : Nat) : Word := d.rd (R.ISO_RULE_W k) i
def pageBase (w0 w1 : Word) : Nat := fld w0 31 12 * 4096 + 4294967296 * w1.toNat

/-- The window of a stable that covers a byte. -/
def Dev.winHit (d : Dev) (s x : Nat) : Option Nat :=
  ((d.listed (R.RTE_WIN_W 2)).find? fun e =>
    e.2 != 0 && fld (d.winW e.1 3) 5 0 == s &&
    (let b := pageBase (d.winW e.1 0) (d.winW e.1 1)
     decide (b ≤ x) && decide (x < b + e.2.toNat * 4096))).map (·.1)

/-- A downstream port range that covers a byte: memory and prefetchable ranges, or the I/O range. DEDUCED: log entry 61. -/
def Dev.dspHit (d : Dev) (s x : Nat) (io : Bool) : Option (Nat × Nat × Nat) :=
  (d.slots s).find? fun e =>
    let fn := 8 + e.1
    d.decodes s e.2.1 e.2.2 &&
    (if io then
      let w := d.cfg s fn 7
      let u := d.cfg s fn 12
      d.cmdBit s fn 0 && inRange (fld w 7 4 * 4096 + fld u 15 0 * 65536) (fld w 15 12 * 4096 + fld u 31 16 * 65536 + 4095) x
     else
      let m := d.cfg s fn 8
      let p := d.cfg s fn 9
      d.cmdBit s fn 1 &&
      (inRange (fld m 15 4 * 1048576) (fld m 31 20 * 1048576 + 1048575) x ||
       inRange (fld p 15 4 * 1048576 + 4294967296 * (d.cfg s fn 10).toNat)
         (fld p 31 20 * 1048576 + 1048575 + 4294967296 * (d.cfg s fn 11).toNat) x))

/-- Steps 3 to 5 of R204 for one byte. -/
def Dev.decodeWin (d : Dev) (s x : Nat) (fromUp io : Bool) : Tgt :=
  match (if io then none else d.winHit s x) with
  | some i =>
    let w := d.winW i 3
    .win i (fld w 7 6) (fld w 18 16) (fld w 15 8) (fld w 29 20) (pageBase (d.winW i 0) (d.winW i 1))
  | none =>
    match d.dspHit s x io with
    | some (k, m, p) => .dsp k m p
    | none => if fromUp then .miss else .up

/-- Steps 1 to 5 of R204 for one byte. -/
def Dev.decodeByte (d : Dev) (s x : Nat) (fromUp io : Bool) : Tgt :=
  match (if io then none else d.funcBar s x) with
  | some _ => if fromUp then .func else .fpeer
  | none =>
    match (if io then none else d.mcGroup s x) with
    | some g => .mc g
    | none => d.decodeWin s x fromUp io

/-- Two bytes fall in one target (R206). -/
def sameTgt : Tgt → Tgt → Bool
  | .win _ k m t x _, .win _ k' m' t' x' _ => k == k' && m == m' && t == t' && (k != 1 || x == x')
  | .dsp k _ _, .dsp k' _ _ => k == k'
  | a, b => a == b

/-! ### From targets to destinations -/

/-- The upstream destination of a stable (R512). DESIGN CHOICE: log entry 6. -/
def Dev.upDest (d : Dev) (s : Nat) : Dest :=
  match d.upPort s with
  | some p => .port d.me p
  | none => match d.farUp s with
    | some (m, p) => .port m p
    | none => .err 1

/-- A PORT destination, with R230 for unassigned ports and R222 for members without a route. -/
def Dev.portDest (d : Dev) (m p : Nat) : Dest :=
  if m = d.me then (if d.ownMode p = 0 ∧ !d.isFabric p then .err 1 else .port m p)
  else if (d.memberPath m).isNone then .err 7 else .port m p

/-- The route of a decode: destination, crossing, address sent on, whether step 6 applied. -/
structure RouteRes where
  dest : Dest
  xing : Option Nat
  addr : Nat
  redir : Bool
  deriving DecidableEq, Repr

/-- ACS P2P Request Redirect at the ingress port's function (R204 step 6, R212). -/
def Dev.acsRedirect (d : Dev) (s ing : Nat) (t : Tlp) : Bool :=
  match d.slotFor s (d.inMember ing) (Dev.inPort ing) with
  | some k =>
    let c := fld (d.cfg s (8 + k) 83) 31 16
    c.testBit 2 && !(t.at2 && c.testBit 6)
  | none => false

/-- Finish a PORT target: never back to the ingress port (R512), then step 6. -/
def Dev.finishPort (d : Dev) (s ing m p : Nat) (t : Tlp) (addr : Nat) (xing : Option Nat) : RouteRes :=
  let down := d.fromDown s ing
  if down ∧ m = d.inMember ing ∧ p = Dev.inPort ing then ⟨.err 1, xing, addr, false⟩
  else if d.reflects s ing m p t then ⟨.err 1, xing, addr, false⟩
  else if down ∧ d.acsRedirect s ing t then ⟨d.upDest s, xing, addr, true⟩
  else ⟨d.portDest m p, xing, addr, false⟩

/-- The class of a request that a crossing carries or not (R214). -/
def Dev.xingCarries (d : Dev) (n : Nat) (t : Tlp) : Bool :=
  let w := d.xingW n 2
  if t.kind = .atomic then bit w 18 else if tcls t = 0 then bit w 16 else bit w 17

/-- The second decode of a crossing (R215). -/
def Dev.decodeXing (d : Dev) (ing : Nat) (t : Tlp) (n lo hi : Nat) : RouteRes :=
  let w := d.xingW n 2
  let s := fld w 13 8
  let a := d.decodeWin s lo false false
  let b := d.decodeWin s hi false false
  if !sameTgt a b then ⟨.err 2, some n, lo, false⟩
  else match a with
    | .win _ 1 _ _ _ _ => ⟨.err 0xb, some n, lo, false⟩
    | .win _ 2 _ tg _ base => ⟨.bridge tg (lo - base), some n, lo, false⟩
    | .win _ _ m tg _ _ => d.finishPort s ing m tg t lo (some n)
    | .dsp _ m p => d.finishPort s ing m p t lo (some n)
    | .up => if bit w 19 then ⟨d.upDest s, some n, lo, false⟩ else ⟨.err 9, some n, lo, false⟩
    | _ => ⟨.err 9, some n, lo, false⟩

/-- Restrictions of R211 on a route. -/
def Dev.restrict (d : Dev) (s : Nat) (t : Tlp) (fromUp : Bool) (r : RouteRes) : RouteRes :=
  let bad (e : Nat) : RouteRes := { r with dest := .err e }
  match r.dest with
  | .err _ => r
  | _ =>
    match t.kind with
    | .memRdLk =>
      let okDst : Bool := match r.dest with
        | .port m p => m == d.me && d.isDown p && d.owner p == some s
        | .bridge _ _ => true
        | _ => false
      if d.rb R.RTE_RTE_CTRL 0 0 ∧ fromUp ∧ okDst then r else bad 4
    | .ioRd | .ioWr =>
      let okDst : Bool := match r.dest with
        | .port m p => m != d.me || (d.isDown p && d.owner p == some s)
        | _ => false
      if fromUp ∧ okDst then r else bad 0xc
    | .atomic =>
      let blocked : Bool := match r.dest with
        | .port m p =>
          let s' := match r.xing with
            | some n => fld (d.xingW n 2) 13 8
            | none => s
          (match d.slotFor s' m p with
            | some k => bit (d.cfg s' (8 + k) 30) 7
            | none => false)
        | _ => false
      if blocked then bad 0xd else r
    | _ => r


/-- Step 0 of R204: the reason for which a request received on a downstream port ends, if any. -/
def Dev.step0 (d : Dev) (s ing : Nat) (t : Tlp) : Option Nat :=
  if !d.fromDown s ing then none
  else match d.slotFor s (d.inMember ing) (Dev.inPort ing) with
    | none => none
    | some k =>
      let fn := 8 + k
      let c := fld (d.cfg s fn 83) 31 16
      if !d.cmdBit s fn 2 then some 0xf
      else if c.testBit 0 ∧ !inRange (d.secBus s fn) (d.subBus s fn) (t.rid / 256) then some 5
      else if c.testBit 1 ∧ t.at2 then some 6
      else none

/-- The decode of an address-routed request (R204–R208, R211–R215). -/
def Dev.decodeAddr (d : Dev) (s ing : Nat) (t : Tlp) : RouteRes :=
  let fromUp := d.fromUp s ing
  let io := t.kind == .ioRd || t.kind == .ioWr
  let lo := tlo t
  let hi := thi t
  match d.step0 s ing t with
  | some e => ⟨.err e, none, lo, false⟩
  | none =>
    let a := d.decodeByte s lo fromUp io
    let b := d.decodeByte s hi fromUp io
    d.restrict s t fromUp <|
    if !sameTgt a b then ⟨.err 2, none, lo, false⟩
    else match a with
      | .func => ⟨.func, none, lo, false⟩
      | .fpeer => ⟨.err 3, none, lo, false⟩
      | .mc g =>
        match (d.listed R.SWC_MC_CFG).find? fun e => bit e.2 0 && fld e.2 6 1 == s && fld e.2 13 8 == g with
        | some e => ⟨.mcast (e.1 - 0x100), none, lo, false⟩
        | none => ⟨.err 0xa, none, lo, false⟩
      | .win _ 1 _ _ n base =>
        if !d.xingCarries n t then ⟨.err 8, some n, lo, false⟩
        else
          let dst := pageBase (d.xingW n 0) (d.xingW n 1)
          d.decodeXing ing t n (lo - base + dst) (hi - base + dst)
      | .win _ 2 _ tg _ base => ⟨.bridge tg (lo - base), none, lo, false⟩
      | .win _ _ m tg _ _ => d.finishPort s ing m tg t lo none
      | .dsp _ m p => d.finishPort s ing m p t lo none
      | .up => ⟨d.upDest s, none, lo, false⟩
      | .miss => ⟨.err 1, none, lo, false⟩

/-- The decode by bus number (R209). The internal bus is no target from another ingress than the upstream port. DEDUCED: log entry 95. -/
def Dev.decodeId (d : Dev) (s ing : Nat) (t : Tlp) : Dest :=
  let fromUp := d.fromUp s ing
  let bus := t.tgt / 256
  let cfgReq := t.kind == .cfgRd || t.kind == .cfgWr
  if cfgReq ∧ !fromUp then .err 0xe
  else if cfgReq ∧ (t.fmtType = 0x04 ∨ t.fmtType = 0x44) then .func
  else if t.kind = .cpl ∧ t.rid = 256 * d.secBus s 0 ∧ d.hasUp s then .port d.me 128
  else if t.kind = .cpl ∧ t.rid = 256 * fld (d.cfg s 0 6) 7 0 ∧ d.hasUp s then .port d.me 130
  else
    let b := if t.kind = .cpl then t.rid / 256 else bus
    if b = d.secBus s 0 ∧ d.hasUp s then (if fromUp then .func else .err 1)
    else match (d.slots s).find? fun e => inRange (d.secBus s (8 + e.1)) (d.subBus s (8 + e.1)) b &&
        d.decodes s e.2.1 e.2.2 with
      | some (_, m, p) => if d.cplRedirect s ing t ∧ (m, p) ≠ (d.inMember ing, Dev.inPort ing) then d.upDest s else d.portDest m p
      | none => if fromUp then .err 1 else d.upDest s

/-- The route of a TLP in its stable (R200). A broadcast message takes group 64, the OWNED downstream ports. -/
def Dev.routeOf (d : Dev) (s ing : Nat) (t : Tlp) : RouteRes :=
  let fromUp := d.fromUp s ing
  let plain (x : Dest) : RouteRes := ⟨x, none, t.addr, false⟩
  match t.kind with
  | .cfgRd | .cfgWr | .cpl => plain (d.decodeId s ing t)
  | .msg =>
    if t.rtype = 0 then plain (if fromUp then .err 1 else d.upDest s)
    else if t.rtype = 1 then d.decodeAddr s ing t
    else if t.rtype = 2 then plain (d.decodeId s ing t)
    else if t.rtype = 3 then plain (if fromUp then .mcast 64 else .err 1)
    else plain .loc
  | _ => d.decodeAddr s ing t

/-! ### Access rules (R234–R242) -/

/-- The access types of a request: code of R244 and index among RD, WR, EX. Requests that rules do not check have none. -/
def accessTypes (t : Tlp) : List (Nat × Nat) :=
  match t.kind with
  | .memRd | .memRdLk => if t.er then [(4, 2)] else [(1, 0)]
  | .memWr => [(2, 1)]
  | .atomic => [(1, 0), (2, 1)]
  | .m2sRd => [(1, 0)]
  | .m2sWr => [(2, 1)]
  | .msg => if t.rtype = 1 then [(2, 1)] else []
  | _ => []

/-- The rule that governs a byte for a source kind: the first enabled rule of the stable that matches. -/
def Dev.ruleBy (d : Dev) (s x : Nat) (kind : Nat) (srcOk : Nat → Bool) : Option Nat :=
  ((d.listed (R.ISO_RULE_W 2)).find? fun e =>
    let w3 := d.ruleW e.1 3
    e.2 != 0 && fld w3 5 0 == s && fld w3 7 6 == kind && srcOk (fld w3 23 8) &&
    (let b := pageBase (d.ruleW e.1 0) (d.ruleW e.1 1)
     decide (b ≤ x) && decide (x < b + e.2.toNat * 4096))).map (·.1)

/-- The rule that governs a byte (R237). -/
def Dev.ruleAt (d : Dev) (s x ing rid : Nat) (xing : Option Nat) : Option Nat :=
  match xing with
  | some n => d.ruleBy s x 3 fun v => v % 1024 == n
  | none => (((d.ruleBy s x 2 fun v => v == rid) <|> (d.ruleBy s x 1 fun v => v % 256 == ing)) <|> (d.ruleBy s x 0 fun _ => true))

/-- The default map (R240): an enabled default rule covers the byte and has the P_ bit. -/
def Dev.defaultOk (d : Dev) (s x ty : Nat) : Bool :=
  (List.range 4).any fun k =>
    let w := d.rd (R.ISO_DEF_W0 k) s
    bit w 0 && bit w (1 + ty) &&
    decide (fld w 31 12 * 4096 + 4294967296 * d.rn (R.ISO_DEF_W1 k) s ≤ x) &&
    decide (x < (d.rf (R.ISO_DEF_W2 k) s 31 12 + 1) * 4096 + 4294967296 * d.rn (R.ISO_DEF_W3 k) s)

/-- The reason for which a byte is denied for an access type; 0 where it passes. -/
def Dev.byteReason (d : Dev) (s x ing rid : Nat) (xing : Option Nat) (priv : Bool) (ty : Nat) : Nat :=
  match d.ruleAt s x ing rid xing with
  | some r => if bit (d.ruleW r 0) (ty + 3 * b2n priv) then 0 else 2
  | none =>
    if xing.isSome then 4
    else if priv then (if d.defaultOk s x ty then 0 else 3)
    else 1

/-- The check of a byte range in one stable, part by part (R241). -/
def Dev.checkRange (d : Dev) (s lo hi ing rid : Nat) (xing : Option Nat) (priv : Bool) (types : List (Nat × Nat)) : Verdict :=
  let points := if hi / 4096 = lo / 4096 then [lo] else [lo, hi / 4096 * 4096]
  (points.findSome? fun x => types.findSome? fun ty =>
    let r := d.byteReason s x ing rid xing priv ty.2
    if r = 0 then none else some (Verdict.deny r ty.1 (some s) x xing.isSome)).getD .ok

/-- The permission of a request (R235–R242): in its own stable and, for a crossed one, in the destination stable. -/
def Dev.verdict (d : Dev) (s ing : Nat) (t : Tlp) (priv : Bool) (r : RouteRes) : Verdict :=
  let types := accessTypes t
  if types.isEmpty || r.dest == .func then .ok
  else match d.checkRange s (tlo t) (thi t) ing t.rid none priv types with
    | .ok =>
      (match r.xing with
       | some n => d.checkRange (fld (d.xingW n 2) 13 8) r.addr (r.addr + (thi t - tlo t)) ing t.rid (some n) priv types
       | none => .ok)
    | v => match r.xing, v with
      | some _, .deny a b c e _ => .deny a b c e true
      | _, v => v

/-! ### Slices and stables of requests (R232, R275, R297) -/

/-- The enabled slice of a SHARED port that a request matches (R275). -/
def Dev.sliceMatch (d : Dev) (p rid : Nat) (pasid : Option Nat) : Option Nat :=
  let sl := d.portSlices p
  let holds (k v : Nat) : Bool :=
    decide (d.rf R.SLC_SLICE_PBASE k 19 0 ≤ v) && decide (v < d.rf R.SLC_SLICE_PBASE k 19 0 + d.rf R.SLC_SLICE_PCOUNT k 20 0)
  let byRid := (sl.find? fun e => bit e.2 25 && holds e.1 rid).map (·.1)
  let byPasid := match pasid with
    | some q => (sl.find? fun e => !bit e.2 25 && holds e.1 q).map (·.1)
    | none =>
      let w := d.rd R.STL_STL_PORT_CFG p
      if bit w 26 && d.rb R.SLC_SLICE_CFG (fld w 25 16) 0 then some (fld w 25 16) else none
  byRid <|> byPasid

/-- The slice and the stable of a request or message received on a physical port (R232). -/
def Dev.srcOf (d : Dev) (p : Nat) (t : Tlp) : Option Nat × Option Nat :=
  match d.ownMode p with
  | 1 => (none, d.owner p)
  | 2 =>
    match t.ld with
    | some ld => if d.isMld p then (none, d.ldStable p (ld % 16)) else (none, none)
    | none =>
      match d.sliceMatch p t.rid t.pasid with
      | some k => (some k, some (d.sliceStable k))
      | none => (none, none)
  | _ => (none, none)

/-- The privilege of a request (R234). -/
def Dev.privOf (d : Dev) (p s : Nat) (t : Tlp) : Bool :=
  if d.upPort s = some p then true
  else match t.pasid with
    | some _ => t.pmr
    | none => d.ownMode p == 1 && d.rb R.ISO_PORT_OWN (0x100 + p) 16

/-! ### Generation domains (R278) -/

def domSlice (k : Nat) : Nat := k
def domPort (p : Nat) : Nat := 4096 + p
def domChan (c : Nat) : Nat := 8192 + c
def domLd (p ld : Nat) : Nat := 16384 + 16 * p + ld

/-- The domain of a DMA channel, whose late completions go on to P128, which counts them (R347). DEDUCED: log entry 77. -/
def isChanDom (dom : Option Nat) : Bool := dom.any fun x => decide (8192 ≤ x) && decide (x < 8256)

def Dev.gen (d : Dev) (dom : Nat) : Gen := d.slice.gens.getD dom ⟨0, false⟩
def Dev.genOf (d : Dev) (dom : Option Nat) : Nat := match dom with
  | some x => (d.gen x).g
  | none => 0

/-- The generation domain of a request received on a physical port. -/
def Dev.domOfReq (d : Dev) (p : Nat) (slice : Option Nat) (t : Tlp) : Option Nat :=
  match slice with
  | some k => some (domSlice k)
  | none =>
    if d.ownMode p = 1 ∧ d.isDown p then some (domPort p)
    else match t.ld with
      | some ld => if d.isMld p then some (domLd p (ld % 16)) else none
      | none => none

/-! ### Evaluation (R370) -/

/-- One evaluation of stage 5: the decode as from the place of entry `src`, the access rules as from the ingress port of this member. A TLP
without a stable gets none and no route. -/
def Dev.evaluateAt (d : Dev) (s : Option Nat) (src ing : Nat) (t : Tlp) (priv : Bool) (dom : Option Nat) : Eval :=
  match s with
  | none => ⟨none, none, .err 0, none, t.addr, .deny 7 0 none (tlo t) false, d.genOf dom, false⟩
  | some s =>
    let r := d.routeOf s src t
    let tag := match r.xing with
      | some n => fld (d.xingW n 2) 13 8
      | none => s
    ⟨some s, some tag, r.dest, r.xing, r.addr, d.verdict s ing t priv r, d.genOf dom, r.redir⟩

/-- The evaluation of a TLP that enters the yard at this member. -/
def Dev.evaluate (d : Dev) (s : Option Nat) (ing : Nat) (t : Tlp) (priv : Bool) (dom : Option Nat) : Eval := d.evaluateAt s ing ing t priv dom

/-- The re-check of a TLP at stage 8, or of a held write (R245): the rules in force on the addresses and destination fixed at
stage 5, and membership (R233). -/
def Dev.recheck (d : Dev) (ing : Nat) (t : Tlp) (priv : Bool) (e : Eval) (port : Nat) : Verdict :=
  match e.stable, e.tagStb with
  | some s, some g =>
    let types := accessTypes t
    let n := thi t - tlo t
    let first : Verdict :=
      if types.isEmpty || e.dest == .func then .ok
      else match d.checkRange s (tlo t) (thi t) ing t.rid none priv types with
        | .ok => if e.xing.isSome then d.checkRange g e.xaddr (e.xaddr + n) ing t.rid e.xing priv types else .ok
        | v => v
    (match first with
     | .deny _ ty c a _ => .deny 5 ty c a e.xing.isSome
     | .ok => if d.member g port then .ok else .deny 6 0 (some g) (tlo t) e.xing.isSome)
  | _, _ => .ok

end Sys2Proof.Machine
end

