-- ==== Sys2Proof/Machine/Path.lean ====
section
/-! DEFINITION. What becomes of TLPs inside the block: completions that the block itself makes (R192, R216, R243, R272),
AER reports (R392), the logs of lost, dropped, denied, misrouted and refused TLPs, the non-posted ledger (R281–R283),
generations (R278–R279), dirty-page records (R284–R286) and grants at stage 6 (R176). -/

namespace Sys2Proof.Machine

/-! ### Cycle position (R71) -/

def Dev.cyc1 (d : Dev) (dom : Nat) : CycDom := (d.cyc.doms[dom]?).getD CycDom.reset
def Dev.setCyc (d : Dev) (dom : Nat) (c : CycDom) : Dev := { d with cyc := { d.cyc with doms := d.cyc.doms.set dom c } }

/-- The phase at device time t in a period of P/256 ns. -/
def phaseAt (t start p : Nat) : Nat := if p = 0 then 65535 else min 65535 ((t - start) * 65536 * 256 / p)

/-- P in 1/256 ns under which the domain's phase runs: the estimate, or NOM_PERIOD in FREERUN (R72). -/
def Dev.cycP (d : Dev) (dom : Nat) : Nat :=
  let c := d.cyc1 dom
  if c.state = .freerun then 256 * d.rd64 R.CYC_NOM_PERIOD_LO R.CYC_NOM_PERIOD_HI dom else c.p

def Dev.phase (d : Dev) (dom : Nat) : Nat :=
  let c := d.cyc1 dom
  if c.running then phaseAt d.now c.tStart (d.cycP dom) else 0

/-- Phase in [15:0] and cycle number in [31:16] of a stable's bound domain. -/
def Dev.posWord (d : Dev) (s : Nat) : Word := word (d.phase (d.domOf s) + 65536 * ((d.cyc1 (d.domOf s)).cycle % 65536))

/-! ### Issuing TLPs of the block -/

/-- Both evaluations of a request (R370). -/
def Dev.evalBoth (d : Dev) (s : Option Nat) (ing : Nat) (t : Tlp) (priv : Bool) (dom : Option Nat) : Eval × Eval :=
  (d.evaluate s ing t priv dom, d.chkView.evaluate s ing t priv dom)

/-- A request that an internal port issues: it passes stage 5 and waits at stage 6. -/
def Dev.issue (d : Dev) (s port : Nat) (src : Src) (t : Tlp) (priv : Bool) (dom : Option Nat) : Dev :=
  let (e, c) := d.evalBoth (some s) port t priv dom
  d.addItem { mkItem t port src e c with priv := priv, dom := dom }

/-- A message of a switch function of a stable towards its host. -/
def Dev.sendMsg (d : Dev) (s code : Nat) (data : List Byte) : Dev :=
  match d.upDest s with
  | .err _ => d
  | x =>
    let t : Tlp := { Tlp.blank with fmtType := 0x30, code := code, rid := 256 * fld (d.cfg s 0 6) 7 0, data := data }
    d.addItem (mkItem t 130 (.msg s) (mkEval (some s) x 0) (mkEval (some s) (d.chkView.upDest s) 0))

/-! ### AER (R392) -/

/-- The function of a port in a stable's hierarchy. -/
def Dev.fnOfPort (d : Dev) (s p : Nat) : Option Nat :=
  if d.upPort s = some p then some 0 else (d.slotOf s p).map (8 + ·)

/-- An uncorrectable error in, or received by, an OWNED downstream port's function: DPC triggers where the host's DPC
Trigger Enable says so (R393). `status` is DPC Status as it will read. -/
def Dev.dpcHost (d : Dev) (s fn : Nat) (fatal : Bool) (status : Nat) : Dev :=
  let en := fld (d.cfg s fn 97) 17 16
  match (d.slots s).find? fun e => 8 + e.1 == fn with
  | some (_, m, p) =>
    if m = d.me ∧ d.ownMode p = 1 ∧ (en = 2 ∨ (en = 1 ∧ fatal)) then { d with saf := { d.saf with dpc := d.saf.dpc ++ [(p, status)] } } else d
  | none => d

/-- DW i of a Header Log: the header of a TLP after its prefixes, the first byte uppermost. -/
def headerWord (t : Tlp) (i : Nat) : Word :=
  word (numOf (((hdrBytes { t with pre := [] } ++ List.replicate 16 0).drop (4 * i)).take 4).reverse)

/-- Report an error in a function's AER capability: set its status bit and signal it upstream under the mask, severity and
enable bits of the host; the first unmasked one is pointed to, with its TLP's header. PRESUMED: log entry 59. Bits 0–31 are uncorrectable errors, 32–63 correctable ones. -/
def Dev.aer (d : Dev) (s fn bitNo : Nat) (t : Option Tlp) : Dev :=
  if !d.hasUp s then d
  else if bitNo < 32 then
    let first := !bit (d.cfg s fn 65) (fld (d.cfg s fn 70) 4 0)
    let d := d.setCfg s fn 65 (setFld (d.cfg s fn 65) bitNo bitNo 1)
    if bit (d.cfg s fn 66) bitNo then d
    else
      let d := if first then d.setCfg s fn 70 (setFld (d.cfg s fn 70) 4 0 bitNo) else d
      let d := if first then t.elim d fun t => (List.range 4).foldl (fun d i => d.setCfg s fn (71 + i) (headerWord t i)) d else d
      let fatal := bit (d.cfg s fn 67) bitNo
      let d := if 8 ≤ fn then d.dpcHost s fn fatal 1 else d
      if bit (d.cfg s fn 22) (if fatal then 2 else 1) then d.sendMsg s (if fatal then 0x33 else 0x31) [] else d
  else
    let b := bitNo - 32
    let d := d.setCfg s fn 68 (setFld (d.cfg s fn 68) b b 1)
    if bit (d.cfg s fn 69) b then d
    else if bit (d.cfg s fn 22) 0 then d.sendMsg s 0x30 [] else d

/-- ERR_COR that a host has enabled in the DPC Control of a downstream port's functions (R393): bit 20 at a trigger, bit 23 where the data
link becomes active. -/
def Dev.dpcCor (d : Dev) (p en : Nat) : Dev :=
  (d.portStables p).foldl (fun d s => match d.slotOf s p with
    | some k => if d.hasUp s && bit (d.cfg s (8 + k) 97) en && bit (d.cfg s (8 + k) 22) 0 then d.sendMsg s 0x30 [] else d
    | none => d) d

/-- Report an error of a port in its function: in the owner, or in every stable that holds a slice. -/
def Dev.aerPort (d : Dev) (p bitNo : Nat) (t : Option Tlp) : Dev :=
  if 128 ≤ p ∨ d.isFabric p then d
  else
    let d := d.bump (if bitNo < 32 then R.PRT2_CNT_UNCOR else R.PRT2_CNT_COR) p
    (d.portStables p).foldl (fun d s => match d.fnOfPort s p with
      | some fn => d.aer s fn bitNo t
      | none => d) d

/-- Report an error of a TLP of one stable in the function of a port. -/
def Dev.aerIn (d : Dev) (s : Option Nat) (p bitNo : Nat) (t : Tlp) : Dev :=
  if 128 ≤ p ∨ d.isFabric p then d
  else
    let d := d.bump (if bitNo < 32 then R.PRT2_CNT_UNCOR else R.PRT2_CNT_COR) p
    match s with
    | some s => match d.fnOfPort s p with
      | some fn => d.aer s fn bitNo (some t)
      | none => d
    | none => d

/-! ### Completions made by the block -/

/-- Max_Payload_Size in force towards a port: of its function, or 128 B where none presents it. -/
def Dev.mps (d : Dev) (s : Option Nat) (p : Nat) : Nat :=
  match s.bind fun s => (d.fnOfPort s p).map fun fn => (s, fn) with
  | some (s, fn) => 128 * 2 ^ min 5 (fld (d.cfg s fn 22) 7 5)
  | none => 128

/-- The pieces of a completion of n bytes at an address (R192): start and length of each. -/
def splitCpl : Nat → Nat → Nat → Nat → List (Nat × Nat)
  | 0, _, _, _ => []
  | fuel + 1, m, a, n =>
    if n ≤ m then [(a, n)]
    else
      let e := max ((a + m) / 64 * 64) (a + 1)
      (a, e - a) :: splitCpl fuel m e (n - (e - a))

/-- The completion TLP that answers a request. -/
def cplFor (req : Tlp) (status : Nat) (addr remain : Nat) (data : List Byte) (last : Bool) : Tlp :=
  { Tlp.blank with
    kind := .cpl, fmtType := (if data.isEmpty then 0x0a else 0x4a) + b2n (req.kind == .memRdLk), addr := addr, len := cdiv data.length 4 % 1024
    rid := req.rid, tag := req.tag, tc := req.tc, status := status, bytes := remain, lastCpl := last, ld := req.ld, data := data }

/-- The destination of a completion for a request that entered at a port: that port, or, for a request from another member,
the route of its requester ID. -/
def Dev.cplDest (d : Dev) (s : Option Nat) (ing : Nat) (t : Tlp) : Dest :=
  if d.isFabric ing then (match s with
    | some s => d.decodeId s ing t
    | none => .err 1)
  else .port d.me ing

/-- Queue a completion for a request that entered at port `ing` of stable s, charged to port `asPort`. -/
def Dev.sendCpl (d : Dev) (s : Option Nat) (ing asPort : Nat) (src : Src) (t : Tlp) : Dev :=
  d.addItem { mkItem t asPort src (mkEval s (d.cplDest s ing t) t.addr) (mkEval s (d.chkView.cplDest s ing t) t.addr) with own := true }

/-- Complete a request with a status and no data. -/
def Dev.completeStatus (d : Dev) (req : Tlp) (s : Option Nat) (ing asPort : Nat) (src : Src) (status : Nat) : Dev :=
  d.sendCpl s ing asPort src (cplFor req status req.addr (4 * dwLen req) [] true)

/-- Complete a read with data, split under R192. -/
def Dev.completeData (d : Dev) (req : Tlp) (s : Option Nat) (ing asPort : Nat) (src : Src) (addr : Nat) (data : List Byte) : Dev :=
  let n := data.length
  (splitCpl 64 (d.mps s ing) addr n).foldl (fun d (a, k) =>
    let off := a - addr
    d.sendCpl s ing asPort src (cplFor req 0 a (n - off) ((data.drop off).take k) (off + k == n))) d

/-- What a port that is down, contained or empty returns to a non-posted request (R110): UR, or all ones under SR_MODE. -/
def Dev.srComplete (d : Dev) (req : Tlp) (s : Option Nat) (ing asPort : Nat) (src : Src) (bytes : Nat) (ur : Bool) : Dev :=
  let isRead := match req.kind with
    | .memRd | .memRdLk | .ioRd | .cfgRd => true
    | _ => false
  if !ur && isRead && d.rb R.PRT0_PORT_CFG asPort 10 then
    d.completeData req s ing asPort src (tlo req + (4 * dwLen req - bytes)) (List.replicate bytes 255)
  else d.completeStatus req s ing asPort src 1

/-- How many completions `srComplete` makes. -/
def Dev.srCount (d : Dev) (req : Tlp) (s : Option Nat) (ing asPort bytes : Nat) (ur : Bool) : Nat :=
  let isRead := match req.kind with
    | .memRd | .memRdLk | .ioRd | .cfgRd => true
    | _ => false
  if !ur && isRead && d.rb R.PRT0_PORT_CFG asPort 10 then
    (splitCpl 64 (d.mps s ing) (tlo req + (4 * dwLen req - bytes)) bytes).length
  else 1

/-! ### Logs -/

/-- Log a lost posted write (R387): the log, the counts, TAINT and POSTED_LOSS. -/
def Dev.logLoss (d : Dev) (egress cause : Nat) (mc : Bool) (ing : Nat) (s : Option Nat) (t : Tlp) : Dev :=
  let st := s.getD 0
  let ent : PLoss := ⟨egress, st, cause, mc, ing, t.rid, 4 * dwLen t, t.addr, t.pasid, d.now, d.posWord st⟩
  let d := { d with logs := { d.logs with ppl := d.logs.ppl.add 64 ent } }
  let d := (d.bump R.PRT2_PPL_CNT).bump R.PRT2_CNT_PLOSS egress s
  let d := d.wf R.PRT2_ERR_STATUS egress 4 4 1
  match s with
  | some s => d.raise (0x7c0 + s)
  | none => d

/-- A memory write whose loss R387 logs. -/
def isWrite (t : Tlp) : Bool := t.kind == .memWr

/-- Write an entry of the port drop log (R194). -/
def Dev.logDrop (d : Dev) (p : Nat) (unconf mc : Bool) (s : Option Nat) (t : Tlp) : Dev :=
  let ent : Drop := ⟨t.fmtType, unconf, mc, s.getD 0, t.rid, if isAddr t then t.addr / 4 * 4 else 0, t.pasid, t.len, d.now⟩
  let l := d.path.drops.getD p ⟨[], false⟩
  { d with path := { d.path with drops := Tbl.put d.path.drops p ⟨[], false⟩ (l.add 16 ent) } }

/-- Count and log a routing error (R216, R217). One of a TLP that no stable of this member decodes is logged under stable 0, and no counter
takes it. DESIGN CHOICE: log entry 97. -/
def Dev.logRoute (d : Dev) (s : Option Nat) (ing reason : Nat) (t : Tlp) : Dev :=
  let ent : RouteErr := ⟨t.fmtType, ing, s.getD 0, reason, t.rid, t.len, if isAddr t then t.addr else t.tgt * 65536, d.now⟩
  let d := { d with logs := { d.logs with route := d.logs.route.add 16 ent } }
  let d := (match s with
    | some s => d.bump R.RTE_STB_CNT_ERR s (some s)
    | none => d).raise 0x500
  if reason = 5 ∨ reason = 6 then d.raise 0x501 else d

/-- Count and log a denial (R243, R244) under the stable charged; a denial without a stable is logged alone. -/
def Dev.logDenial (d : Dev) (charged : Option Nat) (ing reason type addr : Nat) (priv xed : Bool) (slice : Option Nat) (t : Tlp) : Dev :=
  let ent : AccFault := ⟨t.fmtType, ing, charged, priv, xed, reason, type, t.rid, t.len, addr, t.pasid, d.now⟩
  let d := { d with logs := { d.logs with flt := d.logs.flt.add 16 ent } }
  match charged with
  | some s =>
    let d := { d with saf := { d.saf with
        afTimes := d.saf.afTimes ++ [(s, d.now)]
        lastDenySlice := Tbl.put d.saf.lastDenySlice s 0 (match slice with
          | some k => k + 1
          | none => 0) } }
    (d.bump R.ISO_STB_CNT_FAULT s (some s)).raise (0x540 + 2 * s)
  | none => d

/-- Count and log a refusal (R272, R273). -/
def Dev.logRefusal (d : Dev) (p reason : Nat) (s : Option Nat) (t : Tlp) : Dev :=
  let cfg := t.kind == .cfgRd || t.kind == .cfgWr
  let ent : Refused := ⟨p, t.fmtType, s, reason, t.rid, t.len, t.pasid, if cfg then 0 else t.addr, d.now⟩
  let d := { d with logs := { d.logs with rf := d.logs.rf.add 16 ent } }
  (d.bump R.STL_CNT_REFUSE 0 s).raise (if reason = 1 then 0x5c1 else 0x5c0)

/-- An unexpected completion (R391): discarded, counted and reported. DEDUCED: log entry 47. -/
def Dev.unexpected (d : Dev) (ing : Nat) (t : Tlp) : Dev :=
  let d := (d.bump R.PRT2_CNT_UNEXP ing).faultDue 0x16 (d.srcOf ing t).2 (some ing) (word ing)
  if d.ownMode ing = 1 then d.aerIn (d.owner ing) ing 16 t else d

/-! ### The non-posted ledger (R281–R283) -/

/-- A non-posted request is tracked by the ledger. -/
def Dev.tracked (d : Dev) (i : Item) : Bool :=
  tcls i.tlp == 1 && !isMem i.tlp &&
  (i.prim.xing.isSome || i.track ||
   (match d.egressOf i with
    | some p => decide (p < 128) && (d.rb R.PRT4_LED_CFG p 0 || d.ownMode p == 2)
    | none => false))

/-- Ledger entries that a context holds (NP_OUT). -/
def Dev.npOut (d : Dev) (key : Nat) : Nat := (d.slice.ledger.filter fun l => l.key == some key && !l.ghost).length

def Dev.setLedger (d : Dev) (l : List Led) : Dev := { d with slice := { d.slice with ledger := l } }

/-- Take the ledger entry of an item at stage 6. -/
def Dev.takeLedger (d : Dev) (i : Item) : Dev :=
  let rd := match i.tlp.kind with
    | .memRd | .memRdLk | .ioRd | .cfgRd => true
    | _ => false
  d.setLedger (d.slice.ledger ++ [⟨(d.egressOf i).getD 0, i.tlp.rid, i.tlp.tag, i.ingress, i.stb, i.key, i.slice, i.dom, i.prim.gen,
    if rd then 4 * dwLen i.tlp else 0, i.tlp.addr, rd, i.src, d.now, false⟩])

/-- The ledger entry of an item. -/
def isLedOf (i : Item) (l : Led) : Bool :=
  l.rid == i.tlp.rid && l.tag == i.tlp.tag && l.ingress == i.ingress && l.stable == i.stb

/-- Free the ledger entry of an item that stage 8 removes. -/
def Dev.freeLedger (d : Dev) (i : Item) : Dev :=
  if tcls i.tlp = 1 then d.setLedger (dropFirst (isLedOf i) d.slice.ledger) else d

/-- The request that a ledger entry stands for, as far as its completion needs it. -/
def Led.req (l : Led) : Tlp :=
  { Tlp.blank with kind := if l.isRead then .memRd else .cfgWr, rid := l.rid, tag := l.tag, addr := l.addr, len := l.bytes / 4 % 1024 }

/-- Complete ledger entries towards their requesters and leave them as ghosts (R283). -/
def Dev.synthLedger (d : Dev) (sel : Led → Bool) : Dev :=
  let d := (d.slice.ledger.filter fun l => sel l && !l.ghost).foldl (fun d l =>
    (d.srComplete l.req l.stable l.ingress l.egress l.src l.bytes (d.isUp l.egress)).bumpBy R.PRT4_LED_CNT_SYNTH l.egress
      (d.srCount l.req l.stable l.ingress l.egress l.bytes (d.isUp l.egress)) l.stable) d
  d.setLedger (d.slice.ledger.map fun l => if sel l then { l with ghost := true } else l)

/-! ### Generations (R278, R279) -/

/-- TLPs of a domain that carry a generation and are still in the device. -/
def Dev.genInUse (d : Dev) (dom g : Nat) : Bool :=
  (d.path.items.any fun i => i.dom == some dom && i.prim.gen == g) || (d.path.inbox.any fun i => i.dom == some dom && i.prim.gen == g) ||
  (d.stall.miss.any fun k => k.gen == g && isReq k.tlp && k.dom == some dom)

/-- A generation that counts as retired: another than the current one, or the current one under a held advance. -/
def Dev.retired (d : Dev) (dom : Option Nat) (g : Nat) : Bool :=
  match dom with
  | some x => (d.gen x).g != g || (d.gen x).pend
  | none => false

/-- A request that P129 or P130 answers is matched against its ledger entry (R282): the entry is freed, and the answer is
delivered unless the entry is a ghost or of an old generation. PRESUMED: log entry 28. -/
def Dev.ledgerAnswer (d : Dev) (i : Item) (asPort : Nat) : Dev × Bool :=
  match d.slice.ledger.find? fun l => isLedOf i l && l.egress == asPort with
  | none => (d, true)
  | some l =>
    let d := d.setLedger (d.slice.ledger.erase l)
    if l.ghost ∨ d.retired l.dom l.gen then (d.bump R.PRT4_LED_CNT_STALE, false) else (d, true)

def Dev.setGen (d : Dev) (dom : Nat) (g : Gen) : Dev :=
  { d with slice := { d.slice with gens := Tbl.put d.slice.gens dom ⟨0, false⟩ g } }

/-- Mark the queued TLPs of a domain's retired generations. -/
def Dev.markGen (d : Dev) (dom : Nat) : Dev :=
  let mark (i : Item) : Item :=
    if (i.dom == Option.some dom) && d.retired i.dom i.prim.gen && i.stage != .sending then { i with marked := true } else i
  { d with path := { d.path with items := d.path.items.map mark } }

/-- Advance a generation domain (R279), without the bridge's purge. The ledger entries of a slice or an LD are completed; the ghosts of
any domain are freed (R283, R297). -/
def Dev.genAdvance (d : Dev) (dom : Nat) : Dev :=
  let g := d.gen dom
  let old := (g.g + 255) % 256
  let d := d.setLedger (d.slice.ledger.filter fun l => !(l.dom == some dom && l.ghost))
  let d := if dom < 4096 ∨ 16384 ≤ dom then d.synthLedger fun l => l.dom == some dom else d
  let d :=
    if g.pend then d
    else if d.genInUse dom old then (d.setGen dom { g with pend := true }).raise 0x5c7
    else d.setGen dom ⟨(g.g + 1) % 256, false⟩
  d.markGen dom

/-! ### Dirty-page logging (R284–R286) -/

/-- Set OVERFLOW of a group, and WRITE_FAIL where the record could not be issued. -/
def Dev.dlgOverflow (d : Dev) (g : Nat) (fail : Bool) : Dev :=
  let i := 0x1000 + g
  let was := d.rb R.SLC_DLG_STATUS i 0
  let d := d.wr R.SLC_DLG_STATUS i (word (d.rn R.SLC_DLG_STATUS i ||| (if fail then 3 else 1)))
  if was then d
  else (d.wn R.SLC_DLG_LAST 0 g).raiseFor 0x5ca [d.rf R.SLC_DLG_CFG i 6 1]

/-- A port can take TLPs: its link is up or it is internal or fabric, and it is not fenced. -/
def Dev.portOpen (d : Dev) (p : Nat) : Bool := decide (128 ≤ p) || d.isFabric p || (d.dlUp p && !d.fenced p)

/-- One page touched by a logged write: absorbed by the filter, recorded, or lost to OVERFLOW. -/
def Dev.dirtyPage (d : Dev) (g page : Nat) : Dev :=
  let i := 0x1000 + g
  let set := page % 512
  let f := d.slice.filter.getD g []
  let put (d : Dev) (f : List (Nat × Nat)) : Dev := { d with slice := { d.slice with filter := Tbl.put d.slice.filter g [] f } }
  if !d.rb R.SLC_DLG_CFG i 0 then d
  else if f.contains (page, set) then (put d ((page, set) :: f.erase (page, set))).bump R.SLC_DLG_CNT_DEDUP i
  else
    let same := f.filter fun e => e.2 == set
    let f' := (page, set) :: (if same.length < 4 then f else match same.getLast? with
      | some e => f.erase e
      | none => f)
    let d := put d f'
    let size := d.rf R.SLC_DLG_SIZE i 15 0
    let prod := d.rf R.SLC_DLG_PROD i 15 0
    let next := if prod + 1 < size then prod + 1 else 0
    let s := d.rf R.SLC_DLG_CFG i 6 1
    if size = 0 ∨ next = d.rf R.SLC_DLG_CONS i 15 0 then d.dlgOverflow g false
    else match d.upDest s with
      | .port m up =>
        if m = d.me ∧ !d.portOpen up then d.dlgOverflow g true
        else
          let ph := d.slice.phase.getD g false
          let base := d.rf R.SLC_DLG_BASE_LO i 31 12 * 4096 + 4294967296 * d.rn R.SLC_DLG_BASE_HI i
          let t := mkWrite (base + 8 * prod) (256 * d.secBus s 0) 0 (bytesOf 8 (page * 4096 + b2n (!ph)))
          let id := d.path.nextId
          let d := d.issue s 128 (.dirty g) t true none
          let d := (d.wn R.SLC_DLG_PROD i next).bump R.SLC_DLG_CNT_REC i
          { d with slice := { d.slice with
              dirtyOut := d.slice.dirtyOut ++ [(id, g)]
              phase := if next = 0 then Tbl.put d.slice.phase g false (!ph) else d.slice.phase } }
      | _ => d.dlgOverflow g true

/-- A logged write passes stage 8 (R284). -/
def Dev.dirtyLog (d : Dev) (i : Item) : Dev :=
  match i.logged, i.stb with
  | some g, some s =>
    if (i.tlp.kind == .memWr || i.tlp.kind == .atomic) && i.prim.dest == d.upDest s then
      let a := i.prim.xaddr
      let b := a + (thi i.tlp - tlo i.tlp)
      let d := d.dirtyPage g (a / 4096)
      if b / 4096 = a / 4096 then d else d.dirtyPage g (b / 4096)
    else d
  | _, _ => d

/-- A record write has been transmitted or has failed: SYNC that waited for it may end. -/
def Dev.dirtyDone (d : Dev) (id : Nat) : Dev :=
  let out := d.slice.dirtyOut.filter fun e => e.1 != id
  let d := { d with slice := { d.slice with dirtyOut := out } }
  (d.slice.syncWait.map (·.1)).foldl (fun d g =>
    let w := (d.slice.syncWait.getD g []).filter fun x => out.any fun e => e.1 == x
    let d := { d with slice := { d.slice with syncWait := Tbl.put d.slice.syncWait g [] w } }
    if w.isEmpty then d.wf R.SLC_DLG_CTRL (0x1000 + g) 1 1 0 else d) d

/-! ### Removal without transmission -/

/-- Remove an item and free its cells. -/
def Dev.dropItem (d : Dev) (i : Item) : Dev :=
  let d := (d.rmItem i.id).poolChanged
  match i.src with
  | .dirty _ => d.dirtyDone i.id
  | _ => d

/-- A TLP of an internal source that is removed tells its source: a dirty record sets WRITE_FAIL; a CXL.mem request is to
be answered by CXP; a write-back of the loft is issued again, and a read of it stays without a response. DESIGN CHOICE: log entry 99. -/
def Dev.srcFail (d : Dev) (i : Item) : Dev :=
  match i.src with
  | .dirty g => d.dlgOverflow g true
  | .m2s id => { d with cxp := { d.cxp with lost := d.cxp.lost ++ [id] } }
  | .loft key =>
    let upd (f : Fetch) : Fetch :=
      if f.key = key ∧ f.sent then (if f.why = .writeback then { f with sent := false } else { f with lost := true }) else f
    { d with stall := { d.stall with fetch := d.stall.fetch.map upd } }
  | .chan c k => if 131072 ≤ k ∧ k < 196608 then d.raise (0x6c0 + 2 * c) else d
  | _ => d

/-- A non-posted TLP of a packet ends on a member that it only passes: its completion goes back to the port at which it entered the yard,
as transit traffic (R160, R216, R220). DEDUCED: log entry 38. -/
def Dev.endBack (d : Dev) (p : Nat) (pk : Packet) (status : Nat) : Dev :=
  let t := cplFor pk.tlp status pk.tlp.addr (4 * dwLen pk.tlp) [] true
  let e := mkEval none (.port pk.src pk.srcPort) t.addr
  d.addItem { mkItem t p .ext e e with
    own := true, transit := some pk.src
    pkt := some { pk with seq := 0, cls := 2, slots := pktSlots t, dst := pk.src, dstPort := pk.srcPort, src := d.me, srcPort := p, hops := 0
                          tlp := t } }

/-- Complete the non-posted request of a removed item; CXL.mem requests are answered by CXP (R299, R305). -/
def Dev.npFail (d : Dev) (i : Item) (status : Nat) : Dev :=
  if tcls i.tlp ≠ 1 ∨ isMem i.tlp then d
  else match i.transit, i.pkt with
    | some _, some pk => d.endBack i.ingress pk status
    | _, _ => d.completeStatus i.tlp i.stb i.ingress i.ingress i.src status

/-- Remove a TLP whose route is an error (R216). -/
def Dev.removeRoute (d : Dev) (i : Item) (reason : Nat) : Dev :=
  let d := ((d.freeLedger i).dropItem i).logRoute i.stb i.ingress reason i.tlp
  if i.tlp.kind = .cpl then d.unexpected i.ingress i.tlp
  else
    let d := d.srcFail i
    let d := if reason = 5 ∨ reason = 6 then d.aerIn i.stb i.ingress 21 i.tlp
      else if reason = 0xd then d.aerIn i.stb i.ingress 24 i.tlp
      else if tcls i.tlp = 1 then d.aerIn i.stb i.ingress 20 i.tlp else d
    d.npFail i 1

/-- Remove a denied TLP (R243). -/
def Dev.removeDenied (d : Dev) (i : Item) (reason type addr : Nat) (charged : Option Nat) (xed : Bool) : Dev :=
  let d := (d.freeLedger i).dropItem i
  let d := (d.logDenial charged i.ingress reason type addr i.priv xed i.slice i.tlp).srcFail i
  if tcls i.tlp = 1 then (d.aerIn i.stb i.ingress 20 i.tlp).npFail i 1 else d

/-- Remove a refused request (R272). -/
def Dev.removeRefused (d : Dev) (i : Item) (reason : Nat) : Dev :=
  let d := (d.freeLedger i).dropItem i
  let d := d.logRefusal i.ingress reason i.stb i.tlp
  if tcls i.tlp = 1 then (d.aerIn i.stb i.ingress 20 i.tlp).npFail i 1 else d

/-- Remove a TLP of a retired generation: no completion, no event (R278). -/
def Dev.removePurged (d : Dev) (i : Item) : Dev :=
  ((d.freeLedger i).dropItem i).srcFail i

/-- Remove a TLP at TLP scope (R381), with the cause of its loss: a non-posted request is completed with CA, a posted
request logged, a completion or message discarded. -/
def Dev.removeFault (d : Dev) (i : Item) (egress cause : Nat) : Dev :=
  let d := ((d.freeLedger i).dropItem i).srcFail i
  if tcls i.tlp = 1 then d.npFail i 4
  else if isWrite i.tlp then d.logLoss egress cause false i.ingress i.stb i.tlp
  else d

/-- Remove a TLP that is queued for, or selects, a port that is down or fenced (R191 steps 4 and 5); `ur` where the port
is an upstream one (R193). -/
def Dev.removeDown (d : Dev) (i : Item) (p cause : Nat) (ur : Bool) : Dev :=
  let d := ((d.freeLedger i).dropItem i).srcFail i
  if isMem i.tlp then d
  else match tcls i.tlp with
  | 1 => (d.srComplete i.tlp i.stb i.ingress p i.src (4 * dwLen i.tlp) ur).bump R.PRT6_PD_CNT_NP p i.stb
  | 2 => d.bump R.PRT6_PD_CNT_CPL p i.stb
  | _ =>
    let d := (d.bump R.PRT6_PD_CNT_P p i.stb).logDrop p false false i.stb i.tlp
    if isWrite i.tlp then d.logLoss p cause false i.ingress i.stb i.tlp else d

/-- A port has answered the PME_Turn_Off broadcast of its stable, or receives no copy of it: one PME_TO_Ack goes upstream
when every port that received the broadcast has answered (R210). -/
def Dev.pmeGot (d : Dev) (s p : Nat) : Dev :=
  match d.path.pmeWait.find s with
  | none => d
  | some l =>
    if (l.erase p).isEmpty then
      let d := { d with path := { d.path with pmeWait := d.path.pmeWait.erase s } }
      match d.upDest s with
      | .err _ => d
      | x =>
        let t : Tlp := { Tlp.blank with fmtType := 0x35, rtype := 5, code := 0x1b, rid := 256 * fld (d.cfg s 0 6) 7 0 }
        d.addItem (mkItem t 130 (.msg s) (mkEval (some s) x 0) (mkEval (some s) (d.chkView.upDest s) 0))
    else { d with path := { d.path with pmeWait := d.path.pmeWait.insert s (l.erase p) } }

/-- The member and port to which an evaluation sends a TLP. -/
def destPort (x : Dest) : Nat × Nat :=
  match x with
  | .port m p => (m, p)
  | _ => (0, 130)

/-- Discard the multicast copy for a destination (R186): reason as MC_LAST gives it; `loss` the cause under which a permitted one is
logged. -/
def Dev.discardCopy (d : Dev) (id : Nat) (x : Dest) (reason : Nat) (loss : Option Nat) : Dev :=
  let p := (destPort x).2
  match d.item id with
  | none => d
  | some i =>
    let d := d.updItem id fun i => { i with copies := i.copies.map fun c =>
      if c.prim.dest = x ∧ (c.st = .pending ∨ c.st = .queued ∨ c.st = .sending) then { c with st := .discarded } else c }
    let d := match i.prim.dest with
      | .mcast g =>
        if g < 64 then
          ((d.bump R.SWC_MC_CNT_PARTIAL (0x100 + g) i.stb).wn R.SWC_MC_LAST (0x100 + g) (p + 256 * reason)).raise (0x4c0 + g)
        else if i.tlp.code = 0x19 then d.pmeGot (i.stb.getD 0) p
        else d
      | _ => d
    let d := match loss with
      | some c => if isWrite i.tlp then d.logLoss p c true i.ingress i.stb i.tlp else d
      | none => d
    match d.item id with
    | some i => if i.copies.all fun c => c.st == .sent || c.st == .discarded then d.dropItem i else d
    | none => d

/-- A configuration write whose commit has been adopted, or refused, completes (R202, R203). -/
def Dev.cfgDone (d : Dev) (c : Option CfgWait) (status : Nat) : Dev :=
  match c with
  | none => d
  | some c =>
    match d.fn.cfgWait.find? fun e => e.1 == c with
    | some (_, t, ing) =>
      ({ d with fn := { d.fn with cfgWait := d.fn.cfgWait.filter fun e => e.1 != c } }).completeStatus t (some c.stb) ing 130 .mgmt status
    | none => d

/-- Remove marked TLPs that stand at the head of their queues (R279): no earlier unmarked TLP of the same port, stable,
traffic class and class is queued. -/
def Dev.sweepMarked (d : Dev) : Dev :=
  let blocked (i : Item) : Bool := d.path.items.any fun j =>
    j.stage == .queued && !j.marked && decide (j.stored < i.stored) && j.ingress == i.ingress && j.stb == i.stb &&
    j.tlp.tc == i.tlp.tc && tcls j.tlp == tcls i.tlp && d.egressOf j == d.egressOf i
  (d.path.items.filter fun i => i.marked && (i.stage == .queued || i.stage == .resend) && !blocked i).foldl (fun d i => d.removePurged i) d

end Sys2Proof.Machine
end

