-- ==== Sys2Proof/Machine/Stalls.lean ====
section
/-! DEFINITION. Contexts, the stall table and the loft (R259–R274, R288): keys and sets, lookup, fill, eviction, creation,
pins, the loft's failure and the operations on contexts. -/

namespace Sys2Proof.Machine

/-! ### Keys (R260) -/

def crcStep (c : Nat) : Nat := if c % 2 = 1 then (c / 2) ^^^ 0x82f63b78 else c / 2

/-- CRC-32C of bytes, reflected, with initial value and final XOR all ones. -/
def crc32c (bytes : List Nat) : Nat :=
  (bytes.foldl (fun c b => (List.range 8).foldl (fun c _ => crcStep c) (c ^^^ b)) 0xffffffff) ^^^ 0xffffffff

/-- h of R260: the CRC over key bytes 0 to 6. -/
def keyHash (key : Nat) : Nat := crc32c ((List.range 7).map fun i => key / 256 ^ i % 256)

/-- The stall set of a key. -/
def stallSet (key : Nat) : Nat := keyHash key % 512

def keyPort (key : Nat) : Nat := key % 256
def keyRid (key : Nat) : Nat := key / 256 % 65536
def keyPasid (key : Nat) : Option Nat := if key.testBit 44 then some (key / 16777216 % 1048576) else none
def keyLd (key : Nat) : Option Nat := if key.testBit 49 then some (key / 2 ^ 45 % 16) else none

/-- The key of a request received on a port. -/
def Dev.ctxKey (d : Dev) (p : Nat) (t : Tlp) : Nat :=
  p + 256 * (t.rid % 65536) +
  (match t.pasid with
   | some q => 16777216 * (q % 1048576) + 2 ^ 44
   | none => 0) +
  (match t.ld with
   | some ld => if d.isMld p then 2 ^ 45 * (ld % 16) + 2 ^ 49 else 0
   | none => 0)

/-! ### The loft (R263, R264, R274) -/

def Dev.loftOn (d : Dev) : Bool := d.rb R.STL_LOFT_CFG 0 0
def Dev.loftPort (d : Dev) : Nat := d.rf R.STL_LOFT_CFG 0 12 5
def Dev.loftGen (d : Dev) : Nat := d.rf R.STL_LOFT_STATUS 0 31 16
/-- The loft is on, has not failed and is not being initialised. -/
def Dev.loftOk (d : Dev) : Bool := d.loftOn && !d.rb R.STL_LOFT_STATUS 0 1 && !d.rb R.STL_LOFT_STATUS 0 2

/-- The loft set of a key. -/
def Dev.loftSetOf (d : Dev) (key : Nat) : Nat :=
  let l := d.rf R.STL_LOFT_CFG 0 4 1
  if l = 0 then 0 else keyHash key / 2 ^ (32 - l)

/-- The loft way that holds a key under the current LOFT_GEN. -/
def Dev.loftWay (d : Dev) (key : Nat) : Option Nat :=
  ((List.range 8).map (8 * d.loftSetOf key + ·)).find? fun i => match d.stall.loft.find i with
    | some c => c.key == key && c.loftGen == d.loftGen
    | none => false

/-- The first free way of a loft set. -/
def Dev.loftFree (d : Dev) (set : Nat) : Option Nat :=
  ((List.range 8).map (8 * set + ·)).find? fun i => match d.stall.loft.find i with
    | some c => c.loftGen != d.loftGen
    | none => true

def Dev.setStall (d : Dev) (s : Stall) : Dev := { d with stall := s }
def Dev.putLoft (d : Dev) (id : Nat) (c : Ctx) : Dev :=
  d.setStall { d.stall with loft := d.stall.loft.insert id { c with ctxId := id, loftGen := d.loftGen, modified := false } }

/-- The IDEC that holds the loft: private, enabled, on the loft's port, with the whole loft inside (R304). -/
def Dev.idecBase (d : Dev) (k : Nat) : Nat :=
  d.rf R.CXP_IDEC_BASE_LO (0x200 + k) 31 28 * 268435456 + d.rf R.CXP_IDEC_BASE_HI (0x200 + k) 19 0 * 4294967296
def Dev.idecSize (d : Dev) (k : Nat) : Nat := d.rf R.CXP_IDEC_SIZE (0x200 + k) 23 0 * 268435456
def Dev.idecPort (d : Dev) (k : Nat) : Nat := d.rf R.CXP_IDEC_CFG (0x200 + k) 7 0
def Dev.idecState (d : Dev) (k : Nat) : Nat := d.rf R.CXP_IDEC_STATUS (0x200 + k) 1 0
def Dev.loftBase (d : Dev) : Nat := d.rf R.STL_LOFT_BASE_LO 0 31 11 * 2048 + 4294967296 * d.rn R.STL_LOFT_BASE_HI
def Dev.loftIdec (d : Dev) : Option Nat :=
  let lo := d.loftBase
  let hi := lo + 2 ^ d.rf R.STL_LOFT_CFG 0 4 1 * 2048
  (List.range 16).find? fun k =>
    d.idecSize k != 0 && d.rb R.CXP_IDEC_CFG (0x200 + k) 13 && d.idecPort k == d.loftPort &&
    decide (d.idecBase k ≤ lo) && decide (hi ≤ d.idecBase k + d.idecSize k)

/-- The loft's memory can be reached: the link is up and its decoder UP. -/
def Dev.loftReach (d : Dev) : Bool :=
  d.dlUp d.loftPort && (match d.loftIdec with
    | some k => d.idecState k == 2
    | none => false)

/-! ### The layout of a context (R262, R362) -/

/-- The loft address of a context. -/
def Dev.ctxAddr (d : Dev) (id : Nat) : Nat := d.loftBase + 256 * id

/-- Bytes 0–251 of a context in the loft, with NP_OUT as the ledger gives it. -/
def Ctx.body (c : Ctx) (npOut : Nat) : List Byte :=
  bytesOf 8 (c.key + 2 ^ 63) ++ bytesOf 4 (c.ctxId + 2 ^ 18 * b2n c.pinned + 2 ^ 19 * b2n c.logged + 2 ^ 20 * b2n c.track) ++
  bytesOf 4 (c.stable + 64 * b2n c.slice.isSome + 128 * c.slice.getD 0 + 131072 * c.gen) ++
  bytesOf 2 npOut ++ bytesOf 2 c.npMax ++ bytesOf 4 c.dlog ++
  bytesOf 4 (c.polProfile + 64 * b2n c.polEn) ++ bytesOf 8 (c.tokens % 2 ^ 64).toNat ++ bytesOf 8 c.lastRefill ++ bytesOf 8 c.cntOver ++
  bytesOf 4 c.holdNs ++ bytesOf 8 c.lastUse ++ bytesOf 8 c.cntTlp ++ bytesOf 8 c.cntBytes ++ bytesOf 8 c.cntMiss ++
  List.replicate 72 0 ++ c.sw ++ List.replicate 24 0 ++ bytesOf 4 c.loftGen

/-- CRC of a loft copy: over bytes 0–251 and its loft address. -/
def ctxCrc (body : List Byte) (addr : Nat) : Nat := crc32c ((body ++ bytesOf 8 addr).map (·.toNat))

/-- The 256 B of a loft copy at an address. -/
def Ctx.bytes (c : Ctx) (npOut addr : Nat) : List Byte := c.body npOut ++ bytesOf 4 (ctxCrc (c.body npOut) addr)

/-- The context that the bytes of a loft copy spell. -/
def ctxOfBytes (b : List Byte) : Ctx :=
  let at_ (o n : Nat) : Nat := numOf ((b.drop o).take n)
  let ident := at_ 8 4
  let owner := at_ 12 4
  let tok := at_ 28 8
  { key := at_ 0 8 % 2 ^ 50, ctxId := ident % 262144, pinned := ident.testBit 18, logged := ident.testBit 19, track := ident.testBit 20
    modified := false, stable := owner % 64, slice := if owner.testBit 6 then some (owner / 128 % 1024) else none, gen := owner / 131072 % 256
    npMax := at_ 18 2, dlog := at_ 20 4 % 64, polProfile := at_ 24 4 % 64, polEn := (at_ 24 4).testBit 6
    tokens := if tok < 2 ^ 63 then (tok : Int) else (tok : Int) - 2 ^ 64, lastRefill := at_ 36 8, cntOver := at_ 44 8, holdNs := at_ 52 4
    lastUse := at_ 56 8, cntTlp := at_ 64 8, cntBytes := at_ 72 8, cntMiss := at_ 80 8, sw := (b.drop 160).take 64, loftGen := at_ 248 4 % 65536 }

/-- A loft copy that has come back is good: 256 B with their CRC, VALID, the key and LOFT_GEN (R262, R270). -/
def Dev.copyGood (d : Dev) (key id : Nat) (b : List Byte) : Bool :=
  b.length == 256 && numOf (b.drop 252) == ctxCrc (b.take 252) (d.ctxAddr id) && numOf (b.take 8) == key + 2 ^ 63 &&
  (ctxOfBytes b).loftGen == d.loftGen

/-! ### The stall table (R261) -/

def Dev.way (d : Dev) (set w : Nat) : Option Ctx := d.stall.ways.find (8 * set + w)

/-- The way of its set in which a key is present on die. -/
def Dev.wayOf (d : Dev) (key : Nat) : Option Nat :=
  (List.range 8).find? fun w => match d.way (stallSet key) w with
    | some c => c.key == key
    | none => false

/-- The context of a key on die. -/
def Dev.onDie (d : Dev) (key : Nat) : Option Ctx := (d.wayOf key).bind (d.way (stallSet key))

/-- The context of a key wherever the device holds it. -/
def Dev.ctxOf (d : Dev) (key : Nat) : Option Ctx :=
  (d.onDie key <|> (d.stall.evict.find? fun e => e.2.key == key).map (·.2)) <|> (d.loftWay key).bind d.stall.loft.find

/-- Change the context of a key on die. -/
def Dev.updCtx (d : Dev) (key : Nat) (f : Ctx → Ctx) : Dev :=
  match d.wayOf key with
  | some w =>
    match d.way (stallSet key) w with
    | some c => d.setStall { d.stall with ways := d.stall.ways.insert (8 * stallSet key + w) { f c with modified := true } }
    | none => d
  | none => d

/-- Make a way the most recently used of its set. -/
def Dev.touchWay (d : Dev) (set w : Nat) : Dev :=
  let l := d.stall.lru.getD set []
  d.setStall { d.stall with lru := Tbl.put d.stall.lru set [] (l.erase w ++ [w]) }

/-- Free a way. -/
def Dev.freeWay (d : Dev) (set w : Nat) : Dev :=
  let l := d.stall.lru.getD set []
  d.setStall { d.stall with ways := d.stall.ways.erase (8 * set + w), lru := Tbl.put d.stall.lru set [] (l.erase w) }

/-! ### Pins (R266) -/

/-- The keys of the enabled pin entries in force. -/
def Dev.pinKeys (d : Dev) : List Nat :=
  (d.listed R.STL_PIN_W1).filterMap fun e =>
    if bit e.2 31 then some (d.rn R.STL_PIN_W0 e.1 + 4294967296 * fld e.2 30 0) else none

/-! ### Contexts -/

/-- Slice and stable of a key at its port (R262). -/
def Dev.keySrc (d : Dev) (key : Nat) : Option Nat × Option Nat :=
  d.srcOf (keyPort key) { Tlp.blank with rid := keyRid key, pasid := keyPasid key, ld := keyLd key }

/-- The generation domain of a key. -/
def Dev.keyDom (d : Dev) (key : Nat) : Option Nat :=
  d.domOfReq (keyPort key) (d.keySrc key).1 { Tlp.blank with ld := keyLd key }

/-- The full bucket of a policer profile, in 1/125 byte. -/
def Dev.polCap (d : Dev) (prof : Nat) : Nat := fld (d.pairVal R.SCH_PP_BURST (0x2000 + prof)) 11 0 * 8000

/-- A new context of a key (R271). -/
def Dev.newCtx (d : Dev) (key id : Nat) : Ctx :=
  let (sl, st) := d.keySrc key
  let cfg := match sl with
    | some k => d.rd R.SLC_SLICE_CFG k
    | none => 0
  let pol := d.rd R.SCH_PORT_POL (keyPort key)
  { key := key, ctxId := id, pinned := d.pinKeys.contains key, logged := bit cfg 18, track := bit cfg 17, modified := true
    stable := st.getD 0, slice := sl, gen := d.genOf (d.keyDom key)
    npMax := match sl with
      | some k => d.rf R.SLC_SLICE_NPMAX k 15 0
      | none => d.rf R.PRT4_LED_CTX_MAX 0 15 0
    dlog := fld cfg 24 19, polProfile := fld pol 5 0, polEn := bit pol 6, tokens := (d.polCap (fld pol 5 0) : Int)
    lastRefill := d.now, cntOver := 0, holdNs := 0, lastUse := d.now, cntTlp := 0, cntBytes := 0, cntMiss := 0
    sw := List.replicate 64 0, loftGen := d.loftGen }

/-- A context as a fill brings it on die: stable, slice and what the slice gives it are rewritten when they differ, and the
counters are then zero (R262, R280). -/
def Dev.refill (d : Dev) (c : Ctx) : Ctx :=
  let (sl, st) := d.keySrc c.key
  let cfg := match sl with
    | some k => d.rd R.SLC_SLICE_CFG k
    | none => 0
  let same := st.getD 0 = c.stable ∧ sl = c.slice
  { c with
    pinned := d.pinKeys.contains c.key, stable := st.getD 0, slice := sl, gen := d.genOf (d.keyDom c.key)
    track := bit cfg 17, logged := bit cfg 18, dlog := fld cfg 24 19
    npMax := match sl with
      | some k => d.rf R.SLC_SLICE_NPMAX k 15 0
      | none => c.npMax
    cntTlp := if same then c.cntTlp else 0, cntBytes := if same then c.cntBytes else 0
    cntMiss := if same then c.cntMiss else 0 }

/-! ### Loft operations -/

/-- An operation on the loft set of a key. -/
def Dev.addOp (d : Dev) (key : Nat) (why : FetchFor) (step : Nat) : Dev :=
  d.setStall { d.stall with fetch := d.stall.fetch ++ [⟨key, d.loftSetOf key, why, step, 0, keyPort key, d.now, d.ctoNs, false, false⟩] }

def Dev.rmOp (d : Dev) (f : Fetch) : Dev := d.setStall { d.stall with fetch := d.stall.fetch.erase f }

/-- An operation is under way: it is the first on its loft set, and its cluster engine has fewer than 32 older ones. -/
def Dev.opActive (d : Dev) (f : Fetch) : Bool :=
  (d.stall.fetch.find? fun g => g.set == f.set) == some f &&
  decide (((d.stall.fetch.takeWhile fun g => g != f).filter fun g => g.port / 8 == f.port / 8).length < 32)

/-- The operation on a key that the predicate selects, if it is under way. -/
def Dev.opFor (d : Dev) (key : Nat) (p : Fetch → Bool) : Option Fetch :=
  (d.stall.fetch.find? fun f => f.key == key && p f).bind fun f => if d.opActive f then some f else none

/-! ### The traffic of the loft (R11, R180, R270) -/

/-- Both evaluations of a CXL.mem request of the loft: each decodes its address against the loft's internal decoder alone (R11, R304). -/
def Dev.loftEval (d : Dev) (a : Nat) : Eval :=
  match d.loftIdec with
  | some k => mkEval none (if d.idecBase k ≤ a ∧ a + 64 ≤ d.idecBase k + d.idecSize k then .port d.me (d.idecPort k) else .err 1) a
  | none => mkEval none (.err 1) a

/-- Issue a CXL.mem request of the loft for one 64-B line: a read, or a write of bytes. It enters stage 6 at P130. DESIGN CHOICE: log
entry 99. -/
def Dev.loftIssue (d : Dev) (key a : Nat) (data : List Byte) : Dev :=
  let t : Tlp := { Tlp.blank with
    kind := if data.isEmpty then .m2sRd else .m2sWr, addr := a, len := 16, reg := if data.isEmpty then 0 else 2 ^ 64 - 1, data := data
    ld := (d.loftIdec.filter fun k => d.rb R.CXP_IDEC_CFG (0x200 + k) 12).map fun k => d.rf R.CXP_IDEC_CFG (0x200 + k) 11 8 }
  d.addItem (mkItem t 130 (.loft key) (d.loftEval a) (d.chkView.loftEval a))

/-- Issue the writes of bytes from an address on, 64 B each. -/
def Dev.loftWrite (d : Dev) (key a : Nat) (data : List Byte) : Dev :=
  (List.range (cdiv data.length 64)).foldl (fun d k => d.loftIssue key (a + 64 * k) ((data.drop (64 * k)).take 64)) d

/-- The requests of the loft that stand for a key in the shed, or waiting for it. -/
def Dev.loftItems (d : Dev) (key : Nat) : Bool := d.path.items.any fun i => i.src == .loft key

/-- Reads of the loft that an operation has outstanding. -/
def Fetch.reads (f : Fetch) : Nat := if f.why = .writeback ∨ f.step = 0 then 0 else if f.step = 1 then 8 else 3

/-- The completion reserve of P130 can take the completions of n more requests, beside those of the loft's reads and of the decoders that
are being programmed (R180). -/
def Dev.loftRoom (d : Dev) (n : Nat) : Bool :=
  decide (sumOf (fun f : Fetch => if f.sent then f.reads else 0) d.stall.fetch + d.cxp.progSent.length + d.rvOf 130 2 + n ≤ d.rsv 130 2)

/-- The requests of an operation have been transmitted, and their responses are what the device now waits for. -/
def Dev.loftBack (d : Dev) (f : Fetch) : Bool := f.sent && !f.lost && !d.loftItems f.key

/-- Issue the requests of one operation that is under way: the first 64 B of the 8 ways of its loft set, then the remaining 192 B of one
way (R270), or the 256 B of a victim (R265). -/
def Dev.loftStep (d : Dev) (f : Fetch) : Dev :=
  let setBusy := d.path.items.any fun i => (match i.src with
    | .loft _ => decide ((i.tlp.addr - d.loftBase) / 2048 = f.set)
    | _ => false)
  if f.sent ∨ !d.opActive f ∨ setBusy ∨ !d.loftRoom f.reads then d
  else
    let go (d : Dev) : Dev :=
      let upd (g : Fetch) : Fetch := if g == f then { g with sent := true, lost := false, since := d.now, cto := d.ctoNs } else g
      d.setStall { d.stall with fetch := d.stall.fetch.map upd }
    if f.why = .writeback then
      match d.stall.evict.find? fun e => e.2.key == f.key with
      | some (_, c) =>
        let c := { c with pinned := false, modified := false, loftGen := d.loftGen }
        go (d.loftWrite f.key (d.ctxAddr c.ctxId) (c.bytes (d.npOut f.key) (d.ctxAddr c.ctxId)))
      | none => d
    else if f.step = 1 then go ((List.range 8).foldl (fun d w => d.loftIssue f.key (d.ctxAddr (8 * f.set + w)) []) d)
    else if f.step = 2 then go ((List.range 3).foldl (fun d k => d.loftIssue f.key (d.ctxAddr (8 * f.set + f.way) + 64 * (k + 1)) []) d)
    else d

/-- Every operation of the loft issues what it may issue now. -/
def Dev.loftPump (d : Dev) : Dev := if d.loftOk && !d.failsafe then d.stall.fetch.foldl (fun d f => d.loftStep f) d else d

/-- The requests of the loft that have not begun to leave are withdrawn, and what was sent counts for nothing: the loft has failed or is off. -/
def Dev.loftRecall (d : Dev) : Dev :=
  let mine (i : Item) : Bool := (match i.src with
    | .loft _ => true
    | _ => false) && i.stage != .sending
  let d := (d.path.items.filter mine).foldl (fun d i => d.dropItem i) d
  d.setStall { d.stall with fetch := d.stall.fetch.map fun f => { f with sent := false, lost := false } }

/-- Report an operation of an accessor (CTX_RESULT) and end it. -/
def Dev.opEnd (d : Dev) (acc : Nat) (res : Word) : Dev :=
  d.setStall { d.stall with opBusy := Tbl.put d.stall.opBusy acc 0 0, opRes := Tbl.put d.stall.opRes acc 0 res }

/-- CTX_RESULT of a context found. -/
def foundWord (c : Ctx) (onDie : Bool) : Word :=
  word (c.ctxId % 262144 + 268435456 + 536870912 * b2n onDie + 1073741824 * b2n (onDie && c.pinned))

/-! ### Placing a context on die (R265) -/

/-- A context on die can be written back to the loft. -/
def Dev.canWriteBack (d : Dev) (c : Ctx) : Bool :=
  d.loftOk && ((d.loftWay c.key).isSome || (d.loftFree (d.loftSetOf c.key)).isSome)

/-- The way to evict from a set: the least recently used one that is unpinned and can be written back. -/
def Dev.victimWay (d : Dev) (set : Nat) : Option Nat :=
  (d.stall.lru.getD set []).find? fun w => match d.way set w with
    | some c => !c.pinned && d.canWriteBack c
    | none => false

/-- Move a context to the eviction buffer of a cluster and start its write-back. -/
def Dev.evictWay (d : Dev) (set w cluster : Nat) : Dev :=
  match d.way set w with
  | none => d
  | some c =>
    let id := ((d.loftWay c.key) <|> (d.loftFree (d.loftSetOf c.key))).getD c.ctxId
    let d := if (d.loftWay c.key).isSome then d else d.putLoft id c
    let d := d.freeWay set w
    let d := d.setStall { d.stall with evict := d.stall.evict ++ [(cluster, { c with ctxId := id })] }
    (d.addOp c.key .writeback 0).bump R.STL_CNT_EVICT

/-- Put a context in its set, in the way that holds its key if one does (R261). An error answers whether the context must wait for room in the eviction buffer (true) or
can have no way (false). -/
def Dev.place (d : Dev) (c : Ctx) (cluster : Nat) : Except Bool Dev :=
  let set := stallSet c.key
  let put (d : Dev) (w : Nat) : Dev :=
    let c := if d.loftOn then c else { c with ctxId := 8 * set + w }
    (d.setStall { d.stall with
      ways := d.stall.ways.insert (8 * set + w) c
      pinActive := if c.pinned ∧ ¬d.stall.pinActive.contains c.key then d.stall.pinActive ++ [c.key] else d.stall.pinActive }).touchWay set w
  match (d.wayOf c.key) <|> (List.range 8).find? fun w => (d.way set w).isNone with
  | some w => .ok (put d w)
  | none =>
    match d.victimWay set with
    | none => .error false
    | some w =>
      if (d.stall.evict.filter fun e => e.1 == cluster).length < 16 then .ok (put (d.evictWay set w cluster) w) else .error true

/-- Bring a context back from the eviction buffer (R265); nothing changes where no way can be had. -/
def Dev.unEvict (d : Dev) (key : Nat) : Dev :=
  match d.stall.evict.find? fun e => e.2.key == key with
  | none => d
  | some (cl, c) =>
    let d' := d.setStall { d.stall with
      evict := dropFirst (fun e => e.2.key == key) d.stall.evict
      fetch := d.stall.fetch.filter fun f => !(f.key == key && f.why == .writeback) }
    match d'.place { c with pinned := d.pinKeys.contains key } cl with
    | .ok d2 => d2
    | .error _ => d

/-- A key's context sits in the eviction buffer. -/
def Dev.inBuffer (d : Dev) (key : Nat) : Bool := d.stall.evict.any fun e => e.2.key == key

/-- A key is on die, after a hit in the eviction buffer has brought it back. -/
def Dev.recall (d : Dev) (key : Nat) : Dev := if (d.onDie key).isSome then d else d.unEvict key

/-! ### Refusal and failure (R272, R274) -/

/-- The parked requests of a key leave the miss queue to be refused. -/
def Dev.refuseParked (d : Dev) (key reason : Nat) : Dev :=
  d.setStall { d.stall with miss := d.stall.miss.map fun k =>
    if k.key = key ∧ ¬k.noEntry ∧ isReq k.tlp then { k with refuse := some reason, ready := true } else k }

/-- The parked requests of a key may leave. -/
def Dev.readyParked (d : Dev) (key : Nat) : Dev :=
  d.setStall { d.stall with miss := d.stall.miss.map fun k => if k.key = key ∧ ¬k.noEntry then { k with ready := true } else k }

/-- An operation ends without a context, for a refusal reason. -/
def Dev.opRefused (d : Dev) (f : Fetch) (reason : Nat) : Dev :=
  let ev := if reason = 1 then 0x5c1 else 0x5c0
  match f.why with
  | .request => d.refuseParked f.key reason
  | .pin => (d.refuseParked f.key reason).raise ev
  | .create a =>
    let d := d.opEnd a 0x80000000
    if reason = 1 then d.raise ev else d
  | .lookup a => d.opEnd a 0
  | _ => d

/-- Free a key's stall and, while the loft serves, its loft way, whose VALID is written 0 (R288). -/
def Dev.invalidate (d : Dev) (key : Nat) : Dev :=
  let d := match d.wayOf key with
    | some w => d.freeWay (stallSet key) w
    | none => d
  let d := d.setStall { d.stall with
    evict := d.stall.evict.filter fun e => e.2.key != key
    fetch := d.stall.fetch.filter fun f => !(f.key == key && f.why == .writeback)
    ctxErr := if d.loftOk then d.stall.ctxErr.erase key else d.stall.ctxErr }
  match d.loftWay key with
  | some id =>
    if d.loftOk then
      (d.loftWrite key (d.ctxAddr id) (List.replicate 64 0)).setStall { d.stall with loft := d.stall.loft.erase id }
    else d
  | none => d

/-- Carry out the invalidations that wait for nothing any more. DEDUCED: log entry 55. -/
def Dev.runInvalidations (d : Dev) : Dev :=
  d.stall.fetch.foldl (fun d f => match f.why with
    | .invalidate a =>
      if (d.opActive f || !d.loftOk) && !(d.stall.miss.any fun k => k.key == f.key && !k.noEntry) then
        ((d.rmOp f).invalidate f.key).opEnd a 0
      else d
    | _ => d) d

/-- The accesses of the loft in progress end: what waits for a context is refused with LOFT_FAILED; write-backs wait, and
invalidations are carried out on die. -/
def Dev.loftEndOps (d : Dev) : Dev :=
  let d := d.loftRecall
  let ops := d.stall.fetch
  let d := d.setStall { d.stall with errRun := 0, fetch := ops.filter fun f => match f.why with
    | .writeback | .invalidate _ => true
    | _ => false }
  let d := ops.foldl (fun d f => match f.why with
    | .writeback | .invalidate _ => d
    | _ => d.opRefused f 2) d
  d.runInvalidations

/-- The loft fails (R274): it refuses every context that is not on die. -/
def Dev.loftFail (d : Dev) : Dev :=
  if !d.loftOn then d
  else
    let was := d.rb R.STL_LOFT_STATUS 0 1
    let d := ((d.wf R.STL_LOFT_STATUS 0 2 0 2).wr R.STL_LOFT_CTRL 0 0).loftEndOps
    if was then d else d.raise 0x5c2

/-- A key's loft copy is bad: it counts as absent (R274). -/
def Dev.ctxBad (d : Dev) (f : Fetch) : Dev :=
  let n := d.stall.errRun + 1
  let d := (d.rmOp f).raise 0x5c3
  let d := d.setStall { d.stall with
    errRun := n, ctxErr := if d.stall.ctxErr.contains f.key then d.stall.ctxErr else d.stall.ctxErr ++ [f.key] }
  let d := (d.opRefused f 3).runInvalidations
  let lim := d.rf R.STL_LOFT_CFG 0 16 13
  if lim ≠ 0 ∧ lim ≤ n then d.loftFail else d

/-! ### Creation (R271) -/

/-- Misses of a key that have parked and wait for its context. -/
def Dev.missesOf (d : Dev) (key : Nat) : Nat :=
  (d.stall.miss.filter fun k => k.key == key && !k.noEntry && !k.ready && !k.held && isReq k.tlp).length

/-- Create the context of an operation's key in its loft set, where it is written, or refuse it; no change where the eviction buffer is full.
CTX_OP.CREATE does not bring the context on die (log entry 51). -/
def Dev.createLoft (d : Dev) (f : Fetch) : Dev :=
  match d.loftFree f.set with
  | none => ((d.rmOp f).opRefused f 1).runInvalidations
  | some id =>
    let c := { d.newCtx f.key id with cntMiss := d.missesOf f.key }
    let w (d : Dev) : Dev := d.loftWrite f.key (d.ctxAddr id) ({ c with modified := false }.bytes 0 (d.ctxAddr id))
    match f.why with
    | .create a =>
      ((w ((d.rmOp f).putLoft id c)).bump R.STL_CNT_CREATE).opEnd a (foundWord c (d.onDie f.key).isSome) |>.runInvalidations
    | _ => match (w ((d.rmOp f).putLoft id c)).place c (f.port / 8) with
      | .error true => d
      | .error false => ((d.rmOp f).opRefused f 1).runInvalidations
      | .ok d => ((d.bump R.STL_CNT_CREATE).readyParked f.key).runInvalidations

/-- Create a context in a free stall way while the loft is off; false where the set is full. -/
def Dev.createOff (d : Dev) (key : Nat) : Dev × Bool :=
  match d.place (d.newCtx key 0) 0 with
  | .ok d => (d.bump R.STL_CNT_CREATE, true)
  | .error _ => (d, false)

/-- The refusal reason of an absent context that no fetch can bring: none where a fetch may start (R271, R274). With the
loft off the context is created at once. -/
def Dev.absent (d : Dev) (key : Nat) (auto : Bool) : Dev × Option Nat :=
  if d.loftOn then (d, if d.loftOk then none else some 2)
  else if !auto then (d, some 4)
  else
    let (d, ok) := d.createOff key
    (d, if ok then none else some 1)

/-- CTX_MODE AUTO of a key's port. -/
def Dev.ctxAuto (d : Dev) (key : Nat) : Bool := d.rf R.STL_STL_PORT_CFG (keyPort key) 1 0 == 0

/-- Start a loft fetch for a key unless one is under way; a pin takes over the fetch that a request has started (R261, R267). -/
def Dev.startFetch (d : Dev) (key : Nat) (why : FetchFor) : Dev :=
  if d.stall.fetch.any fun f => f.key == key && (f.why == .request || f.why == .pin) then
    if why = .pin then
      d.setStall { d.stall with fetch := d.stall.fetch.map fun f => if f.key = key ∧ f.why = .request then { f with why := .pin } else f }
    else d
  else d.addOp key why 1

/-- A key has a context to be had: on a SHARED port a slice must match it (R272). -/
def Dev.sliceless (d : Dev) (key : Nat) : Bool := d.ownMode (keyPort key) == 2 && (d.keySrc key).2.isNone

/-- Make one enabled pin active, or begin to (R266). -/
def Dev.tryPin (d : Dev) (key : Nat) : Dev :=
  let d := d.recall key
  if (d.onDie key).isSome then
    let d := d.updCtx key fun c => { c with pinned := true }
    d.setStall { d.stall with pinActive := if d.stall.pinActive.contains key then d.stall.pinActive else d.stall.pinActive ++ [key] }
  else if d.inBuffer key then d.raise 0x5c1
  else if d.sliceless key then d.raise 0x5c0
  else
    match d.absent key true with
    | (d, some r) => d.raise (if r = 1 then 0x5c1 else 0x5c0)
    | (d, none) => if d.loftOn then d.startFetch key .pin else d

/-- After an STL commit: contexts no longer named become evictable and every inactive pin is tried (R266). -/
def Dev.pinSync (d : Dev) : Dev :=
  let keys := d.pinKeys
  let d := (d.stall.pinActive.filter fun k => !keys.contains k).foldl (fun d k => d.updCtx k fun c => { c with pinned := false }) d
  let d := d.setStall { d.stall with pinActive := d.stall.pinActive.filter keys.contains }
  (keys.filter fun k => !d.stall.pinActive.contains k).foldl (fun d k => d.tryPin k) d

/-- The parked requests of a key whose context is not on die are looked up again, in arrival order (R263): it comes back from the eviction
buffer, is created or fetched, or they are refused. -/
def Dev.lookAgain (d : Dev) (key : Nat) : Dev :=
  let d := d.recall key
  if (d.onDie key).isSome then d.readyParked key
  else
    let d := d.setStall { d.stall with
      miss := d.stall.miss.map fun k => if k.key = key ∧ ¬k.noEntry then { k with held := false, ready := false } else k }
    if d.inBuffer key then d.refuseParked key 1
    else match d.absent key (d.ctxAuto key) with
      | (d, some r) => d.refuseParked key r
      | (d, none) => if d.loftOn then d.startFetch key .request else d.readyParked key

/-- A commit takes EN of the loft from 1 to 0 (R263). -/
def Dev.loftOff (d : Dev) : Dev :=
  let d := d.loftRecall
  let ops := d.stall.fetch
  let d := (d.wf R.STL_LOFT_STATUS 0 2 0 0).wr R.STL_LOFT_CTRL 0 0
  let d := d.setStall { d.stall with
    fetch := [], evict := [], ctxErr := [], errRun := 0
    ways := d.stall.ways.map fun e => (e.1, { e.2 with ctxId := e.1 }) }
  let d := ops.foldl (fun d f => match f.why with
    | .create a => d.opEnd a 0x80000000
    | .lookup a => d.opEnd a 0
    | .invalidate a => (d.invalidate f.key).opEnd a 0
    | _ => d) d
  let keys := (d.stall.miss.filterMap fun k => if !k.noEntry && !k.held && isReq k.tlp then some k.key else none).eraseDups
  keys.foldl (fun d key => if (d.onDie key).isSome then d else d.lookAgain key) d

/-- A commit leaves the loft failed until an INIT completes (R264, R280): EN set to 1, or its place changed while on. What still waits for
the loft has its loft set under the new size. -/
def Dev.loftRestart (d : Dev) : Dev :=
  let d := d.loftFail
  d.setStall { d.stall with fetch := d.stall.fetch.map fun f => { f with set := d.loftSetOf f.key } }

end Sys2Proof.Machine
end

