-- ==== Sys2Proof/Machine/Sched.lean ====
section
/-! DEFINITION. Stage 7 (R350–R367, R182, R183) and device time (R7, R436–R439): widths, shapers, gates and the fit rule,
eligibility, the choice among stables and traffic classes, and the passing of time. -/

namespace Sys2Proof.Machine

/-! ### Widths (R102) -/

/-- The width that a port reports to SCH; an internal port is always usable. -/
def Dev.repWidth (d : Dev) (p : Nat) : Nat := if 128 ≤ p then 16 else (d.pst p).repWidth

/-- Report a width to SCH. -/
def Dev.report (d : Dev) (p w : Nat) : Dev := if 128 ≤ p then d else d.setPst p { d.pst p with repWidth := w }

/-! ### Fabric links and bundles (R153, R164) -/

/-- The ACTIVE links of a bundle in slot order. -/
def Dev.activeLinks (d : Dev) (b : Nat) : List Nat := (d.bundlePorts b).filter fun p => d.lkState p == 3

/-- Source member and port of an item's packet, and its bucket. -/
def Dev.pktSrc (d : Dev) (i : Item) : Nat × Nat := match i.pkt with
  | some k => if i.transit.isSome then (k.src, k.srcPort) else (d.me, i.ingress)
  | none => (d.me, i.ingress)
def Dev.bucket (d : Dev) (i : Item) : Nat :=
  let (m, p) := d.pktSrc i
  (m * 131 + p) % 256

/-- Units of a class that a link's transmitter may still charge, the last 8 posted units kept for control messages. -/
def Dev.unitsLeft (d : Dev) (p k : Nat) : Nat :=
  let l := d.lnk p
  (l.limit.get k - l.charged.get k) - (if k = 0 then 8 else 0)

/-- The link of a hash among the ACTIVE links. -/
def hashLink (links : List Nat) (h : Nat) : Option Nat := if links.isEmpty then none else links[h % links.length]?

/-- Off path or main path, and the link a TLP would be bound to (R164). -/
def Dev.pathOf (d : Dev) (b : Nat) (i : Item) : Bool × Option Nat :=
  let links := d.activeLinks b
  let k := tcls i.tlp
  let cfg := d.rd R.MKL_BND_CFG b
  let h := keyHash (i.tlp.rid + (if k = 2 then 65536 * i.tlp.tag else 0))
  if k ≠ 1 ∧ i.tlp.ro ∧ bit cfg 0 then
    if k = 0 then
      (true, links.foldl (fun best p => match best with
        | none => some p
        | some q => if d.unitsLeft q 0 < d.unitsLeft p 0 then some p else some q) none)
    else (true, hashLink links h)
  else if k ≠ 1 ∧ i.tlp.ido ∧ ¬i.tlp.ro ∧ bit cfg 1 then (true, hashLink links h)
  else
    match (d.bundlePorts b)[(d.bnd b).pins.getD (d.bucket i) 0]? with
    | some p => (false, if d.lkState p = 3 then some p else none)
    | none => (false, none)

/-- A link of a fabric port can take a packet of a class and size now (R150, R154). -/
def Dev.linkTakes (d : Dev) (p k slots : Nat) : Bool :=
  let l := d.lnk p
  let held := sumOf (fun s : Sent2 => s.pk.slots) l.replay
  decide (l.replay.length < 16383) && !(l.resend.any fun e => decide (d.now < e.1)) && l.replay.all (·.charged) && decide (held + slots ≤ 1024 * ((d.block p).map (·.2)).getD 0) &&
  decide (pktUnits slots ≤ d.unitsLeft p k)

/-! ### Shapers (R355–R357) -/

/-- The enabled shapers that match a stable, port and traffic class. -/
def Dev.shapersOf (d : Dev) (s p tc : Nat) : List Nat :=
  (d.listed R.SCH_SH_CFG).filterMap fun e =>
    if bit e.2 0 && fld e.2 6 1 == s && fld e.2 15 8 == p && (fld e.2 23 16).testBit tc then some (e.1 - 0x1000) else none

/-- RATE and BURST of a shaper's profile in force at its registers. -/
def Dev.shProf (d : Dev) (k : Nat) : Nat × Nat :=
  let n := d.rf R.SCH_STB_PROFILE (0x100 + d.rf R.SCH_SH_CFG (0x1000 + k) 6 1) 1 0
  (fld (d.pairVal (R.SCH_SH_RATE n) (0x1000 + k)) 20 0, fld (d.pairVal (R.SCH_SH_BURST n) (0x1000 + k)) 11 0)

/-- A shaper that an enabling commit starts: a full bucket. -/
def Dev.shFull (d : Dev) (k : Nat) : Shaper := ⟨((d.shProf k).2 * 8000 : Nat), (d.shProf k).1, (d.shProf k).2⟩
def Dev.shaper (d : Dev) (k : Nat) : Shaper := (d.sched.shaper.find k).getD (d.shFull k)
def Dev.setShaper (d : Dev) (k : Nat) (s : Shaper) : Dev :=
  { d with sched := { d.sched with shaper := d.sched.shaper.insert k s } }

/-- One refill of 64 ns: the profile in force is adopted, the count clamped, the rate added (R357). -/
def Dev.shRefill (d : Dev) (k : Nat) : Dev :=
  let (r, b) := d.shProf k
  let cap : Int := (b * 8000 : Nat)
  let t := min (min (d.shaper k).tokens cap + r) cap
  d.setShaper k ⟨t, r, b⟩

/-! ### Gates and fit (R358–R361) -/

def Dev.gateMask (d : Dev) (p s : Nat) : Nat :=
  if s < 64 then d.rf (R.SCH_GATE (s / 4)) p (8 * (s % 4) + 7) (8 * (s % 4)) else 255

def closeKey (p s tc : Nat) : Nat := (p * 64 + s) * 8 + tc

/-- The close time of a traffic class of a stable at a port, at the estimate in force. -/
def Dev.closeTime (d : Dev) (p s tc : Nat) : Option Nat :=
  (d.sched.close.find (closeKey p s tc)).map fun x =>
    (d.cyc1 (x / 65536)).tStart + cdiv (x % 65536 * d.cycP (x / 65536)) 16777216

/-- Ten times the rate of a code, in GT/s. -/
def rate10 (code : Nat) : Nat := if code = 0 then 25 else if code = 1 then 50 else 20 * 2 ^ code

/-- T of R359 as numerator and denominator in ns, without the guard: of a TLP at a port, by the link it would take. -/
def Dev.txTime (d : Dev) (p : Nat) (i : Item) : Nat × Nat :=
  if 128 ≤ p then (0, 1)
  else if d.isFabric p then
    let lp := match d.bundleOf p with
      | some b => ((d.pathOf b i).2).getD p
      | none => p
    (cdiv (pktSlots i.tlp) 15 * 16, max 1 (d.repWidth lp))
  else
    let c := d.curRate p
    (cdiv (tbytes i.tlp) 236 * (if c < 2 then 25600 else 20480), max 1 (rate10 c * d.repWidth p))

/-- A TLP fits (R360). -/
def Dev.fits (d : Dev) (p s : Nat) (i : Item) : Bool :=
  if s < 64 then
    match d.closeTime p s i.tlp.tc with
    | some t =>
      let (a, b) := d.txTime p i
      let guard := if 128 ≤ p then 0 else d.rf R.SCH_PORT_SCH_CFG p 7 0
      decide ((d.now + guard) * b + a ≤ t * b)
    | none => true
  else true

/-! ### Eligibility (R183, R351) -/

/-- A later TLP of a stream may leave before an earlier one (R183). -/
def Dev.mayPass (d : Dev) (later earlier : Tlp) : Bool :=
  if isMem later || isMem earlier then later.kind != earlier.kind else
  let ido := d.rb R.SWC_SWC_CTRL 0 2 && later.ido
  match tcls later, tcls earlier with
  | 0, 0 => false
  | 0, _ => true
  | 1, 0 => ido && later.rid != earlier.rid
  | 1, 1 => false
  | 1, _ => true
  | _, 0 => (d.rb R.SWC_SWC_CTRL 0 1 && later.ro) || (ido && later.tgt != earlier.rid)
  | _, 1 => true
  | _, _ => false

/-- The stable as whose traffic an item is scheduled, and its number: 64 for TLPs of no local stable (log entry 8). -/
def Item.schedStb (i : Item) : Option Nat := i.stb <|> i.sched
def Item.flow (i : Item) : Nat := i.schedStb.getD 64

/-- Lines of 64 B that a range of internal addresses touches. -/
def lineCount (a n : Nat) : Nat := (a + max n 1 - 1) / 64 - a / 64 + 1

/-- The internal address of a request of window w at an offset (R313). -/
def Dev.winBase (d : Dev) (w : Nat) : Nat := d.rf R.BRG_WIN_IBASE_LO w 31 12 * 4096 + 4294967296 * d.rf R.BRG_WIN_IBASE_HI w 19 0

/-- Read-return lines reserved (R325). -/
def Dev.rbufUsed (d : Dev) : Nat :=
  sumOf (fun r : BReq => lineCount r.addr r.len) d.brg.reqs +
  sumOf (fun i : Item => if i.ingress == 129 && i.stage == .store && i.tlp.kind == .cpl then max 1 (cdiv i.tlp.data.length 64) else 0)
    d.path.items

/-- Free write-buffer lines of a window: left of its reserve, and of the shared lines it may still take. -/
def Dev.winRoom (d : Dev) (w : Nat) : Nat × Nat :=
  let mine := d.brg.lines.filter fun l => l.win == w
  let rsvTotal := sumOf (fun e : Nat × Word => fld e.2 11 0) (d.listed R.BRG_WIN_WBUF) +
    4 * (256 - (d.listed R.BRG_WIN_WBUF).length)
  let sh := (mine.filter fun l => l.shared).length
  (d.rf R.BRG_WIN_WBUF w 11 0 - (mine.length - sh),
   min (d.rf R.BRG_WIN_WBUF w 27 16 - sh) ((4096 - rsvTotal) - (d.brg.lines.filter fun l => l.shared).length))

/-- The bridge takes a request now: its class's resource is free, no sleep entry has begun, and what was handed to P129
before has been taken up (R325, R326). -/
def Dev.brgTakes (d : Dev) (i : Item) : Bool :=
  match i.prim.dest with
  | .bridge w off =>
    let a := d.winBase w + off
    let n := 4 * dwLen i.tlp
    d.pwr.entry == 0 && !(d.path.inbox.any fun j => d.egressOf j == some 129) &&
    (if tcls i.tlp = 1 then
      decide (d.brg.reqs.length < 512) && decide (d.rbufUsed + lineCount a n ≤ 4096)
     else
      d.rb R.BRG_WIN_STATUS w 1 || (let r := d.winRoom w
        decide (lineCount a n ≤ r.1 + r.2)))
  | _ => true

/-- Why a queued TLP may not be selected at a port: none, or 1 gate or fit, 2 shaper, 3 credits, 4 order or port. -/
def Dev.blockedBy (d : Dev) (p : Nat) (queue : List Item) (i : Item) : Option Nat :=
  let s := i.flow
  if queue.any fun j => decide (j.stored < i.stored) && j.ingress == i.ingress && j.stb == i.stb && j.tlp.tc == i.tlp.tc
      && !d.mayPass i.tlp j.tlp then some 4
  else if !(d.gateMask p s).testBit i.tlp.tc || !d.fits p s i then some 1
  else if s < 64 ∧ (d.shapersOf s p i.tlp.tc).any fun k => decide ((d.shaper k).tokens ≤ 0) then some 2
  else if 128 ≤ p then (if p = 129 ∧ !d.brgTakes i then some 3 else none)
  else if d.isFabric p then
    match d.bundleOf p with
    | none => some 4
    | some b =>
      if (d.bnd b).orPhase ≠ 0 then some 3
      else match (d.pathOf b i).2 with
        | none => some 4
        | some lp =>
          if d.repWidth lp = 0 then some 4
          else if d.linkTakes lp (tcls i.tlp) (pktSlots i.tlp) then none else some 3
  else if d.repWidth p = 0 ∨ d.fenced p ∨ d.flushing p then some 4
  else if (d.sched.noCred.getD p 0).testBit (tcls i.tlp) then some 3
  else none

/-- The eligible TLPs of a port, in storing order. -/
def Dev.eligible (d : Dev) (p : Nat) : List Item :=
  let q := d.queueOf p
  q.filter fun i => (d.blockedBy p q i).isNone

/-! ### Weighted fair queueing (R352–R354) -/

/-- The cost of a TLP under a weight. -/
def wfqCost (i : Item) (w : Nat) : Nat := cdiv (tbytes i.tlp) 16 * 4096 / w

def Wfq.reset : Wfq := ⟨0, [], 0⟩
def Tag.reset : Tag := ⟨0, 0, 0, false⟩
def Wfq.tag (q : Wfq) (k : Nat) : Tag := q.tags.getD k Tag.reset

/-- A flow gains a head: its tags from F_last and the candidate's cost. -/
def Wfq.gain (q : Wfq) (k cost : Nat) : Wfq :=
  let t := q.tag k
  { q with tags := Tbl.put q.tags k Tag.reset { t with s := t.last, f := t.last + cost, active := true } }

/-- A weighted flow is served at an actual cost: V rises to its tag, and every offset falls with it, those of F and F_last
not below 0. DEDUCED: log entry 76. -/
def Wfq.serve (q : Wfq) (k cost : Nat) : Wfq :=
  let dv := ((q.tag k).s + cost).toNat
  let t := q.tag k
  let tags := Tbl.put q.tags k Tag.reset { t with last := dv, active := false }
  { q with v := q.v + BitVec.ofNat 32 dv
           tags := tags.filterMap fun e =>
             let x : Tag := ⟨e.2.s - dv, e.2.f - dv, e.2.last - dv, e.2.active⟩
             if x = Tag.reset then none else some (e.1, x) }

/-- A background flow is served. -/
def Wfq.serveBg (q : Wfq) (k : Nat) : Wfq :=
  let t := q.tag k
  { q with lastBg := k, tags := Tbl.put q.tags k Tag.reset { t with last := 0, active := false } }

/-- A flow's queues empty: it keeps only its last finish tag. -/
def Wfq.idle (q : Wfq) (k : Nat) : Wfq :=
  { q with tags := Tbl.put q.tags k Tag.reset { (q.tag k) with s := 0, f := 0, active := false } }

/-- The flow to serve among eligible ones, by weight: least F, ties to the lowest number, else the next background flow. -/
def Wfq.choose (q : Wfq) (flows : List Nat) (weight : Nat → Nat) : Option Nat :=
  match (flows.filter fun k => weight k != 0).foldl (fun best k => match best with
      | none => some k
      | some b => if (q.tag k).f < (q.tag b).f then some k else some b) none with
  | some k => some k
  | none => (flows.find? fun k => decide (q.lastBg < k)) <|> flows.head?

def Dev.wfq (d : Dev) (p : Nat) : Wfq := d.sched.port.getD p Wfq.reset
def Dev.setWfq (d : Dev) (p : Nat) (q : Wfq) : Dev :=
  { d with sched := { d.sched with port := Tbl.put d.sched.port p Wfq.reset q } }
def Dev.tcWfq (d : Dev) (p s : Nat) : Wfq := d.sched.tc.getD (p * 128 + s) Wfq.reset
def Dev.setTcWfq (d : Dev) (p s : Nat) (q : Wfq) : Dev :=
  { d with sched := { d.sched with tc := Tbl.put d.sched.tc (p * 128 + s) Wfq.reset q } }

/-- The weight of a flow at a port, and of a traffic class of a stable. DESIGN CHOICE: log entry 8. -/
def Dev.weight (d : Dev) (p s : Nat) : Nat :=
  if s < 64 then d.rf (R.SCH_WFQ_W (s / 4)) p (8 * (s % 4) + 7) (8 * (s % 4)) else 1
def Dev.tcWeight (d : Dev) (s tc : Nat) : Nat :=
  if s < 64 then d.rf R.SCH_STB_TC_W (0x100 + s) (4 * tc + 3) (4 * tc) else 1
def Dev.tcMode (d : Dev) (s : Nat) : Bool := decide (s < 64) && d.rb R.SCH_STB_TC_CFG (0x100 + s) 0

/-- Ascending numbers without repeats. -/
def ascending (l : List Nat) : List Nat := (sortBy id l).eraseDups

/-- The candidate of a stable among some of its TLPs (R354). -/
def Dev.candidate (d : Dev) (p s : Nat) (items : List Item) : Option Item :=
  let tcs := ascending (items.map fun i => i.tlp.tc)
  let tc := if d.tcMode s then (d.tcWfq p s).choose tcs (d.tcWeight s) else tcs.getLast?
  tc.bind fun tc => items.find? fun i => i.tlp.tc == tc

/-- After a change of a port's queues for a stable: a flow that has a head and no tag gains one, one without loses it. -/
def Dev.schedHead (d : Dev) (p s : Nat) : Dev :=
  let q := d.queueOf p
  let mine := q.filter fun i => i.flow == s
  let d := (ascending ((mine.map fun i => i.tlp.tc) ++ (d.tcWfq p s).tags.map (·.1))).foldl (fun d tc =>
    let w := d.tcWfq p s
    match mine.find? fun i => i.tlp.tc == tc with
    | some i => if (w.tag tc).active ∨ d.tcWeight s tc = 0 then d else d.setTcWfq p s (w.gain tc (wfqCost i (d.tcWeight s tc)))
    | none => d.setTcWfq p s (w.idle tc)) d
  let w := d.wfq p
  if mine.isEmpty then
    { (d.setWfq p (w.idle s)) with sched := { (d.setWfq p (w.idle s)).sched with lastSel := Tbl.put d.sched.lastSel (p * 128 + s) 0 0 } }
  else
    let d := if d.sched.lastSel.getD (p * 128 + s) 0 = 0 then
        { d with sched := { d.sched with lastSel := Tbl.put d.sched.lastSel (p * 128 + s) 0 (d.now + 1) } } else d
    let elig := mine.filter fun i => (d.blockedBy p q i).isNone
    match d.candidate p s (if elig.isEmpty then mine else elig) with
    | some i =>
      if (w.tag s).active ∨ d.weight p s = 0 then d else d.setWfq p (w.gain s (wfqCost i (d.weight p s)))
    | none => d

/-- The TLP that stage 7 selects at a port, if any is eligible (R352). -/
def Dev.select (d : Dev) (p : Nat) : Option Item :=
  let e := d.eligible p
  let flows := ascending (e.map Item.flow)
  ((d.wfq p).choose flows (d.weight p)).bind fun s => d.candidate p s (e.filter fun i => i.flow == s)

/-- The tags, shapers and counters after a selection (R352, R357, R366). -/
def Dev.selected (d : Dev) (p : Nat) (i : Item) : Dev :=
  let s := i.flow
  let w := d.weight p s
  let d := d.setWfq p (if w = 0 then (d.wfq p).serveBg s else (d.wfq p).serve s (wfqCost i w))
  let tw := d.tcWeight s i.tlp.tc
  let d := d.setTcWfq p s (if tw = 0 then (d.tcWfq p s).serveBg i.tlp.tc else (d.tcWfq p s).serve i.tlp.tc (wfqCost i tw))
  let d := if s < 64 then (d.shapersOf s p i.tlp.tc).foldl (fun d k =>
      d.setShaper k { d.shaper k with tokens := (d.shaper k).tokens - (125 * tbytes i.tlp : Nat) }) d else d
  let d := { d with sched := { d.sched with
    lastSel := Tbl.put d.sched.lastSel (p * 128 + s) 0 (d.now + 1)
    stalled := Tbl.put d.sched.stalled p 0 (ofBits ((bitsOf 65 (d.sched.stalled.getD p 0)).filter (· != s))) } }
  (d.bump R.SCH_CNT_SEL p i.schedStb).wn R.SCH_PORT_V p (d.wfq p).v.toNat

/-! ### Slots (R365, R436–R439) -/

/-- The reason for which nothing is selected at a port: 0 empty, 1 gate, 2 shaper, 3 credit, 4 a TLP is eligible, 5 other;
and the stable of the oldest queued TLP. -/
def Dev.idleReason (d : Dev) (p : Nat) : Nat × Option Nat :=
  let q := d.queueOf p
  match q with
  | [] => (0, none)
  | i :: _ =>
    if q.any fun j => (d.blockedBy p q j).isNone then (4, i.schedStb)
    else match d.blockedBy p q i with
      | some 1 => (1, i.schedStb)
      | some 2 => (2, i.schedStb)
      | some 3 => (3, i.schedStb)
      | _ => (5, i.schedStb)

/-- The link of a port is sending a TLP: the stable of its first byte. -/
def Dev.sendingAt (d : Dev) (p : Nat) : Option (Option Nat) :=
  (d.path.items.find? fun i => i.stage == .sending &&
    (match i.link with
     | some lp => lp == p
     | none => i.copies.isEmpty && d.egressOf i == some p)).map Item.schedStb

/-- The class of a port's slots now, and the stable they are attributed to (R438, R439). -/
def Dev.slotClass (d : Dev) (p : Nat) : Nat × Option Nat :=
  let cal := (d.pst p).proc.isSome
  let shake := (d.lnk p).park.isSome || (d.lnk p).join.isSome || (d.lnk p).swap.isSome ||
    (d.pst p).proc.any fun pr => pr.kind == .half && (pr.step == .starting || pr.step == .measured)
  let lead := match d.bundleOf p with
    | some b => (d.bundleLead b).getD p
    | none => p
  match d.sendingAt p with
  | some s => (0, s)
  | none =>
    if d.lstate p = 5 ∨ (d.isFabric p ∧ d.lkState p = 4) then (if cal then 2 else 3, none)
    else if shake then (2, none)
    else match d.idleReason lead with
      | (0, _) => (5, none)
      | (1, s) => (7, s)
      | (2, s) => (8, s)
      | (3, s) => (6, s)
      | (4, _) => (4, none)
      | (_, _) => (if cal then 2 else 3, none)

/-- Add slot units to a port's class, to the page counters and to the tally slots. -/
def Dev.addSlots (d : Dev) (p c n : Nat) (s : Option Nat) : Dev :=
  if n = 0 then d
  else
    let d := if d.talFrozen 0x200 p then d
      else { d with tally := { d.tally with slot := inc48 d.tally.slot (p * 16 + c) n } }
    d.tick 0x200 p (0x010 + c) n s

/-- The units of 1/16 slot that dt ns hold at a port, in 2^-20 units (R436). -/
def Dev.slotUnits (d : Dev) (p dt : Nat) : Nat :=
  let w0 := d.rf R.PRT0_LINK_STATUS p 20 16
  if d.isFabric p then dt * w0 * 1048576
  else
    let c := d.curRate p
    dt * 16 * rate10 c * w0 * 1048576 / (if c < 2 then 25600 else 20480)

/-- The ns of the next dt in which a fabric link sends replayed packets, with their stables. -/
def Dev.resent (d : Dev) (p dt : Nat) : List (Nat × Option Nat) :=
  ((d.lnk p).resend.foldl (fun (acc : Nat × List (Nat × Option Nat)) e =>
    let stop := min e.1 (d.now + dt)
    if stop ≤ acc.1 then acc else (stop, acc.2 ++ [(stop - acc.1, e.2)])) (d.now, [])).2

/-- The lanes that a calibration procedure has taken from a port's width (R437): of this end, or of a fabric port's partner. -/
def Dev.calCut (d : Dev) (p : Nat) : Nat :=
  b2n (d.lnk p).guest.isSome + match (d.pst p).proc with
    | none => 0
    | some pr => (match pr.kind with
      | .rotate => 1
      | .half => pr.width - d.rf R.PRT0_LINK_STATUS p 20 16 / 2
      | .reeq => pr.width)

/-- Count the slots of a port over dt ns in which nothing changed; of a reduced width, CAL has what calibration took. -/
def Dev.passSlots (d : Dev) (p dt : Nat) : Dev :=
  let up := if d.isFabric p then d.lkState p == 3 || d.lkState p == 4 else d.dlUp p
  let w0 := d.rf R.PRT0_LINK_STATUS p 20 16
  if !up ∨ w0 = 0 then d
  else
    let total := d.tally.slotFrac.getD p 0 + d.slotUnits p dt
    let n := total / 1048576
    let d := { d with tally := { d.tally with slotFrac := Tbl.put d.tally.slotFrac p 0 (total % 1048576) } }
    let w := min w0 (d.repWidth p)
    let split := n * (w0 - w) / w0
    let (c, s) := d.slotClass p
    let cal := n * min (w0 - w) (d.calCut p) / w0
    let d := (d.addSlots p 2 cal none).addSlots p 3 (split - cal) none
    let again := d.resent p dt
    let part (ns : Nat) : Nat := (n - split) * ns / dt
    let d := again.foldl (fun d e => d.addSlots p 1 (part e.1) e.2) d
    d.addSlots p c ((n - split) - sumOf (fun e : Nat × Option Nat => part e.1) again) s

/-! ### Device time (R7) -/

/-- The core clock in MHz at the level in force (R448): 2.0, 1.6, 1.2 and 0.6 GHz. -/
def clockMHz (pl : Nat) : Nat := if pl = 0 then 2000 else if pl = 1 then 1600 else if pl = 2 then 1200 else 600

/-- The core clock runs: neither SL1 nor SL2 (R78, R455). -/
def Dev.clockRuns (d : Dev) : Bool := d.rf R.PWR_SLEEP_STATUS 0 2 0 != 2

/-- The frequency at which the core clock runs: that of the level in force, or of the new level once a change to a slower
one has switched it (R451); half of it while the clock is stretched (R454). -/
def Dev.coreMHz (d : Dev) : Nat :=
  let f := clockMHz (if d.pwr.step = .rampDown ∧ !d.pwr.userRamp then d.pwr.target else d.rf R.PWR_PL_STATUS 0 1 0)
  if !d.clockRuns then 0 else if d.pwr.stretchAt.isSome then f / 2 else f

/-- The ports with a class waiting for cells. -/
def Dev.waitPorts (d : Dev) : List Nat :=
  ascending (d.path.items.filterMap fun i => if i.stage == .store && i.waited then some i.ingress else none)

/-- Device time passes to a later instant: core clocks, nanoseconds, slots, waiting and shaper-blocked time are counted. -/
def Dev.advanceTo (d : Dev) (t : Nat) : Dev :=
  if t ≤ d.now then d
  else
    let dt := t - d.now
    let pages := (d.regs.filterMap fun e =>
      let off := e.1 % 4096
      if 0xf00 ≤ off ∧ off < 0xf80 ∧ off % 16 = 8 then some (e.1 / 268435456) else none).eraseDups
    let acc := d.tally.frac + dt * d.coreMHz
    let clocks := acc / 1000
    let d := (d.physPorts.filter fun p => d.rf R.PRT0_LINK_STATUS p 20 16 != 0).foldl (fun d p => d.passSlots p dt) d
    let blocked := ((d.physPorts ++ [128, 129, 130]).flatMap fun p =>
      let q := d.queueOf p
      q.flatMap fun i => if d.blockedBy p q i = some 2 then
        (d.shapersOf i.flow p i.tlp.tc).filter fun k => decide ((d.shaper k).tokens ≤ 0) else []).eraseDups
    let d := blocked.foldl (fun d k => d.bumpBy R.SCH_SH_CNT_BLOCK (0x1000 + k) clocks) d
    let d := d.waitPorts.foldl (fun d p => d.bumpBy R.SHD_CNT_WAIT_NS p dt) d
    let d := { d with now := t, tally := { d.tally with frac := acc % 1000 } }
    pages.foldl (fun d p => (d.tick p 0xffff 2 dt none).tick p 0xffff 1 clocks none) d

end Sys2Proof.Machine
end

