-- ==== Sys2Proof/Machine/Links.lean ====
section
/-! DEFINITION. Lanes, links and calibration as other blocks act on them (R87–R112, R116–R144): lane states, link state
words, windows, and the end of a calibration procedure; and the hold and flush of a Mirkel link (R158–R165). -/

namespace Sys2Proof.Machine

/-! ### Lanes -/

/-- LANE_STATUS of a lane of a cluster. -/
def Dev.lane (d : Dev) (c k : Nat) : Word := d.rd (R.LAN_LANE_STATUS c) k
def Dev.laneState (d : Dev) (c k : Nat) : Nat := fld (d.lane c k) 2 0
def Dev.setLane (d : Dev) (c k st : Nat) : Dev := d.wf (R.LAN_LANE_STATUS c) k 2 0 st

/-- Set the state of the lanes of a cluster-relative mask. -/
def Dev.setLanes (d : Dev) (c mask st : Nat) : Dev := (bitsOf 16 mask).foldl (fun d k => d.setLane c k st) d

/-- MASK and TGT_WIDTH in force: the last consistent pair (R62, R93). -/
def Dev.laneMask (d : Dev) (p : Nat) : Nat := fld (d.pairVal R.PRT0_LINK_LANES p) 15 0
def Dev.tgtWidth (d : Dev) (p : Nat) : Nat := fld (d.pairVal R.PRT0_LINK_WIDTH p) 4 0

/-- The lanes of a port's block, as a cluster-relative mask. -/
def Dev.blockMask (d : Dev) (p : Nat) : Nat := match d.block p with
  | some (f, w) => (2 ^ w - 1) * 2 ^ f
  | none => 0

/-- The lanes that the link trained on, in logical order. -/
def Dev.linkLanes (d : Dev) (p : Nat) : List Nat :=
  let l := (bitsOf 16 ((d.pst p).detLanes)).filter fun k => !(d.pst p).leftOut.testBit k
  let l := l.take (d.rf R.PRT0_LINK_STATUS p 20 16)
  if d.rb R.PRT0_LINK_STATUS p 15 then l.reverse else l

/-- The lane of a link by its logical number. -/
def Dev.logLane (d : Dev) (p n : Nat) : Option Nat := (d.linkLanes p)[n]?
def Dev.logOf (d : Dev) (p k : Nat) : Nat := (d.linkLanes p).findIdx (· == k)

/-- The EFF value of a quantity of a lane (R64). -/
def Dev.eff (d : Dev) (c q k : Nat) : Nat := d.rf (R.LAN_EFF c q) k 15 0

/-! ### Link state -/

def Dev.setLstate (d : Dev) (p st : Nat) : Dev := d.wf R.PRT0_LINK_STATUS p 3 0 st

/-- The link is held Disabled: fail-safe, Link Disable, or an upstream port contained at PORT scope (R96). -/
def Dev.heldDisabled (d : Dev) (p : Nat) : Bool :=
  d.failsafe || (d.pst p).linkDis || (d.portContained p && !d.isDown p)

/-- A cluster's reference clock is good (R105). -/
def Dev.refOk (d : Dev) (c : Nat) : Bool := d.rf (R.LAN_CL_REFCLK c) 0 1 0 == 3

/-- The port of slot k (R106), and the slot of a port. -/
def Dev.slotPort (d : Dev) (k : Nat) : Option Nat :=
  ((d.listed R.PRT1_SLOT_CFG).find? fun e => bit e.2 0 && fld e.2 6 2 == k).map (·.1)
def Dev.portSlot (d : Dev) (p : Nat) : Option Nat :=
  if d.rb R.PRT1_SLOT_CFG p 0 then some (d.rf R.PRT1_SLOT_CFG p 6 2) else none
def Slot.reset : Slot := ⟨false, false, 3, 3, false, false, false, false, false, none, false⟩
def Dev.slot (d : Dev) (k : Nat) : Slot := d.ports.slot.getD k Slot.reset
def Dev.setSlot (d : Dev) (k : Nat) (s : Slot) : Dev :=
  { d with ports := { d.ports with slot := Tbl.put d.ports.slot k Slot.reset s } }

/-- The pair in force fits the port's block in the layout in force (R93); no lane outside a block ever trains. -/
def Dev.pairFits (d : Dev) (p : Nat) : Bool :=
  match d.block p with
  | some (f, w) => decide (d.tgtWidth p ≤ w) && (bitsOf 16 (d.laneMask p)).all fun k => decide (f ≤ k) && decide (k < f + w)
  | none => false

/-- The lanes of MASK that may train, ascending: in service and in no test (R112). DEDUCED: log entry 31. -/
def Dev.trainLanes (d : Dev) (p : Nat) : List Nat :=
  (bitsOf 16 (d.laneMask p)).filter fun k => d.rb (unitCtrl (0x100 + p / 8)) k 0 && d.rf (R.LAN_LANE_TEST (p / 8)) k 1 0 == 0

/-- A port may start training (R96 step 1, R105, R108, R109, R112). -/
def Dev.mayTrain (d : Dev) (p : Nat) : Bool :=
  let c := p / 8
  d.pairFits p && d.portEn p && d.tgtWidth p != 0 && !d.heldDisabled p && d.refOk c && !(d.pst p).sbr &&
  (match d.portSlot p with
   | some k =>
     (d.slot k).present && (((d.slot k).powered && (d.slot k).delayAt.isNone) || !d.rb (R.PRT1_HP_EXP (k / 4)) 0 7)
   | none => true) &&
  !(d.trainLanes p).isEmpty

/-! ### Calibration (R120–R140) -/

def CalLane.reset : CalLane := ⟨none, 0, false, none, none, false, [], []⟩
def Dev.calLane (d : Dev) (p k : Nat) : CalLane := d.ports.lane.getD (16 * (p / 8) + k) CalLane.reset
def Dev.setCalLane (d : Dev) (p k : Nat) (c : CalLane) : Dev :=
  { d with ports := { d.ports with lane := Tbl.put d.ports.lane (16 * (p / 8) + k) CalLane.reset c } }

/-- A lane starts from its EFF values: quantities 0 to 6 apply, the equaliser's among them as ADAPT shows them (R118). -/
def Dev.applyEff (d : Dev) (c k : Nat) : Dev :=
  let d := d.setCalLane (8 * c) k { d.calLane (8 * c) k with applied := (List.range 7).map fun q => d.eff c q k }
  d.wr (R.LAN_ADAPT c) k (word (d.eff c 3 k % 256 + 256 * (d.eff c 4 k % 256) + 65536 * (d.eff c 5 k % 256)))

/-- In-situ adaptation of a lane is frozen (R119): ADAPT_EN 0, a margining command that holds the lane, or a link in Recovery, where
it equalises as well. -/
def Dev.adaptFrozen (d : Dev) (c k : Nat) : Bool :=
  !d.rb R.CAL_CAL_CTRL 0 1 || (match d.blockPort c k with
    | some p => (d.pst p).lmLanes.contains k || (!d.isFabric p && d.lstate p == 5)
    | none => false)

/-- The values that a lane has come to by adaptation or calibration stay as they are: which they are is a free value. DESIGN CHOICE:
log entry 4. -/
def Dev.adaptLatch (d : Dev) (c k : Nat) : Dev :=
  let (x, d) := d.fresh
  d.wr (R.LAN_ADAPT c) k (x &&& 0xffffff)

/-- Lanes of a cluster are about to stop adapting: those that were doing so keep what they have come to. -/
def Dev.adaptStop (d : Dev) (c : Nat) (lanes : List Nat) : Dev :=
  (lanes.filter fun k => d.laneState c k == 3 && !d.adaptFrozen c k).foldl (fun d k => d.adaptLatch c k) d

/-- The lanes of an aborted procedure have their previous settings (R140). -/
def Dev.settingsBack (d : Dev) (p k : Nat) : Dev :=
  let x := d.calLane p k
  match x.was with
  | [] => d
  | l => (d.setCalLane p k { x with applied := l.take 7, was := [] }).wn (R.LAN_ADAPT (p / 8)) k (l.getD 7 0)

/-- METHOD of a port: 0 INSITU, 1 ROTATE, 2 HALF. -/
def Dev.method (d : Dev) (p : Nat) : Nat := d.rf R.CAL_CAL_PSTATUS p 1 0

/-- The lanes of the upper half of a HALF port. -/
def Dev.upperHalf (d : Dev) (p : Nat) : List Nat :=
  let l := d.linkLanes p
  if l.length < 2 then [] else l.drop (l.length / 2)

/-- A lane is in a permanent park. -/
def Dev.permParked (d : Dev) (p k : Nat) : Bool := d.rf (R.LAN_LCAL_STATUS (p / 8)) k 2 0 == 3

/-- The lanes of the unit that a lane belongs to, if a procedure can calibrate it. -/
def Dev.unitOf (d : Dev) (p k : Nat) : List Nat :=
  if d.method p = 1 then (if (d.linkLanes p).contains k ∧ !d.permParked p k then [k] else [])
  else if d.method p = 2 then (if (d.upperHalf p).contains k then d.upperHalf p else [])
  else []

/-- Mark a lane due, with a trigger (R123); an earlier trigger of higher order stays. -/
def trigRank (t : Nat) : Nat := if t = 3 then 0 else if t = 2 then 1 else if t = 1 then 2 else 3
def Dev.makeDue (d : Dev) (p k trig : Nat) : Dev :=
  let c := p / 8
  let l := d.calLane p k
  let l' := match l.due with
    | none => { l with due := some (trig, d.now) }
    | some (t, at0) => if trigRank trig < trigRank t then { l with due := some (trig, at0) } else l
  let d := d.setCalLane p k l'
  let d := if d.rf (R.LAN_LCAL_STATUS c) k 2 0 = 0 then d.wf (R.LAN_LCAL_STATUS c) k 2 0 1 else d
  let d := d.wf (R.LAN_LCAL_STATUS c) k 10 8 ((l'.due.getD (trig, 0)).1)
  d.wf R.CAL_CAL_PSTATUS p (16 + k) (16 + k) 1

/-- A trigger fires on a lane: it is due if a procedure can calibrate it. -/
def Dev.trigger (d : Dev) (p k trig : Nat) : Dev := if (d.unitOf p k).isEmpty then d else d.makeDue p k trig

/-- A lane is no longer due. -/
def Dev.clearDue (d : Dev) (p k : Nat) : Dev :=
  let d := d.setCalLane p k { d.calLane p k with due := none, retryAt := none, rotAt := none, starved := false }
  let d := if d.rf (R.LAN_LCAL_STATUS (p / 8)) k 2 0 = 1 then d.wf (R.LAN_LCAL_STATUS (p / 8)) k 2 0 0 else d
  let d := d.wf R.CAL_CAL_PSTATUS p (16 + k) (16 + k) 0
  d.wf R.CAL_CAL_REQ p k k 0

/-- A lane's record of a completed procedure or training (R124, R130). -/
def Dev.calRecord (d : Dev) (p k : Nat) : Dev :=
  let c := p / 8
  (d.wf (R.LAN_LCAL_TEMP c) k 15 0 (d.rf (R.CAL_CL_TEMP c) 0 15 0)).wr64 (R.LAN_LCAL_TIME_LO c) (R.LAN_LCAL_TIME_HI c) k d.now

/-- Whether a calibration window is open for a port: the end as device time, the latest of the open ones. -/
def Dev.winEnd (d : Dev) (p : Nat) : Option Nat :=
  (d.pst p).wins.foldl (fun m w =>
    let c := d.cyc1 w.1
    let e := c.tStart + cdiv (w.2 * d.cycP w.1) 16777216
    some (max (m.getD 0) e)) none

/-- The µs a procedure has taken. -/
def Dev.procUs (d : Dev) (pr : Proc) : Nat := (d.now - pr.start) / 1000

/-- End a procedure: ACTIVE, CAL_REQ of its lanes, CAL_LAST and CAL_LOST (R138, R142). DEDUCED: log entry 35. -/
def Dev.procClose (d : Dev) (p : Nat) (pr : Proc) (outcome : Nat) : Dev :=
  let us := d.procUs pr
  let n := popCount 16 pr.lanes
  let d := d.setPst p { d.pst p with proc := none }
  let d := (d.wf R.CAL_CAL_PSTATUS p 2 2 0).wf R.CAL_CAL_PSTATUS p 11 8 0
  let d := d.wr R.CAL_CAL_LAST p (word (pr.first + 16 * outcome + 256 * pr.trig + 65536 * min us 65535))
  let d := d.bumpBy R.CAL_CAL_LOST p (n * us)
  (bitsOf 16 pr.lanes).foldl (fun d k =>
    let st := d.rf (R.LAN_LCAL_STATUS (p / 8)) k 2 0
    let d := d.wf R.CAL_CAL_REQ p k k 0
    if st = 2 then d.wf (R.LAN_LCAL_STATUS (p / 8)) k 2 0 (b2n (d.calLane p k).due.isSome) else d) d

/-- A procedure ends without a result: ABORT 3, DISTURBED 4 or FAULT 7; its unit stays due, and its lanes have their previous settings
(R140). -/
def Dev.procAbort (d : Dev) (p outcome : Nat) : Dev :=
  match (d.pst p).proc with
  | none => d
  | some pr =>
    let d := (bitsOf 16 pr.lanes).foldl (fun d k => d.settingsBack p k) (d.procClose p pr outcome)
    let d := if outcome = 7 then d else d.bump R.CAL_CAL_CNT_ABORT p
    let d := if pr.kind = .reeq then d.setPst p { d.pst p with reeqDue := true } else d
    d.raiseCal p 3

/-! ### Links going down -/

/-- A data link that was up goes down: counted, and LINK_DOWN raised (R113, R115). -/
def Dev.linkDown (d : Dev) (p : Nat) : Dev := (d.bump R.PRT0_LINK_DOWN_CNT p).raise (0x200 + 4 * p + 1)

/-- The state words of a link that is down: LSTATE, width, rate and the negotiated flags; METHOD and the lanes. A training under
way returns to DETECT, where one whose data link had come up counts as a DL_Down. A FAILED lane of an enabled port stays
FAILED until a training from Detect begins (R97). DEDUCED: log entry 31. -/
def Dev.linkWords (d : Dev) (p st : Nat) : Dev :=
  let c := p / 8
  let st := if (2 ≤ st ∧ st ≤ 5) ∨ st = 9 then 1 else st
  let d := if (d.pst p).rising then d.linkDown p else d
  let keep := if (d.portSlot p).isSome then 0x00df0000 else 0x009f0000
  let d := d.wr R.PRT0_LINK_STATUS p (word (d.rn R.PRT0_LINK_STATUS p &&& keep ||| st))
  let d := d.wf R.CAL_CAL_PSTATUS p 1 0 0
  let d := d.setPst p { d.pst p with repWidth := 0, l0pReq := none, lmLanes := [], rising := false }
  let on := d.portEn p && d.tgtWidth p != 0
  let own := if on then 256 * p else 0xff00
  let lst := if st = 1 && d.mayTrain p then 1 else 0
  (bitsOf 16 (d.blockMask p)).foldl (fun d k =>
    let x := if d.laneState c k = 7 then 7 else if on ∧ lst = 0 ∧ d.laneState c k = 6 then 6
      else if (d.laneMask p).testBit k then lst else if on then 5 else 0
    d.wr (R.LAN_LANE_STATUS c) k (word (x + own))) d

/-- A link runs at a wider L0p width: the lanes return, then the width is reported (R101, R102, R134). -/
def Dev.l0pWiden (d : Dev) (p w : Nat) : Dev :=
  let n := min w (d.rf R.PRT0_LINK_STATUS p 20 16)
  let lanes := (d.linkLanes p).take n
  let d := (lanes.foldl (fun d k => d.setLane (p / 8) k 3) d).wf R.PRT0_LINK_STATUS p 11 7 n
  let d := if n = d.rf R.PRT0_LINK_STATUS p 20 16 then d.setLstate p 4 else d
  (d.setPst p { d.pst p with l0pReq := none }).report p n

/-! ### Mirkel hold and flush (R158–R165) -/

/-- Raise an event of the bundle of a fabric port (R167). -/
def Dev.mklEvent (d : Dev) (p lane e : Nat) : Dev :=
  match d.bundleOf p with
  | some b => (d.wr R.MKL_BND_LAST_EV b (word (p + 256 * lane + 4096 * e))).raise (0x400 + 6 * b + e)
  | none => d

def Dev.setLkState (d : Dev) (p st : Nat) : Dev := d.wf R.MKL_LK_STATE (lkInst p) 2 0 st

/-- The active lanes of a link: LK_STATE.ACT_MASK, with their count and CUR_WIDTH. -/
def Dev.actMask (d : Dev) (p : Nat) : Nat := d.rf R.MKL_LK_STATE (lkInst p) 31 16
def Dev.setActMask (d : Dev) (p m : Nat) : Dev :=
  let d := (d.wf R.MKL_LK_STATE (lkInst p) 31 16 m).wf R.MKL_LK_STATE (lkInst p) 7 3 (popCount 16 m)
  d.wf R.PRT0_LINK_STATUS p 11 7 (popCount 16 m)

/-- Send a control symbol. -/
def Dev.sym (d : Dev) (p code : Nat) (args : List Nat) : Dev := d.emit (.symbol p code args)

/-- Enter a packet in a link's replay buffer and send it; a charge is made under the accounting in force. -/
def Dev.pktPut (d : Dev) (lp : Nat) (pk : Packet) (stable : Option Nat) (ing : Nat) (src : Src) : Dev :=
  let l := d.lnk lp
  let pk := { pk with seq := l.nextSeq }
  let k := pk.cls
  let l := { l with
    nextSeq := (l.nextSeq + 1) % 65536
    replay := l.replay ++ [⟨pk, stable, ing, src, true⟩]
    charged := l.charged.set k (l.charged.get k + pktUnits pk.slots)
    timerAt := if l.replay.isEmpty then d.now + 1 else l.timerAt }
  (d.setLnk lp l).emit (.packet lp (pktHead pk) pk)

/-- The bucket of a member's own control messages. -/
def ctlBucket (m : Nat) : Nat := (m * 131 + 130) % 256

/-- Ask for a control message to be sent to a member. DESIGN CHOICE: log entry 9. -/
def Dev.ctlSend (d : Dev) (dst : Nat) (msg : List Nat) : Dev :=
  { d with mkl := { d.mkl with ctl := d.mkl.ctl ++ [⟨dst, none, d.me, 0, d.staging.epoch.toNat % 2, msg⟩] } }

/-- Ask for a control message to be sent to the neighbour of a bundle. -/
def Dev.ctlNear (d : Dev) (b : Nat) (msg : List Nat) : Dev :=
  { d with mkl := { d.mkl with ctl := d.mkl.ctl ++ [⟨(d.bundlePartner b).getD 0, some b, d.me, 0, d.staging.epoch.toNat % 2, msg⟩] } }

/-- SEL_STATUS of a page as an accessor reads it (R50). -/
def Dev.selStatusOf (d : Dev) (a : Acc) (page : Nat) : Word :=
  word (b2n (d.selInvalid a page) + fld (d.ard (accIdx a) (selStatus page)) 4 1 * 2 + 65536 * ninst page)

/-- A word of a remote read goes to the accessor that asked for it, with the SEL_STATUS that comes with it (R52, R478). -/
def Dev.remoteEnd (d : Dev) (acc : Nat) (v st : Word) : Dev :=
  match d.mgt.remote.find? fun e => e.1 == acc with
  | none => d
  | some e =>
    let d := { d with mgt := { d.mgt with remote := d.mgt.remote.erase e } }
    match d.mgt.host.find? fun h => h.acc == acc && h.words.any Option.isNone with
    | some h =>
      let h' := { h with words := h.words.set (h.words.findIdx Option.isNone) (some v) }
      let rest := d.mgt.host.erase h
      if h'.words.any Option.isNone then { d with mgt := { d.mgt with host := d.mgt.host.replace h h' } }
      else
        ({ d with mgt := { d.mgt with host := rest } }).completeData h.tlp (some acc) h.ing 130 .mgmt (tlo h.tlp)
          (h'.words.flatMap fun (w : Option Word) => bytesOf 4 ((w.getD 0).toNat))
    | none =>
      if acc = 65 then d.emit (.msg 0 0x7e01 [0, v.toNat, st.toNat]) else d.emit (.reply acc [v])

/-- A remote access of an accessor fails (R52): REMOTE_FAIL is set, and a read returns 0. -/
def Dev.remoteFail (d : Dev) (acc : Nat) (read : Bool) : Dev :=
  let d := d.sticky acc 0 4
  if read then d.remoteEnd acc 0 (d.selStatusOf .smbus 0) else d

/-- A control message that cannot be delivered fails (R160): a remote access with the result of R52. -/
def Dev.ctlFail (d : Dev) (src : Nat) (msg : List Nat) : Dev :=
  if src = d.me ∧ msg.headD 0 = 2 ∧ msg.getD 1 1 = 0 then d.remoteFail (msg.getD 2 0) (msg.getD 3 0 == 0) else d

/-- Send one waiting control message, if its link can take it; `none` while it must wait. -/
def Dev.ctlTry (d : Dev) (c : Ctl) : Option Dev :=
  match (match c.via with
    | some b => some b
    | none => d.ctlPath c.dst) with
  | none => some (d.ctlFail c.src c.msg)
  | some b =>
    let x := d.bnd b
    let k := ctlBucket c.src
    match (d.bundlePorts b)[x.pins.getD k 0]? with
    | none => none
    | some p =>
      let l := d.lnk p
      if d.lkState p ≠ 3 ∨ (x.orPhase ≠ 0 ∧ c.msg.headD 0 ≠ 5) ∨ 16383 ≤ l.replay.length ∨ !l.replay.all (·.charged) ∨
          1024 * ((d.block p).map (·.2)).getD 0 < sumOf (fun e : Sent2 => e.pk.slots) l.replay + 2 ∨ l.limit.p ≤ l.charged.p then none
      else
        let pk : Packet :=
          { seq := 0, cls := 0, slots := 2, ro := false, ido := false, off := false, poison := false, ctl := true, dst := c.dst
            src := c.src, dstPort := 130, srcPort := 130, stable := 0, hops := c.hops, epoch := c.epoch, gen := 0
            wait := x.sentOff.getD k 0, ccrc := 0, tlp := Tlp.blank, priv := true, msg := c.msg }
        let d := d.setBnd b { x with sentMain := Tbl.put x.sentMain k 0 ((x.sentMain.getD k 0 + 1) % 8388608) }
        some (d.pktPut p pk none 130 .mgmt)

/-- Send the control messages that can be sent; those to one destination keep their order. -/
def Dev.ctlPump (d : Dev) : Dev :=
  let q := d.mkl.ctl
  let d := { d with mkl := { d.mkl with ctl := [] } }
  (q.foldl (fun (acc : Dev × List Nat) c =>
    let key := match c.via with
      | some b => 8 + b
      | none => c.dst
    let keep (d : Dev) : Dev × List Nat := ({ d with mkl := { d.mkl with ctl := d.mkl.ctl ++ [c] } }, key :: acc.2)
    if acc.2.contains key then keep acc.1
    else match acc.1.ctlTry c with
      | some d => (d, acc.2)
      | none => keep acc.1) (d, [])).1

/-- Begin an order reset of a bundle (R165). DEDUCED: log entry 37. -/
def Dev.orStart (d : Dev) (b : Nat) : Dev :=
  let x := d.bnd b
  let d := if x.orPhase = 0 then d.bump R.MKL_BND_CNT_OR b else d
  d.setBnd b { x with orPhase := 1 }

/-- Give every bucket its link by b mod n over the n ACTIVE links, at the next order reset. -/
def Dev.pinsSpread (d : Dev) (b : Nat) : Dev :=
  let ports := d.bundlePorts b
  let slots := (d.activeLinks b).map fun p => ports.findIdx (· == p)
  if slots.isEmpty then d
  else d.setBnd b { d.bnd b with
    pinsNew := (List.range 256).filterMap fun k =>
      let v := slots.getD (k % slots.length) 0
      if v = 0 then none else some (k, v) }

/-- Give the buckets of a flushed link to the surviving links in turn. -/
def Dev.pinsTake (d : Dev) (b p : Nat) : Dev :=
  let ports := d.bundlePorts b
  let slots := ((d.activeLinks b).filter (· != p)).map fun q => ports.findIdx (· == q)
  let mine := ports.findIdx (· == p)
  if slots.isEmpty then d
  else
    let x := d.bnd b
    let moved := (List.range 256).filter fun k => x.pins.getD k 0 == mine
    let assigned := (List.range moved.length).map fun i => (moved.getD i 0, slots.getD (i % slots.length) 0)
    d.setBnd b { x with pinsNew := assigned.foldl (fun t e => Tbl.put t e.1 0 e.2) x.pinsNew }

/-- Flush one packet of a flushed link's replay buffer (R160 steps 1 and 2). -/
def Dev.flushPkt (d : Dev) (p : Nat) (e : Sent2) : Dev :=
  if e.pk.ctl then d.ctlFail e.pk.src e.pk.msg
  else match tcls e.pk.tlp with
    | 0 =>
      let d := (d.bump R.MKL_LK_CNT_FLUSH_P (lkInst p) e.stable).logDrop p true false e.stable e.pk.tlp
      if isWrite e.pk.tlp then d.logLoss p 3 false e.ingress e.stable e.pk.tlp else d
    | 1 =>
      let d := if e.pk.src = d.me then
          (d.setLedger (dropFirst (fun l => d.isFabric l.egress && l.rid == e.pk.tlp.rid && l.tag == e.pk.tlp.tag && l.ingress == e.ingress)
            d.slice.ledger)).completeStatus e.pk.tlp e.stable e.ingress p e.src 1
        else d.endBack p e.pk 1
      d.bump R.MKL_LK_CNT_FLUSH_NP (lkInst p) e.stable
    | _ => d.bump R.MKL_LK_CNT_FLUSH_CPL (lkInst p) e.stable

/-- The TLP being sent on a fabric link that stops stands whole in its replay buffer; its cells are released. -/
def Dev.linkSent (d : Dev) (p : Nat) : Dev :=
  (d.path.items.filter fun i => i.stage == .sending && i.link == some p).foldl (fun d i => d.dropItem i) d

/-- A link flushes (R160); one that was ACTIVE goes down with it. DEDUCED: log entry 37. -/
def Dev.mklFlush (d : Dev) (p : Nat) : Dev :=
  let d := if d.lkState p = 3 then (d.linkSent p).linkDown p else d.linkSent p
  let l := d.lnk p
  let d := if d.lkState p = 4 then d.wn R.MKL_LK_HOLD_LAST (lkInst p) (min 65535 ((d.now - l.holdAt) / 1000)) else d
  let d := l.replay.foldl (fun d e => d.flushPkt p e) d
  let d := d.mklEvent p 0 2
  let d := (d.setLnk p { Link.reset with lastTok := l.lastTok, lastPartner := l.lastPartner, rx := l.rx }).setLkState p 5
  let d := ((d.setActMask p 0).wf R.CAL_CAL_PSTATUS p 1 0 0).report p 0
  let d := (d.wr R.MKL_LK_SEQ (lkInst p) 0).wf R.MKL_LK_PARTNER (lkInst p) 31 31 0
  match d.bundleOf p with
  | some b => (d.pinsTake b p).orStart b
  | none => d

/-- A link in ACTIVE enters HOLD (R158), with no lane active; with HOLD_TIME 0 it flushes at once without a hold (R159, R166). -/
def Dev.mklHold (d : Dev) (p : Nat) (full : Bool) : Dev :=
  if d.lkState p ≠ 3 then d
  else
    let d := (d.procAbort p 3).linkSent p
    let d := (d.setLnk p { d.lnk p with park := none, join := none, swap := none, guest := none, left := 0 }).wf R.MKL_LK_STATE (lkInst p) 8 8 0
    if d.rf R.MKL_LK_TIMING (lkInst p) 15 8 = 0 then d.mklFlush p
    else
      let d := (((d.setLkState p 4).report p 0).setActMask p 0).setLnk p { d.lnk p with holdAt := d.now, full := full }
      ((d.bump R.MKL_LK_CNT_HOLD (lkInst p)).linkDown p).mklEvent p 0 0

/-- PROTOCOL of a link (R149, R151, R156, R164). -/
def Dev.mklProtocol (d : Dev) (p : Nat) : Dev := d.mklEvent p 0 5

end Sys2Proof.Machine
end

