-- ==== Sys2Proof/Machine/Dma.lean ====
section
/-! DEFINITION. The DMA channels (R333–R347) as other blocks act on them: rings, pacing, the requests of descriptors, tags,
reports, and the advance of a channel's generation. -/

namespace Sys2Proof.Machine

/-! ### Channels -/

def Chan.reset : Chan := ⟨[], [], none, []⟩
def Dev.chan (d : Dev) (c : Nat) : Chan := d.dma.chan.getD c Chan.reset
def Dev.setChan (d : Dev) (c : Nat) (x : Chan) : Dev :=
  { d with dma := { d.dma with chan := Tbl.put d.dma.chan c Chan.reset x } }
def Dev.setTags (d : Dev) (t : Tbl DTag) : Dev := { d with dma := { d.dma with tags := t } }

/-- STATE of a channel: 0 STOPPED, 1 IDLE, 2 RUN, 3 HALTED. -/
def Dev.chState (d : Dev) (c : Nat) : Nat := d.rf R.DMA_CH_STATUS c 1 0
def Dev.setChState (d : Dev) (c st : Nat) : Dev := d.wf R.DMA_CH_STATUS c 1 0 st
def Dev.chArmed (d : Dev) (c : Nat) : Bool := d.rb R.DMA_CH_STATUS c 3
def Dev.chSize (d : Dev) (c : Nat) : Nat := d.rf R.DMA_CH_RING_SIZE c 15 0
def Dev.chHead (d : Dev) (c : Nat) : Nat := d.rf R.DMA_CH_HEAD c 15 0
/-- The fill level of R335. -/
def Dev.chFill (d : Dev) (c : Nat) : Nat :=
  let n := d.chSize c
  if n = 0 then 0 else (d.rf R.DMA_CH_TAIL c 15 0 + n - d.chHead c) % n
def Dev.chBase (d : Dev) (c : Nat) : Nat := d.rf R.DMA_CH_RING_LO c 31 5 * 32 + 4294967296 * d.rn R.DMA_CH_RING_HI c
/-- The stable in CH_OWN. -/
def Dev.chStb (d : Dev) (c : Nat) : Nat := d.rf R.DMA_CH_OWN c 6 1
def Dev.chPriv (d : Dev) (c : Nat) : Bool := d.rb R.DMA_CH_OWN c 7
/-- STOP has been written and the channel is not yet STOPPED. -/
def Dev.chStopping (d : Dev) (c : Nat) : Bool := d.rb R.DMA_CH_CTRL c 1
/-- The generation domain of a channel has a held advance. -/
def Dev.chPend (d : Dev) (c : Nat) : Bool := (d.gen (domChan c)).pend

/-- One evaluation of pacing and fill (R345, R346). -/
def Dev.chPace (d : Dev) (c : Nat) (kick : Bool) : Dev :=
  let st := d.chState c
  let fill := d.chFill c
  let w := d.pairVal R.DMA_CH_PACE c
  if st ≠ 1 ∧ st ≠ 2 then d
  else if d.rb R.DMA_CH_CFG c 16 then
    (if st = 1 then (if d.chArmed c ∧ (fld w 15 0 < fill ∨ kick) then d.setChState c 2 else d)
     else if !d.chArmed c ∨ fill < fld w 31 16 then d.setChState c 1 else d)
  else d.setChState c (if 0 < fill then 2 else 1)

/-! ### Descriptors -/

def DDesc.op (x : DDesc) : Nat := x.w0 % 16
def DDesc.fence (x : DDesc) : Bool := x.w0.testBit 4
def DDesc.irq (x : DDesc) : Bool := x.w0.testBit 5
def DDesc.tc (x : DDesc) : Nat := x.w0 / 512 % 8
def DDesc.len (x : DDesc) : Nat := x.w1 % 33554432
/-- A bad descriptor issues nothing. -/
def DDesc.bad (x : DDesc) : Bool := decide (1 ≤ x.code) && decide (x.code ≤ 4)
/-- A read failed: no further request is issued. -/
def DDesc.failed (x : DDesc) : Bool := x.code == 5
/-- The lowest non-zero of two codes (R343). -/
def lowCode (a b : Nat) : Nat := if a = 0 then b else if b = 0 then a else min a b
/-- The code of a bad descriptor (R343); 0 for a good one. -/
def DDesc.check (x : DDesc) : Nat :=
  if 2 < x.op then 1
  else if 16777216 < x.len ∨ (x.op = 2 ∧ x.len ≠ 0) then 2
  else if x.w0 / 4096 ≠ 0 ∨ x.w1 / 33554432 ≠ 0 then 3
  else if (x.op = 0 ∧ 18446744073709551616 < x.src + x.len) ∨ 18446744073709551616 < x.dst + x.len then 4
  else 0

/-- Every write of a descriptor has been issued, and the read of a FLUSH_READ. -/
def DDesc.wrDone (x : DDesc) : Bool :=
  x.bad || x.failed || (if x.op = 2 then x.rdNext == 1 else x.wrNext == x.len)

/-- A descriptor is done (R341). -/
def Dev.descDone (d : Dev) (c : Nat) (x : DDesc) : Bool :=
  x.reads.isEmpty && x.wrDone &&
  !(d.path.items.any fun i => i.src == .chan c x.idx && i.stage == .store && !d.retired i.dom i.prim.gen)

/-! ### Requests -/

/-- The identity of a channel on a TLP (R333). -/
def Dev.chTlp (d : Dev) (c tc : Nat) (ro noSnoop : Bool) (t : Tlp) : Tlp :=
  let s := d.chStb c
  { t with
    rid := 256 * d.secBus s 0, tc := tc, ro := ro
    ns := noSnoop && bit (d.cfg s 1 22) 11
    pasid := if d.rb R.DMA_CH_PASID c 31 then some (d.rf R.DMA_CH_PASID c 19 0) else none
    pmr := d.rb R.DMA_CH_PASID c 31 && d.chPriv c }

/-- Issue a request of a channel; the result tells whether stage 5 misrouted or denied it. -/
def Dev.chIssue (d : Dev) (c k : Nat) (t : Tlp) : Dev × Bool :=
  let d := d.issue (d.chStb c) 128 (.chan c k) t (d.chPriv c) (some (domChan c))
  (d, match d.path.items.getLast? with
    | some i => (match i.prim.dest with
        | .err _ => true
        | _ => i.prim.verdict != .ok)
    | none => false)

/-- The lowest free tag of P128, while fewer than 2,048 are in use. -/
def Dev.freeTag (d : Dev) : Option Nat := (List.range 2048).find? fun t => (d.dma.tags.find t).isNone

/-- Completion cells of n more bytes can be granted from P128's completion reserve (R180). -/
def Dev.cplRoom (d : Dev) (n : Nat) : Bool :=
  let out := sumOf (fun e : Nat × DTag => max 1 (cdiv e.2.len 256)) d.dma.tags
  decide (out + d.rvOf 128 2 + max 1 (cdiv n 256) ≤ d.rsv 128 2)

/-- Reads of a channel outstanding. -/
def Dev.chReads (d : Dev) (c : Nat) : Nat := (d.dma.tags.filter fun e => e.2.ch == c && !e.2.fetch).length

/-- A tag for a read of n bytes, if one may be issued now. -/
def Dev.takeTag (d : Dev) (c n : Nat) (fetch : Bool) : Option (Nat × Dev) :=
  if !fetch ∧ d.rf R.DMA_CH_CFG c 13 8 ≤ d.chReads c then none
  else if !d.cplRoom n then none
  else d.freeTag.map fun t =>
    (t, d.setTags (d.dma.tags.insert t ⟨c, 256 * d.secBus (d.chStb c) 0, (d.gen (domChan c)).g, n, fetch, false, d.now, false, d.ctoNs⟩))

/-- End of the next TLP that starts at an address: the 4-KiB boundary, the largest size, the end of the data (R339), and never the
1,024 DW that a Length field of 0 would stand for (R338). DEDUCED: log entry 102. -/
def chunkEnd (a size stop : Nat) : Nat := min (min (a / 4096 * 4096 + 4096) (a / 4 * 4 + min size 4092)) stop

/-- First and last byte enables of a range of bytes. -/
def beOf (a b : Nat) : Nat × Nat :=
  let first := 15 - (2 ^ (a % 4) - 1)
  let last := if b % 4 = 0 then 15 else 2 ^ (b % 4) - 1
  if (b - 1) / 4 = a / 4 then (first &&& last, 0) else (first, last)

/-- A write of bytes at any address: the payload fills the DWs that it touches. -/
def mkWriteAt (a : Nat) (data : List Byte) : Tlp :=
  let b := a + data.length
  let pad := List.replicate (a % 4) 0 ++ data ++ List.replicate ((4 - b % 4) % 4) 0
  let be := beOf a b
  { mkWrite (a / 4 * 4) 0 0 pad with fbe := be.1, lbe := be.2 }

/-- A read of bytes at any address. -/
def mkReadAt (a b tag : Nat) : Tlp :=
  let be := beOf a b
  { mkRead (a / 4 * 4) 0 tag 0 ((b + 3) / 4 - a / 4) with fbe := be.1, lbe := be.2 }

/-- The largest read of a channel. -/
def Dev.chMrrs (d : Dev) (c : Nat) : Nat := 128 * 2 ^ min 5 (d.rf R.DMA_CH_CFG c 2 0)
/-- The largest write of a channel: Max_Payload_Size of the owner's control function. -/
def Dev.chMps (d : Dev) (c : Nat) : Nat := 128 * 2 ^ min 5 (fld (d.cfg (d.chStb c) 1 22) 7 5)

/-- Issue the reads of a COPY that may go out now. -/
def Dev.chPumpReads : Nat → Dev → Nat → DDesc → Dev × DDesc
  | 0, d, _, x => (d, x)
  | fuel + 1, d, c, x =>
    if x.op ≠ 0 ∨ x.bad ∨ x.failed ∨ x.len ≤ x.rdNext then (d, x)
    else
      let a := x.src + x.rdNext
      let e := chunkEnd a (d.chMrrs c) (x.src + x.len)
      match d.takeTag c (e - a) false with
      | none => (d, x)
      | some (t, d) =>
        let tlp := d.chTlp c x.tc false (x.w0.testBit 6) (mkReadAt a e t)
        let d := (d.chIssue c (196608 + t) tlp).1
        Dev.chPumpReads fuel d c { x with rdNext := x.rdNext + (e - a), reads := x.reads ++ [⟨t, x.rdNext, e - a, [], false, 0⟩] }

/-- Issue writes of a descriptor for given bytes at the offset it has reached. -/
def Dev.chWrite : Nat → Dev → Nat → DDesc → List Byte → Bool → Dev × DDesc
  | 0, d, _, x, _, _ => (d, x)
  | fuel + 1, d, c, x, data, ep =>
    if data.isEmpty then (d, x)
    else
      let a := x.dst + x.wrNext
      let e := chunkEnd a (d.chMps c) (a + data.length)
      let n := e - a
      let tlp := d.chTlp c x.tc (x.w0.testBit 8) (x.w0.testBit 7) { mkWriteAt a (data.take n) with ep := ep }
      let (d, denied) := d.chIssue c x.idx tlp
      let x := { x with wrNext := x.wrNext + n, wrBytes := if denied then x.wrBytes else x.wrBytes + n
                        code := if denied then lowCode x.code 7 else x.code }
      Dev.chWrite fuel d c x (data.drop n) ep

/-- The fill pattern of R338 from an address on. -/
def fillBytes (pattern a n : Nat) : List Byte :=
  (List.range n).map fun i => BitVec.ofNat 8 (pattern / 256 ^ ((a + i) % 8) % 256)

/-- A COPY whose destination begins inside its source: what it leaves there is unspecified (R338). -/
def DDesc.overlap (x : DDesc) : Bool := x.op == 0 && decide (x.src < x.dst) && decide (x.dst < x.src + x.len)

/-- Take up the returned reads of a descriptor in order: their bytes are written (free values where source and
destination overlap so, log entry 4), a failed one ends its requests. -/
def Dev.chPumpWrites : Nat → Dev → Nat → DDesc → Dev × DDesc
  | 0, d, _, x => (d, x)
  | fuel + 1, d, c, x =>
    match x.reads with
    | [] => (d, x)
    | r :: rest =>
      if r.st = 0 then (d, x)
      else if r.st = 2 ∨ x.failed then
        Dev.chPumpWrites fuel d c { x with reads := rest, code := if r.st = 2 then lowCode x.code 5 else x.code }
      else if x.op = 2 then Dev.chPumpWrites fuel d c { x with reads := rest, code := if r.ep then lowCode x.code 6 else x.code }
      else
        let (data, d) := if x.overlap then d.freshBytes r.len else (r.got, d)
        let (d, x) := Dev.chWrite (r.len + 1) d c x data r.ep
        Dev.chPumpWrites fuel d c { x with reads := rest, code := if r.ep then lowCode x.code 6 else x.code }

/-- Drop the reads of a failed descriptor that have ended, and note failures, though earlier writes are still to go. -/
def DDesc.settleReads (x : DDesc) : DDesc :=
  let x := if x.reads.any fun r => r.st == 2 then { x with code := lowCode x.code 5, reads := x.reads.filter fun r => r.st != 2 } else x
  if x.failed then { x with reads := x.reads.filter fun r => r.st == 0 } else x

/-- Issue what one begun descriptor may issue; `first` where every earlier write of the channel has been issued. -/
def Dev.chPumpDesc (d : Dev) (c : Nat) (x : DDesc) (first : Bool) : Dev × DDesc :=
  let (d, x) := Dev.chPumpReads 64 d c x.settleReads
  if !first then (d, x)
  else
    let (d, x) := Dev.chPumpWrites (x.reads.length + 1) d c x
    if x.bad ∨ x.failed then (d, x)
    else if x.op = 1 ∧ x.wrNext < x.len then
      Dev.chWrite (x.len + 1) d c x (fillBytes x.src (x.dst + x.wrNext) (x.len - x.wrNext)) false
    else if x.op = 2 ∧ x.rdNext = 0 then
      (match d.takeTag c 4 false with
       | none => (d, x)
       | some (t, d) =>
         let tlp := d.chTlp c x.tc false false { mkRead (x.dst / 4 * 4) 0 t 0 1 with fbe := 0, lbe := 0 }
         ((d.chIssue c (196608 + t) tlp).1, { x with rdNext := 1, reads := [⟨t, 0, 4, [], false, 0⟩] }))
    else (d, x)

/-- Issue what the begun descriptors of a channel may issue, in ring order (R339, R340). -/
def Dev.chPump (d : Dev) (c : Nat) : Dev :=
  let step (acc : Dev × List DDesc × Bool) (x : DDesc) : Dev × List DDesc × Bool :=
    let (d, x) := acc.1.chPumpDesc c x acc.2.2
    (d, acc.2.1 ++ [x], acc.2.2 && x.wrDone)
  let (d, l, _) := (d.chan c).live.foldl step (d, [], true)
  d.setChan c { d.chan c with live := l }

/-- Fetch descriptors ahead of CH_HEAD, once nothing fetched is left (R335). -/
def Dev.chFetch (d : Dev) (c : Nat) : Dev :=
  let x := d.chan c
  let st := d.chState c
  if (st ≠ 1 ∧ st ≠ 2) ∨ d.chStopping c ∨ x.fetch.isSome ∨ ¬x.fetched.isEmpty ∨ ¬x.marks.isEmpty ∨ d.chFill c = 0 then d
  else
    let h := d.chHead c
    let a := d.chBase c + 32 * h
    let n := min (min (min 8 (d.chFill c)) (d.chSize c - h)) ((4096 - a % 4096) / 32)
    match d.takeTag c (32 * n) true with
    | none => d
    | some (t, d) =>
      let d := (d.chIssue c (196608 + t) (d.chTlp c 0 false false (mkReadAt a (a + 32 * n) t))).1
      d.setChan c { d.chan c with fetch := some (t, h, n, []) }

/-- Everything a channel may do now. -/
def Dev.chRun (d : Dev) (c : Nat) : Dev := if d.quiesced 128 then d else (d.chPump c).chFetch c

/-- The channels with descriptors or a fetch to go on with. -/
def Dev.chRunAll (d : Dev) : Dev := (d.dma.chan.map (·.1)).foldl (fun d c => d.chRun c) d

/-! ### Stopping, errors and generations (R343–R347) -/

/-- Forget what the channel has fetched and not begun; a fetch in flight is of no more use. -/
def Dev.chDropFetch (d : Dev) (c : Nat) : Dev :=
  let x := d.chan c
  let d := match x.fetch with
    | some (t, _) => (match d.dma.tags.find t with
        | some g => d.setTags (d.dma.tags.insert t { g with orphan := true })
        | none => d)
    | none => d
  d.setChan c { x with fetched := [], fetch := none }

/-- Record an error of a channel: index and code. -/
def Dev.chError (d : Dev) (c idx code : Nat) : Dev :=
  let w := word (idx + 65536 * code)
  (d.wr R.DMA_CH_LAST_ERR c w).raise (0x6c1 + 2 * c)

/-- A stopping channel is STOPPED once its begun descriptors have been reported. -/
def Dev.chStopped (d : Dev) (c : Nat) : Dev :=
  if d.chStopping c ∧ (d.chan c).live.isEmpty then ((d.setChState c 0).wf R.DMA_CH_CTRL c 1 1 0).chDropFetch c else d

/-- A fetch fails (R344). -/
def Dev.chHalt (d : Dev) (c idx : Nat) : Dev := (((d.setChState c 3).chDropFetch c).chError c idx 15).chStopped c

/-- A posted write of the channel failed in the bridge (R342). -/
def Dev.chFarFail (d : Dev) (c : Nat) : Dev := (d.wf R.DMA_CH_STATUS c 4 4 1).raise (0x6c1 + 2 * c)

/-- The channel's part of an advance of its generation (R347): stopped, its begun descriptors marked. -/
def Dev.chMark (d : Dev) (c : Nat) : Dev :=
  let x := d.chan c
  let d := ((d.setChState c 0).wf R.DMA_CH_CTRL c 1 1 0).chDropFetch c
  let x' := d.chan c
  let marks := x.marks ++ x.live.map fun y => { y with code := lowCode y.code 9, reads := [] }
  (d.setChan c { x' with live := [], marks := marks }).bumpBy R.DMA_CH_CNT_ABORT c x.live.length (d.chOwner c)

/-- ARM or DISARM of a channel (R346). -/
def Dev.chArm (d : Dev) (c : Nat) (on : Bool) : Dev := ((d.wf R.DMA_CH_STATUS c 3 3 (b2n on)).chPace c false).chRun c

/-- Write the status of a descriptor back and advance CH_DONE (R341, R343). -/
def Dev.chReport (d : Dev) (c : Nat) (x : DDesc) : Dev :=
  let far := x.op == 2 && d.rb R.DMA_CH_STATUS c 4
  let code := if far then lowCode x.code 8 else x.code
  let d := if far then d.wf R.DMA_CH_STATUS c 4 4 0 else d
  let t := d.chTlp c x.tc false false (mkWriteAt (d.chBase c + 32 * x.idx + 28) (bytesOf 4 (1 + 2 * code)))
  let d := (d.chIssue c ((if x.irq then 131072 else 65536) + x.idx) t).1
  let n := d.chSize c
  let d := d.wf R.DMA_CH_DONE c 15 0 (if x.idx + 1 < n then x.idx + 1 else 0)
  let own := d.chOwner c
  let d := (d.bump R.DMA_CH_CNT_DESC c own).bumpBy R.DMA_CH_CNT_BYTES c (x.wrBytes / 64) own
  if code = 0 then d else (d.bump R.DMA_CH_CNT_BAD c own).chError c x.idx code

/-- A read of P128 fails, at its completion or its timeout (R343, R344). -/
def Dev.chReadFail (d : Dev) (tag : Nat) (g : DTag) : Dev :=
  let x := d.chan g.ch
  match x.fetch.filter fun f => f.1 == tag with
  | some f => d.chHalt g.ch f.2.1
  | none =>
    (d.setChan g.ch { x with live := x.live.map fun y =>
      { y with reads := y.reads.map fun r => if r.tag = tag then { r with st := 2 } else r } }).chRun g.ch

/-- The first flit of an item of a channel leaves, or the item is removed at stage 8: DESC_DONE follows a status write. -/
def Dev.chStatusOut (d : Dev) (i : Item) : Dev :=
  match i.src with
  | .chan c k => if 131072 ≤ k ∧ k < 196608 then d.raise (0x6c0 + 2 * c) else d
  | _ => d

end Sys2Proof.Machine
end

