-- ==== Sys2Proof/Machine/Pads.lean ====
section
/-! DEFINITION. The outputs of the sideband matrix (R462, R463, R484, R485). -/

namespace Sys2Proof.Machine

/-- The input level of a sideband pin. -/
def Dev.sbIn (d : Dev) (j : Nat) : Bool :=
  if j < 32 then d.rb R.SBD_SB_IN0 0 j else d.rb R.SBD_SB_IN1 0 (j - 32)

/-- PRST_FORCE of a port. -/
def Dev.prstForce (d : Dev) (p : Nat) : Bool := d.rb (R.SBD_PRST_FORCE (p / 32)) 0 (p % 32)

/-- The port reset of a port is asserted (R485). -/
def Dev.portReset (d : Dev) (p : Nat) : Bool :=
  d.pwr.perst || (d.pst p).sbr || d.prstForce p || (match d.portSlot p with
    | some k => !(d.slot k).powered || (d.slot k).resetOn
    | none => false)

/-- The level that a pin's route selects (R484). A source that R484 does not define gives a free level. DESIGN CHOICE: log entry 67. -/
def Dev.padLevel (d : Dev) (j : Nat) : Bool :=
  let w := d.rd R.SBD_SB_ROUTE j
  let src := fld w 7 0
  let v := if src < 0x40 then d.sbIn src
    else if src = 0x40 then false
    else if src = 0x41 then true
    else if 0x80 ≤ src then !d.portReset (src - 0x80)
    else d.mgt.padFree.testBit j
  v != bit w 8

/-- A pin's output is driven: OE, outside device reset and without the isolation clamp. -/
def Dev.padDriven (d : Dev) (j : Nat) : Bool := !d.pwr.perst && !d.pwr.clamped && d.rb R.SBD_SB_ROUTE j 9

/-- The outputs follow the matrix, unless they are held (R462). DEDUCED: log entry 68. -/
def Dev.padSync (d : Dev) : Dev :=
  if d.mgt.padsHeld then d
  else
    let drive := ofBits ((List.range 64).filter d.padDriven)
    let pads := ofBits ((List.range 64).filter fun j => d.padDriven j && d.padLevel j)
    if drive = d.mgt.drive ∧ pads = d.mgt.pads then d
    else
      let d := (List.range 64).foldl (fun x j =>
        if drive.testBit j then
          (if d.mgt.drive.testBit j && d.mgt.pads.testBit j == pads.testBit j then x
           else x.emit (.pin (.sideband j) (pads.testBit j)))
        else if d.mgt.drive.testBit j then x.emit (.pin (.sidebandOff j) true) else x) d
      { d with mgt := { d.mgt with drive := drive, pads := pads } }

/-! ### Lifting -/

/-- The state with another device, its sideband outputs and FAULT_N driven as their conditions say; the queue and the page locks
stand. DEDUCED: log entry 68. -/
def State.pinned (s : State) (d : Dev) : State := { s with dev := d.padSync.settle }

/-- The next state whose device the effect gives. -/
def State.act (s : State) (f : Dev → Dev) : Host.Outcome State Fault Refusal := .next (s.pinned (f s.dev))

end Sys2Proof.Machine
end

