-- ==== Sys2Proof/Machine/Cycle.lean ====
section
/-! DEFINITION. The cycle timebase (R67–R86): marks, the period estimate, domain states, schedules and their actions. -/

namespace Sys2Proof.Machine

/-! ### Domain settings -/

def Dev.domCtl (d : Dev) (dom hi lo : Nat) : Nat := d.rf R.CYC_DOM_CTRL dom hi lo
def Dev.domOn (d : Dev) (dom : Nat) : Bool := d.rb R.CYC_DOM_CTRL dom 0 && d.domCtl dom 2 1 != 0
def Dev.nomPeriod (d : Dev) (dom : Nat) : Nat := d.rd64 R.CYC_NOM_PERIOD_LO R.CYC_NOM_PERIOD_HI dom

/-- Entry i of a domain: its words. -/
def Dev.ent (d : Dev) (dom i k : Nat) : Word := d.rd (R.CYC_ENT_W k) (1024 * dom + i)

/-- The entries of the range in force that have not executed in this cycle, ascending. -/
def Dev.entLeft (d : Dev) (dom : Nat) : List Nat :=
  let c := d.cyc1 dom
  ((List.range c.count).map (c.base + ·)).filter fun i => !c.done.contains i

/-! ### Actions (R82) -/

/-- An action for a stable may execute in a domain: bound to it, and joined (R83). -/
def Dev.joined (d : Dev) (dom s : Nat) : Bool := d.domOf s == dom && !d.cyc.unjoined.contains s

/-- An entry is skipped (R76, R83). -/
def Dev.entSkip (d : Dev) (dom : Nat) : Dev := (d.bump R.CYC_CNT_SKIP dom).raise (0x046 + 8 * dom)

/-- The close phase of a gate bit opened by entry i: the next GATE entry of the range that closes it (R360). -/
def Dev.closePhase (d : Dev) (dom i s p tc : Nat) : Option Nat :=
  let c := d.cyc1 dom
  (((List.range c.count).map (c.base + ·)).find? fun j =>
    decide (i < j) && fld (d.ent dom j 0) 19 16 == 1 && fld (d.ent dom j 1) 5 0 == s &&
    (fld (d.ent dom j 1) 15 8 == p || fld (d.ent dom j 1) 15 8 == 255) &&
    !(fld (d.ent dom j 2) 7 0).testBit tc).map fun j => fld (d.ent dom j 0) 15 0

/-- Set a gate mask at one port (R358). -/
def Dev.gateMaskSet (d : Dev) (s p mask : Nat) : Dev :=
  d.wf (R.SCH_GATE (s / 4)) p (8 * (s % 4) + 7) (8 * (s % 4)) mask

/-- Give an open gate a close time, or none (R360). -/
def Dev.setClose (d : Dev) (p s tc : Nat) (x : Option Nat) : Dev :=
  { d with sched := { d.sched with close := match x with
      | some x => d.sched.close.insert (closeKey p s tc) x
      | none => d.sched.close.erase (closeKey p s tc) } }

/-- A gate closes: it has no close time, and a TLP in progress under it finishes after it closed (R361). -/
def Dev.gateShut (d : Dev) (p s tc : Nat) : Dev :=
  let under (i : Item) : Bool := i.flow == s && i.tlp.tc == tc && i.gateClose.isNone &&
    (if i.copies.isEmpty then i.stage == .sending && d.egressOf i == some p else i.copies.any fun c => c.port == p && c.st == .sending)
  let d := d.setClose p s tc none
  { d with path := { d.path with items := d.path.items.map fun i => if under i then { i with gateClose := some d.now } else i } }

/-- A GATE action loads a mask at one port: each bit it opens gets the close time of the schedule, if it has one. -/
def Dev.gateLoad (d : Dev) (s p mask : Nat) (entry : Option (Nat × Nat)) : Dev :=
  let old := d.gateMask p s
  (List.range 8).foldl (fun d tc =>
    if mask.testBit tc then
      d.setClose p s tc (entry.bind fun e => (d.closePhase e.1 e.2 s p tc).map (65536 * e.1 + ·))
    else if old.testBit tc then d.gateShut p s tc else d) (d.gateMaskSet s p mask)

/-- A register write loads a mask at one port: a bit it opens has no close time, one it leaves open keeps its own (R360). -/
def Dev.gateWrite (d : Dev) (s p mask : Nat) : Dev :=
  let old := d.gateMask p s
  (List.range 8).foldl (fun d tc =>
    if mask.testBit tc = old.testBit tc then d
    else if mask.testBit tc then d.setClose p s tc none else d.gateShut p s tc) (d.gateMaskSet s p mask)

/-- GATE: loads a stable's gate mask at the named ports; at a mark its bits have no close time. -/
def Dev.actGate (d : Dev) (dom i : Nat) (atMark : Bool) : Dev :=
  let w := d.ent dom i 1
  let s := fld w 5 0
  let t := fld w 15 8
  if !d.joined dom s then d.entSkip dom
  else (if t = 255 then List.range 131 else if t < 131 then [t] else []).foldl (fun d p =>
    d.gateLoad s p (fld (d.ent dom i 2) 7 0) (if atMark then none else some (dom, i))) d

/-- CAL_WIN: opens a calibration window on a port (R127). -/
def Dev.actCalWin (d : Dev) (dom i : Nat) : Dev :=
  let p := fld (d.ent dom i 1) 7 0
  let dur := fld (d.ent dom i 2) 15 0
  let ok := match d.owner p with
    | some s => d.joined dom s
    | none => true
  if !ok then d.entSkip dom
  else if dur = 0 ∨ (d.block p).isNone then d
  else
    let st := d.pst p
    let e := fld (d.ent dom i 0) 15 0 + dur
    let d := d.setPst p { st with wins := st.wins ++ [(dom, e)], winAt := if st.wins.isEmpty then d.now else st.winAt }
    d.wf R.CAL_CAL_PSTATUS p 3 3 1

/-- TAL_SNAP: snapshots the counters of a unit (R442). -/
def Dev.actSnap (d : Dev) (dom i : Nat) : Dev :=
  let u := d.ent dom i 1
  let tag := fld (d.ent dom i 2) 7 0
  let pos := word (d.phase dom + 65536 * ((d.cyc1 dom).cycle % 65536))
  let (snaps, d) := ((List.range 256).filter fun k => d.rd R.TAL_TS_UNIT (0x100 + k) == u).foldl (fun (r : Tbl TalSnapS × Dev) k =>
    let (v, d) := r.2.tsNow k
    (r.1.insert k ⟨[v], d.now, pos, tag⟩, d)) (d.tally.tsSnap, d)
  let p := fld u 15 0
  let slot := if fld u 28 16 = 0x200 ∧ fld u 31 29 = d.me ∧ p < 128 then
      d.tally.slotSnap.insert p ⟨(List.range 9).map fun c => d.tally.slot.getD (p * 16 + c) 0, d.now, pos, tag⟩
    else d.tally.slotSnap
  { d with tally := { d.tally with tsSnap := snaps, slotSnap := slot } }

/-- SHAPER_PROFILE: selects a stable's profile, from the next refill. -/
def Dev.actProfile (d : Dev) (dom i : Nat) : Dev :=
  let s := fld (d.ent dom i 1) 5 0
  if d.joined dom s then d.wf R.SCH_STB_PROFILE (0x100 + s) 1 0 (fld (d.ent dom i 2) 1 0) else d.entSkip dom

/-- DMA_ARM: arms or disarms a channel (R346, R511). -/
def Dev.actArm (d : Dev) (dom i : Nat) : Dev :=
  let c := fld (d.ent dom i 1) 5 0
  let ok := match d.chOwner c with
    | some s => d.joined dom s
    | none => true
  if ok then d.chArm c (bit (d.ent dom i 2) 0) else d.entSkip dom

/-- Execute an entry once in this cycle. -/
def Dev.entRun (d : Dev) (dom i : Nat) (atMark : Bool) : Dev :=
  let d := d.setCyc dom { d.cyc1 dom with done := (d.cyc1 dom).done ++ [i] }
  match fld (d.ent dom i 0) 19 16 with
  | 1 => d.actGate dom i atMark
  | 2 => d.actCalWin dom i
  | 3 => d.actSnap dom i
  | 4 => d.actProfile dom i
  | 5 => d.actArm dom i
  | _ => d

/-- The device time at which an entry falls due in this cycle. -/
def Dev.entDueAt (d : Dev) (dom i : Nat) : Nat :=
  (d.cyc1 dom).tStart + cdiv (fld (d.ent dom i 0) 15 0 * d.cycP dom) 16777216

/-- Entries execute: the core clock runs, and after sleep the overdue ones have been handled (R78). -/
def Dev.execRuns (d : Dev) : Bool := d.clockRuns && d.rf R.PWR_SLEEP_STATUS 0 2 0 != 3

/-- Enter a due entry (instant, domain, index) behind those due before it, and behind those of lower domains due at the same instant
(R75). -/
def dueInsert (x : Nat × Nat × Nat) : List (Nat × Nat × Nat) → List (Nat × Nat × Nat)
  | [] => [x]
  | y :: l => if y.1 < x.1 ∨ (y.1 = x.1 ∧ y.2.1 ≤ x.2.1) then y :: dueInsert x l else x :: y :: l

/-- The entries that fall due before an instant, or at it in the domains up to one, in the order in which they are taken. -/
def Dev.dueBy (d : Dev) (t dom : Nat) : List (Nat × Nat × Nat) :=
  let l := ((List.range 8).filter fun e => (d.cyc1 e).running).flatMap fun e => (d.entLeft e).map fun i => (d.entDueAt e i, e, i)
  (l.filter fun x => decide (x.1 < t) || (x.1 == t && decide (x.2.1 ≤ dom))).foldl (fun l x => dueInsert x l) []

/-- Execute them (R75). DESIGN CHOICE: log entry 83. -/
def Dev.runDue (d : Dev) (t dom : Nat) : Dev :=
  if d.execRuns then (d.dueBy t dom).foldl (fun d x => (d.advanceTo x.1).entRun x.2.1 x.2.2 false) d else d

/-- Execute every entry of a domain whose phase has been reached, and those of other domains that are taken before it. -/
def Dev.entDue (d : Dev) (dom : Nat) : Dev := d.runDue d.now dom

/-- The end of a cycle before all its entries have executed: must-run entries execute, the others are skipped (R76). -/
def Dev.entFlush (d : Dev) (dom : Nat) : Dev :=
  (d.entLeft dom).foldl (fun d i =>
    if bit (d.ent dom i 0) 20 then d.entRun dom i true
    else (d.setCyc dom { d.cyc1 dom with done := (d.cyc1 dom).done ++ [i] }).entSkip dom) d

/-! ### Cycles (R71, R79, R360) -/

/-- Close the calibration windows that a domain opened (R82). -/
def Dev.winsClose (d : Dev) (dom : Nat) : Dev :=
  (d.ports.port.map (·.1)).foldl (fun d p =>
    let st := d.pst p
    let w := st.wins.filter fun x => x.1 != dom
    if w.length = st.wins.length then d
    else (d.setPst p { st with wins := w }).wf R.CAL_CAL_PSTATUS p 3 3 (b2n !w.isEmpty)) d

/-- Start a cycle at a time. -/
def Dev.cycleStart (d : Dev) (dom t : Nat) : Dev :=
  let d := d.winsClose dom
  let c := d.cyc1 dom
  let d := { d with sched := { d.sched with close := d.sched.close.filter fun e => e.2 / 65536 != dom } }
  let (b, n) := c.pend.getD (c.base, c.count)
  let d := d.setCyc dom { c with
    running := true, started := true, cycle := if c.started then (c.cycle + 1) % 4294967296 else 0, tStart := t
    saturated := false, done := [], base := b, count := n, pend := none }
  { d with cyc := { d.cyc with unjoined := d.cyc.unjoined.filter fun s => d.domOf s != dom } }

/-- The cycle in progress ends at a mark: what has fallen due executes first; entries left make the mark early. In sleep no entry
executes, and the cycle is not replayed (R78). -/
def Dev.cycleEnd (d : Dev) (dom : Nat) (count : Bool) : Dev :=
  if !(d.cyc1 dom).running || !d.execRuns then d
  else
    let d := d.entDue dom
    if (d.entLeft dom).isEmpty then d
    else
      let d := if count then (d.bump R.CYC_CNT_EARLY dom).raise (0x043 + 8 * dom) else d
      d.entFlush dom

/-! ### Marks (R69–R74) -/

/-- A domain enters LOCKED. -/
def Dev.lockIt (d : Dev) (dom : Nat) : Dev :=
  (d.setCyc dom { d.cyc1 dom with state := .locked, loss := false }).raise (0x040 + 8 * dom)

/-- The estimator at an accepted mark whose interval is I ns (R70). -/
def Dev.estimate (d : Dev) (dom i : Nat) : Dev :=
  let c := d.cyc1 dom
  let diff : Int := (256 * i : Nat) - (c.p : Int)
  if diff.natAbs * 65536 ≤ c.p * d.rf R.CYC_TOL dom 15 0 then
    d.setCyc dom { c with p := ((c.p : Int) + diff / (2 ^ d.domCtl dom 19 16 : Nat)).toNat, outl := 0, intol := min (c.intol + 1) 15 }
  else
    let lim := d.domCtl dom 27 24
    let o := c.outl + 1
    if lim ≠ 0 ∧ lim ≤ o then
      (d.setCyc dom { c with p := 256 * i, outl := 0, intol := 0, state := .acquire }).raise (0x045 + 8 * dom)
    else d.setCyc dom { c with outl := o, intol := 0 }

/-- A mark of time t is accepted (R70–R74, R76, R77). DESIGN CHOICE: log entry 86. -/
def Dev.markAccept (d : Dev) (dom t : Nat) : Dev :=
  let c := d.cyc1 dom
  let lost := decide (c.state = .holdover) || decide (c.state = .freerun)
  let d := if c.saturated ∧ ¬lost then (d.bump R.CYC_CNT_LATE dom).raise (0x044 + 8 * dom) else d
  let d := d.cycleEnd dom true
  let d := match c.lastReal with
    | some t0 => if c.valid ∧ ¬lost then d.estimate dom (t - t0) else d
    | none => d
  let d := if lost then d.setCyc dom { d.cyc1 dom with state := .acquire, intol := 0, outl := 0 } else d
  let d := (d.setCyc dom { d.cyc1 dom with lastReal := some t, valid := true, synth := 0 }).wr64 R.CYC_LAST_MARK_LO R.CYC_LAST_MARK_HI dom t
  let d := if (d.cyc1 dom).state = .acquire ∧ d.domCtl dom 23 20 ≤ (d.cyc1 dom).intol then d.lockIt dom else d
  (d.cycleStart dom t).entDue dom

/-- A mark is discarded and reported (R68, R69). -/
def Dev.markDiscard (d : Dev) (dom : Nat) : Dev := (d.bump R.CYC_CNT_DISCARD dom).raise (0x047 + 8 * dom)

/-- A mark reaches a domain at device time `at_`. -/
def Dev.mark (d : Dev) (dom at_ : Nat) : Dev :=
  let d := (d.runDue at_ dom).advanceTo at_
  if !d.domOn dom then d
  else
    let t := at_ - d.rf R.CYC_MARK_DELAY dom 15 0
    match (d.cyc1 dom).lastReal with
    | some t0 => if t < t0 + 1000 then d.markDiscard dom else d.markAccept dom t
    | none => d.markAccept dom t

/-- A synthetic mark at time t (R73). -/
def Dev.synthetic (d : Dev) (dom t : Nat) : Dev :=
  let c := d.cyc1 dom
  let d := d.cycleEnd dom false
  let d := if c.state = .holdover ∧ d.rf R.CYC_HOLD_CYCLES dom 15 0 ≤ c.synth then
      (d.setCyc dom { d.cyc1 dom with state := .freerun }).raise (0x042 + 8 * dom)
    else d.setCyc dom { d.cyc1 dom with synth := c.synth + 1 }
  (d.cycleStart dom t).entDue dom

/-! ### Enable, restart and disable (R72, R510) -/

/-- A domain starts as at enable: ACQUIRE, P from NOM_PERIOD, no cycle. A pending range waits for the next cycle start (R79). DESIGN CHOICE: log
entry 84. -/
def Dev.cycEnable (d : Dev) (dom : Nat) : Dev :=
  let c := d.cyc1 dom
  d.setCyc dom { c with
    state := .acquire, loss := false, running := false, intol := 0, outl := 0, p := 256 * d.nomPeriod dom, started := false
    cycle := 0, lastReal := none, valid := false, saturated := false, synth := 0, done := [] }

/-- A domain enters OFF. DESIGN CHOICE: log entry 84. -/
def Dev.cycDisable (d : Dev) (dom : Nat) : Dev :=
  (d.winsClose dom).setCyc dom { (d.winsClose dom).cyc1 dom with
    state := .off, loss := false, running := false, intol := 0, outl := 0, started := false, cycle := 0, lastReal := none
    valid := false, saturated := false, synth := 0, done := [] }

/-- After an adopted CYC commit: `old` is the device before it (R70, R79, R83, R510). A stable that the commit binds anew joins its
domain at that domain's next cycle start. A new source of a domain that stays enabled ends its cycle as an early mark does, also where the
source is NONE. -/
def Dev.cycAdopt (d old : Dev) : Dev :=
  let moved := (List.range 64).filter fun s => d.domOf s != old.domOf s
  let d := { d with cyc := { d.cyc with unjoined := (d.cyc.unjoined ++ moved).eraseDups } }
  (List.range 8).foldl (fun d dom =>
    let src (x : Dev) := (x.domCtl dom 2 1, x.domCtl dom 5 3, x.domCtl dom 6 6, x.domCtl dom 15 8)
    let newSrc := decide (src d ≠ src old)
    let d := d.wr R.CYC_SCHED_ERR dom 0
    let d := if newSrc && old.domOn dom && d.rb R.CYC_DOM_CTRL dom 0 then d.cycleEnd dom true else d
    let d := if !d.domOn dom then (if old.domOn dom then d.cycDisable dom else d)
      else if !old.domOn dom || newSrc then d.cycEnable dom else d
    let d := if newSrc then d.setCyc dom { d.cyc1 dom with p := 256 * d.nomPeriod dom } else d
    let rng (x : Dev) := (x.rf R.CYC_SCHED_BASE dom 9 0, x.rf R.CYC_SCHED_COUNT dom 10 0)
    if rng d = rng old then d
    else d.setCyc dom { d.cyc1 dom with pend := some (rng d) }) d

/-- On exit from SL1 the entries whose phase has passed are handled as at an early mark (R78); on exit from SL2 every
enabled domain restarts. -/
def Dev.cycWake (d : Dev) (sl2 : Bool) : Dev :=
  (List.range 8).foldl (fun d dom =>
    if !d.domOn dom then d
    else if sl2 then d.cycEnable dom
    else
      let passed := (d.entLeft dom).filter fun i => d.entDueAt dom i ≤ d.now
      if !(d.cyc1 dom).running ∨ passed.isEmpty then d
      else passed.foldl (fun d i =>
        if bit (d.ent dom i 0) 20 then d.entRun dom i true
        else (d.setCyc dom { d.cyc1 dom with done := (d.cyc1 dom).done ++ [i] }).entSkip dom)
          ((d.bump R.CYC_CNT_EARLY dom).raise (0x043 + 8 * dom))) d

/-! ### The commands of marks -/

/-- A Vendor_Defined Type 1 message that a port engine accepts at an instant (R68): a cycle mark, or a message that is discarded and
counted in the domain that byte 13 names. One whose byte 12 is not 0xC1 is discarded silently. -/
def Dev.cycleVdm (d : Dev) (port : Nat) (t : Tlp) (time : Nat) : Dev :=
  let d := d.advanceTo time
  let b13 := t.vdw / 256 % 256
  let dom := b13 % 8
  let form := t.rtype == 4 && t.vid == vendorId && t.data.isEmpty && decide (b13 < 8) && t.vdw / 65536 == 0
  if t.vdw % 256 ≠ 0xc1 then d
  else if form && d.isUp port && d.domCtl dom 2 1 == 2 && d.domCtl dom 15 8 == port && d.domOn dom then d.mark dom time
  else d.markDiscard dom

/-- The PTM relationship of an upstream port is valid (R69): its link is up, its function's PTM Enable is set, and a dialogue with the
responder has given the master time. PRESUMED: log entry 69. -/
def Dev.ptmValid (d : Dev) (p : Nat) : Bool :=
  d.dlUp p && (d.pst p).ptm && (match d.owner p with
    | some s => bit (d.cfg s 0 114) 0
    | none => false)

/-- PTM_MARK (R67): at device time `t` the PTM master time of the named port is `master`; it marks the domain where it is PTM_BASE plus a
whole multiple of NOM_PERIOD. -/
def execPtmMark (dom master t : Nat) (s : State) : Host.Outcome State Fault Refusal := s.act fun d =>
  let dom := dom % 8
  let base := d.rd64 R.CYC_PTM_BASE_LO R.CYC_PTM_BASE_HI dom
  if d.domCtl dom 2 1 = 3 ∧ d.ptmValid (d.domCtl dom 15 8) ∧ ((master : Int) - (base : Int)) % (d.nomPeriod dom : Int) = 0 then
    d.mark dom t
  else d

/-- R73: no accepted mark for 1.5 × P; the domain enters HOLDOVER. -/
def execMarkLossTimeout (dom : Nat) (s : State) : Host.Outcome State Fault Refusal := s.act fun d =>
  let dom := dom % 8
  let c := d.cyc1 dom
  match c.state, c.lastReal with
  | .acquire, some t0 | .locked, some t0 =>
    let t := t0 + cdiv (3 * c.p) 512
    let d := d.advanceTo t
    let d := (d.setCyc dom { d.cyc1 dom with state := .holdover, loss := true, synth := 0 }).raise (0x041 + 8 * dom)
    d.synthetic dom t
  | _, _ => d

/-- R73: the next synthetic mark of HOLDOVER or FREERUN. -/
def execSyntheticMark (dom : Nat) (s : State) : Host.Outcome State Fault Refusal := s.act fun d =>
  let dom := dom % 8
  let c := d.cyc1 dom
  match c.state with
  | .holdover | .freerun =>
    let t := c.tStart + cdiv (d.cycP dom) 256
    (d.advanceTo t).synthetic dom t
  | _ => d

/-- R77: a whole period passes without a mark. -/
def execCycleSaturate (dom : Nat) (s : State) : Host.Outcome State Fault Refusal := s.act fun d =>
  let dom := dom % 8
  let c := d.cyc1 dom
  if c.running ∧ (c.state = .acquire ∨ c.state = .locked) then
    let d := (d.advanceTo (c.tStart + cdiv c.p 256)).entDue dom
    d.setCyc dom { d.cyc1 dom with saturated := true }
  else d

/-! ### The commands of entries -/

/-- An entry of a domain with a given action falls due and executes, after those due before it (R75). -/
def Dev.entFalls (d : Dev) (dom idx action : Nat) : Dev :=
  let dom := dom % 8
  if (d.cyc1 dom).running ∧ d.execRuns ∧ (d.entLeft dom).contains idx ∧ fld (d.ent dom idx 0) 19 16 = action then
    d.runDue (max d.now (d.entDueAt dom idx)) dom
  else d

/-- R82: a NOP entry. -/
def execNop (dom idx : Nat) (s : State) : Host.Outcome State Fault Refusal := s.act fun d => d.entFalls dom idx 0
/-- R82: a GATE entry. -/
def execGate (dom idx : Nat) (s : State) : Host.Outcome State Fault Refusal := s.act fun d => d.entFalls dom idx 1
/-- R82: a CAL_WIN entry. -/
def execCalWin (dom idx : Nat) (s : State) : Host.Outcome State Fault Refusal := s.act fun d => d.entFalls dom idx 2
/-- R442: a TAL_SNAP entry. -/
def execTalSnap (dom idx : Nat) (s : State) : Host.Outcome State Fault Refusal := s.act fun d => d.entFalls dom idx 3
/-- R82: a SHAPER_PROFILE entry. -/
def execShaperProfile (dom idx : Nat) (s : State) : Host.Outcome State Fault Refusal := s.act fun d => d.entFalls dom idx 4
/-- R82: a DMA_ARM entry. -/
def execDmaArm (dom idx : Nat) (s : State) : Host.Outcome State Fault Refusal := s.act fun d => d.entFalls dom idx 5

/-- R81, R79: a write of ENT_W3 writes the entry at the cursor, unless it lies in a range in force or pending. -/
def Dev.wEntW3 (d : Dev) (a : Acc) (dom : Nat) : Dev :=
  let acc := winAcc (accIdx a) dom
  let i := d.arn acc R.CYC_ENT_IDX % 1024
  let c := d.cyc1 dom
  let inside (b n : Nat) : Bool := decide (b ≤ i) && decide (i < b + n)
  let pendIn : Bool := match c.pend with
    | some (b, n) => inside b n
    | none => false
  if inside c.base c.count || pendIn then d.wr R.CYC_ENT_STATUS dom 1
  else
    let k := 1024 * dom + i
    let d := (((d.wr (R.CYC_ENT_W 0) k (d.ard acc (R.CYC_ENT_W 0))).wr (R.CYC_ENT_W 1) k (d.ard acc (R.CYC_ENT_W 1))).wr
      (R.CYC_ENT_W 2) k (d.ard acc (R.CYC_ENT_W 2))).wr (R.CYC_ENT_W 3) k 0
    d.awn acc R.CYC_ENT_IDX ((i + 1) % 1024)

def execEntryWrite (a : Acc) (_data : Word) (s : State) : Host.Outcome State Fault Refusal := s.act fun d =>
  d.guardW a (R.CYC_ENT_W 3) fun dom d => d.wEntW3 a dom

/-- R81: a read of ENT_W0 loads the entry at the cursor. -/
def Dev.rEntW0 (d : Dev) (a : Acc) (dom : Nat) : Word × Dev :=
  let acc := winAcc (accIdx a) dom
  let k := 1024 * dom + d.arn acc R.CYC_ENT_IDX % 1024
  let d := (List.range 4).foldl (fun d j => d.awr acc (R.CYC_ENT_W j) (d.rd (R.CYC_ENT_W j) k)) d
  (d.ard acc (R.CYC_ENT_W 0), d)

def execEntryRead (a : Acc) (s : State) : Host.Outcome State Fault Refusal := s.act fun d =>
  d.guardR a (R.CYC_ENT_W 0) fun dom d => d.rEntW0 a dom

/-- R85: a read of POS_PHASE latches the cycle number and the device time for the accessor. -/
def Dev.rPosPhase (d : Dev) (a : Acc) (dom : Nat) : Word × Dev :=
  let acc := winAcc (accIdx a) dom
  let d' := ((d.awn acc R.CYC_POS_CYCLE (d.cyc1 dom).cycle).awn acc R.CYC_POS_TIME_LO d.now).awn acc R.CYC_POS_TIME_HI (d.now / 4294967296)
  (word (d.phase dom), d')

def execPosPhaseRead (a : Acc) (s : State) : Host.Outcome State Fault Refusal := s.act fun d =>
  d.guardR a R.CYC_POS_PHASE fun dom d => d.rPosPhase a dom

/-- R82: the window of a port reaches its end and closes; a widening that the partner asked for is then made (R101). -/
def execCalWinEnd (port : Nat) (s : State) : Host.Outcome State Fault Refusal := s.act fun d =>
  match d.winEnd port with
  | none => d
  | some e =>
    let d := d.advanceTo e
    let st := d.pst port
    let d := (d.setPst port { st with wins := [] }).wf R.CAL_CAL_PSTATUS port 3 3 0
    match st.l0pReq with
    | some w => if st.proc.isNone then d.l0pWiden port w else d
    | none => d

end Sys2Proof.Machine
end

