-- ==== Sys2Proof/Machine/Levels.lean ====
section
/-! DEFINITION. Performance levels, voltage ramps and the abort of sleep entry (R449–R452, R456, R457, R493). -/

namespace Sys2Proof.Machine

/-- The level in force. -/
def Dev.plCur (d : Dev) : Nat := d.rf R.PWR_PL_STATUS 0 1 0

/-- The target of a level, in mV (R449). -/
def Dev.effVpl (d : Dev) (lv : Nat) : Nat := d.rf (R.PWR_EFF_VPL lv) 0 15 0

/-- A ramp of the core voltage is in progress (R452). -/
def Dev.ramping (d : Dev) : Bool := d.rb R.PWR_AVS_TARGET 0 16

/-- The AVSBus write of the target in force (R493). -/
def Dev.avsWrite (d : Dev) : Dev :=
  { d with pwr := { d.pwr with avsAt := d.now } }.emit (.bus 3 0 [d.rf R.PWR_AVS_TARGET 0 15 0])

/-- A ramp to a new target starts: it lasts SETTLE µs, and until the regulator has acknowledged the write. -/
def Dev.rampTo (d : Dev) (mv : Nat) : Dev :=
  let d := d.wn R.PWR_AVS_TARGET 0 (mv % 65536 + 65536)
  { d with pwr := { d.pwr with avsAck := false, settleAt := d.now + 1000 * d.rf R.PWR_PL_CFG 0 15 0 } }.avsWrite

/-- A change of USER_VPLn for the level in force is applied as a ramp (R449). -/
def Dev.userRamp (d : Dev) : Dev :=
  if d.effVpl d.plCur = d.rf R.PWR_AVS_TARGET 0 15 0 then d
  else { d.rampTo (d.effVpl d.plCur) with pwr := { (d.rampTo (d.effVpl d.plCur)).pwr with userRamp := true } }

/-- A level change starts (R451): towards a faster level the voltage rises first, towards a slower one the clock switches
first. DEDUCED: log entry 62. -/
def Dev.plStart (d : Dev) (lv : Nat) : Dev :=
  let up := decide (lv < d.plCur)
  let d := (d.wf R.PWR_PL_STATUS 0 2 2 1).wf R.PWR_PL_STATUS 0 4 3 lv
  let d := d.rampTo (d.effVpl lv)
  { d with pwr := { d.pwr with step := if up then .rampUp else .rampDown, target := lv, userRamp := false } }

/-- The change asked for by PL_REQ (R451, R452): held during a change and during sleep entry and sleep; with SYNC_EN it
waits for the next cycle start of SYNC_DOM. A request for the level in force ends one that still waits. DEDUCED: log entry 62. -/
def Dev.plReq (d : Dev) (lv : Nat) : Dev :=
  if d.pwr.entry ≠ 0 ∨ d.pwr.step = .rampUp ∨ d.pwr.step = .rampDown then
    { d with pwr := { d.pwr with heldReq := some lv } }
  else if lv = d.plCur then { d with pwr := { d.pwr with step := .none } }
  else if d.rb R.PWR_PL_CTRL 0 2 then
    let dom := d.rf R.PWR_PL_CTRL 0 5 3
    let c := d.cyc1 dom
    { d with pwr := { d.pwr with
        step := .sync, target := lv, syncCyc := if c.running then some c.cycle else none, syncAt := d.now } }
  else d.plStart lv

/-- A held request is taken up. -/
def Dev.plHeld (d : Dev) : Dev := match d.pwr.heldReq with
  | some lv => if d.pwr.entry = 0 then { d with pwr := { d.pwr with heldReq := none } }.plReq lv else d
  | none => d

/-- SYNC_DOM has started a cycle since the request. -/
def Dev.syncReached (d : Dev) : Bool :=
  let c := d.cyc1 (d.rf R.PWR_PL_CTRL 0 5 3)
  c.running && (some c.cycle != d.pwr.syncCyc || decide (d.pwr.syncAt < c.tStart))

/-- The ramp has ended (R451 step 4): RAMPING clears; a level change completes, and what waited for that follows. -/
def Dev.rampDone (d : Dev) : Dev :=
  let d := d.wf R.PWR_AVS_TARGET 0 16 16 0
  let d := { d with pwr := { d.pwr with userRamp := false } }
  if d.pwr.step = .rampUp ∨ d.pwr.step = .rampDown then
    let n := d.rf R.PWR_PL_STATUS 0 31 16
    let d := ((d.wf R.PWR_PL_STATUS 0 1 0 d.pwr.target).wf R.PWR_PL_STATUS 0 2 2 0).wf R.PWR_PL_STATUS 0 31 16 (n + 1)
    let d := { d with pwr := { d.pwr with step := .none } }.raise 0x020
    let d := d.plHeld
    if d.ramping then d else d.userRamp
  else d.userRamp

/-- A device that is no longer entering sleep is ACTIVE; the abort is recorded (R456, R457). -/
def Dev.sleepAbort (d : Dev) (reason : Nat) : Dev :=
  let d := ((d.wf R.PWR_SLEEP_STATUS 0 2 0 0).wf R.PWR_SLEEP_STATUS 0 11 8 reason).raise 0x024
  { d with pwr := { d.pwr with entry := 0 } }.plHeld

/-- The device is in state ENTERING (R455). -/
def Dev.entering (d : Dev) : Bool := d.rf R.PWR_SLEEP_STATUS 0 2 0 == 1

/-- A fault reaction of PORT scope or wider aborts the entry (R457). -/
def Dev.sleepFault (d : Dev) (scope : Nat) : Dev := if d.entering ∧ 2 ≤ scope then d.sleepAbort 4 else d

/-! ### Regulator enables and isolation clamps (R463, R494, R502) -/

/-- The regulator enables take their levels: VR_EN_CORE and VR_EN_SDS. -/
def Dev.enables (d : Dev) (core sds : Bool) : Dev :=
  let d := if core = d.pwr.enCore then d else d.emit (.pin (.regEnable 0) core)
  let d := if sds = d.pwr.enSds then d else d.emit (.pin (.regEnable 1) sds)
  { d with pwr := { d.pwr with enCore := core, enSds := sds } }

/-- The always-on island applies the isolation clamps. DEDUCED: log entry 63. -/
def Dev.clampOn (d : Dev) : Dev := { d with pwr := { d.pwr with clamped := true } }.enables false false

end Sys2Proof.Machine
end

