-- ==== Sys2Proof/Machine/Pool.lean ====
section
/-! DEFINITION. CXL memory and the bridge as other blocks act on them (R292–R332): outstanding CXL.mem requests, internal
decoders and their failure, held writes, request entries, semaphores, the posted-error log, and what an advance of a
generation domain does outside the shed. -/

namespace Sys2Proof.Machine

/-! ### CXP -/

def Dev.setCxp (d : Dev) (c : Cxp) : Dev := { d with cxp := c }
def Dev.setBrg (d : Dev) (b : Brg) : Dev := { d with brg := b }

/-- Raise event e of CXP with CXP_LAST (R311). -/
def Dev.cxpEvent (d : Dev) (e port ld idec : Nat) (named : List Nat) : Dev :=
  let w := word (port % 256 + 256 * (ld % 16) + 4096 * (idec % 16) + 65536 * e)
  (d.wr R.CXP_CXP_LAST 0 w).raiseFor (0x600 + e) named

/-- The stables bound to a port: owners, sharers and those of its bound LDs. -/
def Dev.boundStables (d : Dev) (p : Nat) : List Nat :=
  (d.portStables p ++ (List.range 16).filterMap (d.ldStable p)).eraseDups

/-- LD of an IDEC's target. -/
def Dev.idecLd (d : Dev) (k : Nat) : Option Nat :=
  if d.rb R.CXP_IDEC_CFG (0x200 + k) 12 then some (d.rf R.CXP_IDEC_CFG (0x200 + k) 11 8) else none
def Dev.idecPriv (d : Dev) (k : Nat) : Bool := d.rb R.CXP_IDEC_CFG (0x200 + k) 13
/-- The enabled IDECs. -/
def Dev.idecs (d : Dev) : List Nat := (List.range 16).filter fun k => d.idecSize k != 0

/-- The enabled IDEC that holds an internal address for the bridge. -/
def Dev.idecAt (d : Dev) (a : Nat) : Option Nat :=
  d.idecs.find? fun k => !d.idecPriv k && decide (d.idecBase k ≤ a) && decide (a < d.idecBase k + d.idecSize k)

/-- The IDEC of a window. -/
def Dev.winIdec (d : Dev) (w : Nat) : Option Nat := d.idecAt (d.winBase w)
/-- TARGET_UP of a window. -/
def Dev.winUp (d : Dev) (w : Nat) : Bool := match d.winIdec w with
  | some k => d.idecState k == 2
  | none => false

/-- Send a response to a host's CXL.mem request. -/
def Dev.sendS2m (d : Dev) (e : M2S) (data : List Byte) (poison : Bool) : Dev :=
  let t : Tlp := { Tlp.blank with kind := .s2m, tag := e.tag, addr := e.addr, ep := poison, data := data }
  let ev (x : Dev) : Eval := mkEval e.stable (.port x.me e.ingress) e.addr
  d.addItem (mkItem t e.port .ext (ev d) (ev d.chkView))

/-- The answer of R299 and R305 in place of the device's: all ones with poison, or NDR. -/
def Dev.answerLost (d : Dev) (e : M2S) : Dev :=
  if e.write then d.sendS2m e [] false else d.sendS2m e (List.replicate 64 255) true

def Dev.m2sOf (d : Dev) (id : Nat) : Option M2S := d.cxp.m2s.find? fun e => e.id == id
def Dev.rmM2s (d : Dev) (id : Nat) : Dev := d.setCxp { d.cxp with m2s := d.cxp.m2s.filter fun e => e.id != id }

/-- A request of the bridge itself. -/
def M2SWhy.own : M2SWhy → Bool
  | .host | .bi => false
  | .line _ | .read _ _ | .atomWr _ => true

/-- The lowest free M2S tag of the bridge. -/
def Dev.m2sTag (d : Dev) : Option Nat :=
  (List.range 1024).find? fun t => !(d.cxp.m2s.any fun e => e.why.own && e.tag == t) && !(d.saf.tagsHeld.any fun e => e.1 == 4096 + t)
def Dev.m2sFree (d : Dev) : Nat :=
  1024 - (d.cxp.m2s.filter fun e => e.why.own).length - (d.saf.tagsHeld.filter fun e => decide (4096 ≤ e.1) && decide (e.1 < 8192)).length

/-- Issue a CXL.mem request of the bridge for a line of window w to its decoder's target (R11, R316): it belongs to no stable, both
evaluations decode its address alone, and it is scheduled as traffic of the window's owner. The byte mask of a write
stands in the field that a configuration request has for its register. -/
def Dev.brgIssue (d : Dev) (w line : Nat) (write : Bool) (why : M2SWhy) (data : List Byte) (poison : Bool)
    (mask : Nat := 2 ^ 64 - 1) : Dev :=
  match d.idecAt (64 * line), d.m2sTag with
  | some k, some tag =>
    let id := d.cxp.nextId
    let e : M2S := ⟨id, tag, d.idecPort k, d.idecLd k, write, why, some (d.rf R.BRG_WIN_CFG w 5 0), 129, 64 * line, d.now, d.ctoNs⟩
    let d := d.setCxp { d.cxp with m2s := d.cxp.m2s ++ [e], nextId := id + 1 }
    let t : Tlp := { Tlp.blank with
      kind := if write then .m2sWr else .m2sRd, addr := 64 * line, len := 16, tag := tag, ep := poison, ld := d.idecLd k,
      reg := if write then mask else 0, data := data }
    let ev (x : Dev) : Eval := mkEval none (match x.idecAt (64 * line) with
      | some k => .port d.me (x.idecPort k)
      | none => .err 1) (64 * line)
    d.addItem { mkItem t 129 (.m2s id) (ev d) (ev d.chkView) with sched := e.stable }
  | _, _ => d

/-! ### Posted writes that fail (R327–R329) -/

/-- Taint a window, and fence it as its TAINT_ACTION says. -/
def Dev.brgTaint (d : Dev) (w : Nat) : Dev :=
  let d := d.wf R.BRG_WIN_STATUS w 0 0 1
  let ta := d.rf R.BRG_WIN_CFG w 8 7
  if ta = 2 ∨ (ta = 0 ∧ d.rb R.BRG_WIN_CFG w 6) then d.wf R.BRG_WIN_STATUS w 1 1 1 else d

/-- Log, count and report a failed posted write (R328): its first failed byte and the bytes that failed so far. -/
def Dev.writeFail (d : Dev) (w : BWrite) (cause addr bytes : Nat) : Dev :=
  if d.brg.failedW.contains w.id then
    let upd (e : PelEnt) : PelEnt := { e with addr := min e.addr addr, bytes := e.bytes + bytes }
    d.setBrg { d.brg with pel := { d.brg.pel with entries := d.brg.pel.entries.map fun e => if e.wid = w.id then upd e else e } }
  else
    let ent : PelEnt :=
      ⟨w.id, w.win, w.owner, cause, w.strict, w.item.tlp.rid, bytes, addr, w.item.tlp.pasid, d.now, d.posWord w.owner⟩
    let d := d.setBrg { d.brg with pel := d.brg.pel.add 64 ent, failedW := d.brg.failedW ++ [w.id] }
    let d := (d.bump R.BRG_WIN_CNT_FAIL w.win (some w.owner)).bump R.BRG_PEL_CNT
    let last := word (w.win + 256 * w.owner + 16384 * cause)
    let d := (d.wr R.BRG_BRG_LAST 0 last).raise (0x680 + w.owner)
    let d := d.brgTaint w.win
    match w.chan with
    | some c => d.chFarFail c
    | none => d

/-- The requester's address of a byte of a write by its internal address. -/
def BWrite.reqAddr (w : BWrite) (a : Nat) : Nat := tlo w.item.tlp + (a - w.base)

def Dev.bwrite (d : Dev) (id : Nat) : Option BWrite := d.brg.writes.find? fun w => w.id == id

/-- Take parts off a line; a write without lines left is gone. -/
def Dev.partsGone (d : Dev) (ids : List Nat) : Dev :=
  let b := d.brg
  let ws := (b.writes.map fun w => { w with lines := w.lines - (ids.filter (· == w.id)).length }).filter fun w => w.lines != 0
  d.setBrg { b with writes := ws, failedW := b.failedW.filter fun i => ws.any fun w => w.id == i }

/-- A line leaves the buffer. -/
def Dev.lineGone (d : Dev) (l : BLine) : Dev :=
  (d.setBrg { d.brg with lines := d.brg.lines.filter fun x => x.id != l.id }).partsGone (l.parts.map (·.wid))

/-- One part of a line fails. -/
def Dev.partFail (d : Dev) (l : BLine) (p : BPart) (cause : Nat) : Dev :=
  match d.bwrite p.wid with
  | some w => d.writeFail w cause (w.reqAddr (64 * l.addr + p.lo)) (p.hi - p.lo)
  | none => d

/-- A line fails: every write with a part in it, once each; it is never retried. -/
def Dev.lineFail (d : Dev) (l : BLine) (cause : Nat) : Dev :=
  (if l.bad then d else l.parts.foldl (fun d p => d.partFail l p cause) d).lineGone l

/-! ### Semaphores (R321–R324) -/

def granSize (code : Nat) : Nat := if code = 0 then 64 else if code = 1 then 256 else if code = 2 then 1024 else 4096

/-- The granule of an address through a window. -/
def Dev.granule (d : Dev) (w a : Nat) : Nat × Nat :=
  let n := granSize (d.rf R.BRG_WIN_CFG w 12 11)
  (a / n * n, n)

def overlaps (a n b m : Nat) : Bool := decide (a < b + m) && decide (b < a + n)

/-- The stable whose active locked sequence a request belongs to. -/
def Dev.seqOf (d : Dev) (i : Item) : Option Nat :=
  match i.prim.stable with
  | some s => (match d.brg.seqs.find s with
      | some q => if q.port = i.ingress ∧ !q.expired then some s else none
      | none => none)
  | none => none

/-- A semaphore is the request's own. -/
def BSem.mine (x : BSem) (entry : Option Nat) (seq : Option Nat) : Bool :=
  match x.entry with
  | some e => entry == some e
  | none => seq == some x.stable

/-- A held semaphore of another holder that overlaps a range. -/
def Dev.semBlocks (d : Dev) (a n : Nat) (entry seq : Option Nat) : Bool :=
  d.brg.sems.any fun e => overlaps a n e.2.lo e.2.size && !e.2.mine entry seq

/-- Allocate the lowest free semaphore to a granule. -/
def Dev.semTake (d : Dev) (w a id s : Nat) (atomic : Bool) : Option (Nat × Dev) :=
  ((List.range 64).find? fun k => (d.brg.sems.find k).isNone).map fun k =>
    let (lo, n) := d.granule w a
    let d := d.setBrg { d.brg with sems := d.brg.sems.insert k ⟨if atomic then some id else none, s, lo, n, id⟩ }
    let i := 0x100 + k
    (k, (((d.wr R.BRG_LK_STATE i (word (1 + 2 * b2n (!atomic) + 4 * s + 256 * w))).wn R.BRG_LK_ADDR_LO i lo).wn R.BRG_LK_ADDR_HI i
      (lo / 4294967296)).bump R.BRG_LK_CNT i)

/-- Free a semaphore. -/
def Dev.semFree (d : Dev) (k : Nat) : Dev :=
  (d.setBrg { d.brg with sems := d.brg.sems.erase k }).wf R.BRG_LK_STATE (0x100 + k) 0 0 0

/-- Release every semaphore of a stable's locked sequence. -/
def Dev.seqFree (d : Dev) (s : Nat) : Dev :=
  d.brg.sems.foldl (fun d e => if e.2.entry.isNone ∧ e.2.stable = s then d.semFree e.1 else d) d

/-! ### Request entries -/

def Dev.setReq (d : Dev) (id : Nat) (f : BReq → BReq) : Dev :=
  d.setBrg { d.brg with reqs := d.brg.reqs.map fun r => if r.id = id then f r else r }

/-- The stable to which a request is attributed: its own, or, after a crossing, that of the window (R313). -/
def BReq.stable (r : BReq) : Option Nat := r.item.prim.tagStb <|> r.item.stb

/-- Free an entry with its semaphore. -/
def Dev.reqGone (d : Dev) (r : BReq) : Dev :=
  let d := d.setBrg { d.brg with reqs := d.brg.reqs.filter fun x => x.id != r.id }
  match r.sem with
  | some k => d.semFree k
  | none => d

/-- Complete an entry with a status and no data. -/
def Dev.reqStatus (d : Dev) (r : BReq) (status : Nat) : Dev :=
  let (d, ok) := (d.reqGone r).ledgerAnswer r.item 129
  if r.purged ∨ !ok then d else d.completeStatus r.item.tlp r.item.stb r.item.ingress 129 (.window r.win) status

/-- Complete an entry with data, with EP where it is poisoned. -/
def Dev.reqData (d : Dev) (r : BReq) (a : Nat) (data : List Byte) (poison : Bool) : Dev :=
  let (d, ok) := (d.reqGone r).ledgerAnswer r.item 129
  if r.purged ∨ !ok then d
  else
    let n := data.length
    (splitCpl 64 (d.mps r.item.stb r.item.ingress) a n).foldl (fun d (x, k) =>
      let off := x - a
      d.sendCpl r.item.stb r.item.ingress 129 (.window r.win)
        { cplFor r.item.tlp 0 x (n - off) ((data.drop off).take k) (off + k == n) with ep := poison }) d

/-- Completer Abort of an entry; a read's error is counted. -/
def Dev.reqAbort (d : Dev) (r : BReq) : Dev :=
  (if r.kind = .atomic then d else d.bump R.BRG_WIN_CNT_RDERR r.win r.stable).reqStatus r 4

/-- The lines that an entry reads. -/
def BReq.lines (r : BReq) : List Nat := (List.range (lineCount r.addr r.len)).map (r.addr / 64 + ·)

/-- The bytes of an entry's range, from the lines it has read. -/
def BReq.data (r : BReq) : List Byte :=
  let all := r.lines.flatMap fun l => match r.got.find? fun g => g.1 == l with
    | some g => g.2.1
    | none => List.replicate 64 0
  (all.drop (r.addr % 64)).take r.len

/-- Older held writes for which an entry waits (R318). -/
def Dev.waitsFor (d : Dev) (r : BReq) : Bool :=
  let strict := d.rb R.BRG_WIN_CFG r.win 6
  d.brg.lines.any fun l => l.parts.any fun p => decide (p.wid < r.id) &&
    (if r.kind = .flush then l.win == r.win
     else (overlaps r.addr r.len (64 * l.addr + p.lo) (p.hi - p.lo)) || (strict && l.win == r.win))

/-- Operand size of an AtomicOp by its type and payload (R315); 0 where the bridge does not execute it. -/
def atomSize (t : Tlp) : Nat :=
  let n := t.data.length
  if t.fmtType % 32 = 14 then (if n = 8 ∨ n = 16 ∨ n = 32 then n / 2 else 0)
  else if t.fmtType % 32 = 12 ∨ t.fmtType % 32 = 13 then (if n = 4 ∨ n = 8 then n else 0)
  else 0

/-- The new value of an AtomicOp, if it writes (R322 step 4). -/
def atomNew (t : Tlp) (old : List Byte) : Option (List Byte) :=
  let n := atomSize t
  if t.fmtType % 32 = 12 then some (bytesOf n ((numOf old + numOf t.data) % 256 ^ n))
  else if t.fmtType % 32 = 13 then some t.data
  else if t.data.take n = old then some (t.data.drop n) else none

/-- Carry one entry as far as it can go now (R318, R321–R323). -/
def Dev.reqStep (d : Dev) (id : Nat) : Dev :=
  match d.brg.reqs.find? fun r => r.id == id with
  | none => d
  | some r =>
    if r.st ≠ 0 then d
    else if r.kind = .flush then
      (if d.waitsFor r then d else (d.bump R.BRG_WIN_CNT_RD r.win r.stable).reqStatus r 0)
    else if !d.winUp r.win then d.reqAbort r
    else
      let seq := d.seqOf r.item
      let s := r.stable.getD 0
      let owned := r.sem.isSome || (r.kind == .lock && d.brg.sems.any fun e => e.2.mine none seq && decide (e.2.lo ≤ r.addr) && decide (r.addr < e.2.lo + e.2.size))
      let unlocked : Bool := match d.brg.seqs.find s with
        | some q => q.expired || q.port != r.item.ingress
        | none => true
      let taken : Option Dev :=
        if d.semBlocks r.addr r.len (some r.id) seq then none
        else if r.kind = .read ∨ owned then some d
        else if r.kind = .lock ∧ unlocked then some d
        else (d.semTake r.win r.addr r.id s (r.kind == .atomic)).map fun (k, d) =>
          if r.kind = .atomic then d.setReq id fun r => { r with sem := some k } else d
      let seqSems := (d.brg.sems.filter fun e => e.2.entry.isNone && seq == some e.2.stable).length
      if r.kind = .lock ∧ !unlocked ∧ !owned ∧ 1 ≤ seqSems ∧ (taken.isNone ∨ 4 ≤ seqSems) then d.reqAbort r
      else match taken with
      | none => d
      | some d =>
        if d.waitsFor r ∨ d.m2sFree < r.lines.length then d
        else
          let d := d.setReq id fun r => { r with st := 1 }
          ((List.range r.lines.length).zip r.lines).foldl (fun d (k, l) => d.brgIssue r.win l false (.read id k) [] false) d

/-- Carry every entry as far as it can go, oldest first; FLUSH of a window ends once its earlier writes are gone. -/
def Dev.brgPump (d : Dev) : Dev :=
  let d := (d.brg.reqs.map (·.id)).foldl (fun d id => d.reqStep id) d
  d.brg.flushAt.foldl (fun d e =>
    if d.brg.writes.any fun w => w.win == e.1 && decide (w.id < e.2) then d
    else (d.setBrg { d.brg with flushAt := d.brg.flushAt.erase e.1 }).wf R.BRG_WIN_CTRL e.1 1 1 0) d

/-- An entry has its data, or its write is answered. -/
def Dev.reqDone (d : Dev) (r : BReq) : Dev :=
  let poison := r.got.any fun g => g.2.2
  if r.failed then d.reqAbort r
  else if r.kind = .atomic then
    let n := atomSize r.item.tlp
    let old := r.data.take n
    let cnt (d : Dev) := d.bump R.BRG_WIN_CNT_ATOM r.win r.stable
    if r.st = 2 then (cnt d).reqData r r.item.tlp.addr old false
    else if poison then d.reqData r r.item.tlp.addr old true
    else match atomNew r.item.tlp old with
      | none => (cnt d).reqData r r.item.tlp.addr old false
      | some new =>
        let d := d.setReq r.id fun r => { r with st := 2 }
        let full := match r.got.find? fun g => g.1 == r.addr / 64 with
          | some g => g.2.1
          | none => []
        d.brgIssue r.win (r.addr / 64) true (.atomWr r.id) (full.take (r.addr % 64) ++ new ++ full.drop (r.addr % 64 + n)) false
  else
    let d := d.bump R.BRG_WIN_CNT_RD r.win r.stable
    let d := if poison then d.bump R.BRG_WIN_CNT_RDERR r.win r.stable else d
    d.reqData r (tlo r.item.tlp) r.data poison

/-- Data returns for a line of an entry. -/
def Dev.reqGot (d : Dev) (entry line : Nat) (data : List Byte) (poison failed : Bool) : Dev :=
  match d.brg.reqs.find? fun r => r.id == entry with
  | none => d
  | some r =>
    let r := { r with got := r.got ++ [(line, data, poison)], failed := r.failed || failed }
    let d := d.setReq entry fun _ => r
    if r.got.length < r.lines.length then d else (d.reqDone r).brgPump

/-- The write of an atomic fails: logged as a posted-write failure, and completed with CA (R322). -/
def Dev.atomFail (d : Dev) (entry cause : Nat) : Dev :=
  match d.brg.reqs.find? fun r => r.id == entry with
  | none => d
  | some r =>
    let w : BWrite := ⟨r.id, r.win, d.rf R.BRG_WIN_CFG r.win 5 0, d.rb R.BRG_WIN_CFG r.win 6, r.item, r.addr, 1, match r.item.src with
      | .chan c _ => some c
      | _ => none⟩
    let d := d.writeFail w cause r.item.tlp.addr (atomSize r.item.tlp)
    (((d.setBrg { d.brg with failedW := d.brg.failedW.erase r.id }).bump R.BRG_WIN_CNT_ATOM r.win r.stable).reqStatus r 4).brgPump

/-- A write line is answered. -/
def Dev.lineNdr (d : Dev) (line : Nat) : Dev :=
  match d.brg.lines.find? fun l => l.id == line with
  | some l => (d.lineGone l).brgPump
  | none => d

/-! ### Answers in the device's place (R305) -/

/-- Answer an outstanding request itself: its port is lost (cause 2), it timed out (3), or it was removed. -/
def Dev.m2sEnd (d : Dev) (e : M2S) (cause : Nat) : Dev :=
  let d := d.rmM2s e.id
  match e.why with
  | .host => d.answerLost e
  | .bi => d
  | .line l =>
    (match d.brg.lines.find? fun x => x.id == l with
     | some x => (d.lineFail x cause).brgPump
     | none => d)
  | .read r _ => d.reqGot r (e.addr / 64) (List.replicate 64 255) (cause == 2) (cause != 2)
  | .atomWr r => d.atomFail r cause

/-- Answer every request outstanding to a port, or to one LD of it (R297, R305). -/
def Dev.m2sPortLost (d : Dev) (p : Nat) (ld : Option Nat) : Dev :=
  let d := d.setCxp { d.cxp with m2s := d.cxp.m2s.filter fun e => e.why != .bi || (e.port != p && e.ingress != p) }
  let mine := d.cxp.m2s.filter fun e => e.port == p && e.why != .bi && (ld.isNone || e.ld == ld)
  let d := mine.foldl (fun d e =>
    let d := if e.write then d.bump R.CXP_PORT_CNT_WLOST (0x100 + p) e.stable else d
    d.m2sEnd e 2) d
  let d := (d.path.items.filter fun i => match i.src with
    | .m2s id => mine.any fun e => e.id == id
    | _ => false).foldl (fun d i => if i.stage = .sending then d else d.dropItem i) d
  if mine.isEmpty then d else d.cxpEvent 5 p (ld.getD 0) 0 (d.boundStables p)

/-- Requests removed without transmission are answered; a line of the bridge ends at its timeout (R390). -/
def Dev.m2sSettle (d : Dev) : Dev :=
  let l := d.cxp.lost
  l.foldl (fun d id => match d.m2sOf id with
    | some e => (match e.why with
        | .line _ | .atomWr _ => d
        | _ => d.m2sEnd e 3)
    | none => d) (d.setCxp { d.cxp with lost := [] })

/-! ### Internal decoders (R303, R305) -/

/-- An UP or programming IDEC fails for a cause. -/
def Dev.idecFail (d : Dev) (k cause : Nat) : Dev :=
  let i := 0x200 + k
  let d := d.wr R.CXP_IDEC_STATUS i (word (3 + 16 * cause))
  let d := (d.wr R.CXP_IDEC_CTRL i 0).setCxp { d.cxp with prog := d.cxp.prog.erase k, progSent := d.cxp.progSent.erase k }
  let d := d.cxpEvent 4 (d.idecPort k) ((d.idecLd k).getD 0) k []
  if d.idecPriv k then d.loftFail
  else
    let d := (d.brg.lines.filter fun l => !l.issued && d.idecAt (64 * l.addr) == some k).foldl (fun d l => d.lineFail l 1) d
    d.brgPump

/-- Every UP IDEC of a port fails. -/
def Dev.idecPortFail (d : Dev) (p cause : Nat) : Dev :=
  (d.idecs.filter fun k => d.idecPort k == p && d.idecState k == 2).foldl (fun d k => d.idecFail k cause) d

/-! ### Generations (R279, R320, R347) -/

/-- The bridge's part of an advance: held lines of the old generation go, entries complete to no one. -/
def Dev.brgPurge (d : Dev) (dom : Nat) : Dev :=
  let old (i : Item) : Bool := i.dom == some dom && d.retired i.dom i.prim.gen
  let oldW := (d.brg.writes.filter fun w => old w.item).map (·.id)
  let d := (d.brg.lines.filter fun l => !l.issued && l.parts.any fun p => oldW.contains p.wid).foldl (fun d l =>
    let keep := l.parts.filter fun p => !oldW.contains p.wid
    if keep.isEmpty then (d.bump R.BRG_WIN_CNT_PURGE l.win (some (d.rf R.BRG_WIN_CFG l.win 5 0))).lineGone l
    else (d.setBrg { d.brg with lines := d.brg.lines.map fun x => if x.id = l.id then { x with parts := keep } else x }).partsGone
      ((l.parts.filter fun p => oldW.contains p.wid).map (·.wid))) d
  let d := (d.brg.reqs.filter fun r => old r.item).foldl (fun d r =>
    if r.st = 0 ∨ (r.kind = .atomic ∧ r.st = 1) then d.reqGone r else d.setReq r.id fun r => { r with purged := true }) d
  d.brgPump

/-- Advance a generation domain with all that follows from it in DMA, the shed, the ledger and the bridge. DEDUCED: log entry 53. -/
def Dev.advanceDom (d : Dev) (dom : Nat) : Dev :=
  let d := if 8192 ≤ dom ∧ dom < 8256 then d.chMark (dom - 8192) else d
  let d := (d.genAdvance dom).brgPurge dom
  let d := if 16384 ≤ dom then d.m2sPortLost ((dom - 16384) / 16) (some ((dom - 16384) % 16)) else d
  d.sweepMarked.m2sSettle

/-- Advance every channel that a stable owns. -/
def Dev.advanceChans (d : Dev) (s : Nat) : Dev :=
  ((List.range 64).filter fun c => d.chOwner c == some s).foldl (fun d c => d.advanceDom (domChan c)) d

/-! ### Locked sequences (R323) -/

/-- The sequence of a stable ends. -/
def Dev.seqEnd (d : Dev) (s : Nat) : Dev :=
  let d := d.seqFree s
  (d.setBrg { d.brg with seqs := d.brg.seqs.erase s }).brgPump

end Sys2Proof.Machine
end

