-- ==== Sys2Proof/Machine/Contain.lean ====
section
/-! DEFINITION. Containment (R191–R193, R276, R368–R393): flushes, fences, headless stables, slices, stables, fail-safe, the
reaction to a fault, and what settles at the end of each command. -/

namespace Sys2Proof.Machine

/-! ### Fault log (R380, R398) -/

/-- The scope in force for a class: the larger of ESC and the class minimum. -/
def Dev.effScope (d : Dev) (cls : Nat) : Nat := max (min 5 (d.rf (R.SAF_ESC cls) 0 2 0)) (classMin cls)

/-- The event of a class, where it has one of its own. -/
def classEvent (cls : Nat) : Option Nat :=
  if cls = 2 ∨ cls = 3 ∨ (5 ≤ cls ∧ cls ≤ 7) then some 0x781
  else if cls = 4 then some 0x782
  else if cls = 8 ∨ cls = 9 then some 0x784
  else if cls = 0x0c then some 0x789
  else if cls = 0x0d ∨ cls = 0x0e then some 0x78a
  else if cls = 0x0f then some 0x78b
  else if cls = 0x11 then some 0x790
  else if cls = 0x12 then some 0x792
  else if cls = 0x14 then some 0x793
  else if cls = 0x16 then some 0x78f
  else if cls = 0x17 then some 0x78e
  else if cls = 0x18 then some 0x794
  else if cls = 0x19 then some 0x783
  else none

def Dev.flogAdd (d : Dev) (cls scope : Nat) (stable port : Option Nat) (unit detail : Word) : Dev :=
  { d with logs := { d.logs with flog := d.logs.flog.add 32 ⟨cls, scope, decide (classMin cls < scope), stable, port, unit, detail, d.now⟩ } }

/-! ### Flushing (R191) -/

/-- One TLP of the replay buffer of a port that went down (R191 step 3). A request that the ledger has completed already is not
completed again. -/
def Dev.flushSent (d : Dev) (p : Nat) (ur : Bool) (e : Sent) : Dev :=
  if isMem e.tlp then d
  else match tcls e.tlp with
    | 0 =>
      let d := (d.bump R.PRT6_PD_CNT_UNCONF p e.stable).logDrop p true e.mc e.stable e.tlp
      if isWrite e.tlp then d.logLoss p 2 e.mc e.ingress e.stable e.tlp else d
    | 1 => match d.slice.ledger.find? fun l => l.egress == p && l.rid == e.tlp.rid && l.tag == e.tlp.tag && l.ingress == e.ingress with
      | none => (d.srComplete e.tlp e.stable e.ingress p e.src (4 * dwLen e.tlp) ur).bump R.PRT6_PD_CNT_NP p e.stable
      | some l =>
        if l.ghost then d
        else ((d.setLedger (d.slice.ledger.erase l)).srComplete e.tlp e.stable e.ingress p e.src (4 * dwLen e.tlp) ur).bump
          R.PRT6_PD_CNT_NP p e.stable
    | _ => d

/-- One item queued for a port that is down or fenced (R191 step 4). -/
def Dev.flushItem (d : Dev) (p cause : Nat) (ur : Bool) (i : Item) : Dev :=
  if i.copies.isEmpty then d.removeDown i p cause ur
  else (i.copies.filter fun c => c.port == p).foldl (fun d c => d.discardCopy i.id c.prim.dest 5 (some cause)) d

/-- An item that was being sent when its port went down: it stood in the replay buffer. -/
def Dev.flushSending (d : Dev) (p : Nat) (ur : Bool) (i : Item) : Dev :=
  let d := if i.copies.isEmpty then d.dropItem i
    else (i.copies.filter fun c => c.port == p).foldl (fun d c => d.discardCopy i.id c.prim.dest 5 none) d
  d.flushSent p ur ⟨i.tlp, i.stb, i.ingress, i.src, !i.copies.isEmpty⟩

/-- The ledger entries of a contained port are completed (R192, R283). DEDUCED: log entry 53. -/
def Dev.ledgerContained (d : Dev) (p : Nat) : Dev :=
  if d.portContained p then d.synthLedger fun l => l.egress == p else d

/-- How many of the TLPs in a port's replay buffer the partner has acknowledged by now, where no command says it: a free
value (log entry 4). DEDUCED: log entry 54. -/
def Dev.ackSome (d : Dev) (p : Nat) : Dev :=
  let rep := d.path.replay.getD p []
  if rep.isEmpty then d
  else
    let (w, d) := d.fresh
    { d with path := { d.path with replay := Tbl.put d.path.replay p [] (rep.drop (w.toNat % (rep.length + 1))) } }

/-- The flush of a port (R191 steps 3 to 6): FLUSHING reads 1 until PORT_FLUSH_END. -/
def Dev.flushPort (d : Dev) (p cause : Nat) (ur : Bool) : Dev :=
  let d := d.wf R.PRT6_FLUSH_STATE p 0 0 1
  let sent := d.path.replay.getD p []
  let d := { d with path := { d.path with replay := Tbl.put d.path.replay p [] [] } }
  let d := sent.foldl (fun d e => d.flushSent p ur e) d
  let sending := d.path.items.filter fun i => i.link.isNone &&
    (if i.copies.isEmpty then i.stage == .sending && d.egressOf i == some p else i.copies.any fun c => c.port == p && c.st == .sending)
  let d := sending.foldl (fun d i => d.flushSending p ur i) d
  (((d.queueOf p).foldl (fun d i => d.flushItem p cause ur i) d).m2sSettle).ledgerContained p

/-! ### Containment of a port (R381, R386, R393) -/

/-- DPC Status of a port's function reads triggered by software in each stable that presents it (R393, R404). -/
def Dev.dpcStatus (d : Dev) (p reason : Nat) : Dev :=
  ((d.portStables p).foldl (fun d s => match d.slotOf s p with
    | some k => d.setCfg s (8 + k) 98 (word ((d.cfg s (8 + k) 98).toNat / 65536 * 65536 + reason))
    | none => d) d).dpcCor p 20

/-- Uncorrectable Internal Error in the upstream function of the stables that a containment affects (R392). -/
def Dev.internalErr (d : Dev) (stables : List Nat) : Dev := stables.foldl (fun d s => d.aer s 0 22 none) d

/-- Fence a downstream port by DPC and flush it (R191 steps 2 to 6). -/
def Dev.fence (d : Dev) (p reason : Nat) : Dev :=
  ((d.wf R.PRT6_FLUSH_STATE p 1 1 1).dpcStatus p reason).flushPort p (if d.dlUp p then 4 else 1) false

/-- What every port that goes down or is contained loses: its calibration procedure, memory requests and decoders. -/
def Dev.portLost (d : Dev) (p cause : Nat) : Dev :=
  let d := ((d.procAbort p 3).m2sPortLost p none).idecPortFail p cause
  if d.loftOn ∧ d.loftPort = p then d.loftFail else d

/-- A link of a stable's upstream port is lost: the stable is headless (R193); `apply` where HEADLESS_ACTION counts. -/
def Dev.setHeadless (d : Dev) (s : Nat) : Dev :=
  (d.wf R.SWC_STABLE_SW_STATUS (0x200 + s) 0 0 1).raise 0x485

/-- Contain a slice (R276): its requests are refused, TLPs towards it discarded, its ledger entries completed. -/
def Dev.sliceContain (d : Dev) (k : Nat) : Dev :=
  if d.slice.contained.contains k then d
  else
    let d := { d with slice := { d.slice with contained := d.slice.contained ++ [k] } }
    (d.synthLedger fun l => l.slice == some k).raiseFor 0x5cb [d.sliceStable k]

/-- Contain a port other than an upstream one: `cause` and class as ERR_STATUS gives them. -/
def Dev.containBase (d : Dev) (p cause cls : Nat) : Dev :=
  let st := d.rd R.PRT2_ERR_STATUS p
  let d := d.wr R.PRT2_ERR_STATUS p (word (1 + 2 * cause + 16 * fld st 5 4 + 256 * cls))
  if p = 128 then ((List.range 64).foldl (fun d c => d.advanceDom (domChan c)) d).ledgerContained p
  else if p = 129 then
    let d := (List.range 256).foldl (fun d w => if d.rd R.BRG_WIN_SIZE w = 0 then d else d.wf R.BRG_WIN_STATUS w 1 1 1) d
    (d.brg.reqs.foldl (fun d r => if r.st = 0 then d.reqAbort r else d) d).ledgerContained p
  else if p = 130 then
    let d := { d with boot := { d.boot with coresDown := true }, out := .core 2 :: d.out }
    (d.path.items.filter fun i => i.ingress == 130 && i.stage != .sending && !i.own).foldl
      (fun d i => d.removeFault i ((d.egressOf i).getD 130) 4) d |>.ledgerContained p
  else if d.isFabric p then
    let d := if d.lkState p = 3 ∨ d.lkState p = 4 then d.mklFlush p else d
    ((d.setLkState p 6).portLost p 2).ledgerContained p
  else (((d.ackSome p).portLost p 2).fence p 39)

/-! ### DL_Down (R191, R193) -/

/-- A stable's upstream link is lost (R193): headless, and under FENCE its own ports fenced and slices contained. -/
def Dev.headless (d : Dev) (s : Nat) (act : Bool) : Dev :=
  let d := d.setHeadless s
  let d := (d.seqEnd s)
  if act ∧ d.rb R.SWC_STABLE_SW_CFG (0x200 + s) 0 then
    let ports := (d.ownedPorts s).filter fun p => d.isDown p && !d.portContained p
    let slices := (d.stableSlices s).filter fun k => !d.slice.contained.contains k
    let d := (ports.foldl (fun d p => d.containBase p 4 0) d)
    let d := slices.foldl (fun d k => d.sliceContain k) d
    let held := ports ++ slices.map (256 + ·)
    let all := ((d.path.fencedHead.getD s []) ++ held).eraseDups
    let d := { d with path := { d.path with fencedHead := Tbl.put d.path.fencedHead s [] all } }
    (d.wf R.SWC_STABLE_SW_STATUS (0x200 + s) 1 1 (b2n (!all.isEmpty))).raise 0x486
  else d

/-- DL_Down of a PCIe or CXL port: `st` its link state, `surprise` where neither end asked for it, `act` where
HEADLESS_ACTION counts; its replay buffer holds what the partner has not acknowledged. -/
def Dev.dlDownAt (d : Dev) (p st : Nat) (surprise act : Bool) : Dev :=
  let d := (d.portLost p 1).linkWords p st
  let d := d.linkDown p
  let d := if surprise ∧ d.isDown p then d.aerPort p 5 none else d
  if d.isDown p then
    if surprise ∧ d.rb R.PRT2_ERR_CFG p 0 then
      (if d.portContained p then d
       else (d.wf R.PRT2_ERR_STATUS p 3 0 3).raise 0x785).fence p 39
    else d.flushPort p 1 false
  else
    let d := d.flushPort p 1 true
    match d.owner p with
    | some s => d.headless s act
    | none => d

/-- DL_Down where no command says what the partner has acknowledged. -/
def Dev.dlDown (d : Dev) (p st : Nat) (surprise act : Bool) : Dev := (d.ackSome p).dlDownAt p st surprise act

/-- Contain a port at PORT scope (R381). A port that is contained already stays as it is (R383). -/
def Dev.containPort (d : Dev) (p cause cls : Nat) : Dev :=
  if d.portContained p then d.wf R.PRT2_ERR_STATUS p 15 8 cls
  else
    let st := d.portStables p
    let d := if p < 128 ∧ d.isUp p then
        let w := d.rd R.PRT2_ERR_STATUS p
        let d := d.wr R.PRT2_ERR_STATUS p (word (1 + 2 * cause + 16 * fld w 5 4 + 256 * cls))
        if d.dlUp p then d.dlDown p 0 false true else ((d.linkWords p 0).setLstate p 0).ledgerContained p
      else d.containBase p cause cls
    (d.raise 0x785).internalErr st

/-! ### Stables and the device (R381, R385) -/

def Dev.stbContained (d : Dev) (s : Nat) : Bool := d.rb R.SAF_STB_SAF_STATUS s 0

/-- Contain a stable. -/
def Dev.containStable (d : Dev) (s cls : Nat) : Dev :=
  if d.stbContained s then d
  else
    let d := d.wr R.SAF_STB_SAF_STATUS s (word (1 + 2 * d.rf R.SAF_STB_SAF_STATUS s 1 1 + 256 * cls))
    let ports := (d.ownedPorts s).filter d.isDown
    let d := (ports.filter fun p => !d.portContained p).foldl (fun d p => d.containBase p 6 cls) d
    let d := { d with saf := { d.saf with portWide := (d.saf.portWide ++ ports).eraseDups } }
    let d := (d.stableSlices s).foldl (fun d k => d.sliceContain k) d
    let d := (List.range 256).foldl (fun d w => if d.winOwner w = some s then d.wf R.BRG_WIN_STATUS w 1 1 1 else d) d
    let d := d.advanceChans s
    let d := d.synthLedger fun l => l.stable == some s
    (d.raise 0x787).internalErr [s]

/-- What is cut off after its first flit (R373): nullified, and a posted request logged so; CXL.mem data ends with poison. -/
def Dev.cutSending (d : Dev) (p : Nat) (i : Item) : Dev :=
  if isMem i.tlp then d.emit (.engine p 12 [i.tlp.tag])
  else
    let d := (d.emit (.nullified p i.tlp)).bump R.PRT2_CNT_NULL p i.stb
    if isWrite i.tlp then d.logLoss p 6 (!i.copies.isEmpty) i.ingress i.stb i.tlp else d

/-- One TLP of the shed is lost to fail-safe (R385 steps 2 and 3): what a link was sending is cut off, a posted request that stage 5 permitted
is logged. On a fabric link it stands in the replay buffer. -/
def Dev.failItem (d : Dev) (i : Item) : Dev :=
  let permitted (e : Eval) : Bool := isWrite i.tlp && e.verdict == .ok && i.refuse.isNone && !d.retired i.dom e.gen &&
    (match e.dest with
     | .err _ => false
     | _ => true)
  if i.copies.isEmpty then
    if i.stage = .sending then (if i.link.isSome then d else d.cutSending ((d.egressOf i).getD 0) i)
    else if permitted i.prim then d.logLoss ((d.egressOf i).getD 0) 7 false i.ingress i.stb i.tlp else d
  else i.copies.foldl (fun d c =>
    if c.st = .sending then d.cutSending c.port i
    else if (c.st = .pending ∨ c.st = .queued) ∧ permitted c.prim then d.logLoss c.port 7 true i.ingress i.stb i.tlp else d) d

/-- Every TLP of the device is lost to fail-safe: those of the shed, those handed to the bridge that it has not taken up, and those in the
replay buffers of links. -/
def Dev.failItems (d : Dev) : Dev :=
  let p := d.path
  let d := { d with path := { d.path with items := [], inbox := [], replay := [] } }
  let d := p.items.foldl (fun d i => d.failItem i) d
  let d := (p.inbox.filter fun i => isWrite i.tlp && d.egressOf i == some 129).foldl (fun d i => d.logLoss 129 7 false i.ingress i.stb i.tlp) d
  let d := p.replay.foldl (fun d e => (e.2.filter fun x => isWrite x.tlp).foldl (fun d x => d.logLoss e.1 7 x.mc x.ingress x.stable x.tlp) d) d
  d.mkl.link.foldl (fun d e => (e.2.replay.filter fun x => !x.pk.ctl && isWrite x.pk.tlp).foldl
    (fun d x => d.logLoss e.1 7 false x.ingress x.stable x.pk.tlp) d) d

/-- Fail-safe (R385). -/
def Dev.failSafe (d : Dev) (cls : Nat) : Dev :=
  if d.failsafe then d
  else
    let d := (d.wr R.SAF_SAF_STATE 0 (word (2 + 256 * cls))).settle
    let d := (d.raise 0x788).failItems
    let d := d.physPorts.foldl (fun d p =>
      let d := d.procAbort p 3
      if d.isFabric p then
        let d := if d.lkState p = 3 then d.linkDown p else d
        let d := (d.setLnk p { Link.reset with lastTok := (d.lnk p).lastTok, lastPartner := (d.lnk p).lastPartner }).setLkState p 0
        ((d.setActMask p 0).report p 0).linkWords p 0
      else if d.dlUp p then
        (d.linkWords p 0).linkDown p
      else d.linkWords p 0) d
    let d := (List.range 64).foldl (fun d c => ((d.setChState c 0).wf R.DMA_CH_CTRL c 1 1 0).chDropFetch c) d
    let d := if d.loftOn then d.loftFail else d
    let d := d.idecs.foldl (fun d k => if d.idecState k = 2 then d.wr R.CXP_IDEC_STATUS (0x200 + k) (word (3 + 16)) else d) d
    let hard := cls == 0x0c || cls == 0x0e || cls == 0x0f
    let d := if hard then { d with boot := { d.boot with coresDown := true }, out := .core 2 :: d.out } else d
    if cls = 0x0e ∨ cls = 0x0f then d.clampOn else d

/-! ### The reaction to a fault (R380–R383) -/

/-- React to a fault that names ports, slices and stables; the removal of the TLP at TLP scope is the caller's. -/
def Dev.react (d : Dev) (cls : Nat) (stables ports slices : List Nat) (unit detail : Word) : Dev :=
  let need := d.effScope cls
  let sc := if need = 2 ∧ ports.isEmpty then 3 else need
  let sc := if sc = 3 ∧ slices.isEmpty then 4 else sc
  let sc := if sc = 4 ∧ stables.isEmpty then 5 else sc
  let d := d.flogAdd cls sc stables.head? ports.head? unit detail
  let d := match classEvent cls with
    | some n => d.raise n
    | none => d
  let d := (ports.foldl (fun d p => d.wf R.PRT2_ERR_STATUS p 15 8 cls) d).sleepFault sc
  if d.failsafe then d
  else if sc = 5 then d.failSafe cls
  else if sc = 4 then stables.foldl (fun d s => d.containStable s cls) d
  else if sc = 3 then
    (slices.filter fun k => !d.slice.contained.contains k && !d.stbContained (d.sliceStable k)).foldl (fun d k =>
      ((d.sliceContain k).raise 0x786).internalErr [d.sliceStable k]) d
  else if sc = 2 then ports.foldl (fun d p => d.containPort p 3 cls) d
  else d

/-- A fault of one stable and port, detected in a unit. -/
def Dev.fault (d : Dev) (cls : Nat) (stable port slice : Option Nat) (unit detail : Word) : Dev :=
  d.react cls stable.toList port.toList slice.toList unit detail

/-! ### Corrections and injected storage errors (R374, R396) -/

/-- A correction in a structure: counted, logged as class ECC_CE, and reported when a second holds more than CE_TH. -/
def Dev.corrected (d : Dev) (st : Nat) : Dev :=
  let d := d.bump R.SAF_CNT_CE
  let times := (d.saf.ceTimes.filter fun e => decide (d.now < e.2 + 1000000000)) ++ [(st, d.now)]
  let d := { d with saf := { d.saf with ceTimes := times } }
  let th := d.rf R.SAF_CE_TH 0 15 0
  let d := if th ≠ 0 ∧ th < (times.filter fun e => e.1 == st).length then d.raise 0x780 else d
  d.fault 1 none none none (d.unitRef (.block 0xc00)) (word st)

/-- The registers of an entry's word in a duplicated structure (INJ_CFG.STRUCT 0 to 4). -/
def dupReg (st k : Nat) : Reg :=
  if st = 0 then R.ISO_RULE_W k else if st = 1 then R.RTE_WIN_W k else if st = 2 then R.RTE_XING_W k
  else if st = 3 then R.ISO_PORT_OWN else ⟨0x780, 0x200 + 4 * k⟩

/-- The entry of a duplicated structure that a step has written. -/
def Dev.dupWritten (d old : Dev) (st : Nat) : Option Nat :=
  (List.range (if st = 3 then 1 else 4)).findSome? fun k =>
    ((d.listed (dupReg st k) ++ old.listed (dupReg st k)).find? fun e => d.rd (dupReg st k) e.1 != old.rd (dupReg st k) e.1).map
      fun e => if st = 3 then e.1 - 0x100 else e.1

/-- Where an injected storage error lands: the mark of the word that the step has written to the structure. -/
def Dev.injMark (d old : Dev) (st : Nat) : Option Nat :=
  let fresh := d.path.items.find? fun i => i.stage != .store && decide (old.path.nextStored ≤ i.stored) &&
    (if st = 6 then !i.tlp.data.isEmpty else if st = 8 then d.tracked i else true)
  if st = 5 then (d.stall.ways.find? fun e => old.stall.ways.find e.1 != some e.2).map fun e => 2 ^ 60 + e.2.key
  else if st = 6 ∨ st = 7 ∨ st = 8 then fresh.map fun i => i.id
  else if st = 9 then (d.brg.lines.find? fun l => decide (old.brg.nextLine ≤ l.id)).map fun l => 2 ^ 62 + l.id
  else if st = 10 then
    (d.mkl.link.find? fun e => match old.mkl.link.find e.1 with
      | some l => decide (l.replay.length < e.2.replay.length)
      | none => !e.2.replay.isEmpty).map fun e => e.1
  else none

/-- An injected storage error that waits for the next write to its structure (R396): a single-bit one is corrected; a
double-bit one makes the word uncorrectable, and the next read of it finds that. DEDUCED: log entry 44. -/
def Dev.injWatch (d old : Dev) : Dev :=
  match old.saf.inj, d.saf.inj with
  | some x, some y =>
    if x ≠ y ∨ x.kind < 4 ∨ 5 < x.kind then d
    else
      let used (d : Dev) : Dev := { d with saf := { d.saf with inj := none } }
      if x.struct ≤ 4 then
        match d.dupWritten old x.struct with
        | some i => if x.kind = 4 then (used d).corrected x.struct
                    else used { d with saf := { d.saf with bad := d.saf.bad ++ [(x.struct, i, false)] } }
        | none => d
      else match d.injMark old x.struct with
        | none => d
        | some m =>
          if x.kind = 4 then (used d).corrected x.struct
          else if x.struct = 10 then ((used d).bump R.SAF_CNT_UE).fault 0x0b none (some m) none (d.unitRef (.port m)) 0
          else used { d with saf := { d.saf with ue := d.saf.ue ++ [(m, if x.struct = 6 ∨ x.struct = 9 then 2 else 3)] } }
  | _, _ => d

/-! ### What settles at the end of each command -/

/-- TAINT on a downstream port with TAINT_ACTION = 1 fences it (R388). -/
def Dev.taintFence (d : Dev) : Dev :=
  (d.physPorts.filter fun p => d.isDown p && d.rb R.PRT2_ERR_STATUS p 4 && d.rb R.PRT2_ERR_CFG p 1 && !d.portContained p).foldl
    (fun d p => d.containPort p 3 (d.rf R.PRT2_ERR_STATUS p 15 8)) d

/-- Faults noted during the step are reacted to. -/
def Dev.faultsDue (d : Dev) : Dev :=
  let l := d.saf.due
  l.foldl (fun d f => d.fault f.1 f.2.1 f.2.2.1 none (d.unitRef (match f.2.2.1 with
    | some p => .port p
    | none => if f.1 = 0x14 then .block 0x600 else .device)) f.2.2.2) { d with saf := { d.saf with due := [] } }

/-- DPC triggers of hosts (R393): the port is fenced; one that is contained already stays as it is. -/
def Dev.dpcDue (d : Dev) : Dev :=
  let l := d.saf.dpc
  l.foldl (fun d e =>
    if d.portContained e.1 ∨ !d.isDown e.1 then d
    else (((d.wf R.PRT2_ERR_STATUS e.1 3 0 (1 + 2 * 2)).raise 0x785).ackSome e.1).portLost e.1 2 |>.fence e.1 e.2) { d with saf := { d.saf with dpc := [] } }

/-- Denials of a stable within 1 ms above AF_LIMIT (class ACCESS_REPEAT). -/
def Dev.accessRepeat (d : Dev) : Dev :=
  let lim := d.rf R.SAF_AF_LIMIT 0 15 0
  let times := d.saf.afTimes.filter fun e => decide (d.now < e.2 + 1000000)
  let d := { d with saf := { d.saf with afTimes := times } }
  if lim = 0 then d
  else ((times.map (·.1)).eraseDups.filter fun s => decide (lim < (times.filter fun e => e.1 == s).length)).foldl (fun d s =>
    let d := { d with saf := { d.saf with afTimes := d.saf.afTimes.filter fun e => e.1 != s } }
    let sl := d.saf.lastDenySlice.getD s 0
    d.fault 0x18 (some s) none (if sl = 0 then none else some (sl - 1)) (d.unitRef (.block 0x600)) (word s)) d

/-! ### The yard as a member sees it (R161, R221, R222) -/

/-- A member is declared lost: LOST, the event, the remote accesses to it, and, for the head, a commit only prepared and the routing-field
writes carried to it, which complete with UR (R203, R225). -/
def Dev.declareLost (d : Dev) (m : Nat) : Dev :=
  if d.isLost m then d
  else
    let d := { d with yard := { d.yard with lost := d.yard.lost ++ [m] } }
    let d := (d.wf R.MKL_MKL_YARD 0 (8 + m) (8 + m) 1).raise (0x460 + m)
    let d := (d.mgt.remote.filter fun e => e.2.1 == m).foldl (fun d e => d.remoteFail e.1 true) d
    let d : Dev := if (m == d.headNo && d.yard.phase == .prepared) then { d with yard := { d.yard with phase := .idle, snapshot := [], cfgs := [] } } else d
    if m = d.headNo ∧ d.yard.phase ≠ .adopted then
      let l := d.yard.forwarded
      l.foldl (fun d e => d.cfgDone (some e.1) 1) { d with yard := { d.yard with forwarded := [] } }
    else d

/-- Reachability: the head declares a member lost that it no longer reaches, every other member the head. -/
def Dev.lostSync (d : Dev) : Dev :=
  let r := d.reachSet
  let was := d.reach
  let d := d.wf R.MKL_MKL_YARD 0 7 0 (ofBits (r.filter (· != d.me)))
  (List.range 8).foldl (fun d m =>
    if was.testBit m ∧ !r.contains m ∧ (d.isHead ∨ m = d.headNo) then d.declareLost m else d) d

/-- The TLPs for another member that wait when the route to it changes: they queue at the bundle in use, or, where there is
none, are removed as routing errors UNREACHABLE (R222). -/
def Dev.pathMoved (d : Dev) (m : Nat) : Dev :=
  let goes (i : Item) : Bool := i.transit == some m || (i.transit.isNone && match i.prim.dest with
    | .port n _ => n == m
    | _ => false)
  let waits (i : Item) : Bool := i.stage == .queued || i.stage == .resend
  let toM (c : Copy) : Bool := (c.st == .pending || c.st == .queued) && match c.prim.dest with
    | .port n _ => n == m
    | _ => false
  match (d.memberPath m).bind d.bundleLead with
  | some lead =>
    let move (i : Item) : Item := { i with copies := i.copies.map fun c => if toM c then { c with port := lead } else c }
    let flows := (d.path.items.filter fun i => waits i && (goes i || i.copies.any toM)).map Item.flow
    let old := ((d.path.items.flatMap fun i => (i.copies.filter toM).map fun c => c.port).filter (· != lead)).eraseDups
    let d := { d with path := { d.path with items := d.path.items.map move } }
    flows.eraseDups.foldl (fun d f => (old.foldl (fun d p => d.schedHead p f) d).schedHead lead f) d
  | none =>
    let d := (d.path.items.filter fun i => waits i && i.copies.isEmpty && goes i).foldl (fun d i => d.removeRoute i 7) d
    (d.path.items.filter fun i => i.copies.any toM).foldl (fun d i =>
      (i.copies.filter toM).foldl (fun d c => d.discardCopy i.id c.prim.dest 1 (some 1)) d) d

/-- The route towards a member: PATH_ALT at each change and for a bundle with another partner, UNREACHABLE once, also where a commit takes
its entries away (R221, R222, R227). -/
def Dev.pathSync (d : Dev) (m : Nat) : Dev :=
  let w := d.rd R.RTE_YROUTE (0x100 + m)
  let r := R.RTE_YROUTE_STATUS
  if m = d.me then d
  else if !bit w 7 && !bit w 15 then
    let had := d.yard.routed.contains m && !d.yard.unreach.contains m
    let d := ({ d with yard := { d.yard with routed := d.yard.routed.filter (· != m) } }.wf r (0x100 + m) 4 4 1).wf r (0x100 + m) 3 3 0
    if had then (d.raise 0x505).pathMoved m else d
  else
    let d := if d.yard.routed.contains m then d else { d with yard := { d.yard with routed := d.yard.routed ++ [m] } }
    let bad (k v b nh : Nat) (d : Dev) : Dev :=
      let now := v == 1 && d.bundleLive b && d.bundlePartner b != some nh
      let said := d.yard.badNh.contains (2 * m + k)
      if now = said then d
      else if now then ({ d with yard := { d.yard with badNh := d.yard.badNh ++ [2 * m + k] } }).raise 0x504
      else { d with yard := { d.yard with badNh := d.yard.badNh.filter (· != 2 * m + k) } }
    let d := bad 1 (fld w 15 15) (fld w 11 8) (fld w 14 12) (bad 0 (fld w 7 7) (fld w 3 0) (fld w 6 4) d)
    if d.yard.unreach.contains m then d.wf r (0x100 + m) 4 4 1
    else match d.pathKind m with
      | 0 => (((({ d with yard := { d.yard with unreach := d.yard.unreach ++ [m] } }).wf r (0x100 + m) 4 4 1).wf r (0x100 + m) 3 3 0).raise 0x505).pathMoved m
      | 1 =>
        let d := d.wf r (0x100 + m) 4 4 0
        if d.rb r (0x100 + m) 3 then ((((d.wf r (0x100 + m) 3 3 0).orStart (fld w 3 0))).raise 0x504).pathMoved m else d
      | _ =>
        let d := d.wf r (0x100 + m) 4 4 0
        if d.rb r (0x100 + m) 3 then d else ((d.wf r (0x100 + m) 3 3 1).raise 0x504).pathMoved m

/-- The states of the bundles (R161): every link of theirs that is ACTIVE or in HOLD. -/
def Dev.bundleStates (d : Dev) : List Nat :=
  d.physPorts.filterMap fun p => (d.bundleOf p).bind fun b =>
    if d.lkState p = 3 ∨ d.lkState p = 4 then some (b + 16 * p + 2048 * d.lkState p) else none

/-- The yard after a step: a member sends the head a TOPO message at every change of its bundles. -/
def Dev.yardSync (d : Dev) : Dev :=
  if !d.yardEn then d
  else
    let now := d.bundleStates
    let d := if now = d.mkl.present then d
      else
        let d := { d with mkl := { d.mkl with present := now } }
        if d.isHead then d else d.ctlSend d.headNo (4 :: d.me :: b2n (d.staging.epoch == 0) :: d.present.map fun e => 16 * e.1 + e.2)
    let d := (List.range 8).foldl (fun d m => d.pathSync m) d.lostSync
    if d.mkl.ctl.isEmpty then d else d.ctlPump

/-- A yard commit ends, done or cancelled. -/
def Dev.ycIdle (d : Dev) : Dev :=
  { d with yard := { d.yard with
      phase := .idle, parts := [], ready := [], nexthops := [], adopted := [], drained := [], headDrained := false
      snapshot := [], accs := [], cfgs := [] } }.wf R.RTE_YC_STATUS 0 0 0 0

/-- The commit of the head is done once every member that is not lost and the head have drained (R225 step 6): also when the loss of a
member leaves no other. -/
def Dev.ycOver (d : Dev) : Dev :=
  let y := d.yard
  if y.phase ≠ .adopting || !y.headDrained || !(y.parts.all fun m => y.drained.contains m || d.isLost m) then d
  else
    let d := { d with staging := { d.staging with draining := false, waiters := [] } }
    let d := ((d.ycIdle).bump R.RTE_YC_CNT 0).raise 0x503
    if d.rb R.DEV_YARD_STATUS 0 0 then d else (d.wf R.DEV_YARD_STATUS 0 0 0 1).raise 0x004

/-- Settle after a command: removed memory requests, marked TLPs, noted faults and taints. -/
def Dev.after (d : Dev) : Dev :=
  let d := (d.m2sSettle.dpcDue.faultsDue).accessRepeat
  let d := (d.taintFence.sweepMarked).yardSync
  let d := if d.isHead then d.ycOver else d
  if d.failsafe then d else d.m2sSettle.chRunAll

end Sys2Proof.Machine
end

