-- ==== Sys2Proof/Machine/Intake.lean ====
section
/-! DEFINITION. Stages 1 to 5 (R11, R12, R259–R272, R275, R278, R282, R287, R363, R364): reception, context lookup, parking,
policing, evaluation, and the completions and messages that use no context. -/

namespace Sys2Proof.Machine

/-! ### Stage 5 -/

/-- The destinations of a multicast group of a stable, or of a broadcast (64): member and port (R184, R210). -/
def Dev.mcDests (d : Dev) (s g : Nat) : List (Nat × Nat) :=
  let slots := d.slots s
  if g < 64 then
    let b := fld (d.rd R.SWC_MC_CFG (0x100 + g)) 13 8
    let rx (fn : Nat) : Bool := bit (d.cfg s fn (88 + b / 32)) (b % 32)
    ((match d.upDest s with
      | .port m up => if rx 0 then [(m, up)] else []
      | _ => []) ++ (slots.filter fun e => rx (8 + e.1)).map fun e => (e.2.1, e.2.2))
  else (slots.filter fun e => e.2.1 != d.me || d.ownMode e.2.2 == 1).map fun e => (e.2.1, e.2.2)

/-- The evaluation of a copy of a multicast TLP for one destination (R15): where it goes, and whether the rules permit it there. -/
def Dev.copyEval (d : Dev) (s : Nat) (it : Item) (e : Eval) (x : Nat × Nat) : Eval :=
  let dst := Dest.port x.1 x.2
  { e with dest := dst, verdict := d.verdict s it.ingress it.tlp it.priv ⟨dst, none, e.xaddr, false⟩ }

/-- Enter a multicast TLP at stage 6 with one copy for each destination but its ingress port, each with its own two evaluations (R15,
R185, R187). A destination that the check evaluation does not give is a disagreement of that copy. -/
def Dev.mcSpread (d : Dev) (s g : Nat) (it : Item) : Dev :=
  let dests := (d.mcDests s g).filter fun x => x != (d.me, it.ingress)
  let copy (x : Nat × Nat) : Copy :=
    { port := if x.1 = d.me then x.2 else ((d.memberPath x.1).bind d.bundleLead).getD 131, st := .pending
      prim := d.copyEval s it it.prim x
      chk := match it.chk.stable, it.chk.dest with
        | some s', .mcast g' => if (d.chkView.mcDests s' g').contains x then d.chkView.copyEval s' it it.chk x else it.chk
        | _, _ => it.chk }
  let d := if g = 64 ∧ it.tlp.code = 0x19 then
      let local_ := (dests.filter fun x => x.1 == d.me).map (·.2)
      let d := { d with path := { d.path with pmeWait := d.path.pmeWait.insert s local_ } }
      if local_.isEmpty then d.pmeGot s 0 else d
    else if g = 64 ∧ it.tlp.code = 0 then d.seqEnd s else d
  if dests.isEmpty then d else d.addItem { it with copies := dests.map copy }

/-- The slice under which a configuration request of a stable to a port is trapped (R287). -/
def Dev.trapSlice (d : Dev) (s : Nat) (t : Tlp) (x : Dest) : Option Nat :=
  match x with
  | .port m p =>
    if (t.kind = .cfgRd ∨ t.kind = .cfgWr) ∧ m = d.me ∧ d.ownMode p = 2 then
      ((d.portSlices p).find? fun e => fld e.2 14 9 == s && fld e.2 16 15 == 1 && !d.slice.contained.contains e.1).map (·.1)
    else none
  | _ => none

/-- Enter a trapped request in the trap queue and raise TRAP. -/
def Dev.trapEnter (d : Dev) (t : Tlp) (ing s k : Nat) : Dev :=
  let id := ((List.range 64).find? fun n => !(d.slice.traps.any fun x => x.id == n)).getD 0
  let wr := t.kind == .cfgWr
  let e : Trap := { id := id, write := wr, slice := k, stable := s, fbe := t.fbe, rid := t.rid, tag := t.tag, target := t.tgt
                    reg := t.reg, data := if wr then word (numOf t.data) else 0, ingress := ing, read := false, since := d.now }
  (({ d with slice := { d.slice with traps := d.slice.traps ++ [e] } }).bump R.SLC_CNT_TRAP 0 (some s)).raise 0x5c8

/-- A configuration request is trapped, or waits while the trap queue is full; TO = 0 ends it with UR at once. -/
def Dev.trap (d : Dev) (t : Tlp) (ing s k : Nat) : Dev :=
  if d.rf R.SLC_TRAP_CFG 0 31 16 = 0 then
    (((d.bump R.SLC_CNT_TRAP 0 (some s)).raise 0x5c8).completeStatus t (some s) ing 130 .mgmt 1).raise 0x5c9
  else if d.slice.traps.length < 64 then d.trapEnter t ing s k
  else { d with slice := { d.slice with trapWait := d.slice.trapWait ++ [(t, ing, s, k)] } }

/-- A trap entry has been freed: the first request that waits takes it. -/
def Dev.trapNext (d : Dev) : Dev :=
  match d.slice.trapWait with
  | [] => d
  | (t, ing, s, k) :: l =>
    if d.slice.traps.length < 64 then
      let d := { d with slice := { d.slice with trapWait := l } }
      (if d.isFabric ing then d else d.creditBack ing t).trap t ing s k
    else d

/-- Stage 5 for a TLP of a stable: both evaluations, each from its own tables, and what they decide. `s` and `s'` are the
stables that the primary and the check tables give it. -/
def Dev.stage5 (d : Dev) (s s' : Option Nat) (it : Item) (gen : Option Nat) : Dev :=
  let g (e : Eval) : Eval := match gen with
    | some n => { e with gen := n }
    | none => e
  let e := g (d.evaluate s it.ingress it.tlp it.priv it.dom)
  let c := g (d.chkView.evaluate s' it.ingress it.tlp it.priv it.dom)
  let it := { it with prim := e, chk := c }
  match s, e.dest with
  | _, .loc => d
  | some s, .mcast n => d.mcSpread s n it
  | some s, x =>
    match d.trapSlice s it.tlp x with
    | some k => d.trap it.tlp it.ingress s k
    | none =>
      let d := if e.redir then d.bump R.RTE_STB_CNT_REDIR s (some s) else d
      d.addItem it
  | none, _ => d.addItem it

/-- The item of a TLP received on a physical port. -/
def Dev.itemOf (d : Dev) (p : Nat) (t : Tlp) (s slice key : Option Nat) : Item :=
  let e := mkEval s (.err 0) t.addr
  { mkItem t p .ext e e with
    priv := match s with
      | some s => d.privOf p s t
      | none => false
    slice := slice, key := key, dom := if isReq t then d.domOfReq p slice t else none }

/-- Stage 5 for a TLP without a context of its own, received on a physical port. -/
def Dev.plain5 (d : Dev) (p : Nat) (t : Tlp) : Dev :=
  let (sl, s) := d.srcOf p t
  d.stage5 s (d.chkView.srcOf p t).2 (d.itemOf p t s sl none) none

/-- A refused request: it waits for cells and is removed at stage 8 (R272, R513), under the generation that it took at stage 3. -/
def Dev.refuseReq (d : Dev) (k : Parked) (reason : Nat) : Dev :=
  let (sl, s) := d.srcOf k.port k.tlp
  let it := d.itemOf k.port k.tlp (if reason = 5 then none else s) sl none
  let e := { it.prim with gen := k.gen }
  d.addItem { it with prim := e, chk := e, dom := k.dom, refuse := some reason }

/-! ### Completions (R282) and messages (R210, R392, R408) -/

/-- A completion says that the partner has received its request, and every TLP sent before it: they leave the replay buffer. DEDUCED: log
entry 54. -/
def Dev.ackByCpl (d : Dev) (p : Nat) (t : Tlp) : Dev :=
  let rep := d.path.replay.getD p []
  let after := rep.dropWhile fun e => !(tcls e.tlp == 1 && e.tlp.rid == t.rid && e.tlp.tag == t.tag)
  if after.isEmpty then d else { d with path := { d.path with replay := Tbl.put d.path.replay p [] (after.drop 1) } }

/-- The way of a completion that the ledger matches (R282, R215): to the ingress port of its request, or, from a downstream port with P2P
Completion Redirect to another one of the same stable, upstream (R212). -/
def Dev.ledgerDest (d : Dev) (p : Nat) (l : Led) (t : Tlp) : Dest :=
  match l.stable with
  | some s =>
    if d.cplRedirect s p t && (d.slotOf s l.ingress).isSome && l.ingress != p then d.upDest s else d.cplDest l.stable l.ingress t
  | none => d.cplDest none l.ingress t

/-- The ledger entry that a completion received on a port matches (R282). One received over the fabric matches that of a request which left
over the fabric, whichever link carried either. DEDUCED: log entry 100. -/
def Dev.ledgerOf (d : Dev) (p : Nat) (t : Tlp) : Option Led :=
  d.slice.ledger.find? fun l => (l.egress == p || (d.isFabric l.egress && d.isFabric p)) && l.rid == t.rid && l.tag == t.tag

/-- A completion takes its bytes from its ledger entry, or frees it; the result tells whether it goes on to its requester (R282). -/
def Dev.ledgerTake (d : Dev) (l : Led) (t : Tlp) : Dev × Bool :=
  let left := l.bytes - t.data.length
  let d := d.setLedger (if t.status ≠ 0 ∨ left = 0 then d.slice.ledger.erase l
    else d.slice.ledger.map fun x => if x = l then { l with bytes := left, addr := l.addr + t.data.length } else x)
  let late := l.ghost || d.retired l.dom l.gen
  (if late then d.bump R.PRT4_LED_CNT_STALE else d, !(late && (l.ghost || !isChanDom l.dom)))

/-- A port's non-posted requests are tracked, so that a completion without an entry is unexpected. -/
def Dev.ledgerOn (d : Dev) (p : Nat) : Bool := d.rb R.PRT4_LED_CFG p 0 || d.ownMode p == 2

/-- A completion received on a port: matched by the ledger, or routed by its requester ID. -/
def Dev.cplIn (d : Dev) (p : Nat) (t : Tlp) : Dev :=
  let d := d.ackByCpl p t
  match d.ledgerOf p t with
  | some l =>
    let (d, on) := d.ledgerTake l t
    if !on then d
    else
      d.addItem { d.itemOf p t l.stable l.slice none with
        prim := mkEval l.stable (d.ledgerDest p l t) t.addr, chk := mkEval l.stable (d.chkView.ledgerDest p l t) t.addr }
  | none => if d.ledgerOn p then d.unexpected p t else d.plain5 p t

/-- INTx wires of a port: code 0x20 + i asserts wire i, 0x24 + i deasserts it (R408). -/
def Dev.intxMsg (d : Dev) (p code : Nat) : Dev :=
  let w := d.path.intx.getD p 0
  let i := code % 4
  let rest := ofBits ((bitsOf 4 w).filter (· != i))
  { d with path := { d.path with intx := Tbl.put d.path.intx p 0 (if code < 0x24 then rest + 2 ^ i else rest) } }

/-- A message received on a port. Those of routing types 4 and 5 are consumed by the port engine; ERR_ messages go to the
owner, or, from a SHARED port, to the fabric manager only, and may trigger the host's DPC. DEDUCED: log entry 48. -/
def Dev.msgIn (d : Dev) (p : Nat) (t : Tlp) : Dev :=
  if t.rtype = 4 then
    if 0x20 ≤ t.code ∧ t.code < 0x28 ∧ d.isDown p ∧ d.ownMode p = 1 then d.intxMsg p t.code else d
  else if t.rtype = 5 then
    match d.owner p with
    | some s => if t.code = 0x1b ∧ d.isDown p then d.pmeGot s p else d
    | none => d
  else if d.ownMode p = 2 ∧ (t.code = 0x30 ∨ t.code = 0x31 ∨ t.code = 0x33) then d.emit (.msg 0 t.code [p])
  else if t.code = 0x31 ∨ t.code = 0x33 then
    match d.owner p with
    | some s =>
      let n := d.saf.dpc.length
      let d := match d.fnOfPort s p with
        | some fn => if 8 ≤ fn then d.dpcHost s fn (t.code == 0x33) (if t.code = 0x33 then 5 else 3) else d
        | none => d
      if n < d.saf.dpc.length then d else d.plain5 p t
    | none => d.plain5 p t
  else d.plain5 p t

/-! ### Stage 4 (R363, R364) -/

/-- SCH_LAST of an event of SCH, and its raise. -/
def Dev.schEvent (d : Dev) (e port stable tc shaper : Nat) : Dev :=
  (d.wn R.SCH_SCH_LAST 0 (port % 256 + 256 * (stable % 64) + 16384 * (tc % 8) + 131072 * (shaper % 1024) + 134217728 * e)).raise (0x740 + e)

/-- The charge of a request, in 1/125 byte. -/
def polCharge (t : Tlp) : Nat :=
  match t.kind with
  | .memWr | .atomic => 125 * t.data.length
  | .memRd | .memRdLk => 500 * dwLen t
  | _ => 0

/-- A policer after the refills up to an instant. -/
def Dev.polRefill (d : Dev) (c : Ctx) (t : Nat) : Ctx :=
  let n := (t - c.lastRefill) / 64
  { c with tokens := min (c.tokens + (fld (d.pairVal R.SCH_PP_RATE (0x2000 + c.polProfile)) 20 0 * n : Nat)) (d.polCap c.polProfile : Int)
           lastRefill := c.lastRefill + 64 * n }

/-- The policer of a context is in use. -/
def Dev.polOn (d : Dev) (c : Ctx) : Bool := c.polEn && d.rb R.SCH_PP_CFG (0x2000 + c.polProfile) 0

/-- The policer of a key holds its requests now. -/
def Dev.polHolds (d : Dev) (key : Nat) : Bool :=
  match d.onDie key with
  | some c => d.polOn c && !d.rb R.SCH_PP_CFG (0x2000 + c.polProfile) 1 && decide ((d.polRefill c d.now).tokens ≤ 0)
  | none => false

/-- Charge a request that passes stage 4 to its context; a COUNT profile lets a request over its rate pass and counts it. -/
def Dev.charge (d : Dev) (k : Parked) : Dev :=
  match d.onDie k.key with
  | none => d
  | some c0 =>
    let on := d.polOn c0
    let c := if on then d.polRefill c0 d.now else c0
    let dry := on && decide (c.tokens ≤ 0)
    let floor : Int := -(d.polCap c.polProfile : Int)
    let tok : Int := if on then (let x := c.tokens - (polCharge k.tlp : Nat)
                                 if dry then max x floor else x) else c.tokens
    let d := d.updCtx k.key fun _ => { c with
      tokens := tok, cntOver := c.cntOver + b2n (dry && !k.held), holdNs := c.holdNs + (if k.held then d.now - k.since else 0)
      cntTlp := c.cntTlp + 1, cntBytes := c.cntBytes + k.tlp.data.length }
    if dry ∧ ¬k.held then
      (d.bump R.SCH_PP_CNT_OVER (0x2000 + c.polProfile) (some c.stable)).schEvent 2 k.port c.stable k.tlp.tc 0
    else d

/-! ### The miss queue (R267–R269) -/

def Dev.rmMiss (d : Dev) (i : Nat) : Dev := d.setStall { d.stall with miss := d.stall.miss.eraseIdx i }
def Dev.setMiss (d : Dev) (i : Nat) (k : Parked) : Dev := d.setStall { d.stall with miss := d.stall.miss.set i k }

/-- An entry for a port: from its reserve (false), a shared one (true), or none. -/
def Dev.mqGrant (d : Dev) (p : Nat) : Option Bool :=
  let inQ := d.stall.miss.filter fun k => !k.noEntry
  let mine := inQ.filter fun k => k.port == p
  let ports := (List.range 8).map fun n => 8 * (p / 8) + n
  let rsvAll := sumOf (fun q => d.rf R.STL_STL_PORT_CFG q 6 3) ports
  if (mine.filter fun k => !k.shared).length < d.rf R.STL_STL_PORT_CFG p 6 3 then some false
  else if (mine.filter fun k => k.shared).length < d.rf R.STL_STL_PORT_CFG p 15 8 ∧
      (inQ.filter fun k => k.shared && k.port / 8 == p / 8).length < 256 - rsvAll then some true
  else none

/-- Move entry i into the miss queue, or leave it at the head of its class; MISS_WAIT when its port begins to wait. -/
def Dev.mqEnter (d : Dev) (i : Nat) (k : Parked) (held : Bool) : Dev :=
  match d.mqGrant k.port with
  | some sh =>
    let d := d.setMiss i { k with noEntry := false, waits := false, shared := sh, held := held, since := if held then d.now else k.since }
    (d.bump R.STL_CNT_PARK k.port)
  | none =>
    if k.waits then d
    else
      let began := !(d.stall.miss.any fun j => j.waits && j.port == k.port)
      let d := d.setMiss i { k with waits := true, ready := false }
      if began then d.raise 0x5c4 else d

/-- Count a request that a policer begins to hold. -/
def Dev.holdBegins (d : Dev) (k : Parked) : Dev :=
  match d.onDie k.key with
  | none => d
  | some c =>
    let first := !(d.stall.miss.any fun j => j.held && j.key == k.key && j != k)
    let d := d.updCtx k.key fun c => { d.polRefill c d.now with cntOver := c.cntOver + 1 }
    let d := (d.bump R.SCH_STB_CNT_HOLD (0x100 + c.stable) (some c.stable)).bump R.SCH_PP_CNT_OVER (0x2000 + c.polProfile) (some c.stable)
    if first then d.schEvent 1 k.port c.stable k.tlp.tc 0 else d

/-- A request whose context serves it passes stage 4 and enters stage 5 (R12), or is held, refused or purged. The result
tells whether entry i has left. -/
def Dev.proceed (d : Dev) (i : Nat) (k : Parked) : Dev × Bool :=
  let (sl, s) := d.srcOf k.port k.tlp
  let cont := match sl with
    | some n => d.slice.contained.contains n
    | none => false
  if d.retired k.dom k.gen then (d.rmMiss i, true)
  else if d.ownMode k.port = 2 ∧ s.isNone then ((d.rmMiss i).refuseReq k 5, true)
  else if cont then ((d.rmMiss i).refuseReq k 6, true)
  else if !k.held && d.polHolds k.key then
    if !k.noEntry then
      let k' := { k with held := true, ready := false, since := d.now }
      ((d.setMiss i k').holdBegins k', false)
    else
      let d := d.mqEnter i k true
      match d.stall.miss[i]? with
      | some k' => (if k'.held then d.holdBegins k' else d, false)
      | none => (d, false)
  else
    let d := d.charge k
    let it := { d.itemOf k.port k.tlp s sl (some k.key) with dom := k.dom }
    let it := match d.onDie k.key with
      | some c => { it with track := c.track, logged := if c.logged then some c.dlog else none }
      | none => it
    ((d.rmMiss i).stage5 s (d.chkView.srcOf k.port k.tlp).2 it (some k.gen), true)

/-- Stage 3 for a request at the ingress buffer that nothing blocks: a hit, a miss that parks, or a refusal (R261, R267). -/
def Dev.lookup (d : Dev) (i : Nat) (k : Parked) : Dev × Bool :=
  let (sl, s) := d.srcOf k.port k.tlp
  let cont := match sl with
    | some n => d.slice.contained.contains n
    | none => false
  if d.ownMode k.port = 2 ∧ s.isNone then ((d.rmMiss i).refuseReq k 5, true)
  else if cont then ((d.rmMiss i).refuseReq k 6, true)
  else
    let d := d.recall k.key
    let hit (d : Dev) : Dev × Bool :=
      let set := stallSet k.key
      let d := match d.wayOf k.key with
        | some w => (d.updCtx k.key fun c => { c with lastUse := d.now }).touchWay set w
        | none => d
      d.proceed i k
    if (d.onDie k.key).isSome then hit d
    else if d.inBuffer k.key then ((d.rmMiss i).refuseReq k 1, true)
    else
      match d.absent k.key (d.ctxAuto k.key) with
      | (d, some r) => (((d.bump R.STL_CNT_MISS 0 s).rmMiss i).refuseReq k r, true)
      | (d, none) =>
        if !d.loftOn then hit ((d.bump R.STL_CNT_MISS 0 s).updCtx k.key fun c => { c with cntMiss := c.cntMiss + 1 })
        else
          let d := d.mqEnter i k false
          match d.stall.miss[i]? with
          | some k' => (if k'.noEntry then d else (d.bump R.STL_CNT_MISS 0 s).startFetch k.key .request, false)
          | none => (d, false)

/-- Move entry i if nothing blocks it. A request whose key's context is on die follows the key's parked requests without a miss of its own
(R267). `rel` is the key whose parked requests a context arrival releases. -/
def Dev.tryMove (d : Dev) (rel : Option Nat) (i : Nat) (k : Parked) : Dev × Bool :=
  let before := d.stall.miss.take i
  let same := before.any fun j => isReq j.tlp && j.key == k.key
  if k.held then (d, false)
  else if k.ready then
    if same then (d, false)
    else match k.refuse with
      | some r => (if d.retired k.dom k.gen then d.rmMiss i else (d.rmMiss i).refuseReq k r, true)
      | none => if rel = some k.key then d.proceed i k else (d, false)
  else if !k.noEntry then (d, false)
  else if (before.any fun j => j.noEntry && j.port == k.port && tcls j.tlp == tcls k.tlp) ||
      (tcls k.tlp == 1 && d.slice.trapWait.any fun w => w.2.1 == k.port) then (d, false)
  else if k.tlp.kind = .cpl then
    if !k.tlp.ro && before.any fun j => j.port == k.port && !j.noEntry && tcls j.tlp == 0 then (d, false)
    else ((d.rmMiss i).cplIn k.port k.tlp, true)
  else if !isReq k.tlp then ((d.rmMiss i).msgIn k.port k.tlp, true)
  else if d.rb R.STL_STL_PORT_CFG k.port 2 && before.any fun j => j.port == k.port && isReq j.tlp then (d, false)
  else if same then
    if before.any fun j => isReq j.tlp && j.key == k.key && j.noEntry then (d, false)
    else
      let here := (d.onDie k.key).isSome
      let d' := d.mqEnter i { k with ready := here } false
      match d'.stall.miss[i]? with
      | some k' => (if k'.noEntry ∨ here then d' else d'.bump R.STL_CNT_MISS 0 (d.srcOf k.port k.tlp).2, false)
      | none => (d', false)
  else d.lookup i k

/-- A TLP has left the ingress buffer between two devices without entering stage 6 or waiting for a trap entry: its credits return at
once (R179). -/
def Dev.consumed (d d' : Dev) (k : Parked) : Bool :=
  !(d'.path.items.any fun j => decide (d.path.nextId ≤ j.id) && j.src == .ext && !j.own && j.ingress == k.port) &&
  decide (d'.slice.trapWait.length ≤ d.slice.trapWait.length)

/-- One pass over the entries from place i on, in arrival order. -/
def Dev.pumpFrom (rel : Option Nat) : Nat → Nat → Dev → Dev
  | 0, _, d => d
  | f + 1, i, d =>
    match d.stall.miss[i]? with
    | none => d
    | some k =>
      let (d', gone) := d.tryMove rel i k
      let d' := if gone && d.consumed d' k then d'.creditBack k.port k.tlp else d'
      Dev.pumpFrom rel f (if gone then i else i + 1) d'

/-- Move every entry that can move. A second pass serves those that waited for an entry that the first one freed; an
invalidation waits for the parked requests of its key (R288). -/
def Dev.pump (d : Dev) (rel : Option Nat) : Dev :=
  if d.stall.miss.isEmpty then d
  else
    let n := d.stall.miss.length
    (Dev.pumpFrom rel n 0 (Dev.pumpFrom rel n 0 d)).runInvalidations

/-- The state after a command whose own effect gives a device: requests that can leave the miss queues do, the loft issues what it may, faults
and taints that the command has noted take their reactions, channels go on, and the outputs follow. -/
def State.settled (s : State) (d : Dev) : State := s.pinned (((d.pump none).loftPump.after).injWatch s.dev)

/-- The next state whose device a command's own effect gives, settled. Almost every command is such an effect. -/
def State.eff (s : State) (f : Dev → Dev) : Host.Outcome State Fault Refusal := .next (s.settled (f s.dev))

/-! ### Reception -/

/-- The link of a PCIe or CXL port carries TLPs: L0 or L0p. -/
def Dev.linkLive (d : Dev) (p : Nat) : Bool :=
  decide (p < 128) && !d.isFabric p && d.dlUp p && (d.lstate p == 4 || d.lstate p == 6) && !d.quiesced p

/-- A port takes no TLP from its partner: fenced, contained or unassigned (R191 step 7, R230). DEDUCED: log entry 46. -/
def Dev.discards (d : Dev) (p : Nat) : Bool := d.fenced p || d.portContained p || d.ownMode p == 0

/-- A Vendor_Defined Type 1 message that the port engine takes: one that names a cycle mark, or one that terminates there (R68). DEDUCED:
log entry 87. -/
def isCycleVdm (t : Tlp) : Bool := t.kind == .msg && t.code == 0x7f && (t.rtype == 4 || t.vdw % 256 == 0xc1)

/-- A PTM ResponseD: it gives the requester of an upstream port the master time. PRESUMED: log entry 69. -/
def isPtmTime (t : Tlp) : Bool := t.kind == .msg && t.code == 0x53 && t.rtype == 4 && !t.data.isEmpty

/-- Stages 1 and 2 for a TLP, and the queue of stage 3. -/
def Dev.receive (d : Dev) (p : Nat) (t : Tlp) : Dev :=
  let d := { d with pwr := { d.pwr with lastRx := d.now } }
  if d.discards p then (d.bump R.PRT6_PD_CNT_FENCE p).creditBack p t
  else if isCycleVdm t then (d.cycleVdm p t d.now).creditBack p t
  else if isPtmTime t && d.isUp p then (d.setPst p { d.pst p with ptm := true }).creditBack p t
  else
    let (sl, s) := d.srcOf p t
    let d := if t.ep then (d.bump R.PRT2_CNT_POISON p).aerIn s p 12 t else d
    let e : Parked :=
      { tlp := t, port := p, key := d.ctxKey p t, since := d.now, held := false, noEntry := true, waits := false, shared := false
        refuse := none, gen := d.genOf (d.domOfReq p sl t), dom := d.domOfReq p sl t, ready := false }
    (d.setStall { d.stall with miss := d.stall.miss ++ [e] }).pump none

/-- TLP_RECEIVE (R11): a TLP arrives on a PCIe or CXL port whose link carries TLPs; one that fails its IDE integrity check
is reported and dropped (R392). DEDUCED: log entry 46. -/
def execTlpReceive (port : Nat) (t : Tlp) (ideBad : Bool) (s : State) : Host.Outcome State Fault Refusal := s.eff fun d =>
  if !d.linkLive port || isMem t then d
  else if ideBad then ((d.bump R.PRT3_IDE_CNT_FAIL port).aerPort port 28 (some t)).creditBack port t
  else d.receive port t

/-- CYCLE_MARK_VDM (R68): a port engine accepts the last flit of a Vendor_Defined Type 1 message at an instant. -/
def execCycleMarkVdm (port : Nat) (t : Tlp) (time : Nat) (s : State) : Host.Outcome State Fault Refusal := s.eff fun d =>
  if !d.linkLive port || d.discards port || !isCycleVdm t then d
  else { d with pwr := { d.pwr with lastRx := max d.now time } }.cycleVdm port t time |>.creditBack port t

/-- UNLOCK (R323): the Unlock message of a locked sequence arrives from an upstream port; it is also a broadcast. -/
def execUnlock (port rid : Nat) (s : State) : Host.Outcome State Fault Refusal := s.eff fun d =>
  if d.linkLive port && d.isUp port then
    d.receive port { Tlp.blank with fmtType := 0x33, rtype := 3, code := 0, rid := rid }
  else d

/-- A key has parked requests that no fetch is to serve, and its context is no longer on die: it has been evicted since. -/
def Dev.stranded (d : Dev) (key : Nat) : Bool :=
  (d.onDie key).isNone && d.stall.miss.any fun k => k.key == key && !k.noEntry && isReq k.tlp && (k.held || (k.ready && k.refuse.isNone))

/-- CONTEXT_ARRIVAL (R267): a context has arrived; its parked requests leave in arrival order. Where it has been evicted again, they are looked
up again. -/
def execContextArrival (key : Nat) (s : State) : Host.Outcome State Fault Refusal := s.eff fun d =>
  if (d.onDie key).isSome then d.pump (some key) else if d.stranded key then d.lookAgain key else d

/-- POLICER_RELEASE (R363, R364): the refill that makes the policer of a held request positive releases it. -/
def execPolicerRelease (key : Nat) (s : State) : Host.Outcome State Fault Refusal := s.eff fun d =>
  match d.stall.miss.findIdx? fun k => k.held && k.key == key, d.onDie key with
  | some i, some c =>
    let rate := fld (d.pairVal R.SCH_PP_RATE (0x2000 + c.polProfile)) 20 0
    let need := (1 - c.tokens).toNat
    let d := if d.polHolds key && rate != 0 && d.polCap c.polProfile != 0 then d.advanceTo (c.lastRefill + 64 * cdiv need rate) else d
    (match d.stall.miss[i]? with
     | some k => if d.polHolds key then d else (d.proceed i k).1.pump (some key)
     | none => d)
  | some _, none => if d.stranded key then d.lookAgain key else d
  | _, _ => d

end Sys2Proof.Machine
end

