-- ==== Sys2Proof/Machine/Egress.lean ====
section
/-! DEFINITION. Stages 6, 8 and 9 (R13, R14, R168–R190, R243–R247, R278, R281, R370–R373, R381, R405, R513): grants, mirroring,
verification, removal, and transmission to links, fabric links and internal ports. -/

namespace Sys2Proof.Machine

/-! ### Mirroring (R188–R190) -/

/-- The first n bytes of a list, zero-filled. -/
def padTo (n : Nat) (l : List Byte) : List Byte := (l ++ List.replicate n 0).take n

/-- A sample of a TLP at a port (R189). -/
def Dev.mkSample (d : Dev) (p : Nat) (egress host : Bool) (i : Item) : Sample :=
  { port := p, egress := egress, host := host, stable := i.stb, time := d.now, payload := i.tlp.data.length
    trunc := decide (64 < i.tlp.data.length) || decide (48 < (hdrBytes i.tlp).length), pos := (d.posWord (i.stb.getD 0)).toNat
    fmtType := i.tlp.fmtType, addr := i.tlp.addr, hd := hdrBytes i.tlp, data := i.tlp.data.take 64 }

/-- The 128-byte record of a sample. -/
def sampleBytes (x : Sample) : List Byte :=
  bytesOf 8 x.time ++ bytesOf 2 (x.port % 256 + 256 * b2n x.egress + 512 * b2n x.trunc + 1024 * (x.stable.getD 0 % 64)) ++
  bytesOf 2 x.payload ++ bytesOf 4 x.pos ++ padTo 48 x.hd ++ padTo 64 x.data

/-- A sampler takes a TLP: its record goes to the ring or queue of its destination, or it is skipped. -/
def Dev.takeSample (d : Dev) (p : Nat) (egress host : Bool) (i : Item) : Dev :=
  let skip (d : Dev) : Dev := (d.bump R.SWC_MIR_CNT_SKIP p i.stb).raise 0x483
  let took (d : Dev) : Dev := d.bump R.SWC_MIR_CNT_SAMP p i.stb
  let x := d.mkSample p egress host i
  if d.mirrorCells ≤ d.mirUsed then skip d
  else if !host then
    let size := d.rf R.SWC_MIR_RING_SIZE 0 15 0
    let prod := d.rf R.SWC_MIR_RING_PROD 0 15 0
    let next := if prod + 1 < size then prod + 1 else 0
    if size = 0 ∨ next = d.rf R.SWC_MIR_RING_CONS 0 15 0 then skip d
    else
      let at0 := (d.rd R.SWC_MIR_RING_BASE 0).toNat / 128 * 128 + 128 * prod
      took ({ d with path := { d.path with ring := d.path.ring.insert at0 x } }.wn R.SWC_MIR_RING_PROD 0 next)
  else
    match i.stb with
    | none => skip d
    | some s =>
      let k := 0x200 + s
      let size := d.rf R.SWC_CAPQ_SIZE k 15 0
      let prod := d.rf R.SWC_CAPQ_PROD k 15 0
      let next := if prod + 1 < size then prod + 1 else 0
      match d.upDest s with
      | .err _ => skip d
      | _ =>
        if size = 0 ∨ next = d.rf R.SWC_CAPQ_CONS k 15 0 then skip d
        else
          let base := d.rf R.SWC_CAPQ_BASE_LO k 31 7 * 128 + 4294967296 * d.rn R.SWC_CAPQ_BASE_HI k
          let t := mkWrite (base + 128 * prod) (256 * fld (d.cfg s 0 6) 7 0) 0 (sampleBytes x)
          took ((d.issue s 130 (.capture s) t true none).wn R.SWC_CAPQ_PROD k next)

/-- A sampler sees a TLP: it takes every RATIO-th. -/
def Dev.sampler (d : Dev) (p : Nat) (egress : Bool) (i : Item) : Dev :=
  let w := d.rd (if egress then R.SWC_MIR_EGR else R.SWC_MIR_ING) p
  let n := fld w 15 0
  if n = 0 then d
  else
    let k := 2 * p + b2n egress
    let c := d.path.mirCnt.getD k 0 + 1
    let d := { d with path := { d.path with mirCnt := Tbl.put d.path.mirCnt k 0 (if n ≤ c then 0 else c) } }
    if n ≤ c then d.takeSample p egress (bit w 16) i else d

/-! ### Faults of one TLP (R380, R381) -/

/-- The table entries that an evaluation of a TLP uses: structure and index (R376). -/
def Dev.usedBy (d : Dev) (i : Item) : List (Nat × Nat) :=
  match i.stb with
  | none => []
  | some s =>
    let t := i.tlp
    let win := if isAddr t then ((d.winHit s (tlo t)).map fun n => (1, n)).toList else []
    let rule (x : Nat) : List (Nat × Nat) := ((d.ruleAt s x i.ingress t.rid none).map fun n => (0, n)).toList
    let xr := match i.prim.xing with
      | some n => (2, n) :: ((d.ruleAt (i.prim.tagStb.getD s) i.prim.xaddr i.ingress t.rid (some n)).map fun r => (0, r)).toList
      | none => []
    win ++ rule (tlo t) ++ rule (thi t) ++ xr ++ (if i.ingress < 128 then [(3, i.ingress)] else []) ++
    (match i.slice with
     | some k => [(4, k)]
     | none => [])

/-- A TLP-scope fault of a class at an egress port, found before the first flit; the caller has removed the TLP. -/
def Dev.tlpFault (d : Dev) (i : Item) (p cls : Nat) : Dev :=
  let d := if cls = 4 then
      let d := d.bump R.SAF_CNT_DISAGREE
      let used := (d.usedBy i ++ d.chkView.usedBy i).eraseDups
      { d with saf := { d.saf with disq := d.saf.disq ++ [⟨i.stb, p, used, d.now⟩] } }
    else if cls = 2 ∨ cls = 3 ∨ cls = 5 then d.bump R.SAF_CNT_UE else d
  let d := match i.stb with
    | some s => d.bump R.SAF_STB_CNT_TLPF s (some s)
    | none => d
  let port := if i.ingress < 128 then i.ingress else p
  let d := d.fault cls i.stb (some port) i.slice (d.unitRef (.port p)) 0
  d.internalErr i.stb.toList

/-- An injected fault that waits for the next TLP to a port (R396): the class with which stage 8 finds it. -/
def Dev.injected (d : Dev) (p : Nat) : Nat × Dev :=
  match d.saf.inj with
  | some x =>
    if x.port = p ∧ 1 ≤ x.kind ∧ x.kind ≤ 3 then
      (if x.kind = 1 then 4 else if x.kind = 2 then 6 else 7, { d with saf := { d.saf with inj := none } })
    else (0, d)
  | none => (0, d)

/-! ### Removal at stage 8 -/

/-- Remove a TLP, or its copy for a destination, under a fault or a containment: `cause` as R387 gives it. -/
def Dev.cutOff (d : Dev) (i : Item) (x : Dest) (p cause reason : Nat) : Dev :=
  if i.copies.isEmpty then d.removeFault i p cause else d.discardCopy i.id x reason (some cause)

/-- Remove a denied TLP, or its copy for a destination (R243, R186, R392). -/
def Dev.denied8 (d : Dev) (i : Item) (x : Dest) (p : Nat) (v : Verdict) : Dev :=
  match v with
  | .ok => d
  | .deny r ty c a xed =>
    if i.copies.isEmpty then d.removeDenied i r ty a c xed
    else ((d.logDenial c i.ingress r ty a i.priv xed i.slice i.tlp).aerIn i.stb p 23 i.tlp).discardCopy i.id x 3 none

/-- A TLP that enters no queue is removed at stage 8 (R513): refused, without a stable, or with an error as its route. -/
def Dev.stage8Direct (d : Dev) (i : Item) : Dev :=
  match i.refuse with
  | some r => d.removeRefused i r
  | none =>
    if d.retired i.dom i.prim.gen then d.removePurged i
    else if i.prim ≠ i.chk then (d.removeFault i 130 5).tlpFault i 130 4
    else if i.transit.isSome then d.removeRoute i 7
    else match i.stb, i.prim.dest with
      | none, _ => (match i.prim.verdict with
          | .ok => d.removeDenied i 7 0 (tlo i.tlp) none false
          | v => d.denied8 i i.prim.dest 130 v)
      | some _, .err r => d.removeRoute i r
      | some _, _ => d.removeRoute i 7

/-! ### Containment seen by stage 8 (R276, R381) -/

/-- A slice or stable containment in force removes a TLP: refused as of a contained slice, or removed as at TLP scope. A
completion that the switch makes for the requester (R283, R381) still reaches it; of P130 nothing else leaves while it is contained. DEDUCED:
log entry 103. -/
def Dev.containedTlp (d : Dev) (i : Item) (p : Nat) : Option Bool :=
  let stb := (match i.stb with
    | some s => d.stbContained s
    | none => false) || (match i.prim.tagStb with
    | some s => d.stbContained s
    | none => false)
  let own := match i.slice with
    | some k => d.slice.contained.contains k
    | none => false
  let towards := decide (p < 128) && d.ownMode p == 2 && (match i.prim.tagStb with
    | some s =>
      let sl := (d.portSlices p).filter fun e => fld e.2 14 9 == s
      !sl.isEmpty && sl.all fun e => d.slice.contained.contains e.1
    | none => false)
  if i.own then none
  else if i.ingress = 130 ∧ d.portContained 130 then some false
  else if stb && !(i.prim.dest == .func && (i.tlp.kind == .cfgRd || i.tlp.kind == .cfgWr || isAddr i.tlp)) then some false
  else if own then some (isReq i.tlp)
  else if towards then some false
  else none

/-! ### Cut-through (R14, R169–R171) -/

/-- The speed of a port in Mb/s. -/
def Dev.speed (d : Dev) (p : Nat) : Nat :=
  if 128 ≤ p then 1024 * d.coreMHz
  else if d.isFabric p then 128000 * d.repWidth p
  else 100 * rate10 (d.curRate p) * d.repWidth p

/-- A TLP is sent on a link at a port: a unicast TLP, or a copy. -/
def Dev.busyAt (d : Dev) (p : Nat) : Bool :=
  d.path.items.any fun i =>
    (i.copies.isEmpty && i.stage == .sending && (match i.link with
      | some lp => lp == p
      | none => d.egressOf i == some p)) ||
    i.copies.any fun c => c.port == p && c.st == .sending

/-- A TLP is forwarded cut-through to a port. -/
def Dev.cutsThrough (d : Dev) (p : Nat) (i : Item) : Bool :=
  !d.isFabric p && i.copies.isEmpty && i.stage == .queued && d.rb R.SWC_SWC_CTRL 0 0 && d.rb R.SWC_PORT_SW_CFG p 0 &&
  (d.queueOf p).length == 1 && decide (d.speed p ≤ d.speed i.ingress)

/-! ### Packets (R147–R154, R164) -/

/-- Send a TLP over the link of a bundle to which it has been bound. PRESUMED: log entry 28. -/
def Dev.sendPacket (d : Dev) (b lp : Nat) (off : Bool) (i : Item) (e : Eval) (t : Tlp) : Dev :=
  let k := d.bucket i
  let x := d.bnd b
  let spray := off && t.ro && d.rb R.MKL_BND_CFG b 0
  let wait := if spray then 0 else if off then x.sentMain.getD k 0 else x.sentOff.getD k 0
  let pk : Packet :=
    { seq := 0, cls := tcls t, slots := pktSlots t, ro := t.ro, ido := t.ido, off := off, poison := t.ep, ctl := false
      dst := (destPort e.dest).1, src := d.me, dstPort := (destPort e.dest).2, srcPort := i.ingress
      stable := match e.tagStb with
        | some s => d.ystable s
        | none => 0
      hops := 0, epoch := i.epoch.toNat % 2, gen := e.gen, wait := wait, ccrc := carriageCrc t, tlp := t, priv := i.priv, msg := [] }
  let pk := match i.transit, i.pkt with
    | some _, some q => { pk with dst := q.dst, src := q.src, dstPort := q.dstPort, srcPort := q.srcPort, stable := q.stable
                                  hops := if q.src = d.me then 0 else q.hops + 1, epoch := q.epoch, gen := q.gen, priv := q.priv }
    | _, _ => pk
  let x := if off then { x with sentOff := Tbl.put x.sentOff k 0 ((x.sentOff.getD k 0 + 1) % 8388608) }
    else { x with sentMain := Tbl.put x.sentMain k 0 ((x.sentMain.getD k 0 + 1) % 8388608) }
  (d.setBnd b x).pktPut lp pk i.stb i.ingress i.src

/-! ### Transmission -/

/-- What happens at the first flit of a TLP, once: the egress sampler sees it, a crossing that carries it counts it, a logged write is
recorded, a status write is reported (R188, R227, R284, R342). -/
def Dev.firstFlit (d : Dev) (p : Nat) (i : Item) : Dev :=
  if i.stage = .resend then d
  else
    let d := match i.prim.xing, i.stb with
      | some _, some s => d.bump R.RTE_STB_CNT_XING s (some s)
      | _, _ => d
    ((d.sampler p true i).dirtyLog i).chStatusOut i

/-- The TLP as it leaves on a link: the translated address of a crossing, the LD of an MLD port, the type of a
configuration request to the bus next to the port. -/
def Dev.onWire (d : Dev) (p : Nat) (i : Item) (e : Eval) (poison : Bool) : Tlp :=
  let t := { i.tlp with addr := if e.xing.isSome then e.xaddr else i.tlp.addr, ep := i.tlp.ep || poison }
  let t := if isMem t ∨ !d.isMld p ∨ 128 ≤ p then t else { t with ld := e.tagStb.bind fun s => d.boundLd p s }
  match e.stable with
  | some s =>
    if (t.kind = .cfgRd ∨ t.kind = .cfgWr) ∧ p < 128 then
      match d.slotOf s p with
      | some k => if t.tgt / 256 = d.secBus s (8 + k) then { t with fmtType := t.fmtType / 2 * 2 } else t
      | none => t
    else t
  | none => t

/-- Give the first copy that the predicate selects a state. -/
def Item.setCopy (i : Item) (sel : Copy → Bool) (st : CopySt) : Item :=
  { i with copies := updFirst sel (fun c => { c with st := st }) i.copies }

/-- The port whose link carries a TLP selected at an egress port: on a bundle, that of the link it is bound to. -/
def Dev.linkFor (d : Dev) (p : Nat) (i : Item) : Nat :=
  if !d.isFabric p then p
  else match d.bundleOf p with
    | some b => ((d.pathOf b i).2).getD p
    | none => p

/-- Send the first flit of a TLP, or of its copy for a port, that stage 8 has passed; an internal port takes it whole. -/
def Dev.transmit (d : Dev) (p : Nat) (i : Item) (e : Eval) (poison : Bool) : Dev :=
  let cut := d.cutsThrough p i
  let lp := d.linkFor p i
  let d := d.bump (if cut then R.SWC_CNT_CT else R.SWC_CNT_SAF) lp i.stb
  let t := d.onWire p i e poison
  if 128 ≤ p then
    let j := { i with tlp := { i.tlp with ep := t.ep } }
    let d := (d.rmItem i.id).poolChanged
    ({ d with path := { d.path with inbox := d.path.inbox ++ [{ j with prim := e }] } }).firstFlit p i
  else if d.isFabric p then
    match d.bundleOf p with
    | none => d
    | some b =>
      match d.pathOf b i with
      | (off, some lp) =>
        let d := (d.sendPacket b lp off i e t).firstFlit lp i
        if i.copies.isEmpty then
          d.updItem i.id fun i => { i with stage := .sending, tlp := { i.tlp with ep := t.ep }, link := some lp, gateClose := none }
        else
          let d := d.updItem i.id fun j => j.setCopy (fun c => c.port == p && c.st == .queued && c.prim == e) .sent
          (match d.item i.id with
           | some j => if j.copies.all fun c => c.st == .sent || c.st == .discarded then d.dropItem j else d
           | none => d)
      | (_, none) => d
  else
    let d := (d.emit (.link p t)).firstFlit p i
    if i.copies.isEmpty then
      d.updItem i.id fun i => { i with stage := .sending, cut := cut, gateClose := none, tlp := { i.tlp with ep := t.ep } }
    else
      d.updItem i.id fun j => { j.setCopy (fun c => c.port == p && c.st == .queued) .sending with gateClose := none }

/-! ### Verification at stage 8 (R13, R245, R370) -/

/-- Poisoned TLP Egress Blocking of the function of an egress port (R381). -/
def Dev.poisonBlocked (d : Dev) (s : Option Nat) (p : Nat) : Bool :=
  match s with
  | some s => (match d.slotOf s p with
      | some k => bit (d.cfg s (8 + k) 97) 21
      | none => false)
  | none => false

/-- A configuration write of a stable that is not the configuration owner of a SHARED port (R405). -/
def Dev.foreignCfg (d : Dev) (i : Item) (p : Nat) : Bool :=
  i.tlp.kind == .cfgWr && decide (p < 128) && d.ownMode p == 2 && (match i.stb with
    | some s =>
      let w := d.rd R.PRT5_SHR_CFG p
      (d.portSlices p).any (fun e => fld e.2 14 9 == s && fld e.2 16 15 == 0 && !d.slice.contained.contains e.1) &&
      !(bit w 0 && fld w 6 1 == s)
    | none => false)

/-- The membership of an egress port, for TLPs that carry a stable tag. -/
def Dev.tagOk (d : Dev) (i : Item) (e : Eval) (p : Nat) : Bool :=
  match i.src, i.transit, e.tagStb with
  | .m2s _, _, _ | .loft _, _, _ | _, some _, _ | _, _, none => true
  | _, _, some s => d.member s p

/-- The last checks of a TLP at stage 8, and its transmission: poison, ECRC at a crossing, foreign configuration writes. -/
def Dev.stage8End (d : Dev) (p : Nat) (i : Item) (e : Eval) (poison : Bool) : Dev :=
  if (i.tlp.ep || poison) && !isMem i.tlp && d.poisonBlocked e.tagStb p then (d.aerIn e.tagStb p 26 i.tlp).cutOff i e.dest p 5 4
  else if e.xing.isSome ∧ i.tlp.digestBad then ((d.aerIn i.stb i.ingress 19 i.tlp).cutOff i e.dest p 5 4).tlpFault i p 6
  else if d.foreignCfg i p then
    ((((d.freeLedger i).dropItem i).bump R.PRT5_SHR_CNT_CFGW p i.stb).completeStatus i.tlp i.stb i.ingress i.ingress i.src 0)
  else d.transmit p i e poison

/-- Stage 8 for a TLP that no fault and no containment removes: its verdict, the re-check under a new epoch, and the membership of its port. -/
def Dev.stage8Pass (d : Dev) (p : Nat) (i : Item) (e c : Eval) (poison : Bool) : Dev :=
  match e.verdict with
  | .deny r ty s a x => d.denied8 i e.dest p (.deny r ty s a x)
  | .ok =>
    if i.epoch ≠ d.staging.epoch ∧ i.transit.isNone then
      let d := d.bump R.ISO_RECHECK_CNT
      let v := d.recheck i.ingress i.tlp i.priv e p
      if v ≠ d.chkView.recheck i.ingress i.tlp i.priv c p then (d.cutOff i e.dest p 5 4).tlpFault i p 4
      else match v with
      | .ok => d.stage8End p i e poison
      | .deny r ty s a x =>
        if (match i.src with | .m2s _ => r == 6 | _ => false) then d.stage8End p i e poison
        else (d.bump R.ISO_REVOKE_CNT).denied8 i e.dest p (.deny r ty s a x)
    else if !d.tagOk i e p || !i.cellsOk then (d.cutOff i e.dest p 5 4).tlpFault i p 7
    else d.stage8End p i e poison

/-- Stage 8 under the containments in force (R381, R383). -/
def Dev.stage8Held (d : Dev) (p : Nat) (i : Item) (e : Eval) (pass : Dev → Dev) : Dev :=
  match d.containedTlp i p with
  | some true => d.removeRefused i 6
  | some false => d.cutOff i e.dest p 4 2
  | none => pass d

/-- Stage 8 for a TLP, or its copy with evaluations e and c, selected at a port: `flt` is the class of a fault that the
hardware finds in its cells, tag, carriage code or tables, 0 for none. -/
def Dev.stage8 (d : Dev) (p : Nat) (i : Item) (e c : Eval) (flt : Nat) : Dev :=
  if i.stage = .resend then d.transmit p i e false
  else if d.retired i.dom e.gen then
    (if i.copies.isEmpty then d.removePurged i else d.discardCopy i.id e.dest 2 none)
  else if e ≠ c ∧ i.transit.isNone then (d.cutOff i e.dest p 5 4).tlpFault i p 4
  else if 3 ≤ flt ∧ flt ≤ 7 then (d.cutOff i e.dest p 5 4).tlpFault i p flt
  else if i.hchk ≠ headerCheck i.tlp ∨ ((128 ≤ p ∨ d.isFabric p) ∧ i.ccrc ≠ carriageCrc i.tlp) then (d.cutOff i e.dest p 5 4).tlpFault i p 6
  else d.stage8Held p i e fun d =>
    if flt = 2 then
      let d := d.tlpFault i p 2
      if (d.item i.id).isNone then d else d.stage8Held p i e fun d => d.stage8Pass p i e c true
    else d.stage8Pass p i e c false

/-! ### Stage 6 (R176–R180, R281) -/

/-- The cells of a copy's port are open: the copy is queued, or discarded with the reason (R185). -/
def Dev.queueCopies (d : Dev) (id : Nat) : Dev :=
  match d.item id with
  | none => d
  | some i =>
    i.copies.foldl (fun d c =>
      if d.portOpen c.port ∧ c.port ≠ 131 then
        d.updItem id fun j => { j with copies := j.copies.map fun x =>
          if x.prim.dest = c.prim.dest ∧ x.st = .pending then { x with st := .queued } else x }
      else d.discardCopy id c.prim.dest (if d.fenced c.port then 2 else 1) (match c.prim.verdict with
        | .ok => some (if d.fenced c.port then 4 else 1)
        | _ => none)) d

/-- A TLP has its cells: it is queued, or passes to stage 8 at once (R191 step 5, R513). -/
def Dev.stored (d : Dev) (id : Nat) : Dev :=
  match d.item id with
  | none => d
  | some i =>
    let d := d.sampler i.ingress false i
    match i.prim.dest with
    | .mcast g =>
      let d := if g < 64 then d.bump R.SWC_MC_CNT_TLP (0x100 + g) i.stb else d
      let d := (d.updItem id fun j => { j with stage := .queued }).queueCopies id
      i.copies.foldl (fun d c => d.schedHead c.port i.flow) d
    | _ =>
      match (if i.refuse.isSome ∨ (i.stb.isNone ∧ i.transit.isNone ∧ i.tlp.kind ≠ .cpl ∧ i.src = .ext) then none else d.egressOf i) with
      | none => (d.updItem id fun j => { j with stage := .direct }).stage8Direct { i with stage := .direct }
      | some p =>
        let q := { i with stage := Stage.queued }
        let d := d.updItem id fun j => { j with stage := .queued }
        if d.portOpen p then d.schedHead p i.flow
        else match i.prim.verdict with
          | .ok => d.removeDown q p (if d.fenced p then 4 else 1) (decide (p < 128) && d.isUp p)
          | v => d.denied8 q q.prim.dest p v

/-- The item that must be granted first among those of its ingress port and class (R176). -/
def Dev.firstWaiting (d : Dev) (i : Item) : Bool :=
  !(d.path.items.any fun j => j.stage == .store && decide (j.id < i.id) && j.ingress == i.ingress && tcls j.tlp == tcls i.tlp)

/-- An item begins to wait: the port withholds credits of the class (R179). -/
def Dev.beginWait (d : Dev) (i : Item) : Dev :=
  if i.waited then d
  else
    let k := tcls i.tlp
    let began := !d.waiting i.ingress k
    let d := d.updItem i.id fun j => { j with waited := true }
    if began then (d.wn R.SHD_LAST_WAIT 0 (i.ingress % 256 + 256 * k)).raise 0x481 else d

/-- One attempt to grant an item its ledger entry and its cells. -/
def Dev.tryGrant (d : Dev) (i : Item) : Dev :=
  let led := d.tracked i && i.refuse.isNone
  let full := decide (32768 ≤ d.slice.ledger.length) || (match i.key with
    | some k => (match d.ctxOf k with
        | some c => c.npMax != 0 && decide (c.npMax ≤ d.npOut k)
        | none => false)
    | none => false)
  if led && full then
    let d := if i.waited then d else (d.bump R.PRT4_LED_CNT_WAIT 0 i.stb).raise 0x5c5
    d.beginWait i
  else
    match d.grantFor i.ingress i.stb (tcls i.tlp) (tcells i.tlp) with
    | none =>
      let d := if i.refused then d else
        (d.bump R.SHD_CNT_SH_REFUSE i.ingress i.stb).updItem i.id fun j => { j with refused := true }
      d.beginWait i
    | some sh =>
      let d := if sh ∨ i.refused then d else d.bump R.SHD_CNT_SH_REFUSE i.ingress i.stb
      let d := if sh then d else d.bump R.SHD_CNT_RSV_GRANT i.ingress i.stb
      let d := (if led then d.takeLedger i else d).rxFreed i
      let n := d.path.nextStored
      let nums := d.takeCells (tcells i.tlp)
      let cs := mkCells nums i.prim.tagStb i.epoch i.prim.gen
      let d := d.updItem i.id fun j => { j with shared := sh, cells := cs, waited := false, stored := n }
      let d := { d with path := { d.path with nextStored := n + 1, nextBank := (nums.getLast?.getD 63 + 1) % 64 } }
      ((d.poolChanged).peak i.stb).stored i.id

/-- SHED_GRANT (R176): a TLP at stage 6 is tried; it is granted its cells and its ledger entry, or waits. -/
def execShedGrant (id : Nat) (s : State) : Host.Outcome State Fault Refusal := s.eff fun d =>
  match d.item id with
  | some i => if i.stage = .store ∧ d.firstWaiting i ∧ !d.failsafe then d.tryGrant i else d
  | none => d

/-! ### Stage 7 and 8 -/

/-- At a selection, a TLP that only the fit rule holds back (R360). -/
def Dev.countMisfit (d : Dev) (p : Nat) : Dev :=
  let q := d.queueOf p
  let open' := { d with sched := { d.sched with close := [] } }
  if q.any fun i => !d.fits p i.flow i && (open'.blockedBy p q i).isNone then d.bump R.SCH_CNT_FIT_WAIT p else d

/-- An uncorrectable word that stage 8 reads for a TLP (R374): of its own state, of its context, or of one copy of a table
entry that its evaluation uses; 0 where there is none. -/
def Dev.hiddenFault (d : Dev) (i : Item) : Nat × Dev :=
  let mine (e : Nat × Nat) : Bool := e.1 == i.id || i.key.any fun k => e.1 == 2 ^ 60 + k
  match d.saf.ue.find? mine with
  | some e => (e.2, { d with saf := { d.saf with ue := d.saf.ue.erase e } })
  | none => if (d.usedBy i).any fun e => d.saf.bad.any fun b => b.1 == e.1 && b.2.1 == e.2 then (5, d) else (0, d)

/-- Select the next TLP of an egress port and carry it through stage 8 (R352, R13). DEDUCED: log entry 56. -/
def Dev.egress (d : Dev) (p flt : Nat) : Dev :=
  match d.select p with
  | none => if d.busyAt p then d else d.countMisfit p
  | some i =>
    if d.busyAt (d.linkFor p i) then d
    else
      let d := (d.countMisfit p).selected p i
      let (inj, d) := d.injected p
      let (ue, d) := d.hiddenFault i
      let f := if inj ≠ 0 then inj else if ue ≠ 0 then ue else flt
      let (e, c) := match i.copies.find? fun x => x.port == p && x.st == .queued with
        | some x => (x.prim, x.chk)
        | none => (i.prim, i.chk)
      (d.stage8 p i e c f).schedHead p i.flow

/-! ### Stage 9 -/

/-- The TLP, or copy, being sent on a link. -/
def Dev.sendingItem (d : Dev) (p : Nat) : Option Item :=
  d.path.items.find? fun i =>
    if i.copies.isEmpty then i.stage == .sending && (match i.link with
      | some lp => lp == p
      | none => d.egressOf i == some p)
    else i.copies.any fun c => c.port == p && c.st == .sending

/-- A payload carriage error after the first flit (R373). -/
def Dev.nullify (d : Dev) (p : Nat) (i : Item) : Dev :=
  let e := (match i.copies.find? fun c => c.port == p && c.st == .sending with
    | some c => c.prim
    | none => i.prim)
  if isMem i.tlp then ((d.emit (.engine p 12 [i.tlp.tag])).dropItem i).fault 6 i.stb (some (if i.ingress < 128 then i.ingress else p)) i.slice (d.unitRef (.port p)) 0
  else
    let d := (d.emit (.nullified p i.tlp)).bump R.PRT2_CNT_NULL p i.stb
    (d.cutOff i e.dest p 6 4).tlpFault i p 6

/-- TRANSMIT_COMPLETE (R177): the last cell of the TLP on a link is read at device time t and its carriage code verified;
`acked` of the oldest transmitted TLPs have been acknowledged by the partner since. DEDUCED: log entry 48. -/
def execTransmitComplete (port t : Nat) (bad : Bool) (acked : Nat) (s : State) : Host.Outcome State Fault Refusal := s.eff fun d =>
  match d.sendingItem port with
  | none => d
  | some i =>
    let d := d.advanceTo t
    let late := match i.gateClose with
      | some c => decide (c < d.now)
      | none => false
    let e := ((d.bundleOf port).bind d.bundleLead).getD port
    let d := if late then (d.bump R.SCH_CNT_OVERRUN e i.schedStb).schEvent 0 e (i.schedStb.getD 0) i.tlp.tc 0 else d
    let rep := ((d.path.replay.getD port []).drop acked)
    let d := { d with path := { d.path with replay := Tbl.put d.path.replay port [] rep } }
    if (bad ∨ i.ccrc ≠ carriageCrc i.tlp) ∧ !d.isFabric port then d.nullify port i
    else
      let sent : Sent := ⟨i.tlp, i.stb, i.ingress, i.src, !i.copies.isEmpty⟩
      let d := if d.isFabric port then d else
        { d with path := { d.path with replay := Tbl.put d.path.replay port [] (rep ++ [sent]) } }
      if i.copies.isEmpty then d.dropItem i
      else
        let d := d.updItem i.id fun j => { j with copies := j.copies.map fun c =>
          if c.port = port ∧ c.st = .sending then { c with st := .sent } else c }
        match d.item i.id with
        | some j => if j.copies.all fun c => c.st == .sent || c.st == .discarded then d.dropItem j else d
        | none => d

/-- CT_UNDERRUN (R172): the next cell of a cut-through TLP is missing; it ends as nullified and is sent again whole. -/
def execCtUnderrun (port : Nat) (s : State) : Host.Outcome State Fault Refusal := s.eff fun d =>
  match d.sendingItem port with
  | some i =>
    if i.cut then
      let d := (d.emit (.nullified port i.tlp)).updItem i.id fun i => { i with stage := .resend, cut := false }
      (((d.bump R.SWC_CT_UNDERRUN port i.stb).raise 0x487)).schedHead port i.flow
    else d
  | none => d

end Sys2Proof.Machine
end

