-- ==== Sys2Proof/Machine/DmaOps.lean ====
section
/-! DEFINITION. The commands of the DMA channels (R335–R347): doorbells, ring size, control, fetches, descriptors and reports. -/

namespace Sys2Proof.Machine

/-! ### Registers -/

/-- A write of CH_TAIL (R335). -/
def Dev.chTail (d : Dev) (c v : Nat) : Dev :=
  let v := v % 65536
  if d.chSize c ≤ v then (d.wf R.DMA_CH_STATUS c 5 5 1).raise (0x6c1 + 2 * c)
  else ((d.wr R.DMA_CH_TAIL c (word v)).chPace c false).chRun c

/-- A write of CH_RING_SIZE: made on a stopped channel only; the indices become 0 and marks are discarded (R335, R347). -/
def Dev.chRingSize (d : Dev) (c v : Nat) : Dev :=
  if d.chState c ≠ 0 then d
  else
    let d := (((d.wr R.DMA_CH_RING_SIZE c (word (v % 65536))).wr R.DMA_CH_HEAD c 0).wr R.DMA_CH_DONE c 0).wr R.DMA_CH_TAIL c 0
    let d := d.chDropFetch c
    d.setChan c { d.chan c with marks := [] }

/-- START is heard: the channel is in service, no advance is held, and the owner's control function is bus master. -/
def Dev.chCanStart (d : Dev) (c : Nat) : Bool :=
  d.rb R.DMA_CH_OWN c 0 && !d.chPend c && d.cmdBit (d.chStb c) 1 2 && !d.failsafe && (d.chState c == 0 || d.chState c == 3)

/-- START (R345, R347): marks are written back in ring order, then the channel is IDLE or RUN. -/
def Dev.chStart (d : Dev) (c : Nat) : Dev :=
  if !d.chCanStart c then d
  else
    let marks := (d.chan c).marks
    let d := d.setChan c { d.chan c with marks := [] }
    let d := marks.foldl (fun d x => d.chReport c x) d
    ((d.setChState c 1).chPace c false).chRun c

/-- STOP (R345). -/
def Dev.chStop (d : Dev) (c : Nat) : Dev :=
  if d.chState c = 0 then d else (d.wf R.DMA_CH_CTRL c 1 1 1).chStopped c

/-- ABORT (R347). -/
def Dev.chAbort (d : Dev) (c : Nat) : Dev := d.advanceDom (domChan c)

/-- KICK (R346). -/
def Dev.chKick (d : Dev) (c : Nat) : Dev := (d.chPace c true).chRun c

/-- CH_TAIL_WRITE (R335). -/
def execChTailWrite (a : Acc) (data : Word) (s : State) : Host.Outcome State Fault Refusal := s.eff fun d =>
  d.guardW a R.DMA_CH_TAIL fun c d => d.chTail c data.toNat

/-- CH_RING_SIZE_WRITE (R335). -/
def execChRingSizeWrite (a : Acc) (data : Word) (s : State) : Host.Outcome State Fault Refusal := s.eff fun d =>
  d.guardW a R.DMA_CH_RING_SIZE fun c d => d.chRingSize c data.toNat

/-- CH_START (R345): a write of CH_CTRL.START. -/
def execChStart (a : Acc) (s : State) : Host.Outcome State Fault Refusal := s.eff fun d =>
  d.guardW a R.DMA_CH_CTRL fun c d => d.chStart c

/-- CH_STOP (R345): a write of CH_CTRL.STOP. -/
def execChStop (a : Acc) (s : State) : Host.Outcome State Fault Refusal := s.eff fun d =>
  d.guardW a R.DMA_CH_CTRL fun c d => d.chStop c

/-- CH_ABORT (R347): a write of CH_CTRL.ABORT. -/
def execChAbort (a : Acc) (s : State) : Host.Outcome State Fault Refusal := s.eff fun d =>
  d.guardW a R.DMA_CH_CTRL fun c d => d.chAbort c

/-- KICK (R346): a write of CH_CTRL.KICK. -/
def execKick (a : Acc) (s : State) : Host.Outcome State Fault Refusal := s.eff fun d =>
  d.guardW a R.DMA_CH_CTRL fun c d => d.chKick c

/-- ARM (R346): a write of CH_CTRL.ARM. -/
def execArm (a : Acc) (s : State) : Host.Outcome State Fault Refusal := s.eff fun d =>
  d.guardW a R.DMA_CH_CTRL fun c d => d.chArm c true

/-- DISARM (R346): a write of CH_CTRL.DISARM. -/
def execDisarm (a : Acc) (s : State) : Host.Outcome State Fault Refusal := s.eff fun d =>
  d.guardW a R.DMA_CH_CTRL fun c d => d.chArm c false

/-! ### Completions at P128 -/

/-- The descriptors that a fetch delivers, from index h on. -/
def descsOf : Nat → Nat → List Byte → List DDesc
  | 0, _, _ => []
  | n + 1, h, b =>
    let f (i k : Nat) : Nat := numOf ((b.drop i).take k)
    let x : DDesc := { idx := h, w0 := f 0 4, w1 := f 4 4, src := f 8 8, dst := f 16 8, code := 0, rdNext := 0, wrNext := 0
                       wrBytes := 0, reads := [] }
    { x with code := x.check } :: descsOf n (h + 1) (b.drop 32)

def Dev.freeDmaTag (d : Dev) (tag : Nat) : Dev := d.setTags (d.dma.tags.erase tag)

/-- A completion has ended its request. -/
def endsRequest (t : Tlp) : Bool := t.status != 0 || t.lastCpl

/-- A completion of a descriptor fetch (R344). -/
def Dev.fetchCpl (d : Dev) (g : DTag) (t : Tlp) : Dev :=
  if t.status ≠ 0 ∨ t.ep then (d.freeDmaTag t.tag).chReadFail t.tag g
  else
    let x := d.chan g.ch
    match x.fetch with
    | some (tag, h, n, got) =>
      let got := got ++ t.data
      if tag ≠ t.tag then (if endsRequest t then d.freeDmaTag t.tag else d)
      else if endsRequest t ∨ 32 * n ≤ got.length then
        ((d.freeDmaTag tag).setChan g.ch { x with fetch := none, fetched := descsOf n h got }).chRun g.ch
      else d.setChan g.ch { x with fetch := some (tag, h, n, got) }
    | none => if endsRequest t then d.freeDmaTag t.tag else d

/-- The bytes that a read asks for, out of the DWs that its completions return. -/
def readBytes (a len : Nat) (got : List Byte) : List Byte := (got.drop (a % 4)).take len

/-- A completion of a data read (R343). -/
def Dev.readCpl (d : Dev) (g : DTag) (t : Tlp) : Dev :=
  if t.status ≠ 0 then (d.freeDmaTag t.tag).chReadFail t.tag g
  else
    let x := d.chan g.ch
    let upd (y : DDesc) : DDesc := { y with reads := y.reads.map fun r =>
      if r.tag = t.tag ∧ r.st = 0 then
        let got := r.got ++ t.data
        if t.lastCpl then { r with got := readBytes (y.src + r.off) r.len got, ep := r.ep || t.ep, st := 1 }
        else { r with got := got, ep := r.ep || t.ep }
      else r }
    let d := d.setChan g.ch { x with live := x.live.map upd }
    if t.lastCpl then (d.freeDmaTag t.tag).chRun g.ch else d

/-- A completion that P128 takes up: of no use to its channel where its tag is unknown, timed out, of an old generation or
forgotten (R347, R390); else of a fetch or of a read. -/
def Dev.dmaCpl (d : Dev) (i : Item) : Dev :=
  let t := i.tlp
  let d := { d with path := { d.path with inbox := d.path.inbox.erase i } }
  match d.dma.tags.find t.tag with
  | none => d.unexpected i.ingress t
  | some g =>
    if g.rid ≠ t.rid then d.unexpected i.ingress t
    else
      let done (d : Dev) : Dev := if endsRequest t then d.freeDmaTag t.tag else d
      if g.timedOut then d.bump R.SAF_CNT_CTO
      else if d.retired (some (domChan g.ch)) g.gen then done (d.bump R.DMA_CH_CNT_STALE g.ch (d.chOwner g.ch))
      else if g.orphan then done d
      else if g.fetch then d.fetchCpl g t
      else d.readCpl g t

/-- The oldest completion handed to P128 for a channel: for its fetches, or for its reads and tags of no channel. -/
def Dev.dmaInbox (d : Dev) (c : Nat) (fetch : Bool) : Option Item :=
  d.path.inbox.find? fun i => i.tlp.kind == .cpl && d.egressOf i == some 128 &&
    (match d.dma.tags.find i.tlp.tag with
     | some g => g.ch == c && g.fetch == fetch
     | none => !fetch)

/-- DESCRIPTOR_FETCH_DONE (R335, R344): a completion of a fetch of the channel has reached P128. -/
def execDescriptorFetchDone (ch : Nat) (s : State) : Host.Outcome State Fault Refusal := s.eff fun d =>
  match d.dmaInbox ch true with
  | some i => d.dmaCpl i
  | none => d

/-- DMA_READ_COMPLETION (R343, R347): a completion of a read of the channel has reached P128. -/
def execDmaReadCompletion (ch : Nat) (s : State) : Host.Outcome State Fault Refusal := s.eff fun d =>
  match d.dmaInbox ch false with
  | some i => d.dmaCpl i
  | none => d

/-! ### Descriptors -/

/-- The next descriptor of a channel may begin: the channel runs, is not stopping, and fences are met (R337, R338, R345). -/
def Dev.mayBegin (d : Dev) (c : Nat) (x : DDesc) : Bool :=
  d.chState c == 2 && !d.chStopping c && !d.failsafe && decide (d.pwr.entry = 0) &&
  (!x.fence || (d.chan c).live.all fun y => d.descDone c y) &&
  !((d.chan c).live.any fun y => y.fence && y.op != 2 && y.len == 0)

/-- The next descriptor begins, where its operation is one that the predicate takes. -/
def Dev.begin (d : Dev) (c : Nat) (ops : Nat → Bool) : Dev :=
  let ch := d.chan c
  match ch.fetched with
  | [] => d
  | x :: rest =>
    if ops x.op && d.mayBegin c x then
      let n := d.chSize c
      let d := d.setChan c { ch with fetched := rest, live := ch.live ++ [x] }
      ((d.wf R.DMA_CH_HEAD c 15 0 (if x.idx + 1 < n then x.idx + 1 else 0)).chPace c false).chRun c
    else d

/-- COPY (R338): the channel's next descriptor begins, a COPY, or one with a reserved operation, which issues nothing. -/
def execCopy (ch : Nat) (s : State) : Host.Outcome State Fault Refusal := s.eff fun d =>
  d.begin ch fun op => op == 0 || decide (2 < op)

/-- FILL (R338): the channel's next descriptor begins, a FILL. -/
def execFill (ch : Nat) (s : State) : Host.Outcome State Fault Refusal := s.eff fun d => d.begin ch fun op => op == 1

/-- FLUSH_READ (R338, R342): the channel's next descriptor begins, a FLUSH_READ. -/
def execFlushRead (ch : Nat) (s : State) : Host.Outcome State Fault Refusal := s.eff fun d => d.begin ch fun op => op == 2

/-- DESCRIPTOR_REPORT (R341): the oldest begun descriptor of the channel, if it is done, is reported. -/
def execDescriptorReport (ch : Nat) (s : State) : Host.Outcome State Fault Refusal := s.eff fun d =>
  match (d.chan ch).live with
  | [] => d
  | x :: rest =>
    if d.descDone ch x then
      let d := d.setChan ch { d.chan ch with live := rest }
      ((d.chReport ch x).chStopped ch).chRun ch
    else d

end Sys2Proof.Machine
end

