-- ==== Sys2Proof/Machine/Bridge.lean ====
section
/-! DEFINITION. The memory bridge (R312–R332): requests handed to P129, held lines, the answers of the memory devices,
locked sequences and the bridge's commands. -/

namespace Sys2Proof.Machine

/-- The oldest TLP handed to P129 and not yet taken up, with its window and offset. -/
def Dev.brgHead (d : Dev) : Option (Item × Nat × Nat) :=
  (d.path.inbox.find? fun i => match i.prim.dest with | .bridge _ _ => true | _ => false).bind fun i =>
    match i.prim.dest with
    | .bridge w off => some (i, w, off)
    | _ => none

/-- Take a TLP up from P129. -/
def Dev.brgTake (d : Dev) (i : Item) : Dev := { d with path := { d.path with inbox := d.path.inbox.erase i } }

/-- A request without an effect in the bridge: a zero-length one. -/
def zeroLen (t : Tlp) : Bool := t.len == 1 && t.fbe == 0 && t.lbe == 0

/-- The bytes that a write supplies within its range, by their place in the range: those whose byte enable is set. -/
def wrBytes (t : Tlp) : List (Nat × Byte) :=
  let n := 4 * dwLen t
  ((List.range n).zip t.data).filter fun (j, _) =>
    if j < 4 then t.fbe.testBit j else if n - 4 ≤ j then t.lbe.testBit (j - (n - 4)) else true

/-- The channel that a write belongs to. -/
def chanOf (i : Item) : Option Nat := match i.src with
  | .chan c _ => some c
  | _ => none

/-- A new held write of a window, without its lines. -/
def Dev.newWrite (d : Dev) (i : Item) (w base lines : Nat) : BWrite :=
  ⟨d.brg.next, w, d.rf R.BRG_WIN_CFG w 5 0, d.rb R.BRG_WIN_CFG w 6, { i with tlp := { i.tlp with data := [] } }, base, lines, chanOf i⟩

/-- A write fails at acceptance with a cause: all of it, and nothing is held. -/
def Dev.writeAtOnce (d : Dev) (i : Item) (w base cause : Nat) : Dev :=
  let x := d.newWrite i w base 0
  let d := (d.setBrg { d.brg with next := d.brg.next + 1 }).writeFail x cause (tlo i.tlp) (4 * dwLen i.tlp)
  d.setBrg { d.brg with failedW := d.brg.failedW.erase x.id }

/-- A part may merge into the line that holds its line number last: unissued, BUFFERED, of the same window, and no
semaphore or waiting atomic or locked read stands over it (log entry 40). -/
def Dev.mergeLine (d : Dev) (w line : Nat) (strict : Bool) : Option BLine :=
  let taken := (d.brg.sems.any fun e => overlaps (64 * line) 64 e.2.lo e.2.size) || d.brg.reqs.any fun r =>
    (r.kind == .atomic || r.kind == .lock) && (let g := d.granule r.win r.addr
      overlaps (64 * line) 64 g.1 g.2)
  match (d.brg.lines.filter fun l => l.addr == line).getLast? with
  | some l => if !l.issued ∧ !l.strict ∧ !strict ∧ l.win = w ∧ !taken then some l else none
  | none => none

/-- Enter one part of a write in the buffer: into a line that takes it, or in a line of its own, from the window's
reserve first and then from the shared lines (R325). -/
def Dev.addPart (d : Dev) (w line : Nat) (strict : Bool) (p : BPart) : Dev :=
  match d.mergeLine w line strict with
  | some l => d.setBrg { d.brg with lines := d.brg.lines.map fun x => if x.id = l.id then { x with parts := x.parts ++ [p] } else x }
  | none =>
    let shared := (d.winRoom w).1 == 0
    d.setBrg { d.brg with lines := d.brg.lines ++ [⟨d.brg.nextLine, line, w, strict, [p], false, shared, false⟩]
                          nextLine := d.brg.nextLine + 1 }

/-- Accept a write into the buffer, one line for each line that it touches. DEDUCED: log entry 40. -/
def Dev.brgHold (d : Dev) (i : Item) (w base : Nat) : Dev :=
  let t := i.tlp
  let n := 4 * dwLen t
  let bytes := wrBytes t
  let k := lineCount base n
  let x := d.newWrite i w base k
  let d := d.setBrg { d.brg with next := d.brg.next + 1, writes := d.brg.writes ++ [x] }
  (List.range k).foldl (fun d j =>
    let line := base / 64 + j
    let lo := max base (64 * line) - 64 * line
    let hi := min (base + n) (64 * line + 64) - 64 * line
    let mine := (bytes.filter fun b => (base + b.1) / 64 == line).map fun b => ((base + b.1) % 64, b.2)
    d.addPart w line x.strict ⟨x.id, mine, lo, hi, t.ep⟩) d

/-- A request of a retired generation that had not been taken up (R320). -/
def Dev.brgStale (d : Dev) (i : Item) (w base : Nat) : Dev :=
  if tcls i.tlp = 1 then (d.ledgerAnswer i 129).1
  else d.bumpBy R.BRG_WIN_CNT_PURGE w (lineCount base (4 * dwLen i.tlp)) (some (d.rf R.BRG_WIN_CFG w 5 0))

/-- Serve the oldest TLP handed to P129 if the predicate selects it: `f` its effect, with the window and the internal
address. A bridge in fail-safe serves nothing (R385). -/
def Dev.brgServe (d : Dev) (p : Tlp → Bool) (f : Dev → Item → Nat → Nat → Dev) : Dev :=
  match d.brgHead with
  | some (i, w, off) =>
    if d.failsafe ∨ !p i.tlp then d
    else
      let d := d.brgTake i
      let a := d.winBase w + off
      if d.retired i.dom i.prim.gen then d.brgStale i w a else f d i w a
  | none => d

/-- Complete a request at P129 with a status, without an entry. -/
def Dev.brgAnswer (d : Dev) (i : Item) (w status : Nat) : Dev :=
  let (d, ok) := d.ledgerAnswer i 129
  if ok then d.completeStatus i.tlp i.stb i.ingress 129 (.window w) status else d

/-- Enter a request, and carry the entries as far as they can go. -/
def Dev.brgEnter (d : Dev) (i : Item) (w a n : Nat) (kind : BKind) : Dev :=
  let r : BReq := ⟨d.brg.next, kind, w, i, a, n, 0, [], false, false, none⟩
  (d.setBrg { d.brg with next := d.brg.next + 1, reqs := d.brg.reqs ++ [r] }).brgPump

/-- BRIDGE_WRITE (R315, R317): the memory write at the head of P129 is accepted into the write buffer, discarded as
FENCED, or fails at once where its target is not UP; another posted request is discarded. -/
def execBridgeWrite (s : State) : Host.Outcome State Fault Refusal := s.eff fun d =>
  d.brgServe (fun t => tcls t != 1) fun d i w a =>
    if i.tlp.kind ≠ .memWr then d
    else if d.rb R.BRG_WIN_STATUS w 1 then d.writeAtOnce i w a 4
    else
      let d := d.bump R.BRG_WIN_CNT_WR w (some (d.rf R.BRG_WIN_CFG w 5 0))
      if d.winUp w then d.brgHold i w a else d.writeAtOnce i w a 1

/-- BRIDGE_READ (R315, R318): the memory read at the head of P129 is entered; it waits for older overlapping writes, and
is completed with CA where the target is not UP. Any other non-posted request without a row of its own gets UR. -/
def execBridgeRead (s : State) : Host.Outcome State Fault Refusal := s.eff fun d =>
  d.brgServe (fun t => tcls t == 1 && t.kind != .atomic && t.kind != .memRdLk && !(t.kind == .memRd && zeroLen t)) fun d i w a =>
    if i.tlp.kind = .memRd then d.brgEnter i w a (4 * dwLen i.tlp) .read else d.brgAnswer i w 1

/-- BRIDGE_FLUSH_READ (R315, R318): a zero-length read waits for every older write of its window. -/
def execBridgeFlushRead (s : State) : Host.Outcome State Fault Refusal := s.eff fun d =>
  d.brgServe (fun t => t.kind == .memRd && zeroLen t) fun d i w a => d.brgEnter i w a 4 .flush

/-- BRIDGE_ATOMICOP (R315, R322): UR with ATOM_EN = 0 or for an operation outside the table; CA where the window is fenced
or its target is not UP; otherwise executed under its granule semaphore. -/
def execBridgeAtomicop (s : State) : Host.Outcome State Fault Refusal := s.eff fun d =>
  d.brgServe (fun t => t.kind == .atomic) fun d i w a =>
    let n := atomSize i.tlp
    if !d.rb R.BRG_WIN_CFG w 9 ∨ n = 0 ∨ a % (max n 1) ≠ 0 then d.brgAnswer i w 1
    else if d.rb R.BRG_WIN_STATUS w 1 ∨ !d.winUp w then d.brgAnswer i w 4
    else d.brgEnter i w a n .atomic

/-- MRDLK (R315, R323, R324): UR with LOCK_EN = 0; otherwise the locked read takes the semaphore of its granule, beginning
the sequence of its upstream port where none is active. -/
def execMrdlk (s : State) : Host.Outcome State Fault Refusal := s.eff fun d =>
  d.brgServe (fun t => t.kind == .memRdLk) fun d i w a =>
    if !d.rb R.BRG_WIN_CFG w 10 then d.brgAnswer i w 1
    else
      let st := i.stb.getD 0
      let d := if (d.brg.seqs.find st).isNone ∧ d.winUp w then
          d.setBrg { d.brg with seqs := d.brg.seqs.insert st ⟨i.ingress, d.now, false⟩ }
        else d
      d.brgEnter i w a (4 * dwLen i.tlp) .lock

/-- The locked sequence of a write's stable, where the write is the holder's own. -/
def Dev.partBlocked (d : Dev) (l : BLine) (p : BPart) : Bool :=
  match d.bwrite p.wid with
  | some w =>
    let seq := d.seqOf w.item
    d.brg.sems.any fun e => decide (e.2.since < p.wid) && !e.2.mine none seq &&
      overlaps (64 * l.addr + p.lo) (p.hi - p.lo) e.2.lo e.2.size
  | none => false

/-- A line may be issued (R317): in order within its line number, and across a STRICT window; no semaphore of another
holder stands over a part; an M2S tag is free. -/
def Dev.lineFree (d : Dev) (l : BLine) : Bool :=
  !l.issued && d.m2sFree != 0 && !(l.parts.any (d.partBlocked l)) &&
    !((d.brg.lines.takeWhile fun x => x.id != l.id).any fun x => !x.issued &&
      (x.addr == l.addr || (l.strict && x.strict && x.win == l.win)))

/-- Re-check the parts of a line whose epoch is stale (R319): the device, and the parts that may still be issued. -/
def Dev.lineRecheck (d : Dev) (l : BLine) : Dev × List BPart :=
  l.parts.foldl (fun (d, keep) p => match d.bwrite p.wid with
    | none => (d, keep)
    | some w =>
      if w.item.epoch = d.staging.epoch then (d, keep ++ [p])
      else
        let d := d.bump R.ISO_RECHECK_CNT
        let v := d.recheck w.item.ingress w.item.tlp w.item.priv w.item.prim 129
        if v ≠ d.chkView.recheck w.item.ingress w.item.tlp w.item.priv w.item.chk 129 then
          ((d.logLoss 129 5 false w.item.ingress w.item.stb w.item.tlp).tlpFault w.item 129 4, keep)
        else match v with
          | .ok => (d, keep ++ [p])
          | .deny _ _ _ _ _ => ((d.bump R.ISO_REVOKE_CNT).partFail l p 5, keep)) (d, [])

/-- The bytes of a line's parts in acceptance order: its data and its mask. -/
def lineData (parts : List BPart) : List Byte × Nat :=
  parts.foldl (fun (dat, m) p => p.bytes.foldl (fun (dat, m) (b : Nat × Byte) =>
    (dat.set b.1 b.2, if m.testBit b.1 then m else m + 2 ^ b.1)) (dat, m)) (List.replicate 64 0, 0)

/-- Issue the parts of a line that may still go (R316, R327): TARGET_DOWN where the decoder is not UP, and with poison where
a write carries it or the buffer has lost the data. -/
def Dev.lineIssue (d : Dev) (l : BLine) (ecc : Bool) : Dev :=
  let up : Bool := match d.idecAt (64 * l.addr) with
    | some k => d.idecState k == 2
    | none => false
  if !up then (d.lineFail l 1).brgPump
  else
    let (d, keep) := d.lineRecheck l
    let gone := (l.parts.filter fun p => !keep.any fun q => q.wid == p.wid).map (·.wid)
    let l' := { l with parts := keep, issued := true, bad := ecc }
    if keep.isEmpty then (d.lineGone l).brgPump
    else
      let d := d.setBrg { d.brg with lines := d.brg.lines.map fun x => if x.id = l.id then l' else x }
      let d := d.partsGone gone
      let d := if ecc then
          let d := keep.foldl (fun d p => d.partFail l p 6) d
          match keep.head?.bind fun p => d.bwrite p.wid with
          | some w => d.tlpFault w.item 129 2
          | none => d
        else d
      let (dat, mask) := lineData keep
      d.brgIssue l.win l.addr true (.line l.id) dat (ecc || keep.any fun p => p.ep) mask

/-- LINE_ISSUE (R319): a held line that may go is issued; `ecc` tells that its data in the write buffer is
uncorrectable. -/
def execLineIssue (line : Nat) (ecc : Bool) (s : State) : Host.Outcome State Fault Refusal := s.eff fun d =>
  match d.brg.lines.find? fun l => l.id == line with
  | some l =>
    if d.failsafe ∨ !d.lineFree l then d
    else
      let mark := 2 ^ 62 + line
      let ue := d.saf.ue.any fun e => e.1 == mark
      ({ d with saf := { d.saf with ue := d.saf.ue.filter fun e => e.1 != mark } }).lineIssue l (ecc || ue)
  | none => d

/-- A request of the bridge that a device on a port can answer: transmitted and outstanding, under its tag. -/
def Dev.brgOut (d : Dev) (port tag : Nat) (write : Bool) : Option M2S :=
  if d.failsafe ∨ !d.linkLive port ∨ d.fenced port ∨ d.portContained port then none
  else d.cxp.m2s.find? fun e => e.why.own && e.port == port && e.tag == tag && e.write == write &&
    !(d.path.items.any fun i => i.src == .m2s e.id)

/-- A late answer of a device: discarded silently and counted (R390). -/
def Dev.brgLate (d : Dev) (port tag : Nat) : Dev :=
  if d.linkLive port && !d.fenced port && !d.portContained port && d.saf.tagsHeld.any fun e => e.1 == 4096 + tag then d.bump R.SAF_CNT_CTO else d

/-- NDR (R317, R322): a device answers a write of the bridge: the line leaves the buffer, or the atomic completes. -/
def execNdr (port tag : Nat) (s : State) : Host.Outcome State Fault Refusal := s.eff fun d =>
  match d.brgOut port tag true with
  | none => d.brgLate port tag
  | some e =>
    let d := d.rmM2s e.id
    match e.why with
    | .line l => d.lineNdr l
    | .atomWr r => (match d.brg.reqs.find? fun x => x.id == r with
        | some x => (d.reqDone x).brgPump
        | none => d)
    | _ => d

/-- DRS (R315): a device returns the data of a read of the bridge. -/
def execDrs (port tag : Nat) (data : List Byte) (poison : Bool) (s : State) : Host.Outcome State Fault Refusal := s.eff fun d =>
  match d.brgOut port tag false with
  | none => d.brgLate port tag
  | some e =>
    let d := d.rmM2s e.id
    match e.why with
    | .read r _ => d.reqGot r (e.addr / 64) (padTo 64 data) poison false
    | _ => d

/-- LOCK_TIMEOUT (R323): LOCK_TO µs after the first MRdLk of a stable's sequence. BRG_LAST names the window under which
its lowest semaphore was acquired. -/
def execLockTimeout (stable : Nat) (s : State) : Host.Outcome State Fault Refusal := s.eff fun d =>
  match d.brg.seqs.find stable with
  | some q =>
    if q.expired then d
    else
      let d := d.advanceTo (q.start + 1000 * d.rf R.BRG_BRG_CFG 0 15 0)
      let w := match d.brg.sems.find? fun e => e.2.entry.isNone && e.2.stable == stable with
        | some e => d.rf R.BRG_LK_STATE (0x100 + e.1) 15 8
        | none => 0
      let d := d.seqFree stable
      let d := d.setBrg { d.brg with seqs := d.brg.seqs.insert stable { q with expired := true } }
      let d := (d.wr R.BRG_BRG_LAST 0 (word (w + 256 * stable + 16384 * 8))).raise (0x680 + stable)
      d.brgPump
  | none => d

/-- UNTAINT of a window (R329). -/
def Dev.winUntaint (d : Dev) (w : Nat) : Dev := d.wf R.BRG_WIN_STATUS w 1 0 0

/-- FLUSH of a window (R314). -/
def Dev.winFlush (d : Dev) (w : Nat) : Dev :=
  ((d.setBrg { d.brg with flushAt := d.brg.flushAt.insert w d.brg.next }).wf R.BRG_WIN_CTRL w 1 1 1).brgPump

/-- CLEAR of the posted-error log (R330). -/
def Dev.pelClear (d : Dev) : Dev := d.setBrg { d.brg with pel := d.brg.pel.clear }

/-- WIN_UNTAINT (R329): a write of WIN_CTRL.UNTAINT. -/
def execWinUntaint (a : Acc) (s : State) : Host.Outcome State Fault Refusal := s.eff fun d =>
  d.guardW a R.BRG_WIN_CTRL fun w d => d.winUntaint w

/-- WIN_FLUSH (R314): a write of WIN_CTRL.FLUSH. -/
def execWinFlush (a : Acc) (s : State) : Host.Outcome State Fault Refusal := s.eff fun d =>
  d.guardW a R.BRG_WIN_CTRL fun w d => d.winFlush w

/-- PEL_CLEAR (R330): a write of PEL_CTRL.CLEAR. -/
def execPelClear (a : Acc) (s : State) : Host.Outcome State Fault Refusal := s.eff fun d =>
  d.guardW a R.BRG_PEL_CTRL fun _ d => d.pelClear

end Sys2Proof.Machine
end

