-- ==== Sys2Proof/Machine/Cxl.lean ====
section
/-! DEFINITION. CXL memory pooling (R292–R307): CXL.mem messages of hosts and devices, back-invalidate and CXL.cache
messages, internal decoders, device health and viral. -/

namespace Sys2Proof.Machine

/-! ### Host HDM decoders (R298, R299) -/

/-- Registers of decoder k of a vCS as the standard lays them out (log entry 7): base and size, control and target list.
Control: [3:0] Interleave Granularity over 256 B as its exponent, [7:4] Interleave Ways as its exponent, [8] Lock On Commit,
[9] Commit, [10] Committed, [11] Error Not Committed. -/
def hdmInst (s k : Nat) : Nat := 8 * s + k
def hdmBaseLo : Reg := ⟨0x1000, 0⟩
def hdmBaseHi : Reg := ⟨0x1000, 4⟩
def hdmSizeLo : Reg := ⟨0x1000, 8⟩
def hdmSizeHi : Reg := ⟨0x1000, 12⟩
def hdmAttr : Reg := ⟨0x1000, 16⟩
def hdmTgtLo : Reg := ⟨0x1000, 20⟩
def hdmTgtHi : Reg := ⟨0x1000, 24⟩

def Dev.hdmBase (d : Dev) (s k : Nat) : Nat := d.rd64 hdmBaseLo hdmBaseHi (hdmInst s k)
def Dev.hdmSize (d : Dev) (s k : Nat) : Nat := d.rd64 hdmSizeLo hdmSizeHi (hdmInst s k)
def Dev.hdmOn (d : Dev) (s k : Nat) : Bool := d.rb hdmAttr (hdmInst s k) 10
/-- Entry i of a decoder's target list: a vPPB ID. -/
def Dev.hdmTarget (d : Dev) (s k i : Nat) : Nat := d.rd64 hdmTgtLo hdmTgtHi (hdmInst s k) / 256 ^ i % 256

/-- The vPPB that a host address decodes to (R299). -/
def Dev.hdmDecode (d : Dev) (s hpa : Nat) : Option Nat :=
  ((List.range 8).find? fun k => d.hdmOn s k && decide (d.hdmBase s k ≤ hpa) && decide (hpa < d.hdmBase s k + d.hdmSize s k)).map fun k =>
    let ways := 2 ^ d.rf hdmAttr (hdmInst s k) 7 4
    let gran := 2 ^ (8 + d.rf hdmAttr (hdmInst s k) 3 0)
    d.hdmTarget s k (hpa / gran % ways)

/-- A downstream vPPB of a stable's vCS, by the port of its function (R295). -/
def Dev.isVppb (d : Dev) (s p : Nat) : Bool := (d.slots s).any fun e => e.2.1 == d.me && e.2.2 == p

/-- The port of a request that is no routing error: a bound vPPB whose port is up and neither fenced nor contained. -/
def Dev.hdmPort (d : Dev) (s hpa : Nat) : Option Nat :=
  (d.hdmDecode s hpa).filter fun p => d.isVppb s p && d.decodes s d.me p && d.dlUp p && !d.fenced p && !d.portContained p

/-- A routing error of a host's request (R299): counted, logged as MISS, reported, and answered in the device's place. PRESUMED: log entry
43. -/
def Dev.hdmMiss (d : Dev) (e : M2S) (s : Nat) (t : Tlp) : Dev :=
  let d := d.bump R.CXP_VCS_CNT_MISS s (some s)
  let d := { d with logs := { d.logs with route := d.logs.route.add 16 ⟨t.fmtType, e.ingress, s, 1, t.rid, t.len, t.addr, d.now⟩ } }
  let d := if e.write then d.bump R.CXP_VCS_CNT_WDROP s (some s) else d
  (d.cxpEvent 2 (e.port % 256) 0 0 [s]).answerLost e

/-- M2S_REQUEST (R294, R299): a CXL.mem request arrives on an upstream port: a read, or a write with its byte mask. -/
def execM2sRequest (port : Nat) (write : Bool) (hpa tag mask : Nat) (data : List Byte) (poison : Bool) (s : State) :
    Host.Outcome State Fault Refusal := s.eff fun d =>
  match d.owner port with
  | none => d
  | some st =>
    if d.failsafe ∨ !d.linkLive port ∨ !d.isCxl port ∨ !d.isUp port ∨ d.discards port then d
    else
      let hpa := hpa / 64 * 64
      let t : Tlp := { Tlp.blank with kind := if write then .m2sWr else .m2sRd, addr := hpa, len := 16, tag := tag, ep := poison
                                      reg := if write then mask else 0, data := if write then padTo 64 data else [] }
      let e : M2S := ⟨d.cxp.nextId, tag, d.hdmDecode st hpa |>.getD 0, none, write, .host, some st, port, hpa, d.now, d.ctoNs⟩
      match d.hdmPort st hpa with
      | none => (d.setCxp { d.cxp with nextId := d.cxp.nextId + 1 }).hdmMiss e st t
      | some p =>
        let ld := if d.isMld p then d.boundLd p st else none
        let e := { e with port := p, ld := ld }
        let dom := match ld with
          | some l => some (domLd p l)
          | none => none
        let d := d.setCxp { d.cxp with nextId := e.id + 1, m2s := d.cxp.m2s ++ [e] }
        let t := { t with ld := ld }
        let ev (x : Dev) : Eval :=
          let st' := x.owner port
          let r : RouteRes := ⟨match st'.bind fun s => x.hdmPort s hpa with
            | some q => .port x.me q
            | none => .err 1, none, hpa, false⟩
          ⟨st', st', r.dest, none, hpa, x.verdict (st'.getD st) port t true r, x.genOf dom, false⟩
        d.addItem { mkItem t port (.m2s e.id) (ev d) (ev d.chkView) with dom := dom }

/-! ### Messages of devices, and answers of hosts (R293, R294) -/

/-- A message between a device and its stable's host on its way to a port. -/
def Dev.cxlForward (d : Dev) (ing s port code tag : Nat) (data : List Byte) : Dev :=
  let t : Tlp := { Tlp.blank with kind := .s2m, tag := tag, code := code, data := data }
  let ev (x : Dev) : Eval := mkEval (some s) (.port x.me port) 0
  d.addItem (mkItem t ing .ext (ev d) (ev d.chkView))

/-- The port of a stable's CXL.cache device. -/
def Dev.cachePort (d : Dev) (s : Nat) : Option Nat := (d.ownedDown s).find? fun p => d.rb R.CXP_PORT_CXL_STATUS (0x100 + p) 8

/-- S2M_RESPONSE (R294): a response of a device to a host's request (`kind` 0 NDR, 1 DRS); or a host's answer to a
back-invalidate snoop (2) or its CXL.cache message (3), which go to the device. -/
def execS2mResponse (port kind tag : Nat) (ld : Option Nat) (data : List Byte) (poison : Bool) (s : State) :
    Host.Outcome State Fault Refusal := s.eff fun d =>
  if d.failsafe ∨ !d.linkLive port ∨ !d.isCxl port ∨ d.discards port then d
  else if kind ≤ 1 then
    match d.cxp.m2s.find? fun e => e.why == .host && e.port == port && e.ld == ld && e.tag == tag && e.write == (kind == 0) &&
        !(d.path.items.any fun i => i.src == .m2s e.id) with
    | some e => (d.rmM2s e.id).sendS2m e (if kind = 1 then padTo 64 data else []) poison
    | none => d
  else match d.owner port with
    | none => d
    | some st =>
      if !d.isUp port then d
      else if kind = 2 then
        match d.cxp.m2s.find? fun e => e.why == .bi && e.port == port && e.tag == tag with
        | some e => (d.rmM2s e.id).cxlForward port st e.ingress 1 tag data
        | none => d
      else match d.cachePort st with
        | some p => d.cxlForward port st p 2 tag data
        | none => d

/-- BI_MESSAGE (R293): a back-invalidate snoop, or a CXL.cache message, of a device. On a link where the feature is not in
use it is discarded, counted and reported; otherwise it goes to the owner's upstream port. -/
def execBiMessage (port : Nat) (cache : Bool) (tag : Nat) (data : List Byte) (s : State) : Host.Outcome State Fault Refusal := s.eff fun d =>
  if d.failsafe ∨ !d.linkLive port ∨ !d.isCxl port ∨ d.fenced port ∨ d.portContained port then d
  else if !d.rb R.CXP_PORT_CXL_STATUS (0x100 + port) (if cache then 8 else 7) then
    (d.bump R.CXP_PORT_CNT_DENIED (0x100 + port)).cxpEvent 6 port 0 0 (d.boundStables port)
  else match d.owner port with
    | none => d
    | some st =>
      match d.upPort st with
      | none => d
      | some up =>
        let d := if cache then d
          else d.setCxp { d.cxp with nextId := d.cxp.nextId + 1
                                     m2s := d.cxp.m2s ++ [⟨d.cxp.nextId, tag, up, none, false, .bi, some st, port, 0, d.now, 0⟩] }
        d.cxlForward port st up (if cache then 2 else 1) tag data

/-! ### Internal decoders (R303) -/

/-- A decoder waits for its target to be programmed, or for the answer. -/
def Dev.idecReach (d : Dev) (k : Nat) : Bool :=
  let p := d.idecPort k
  !d.failsafe && d.idecSize k != 0 && d.idecState k == 1 && d.dlUp p && !d.portContained p && !d.fenced p

/-- Put an enabled decoder in PROG (R303 step 1). -/
def Dev.idecStart (d : Dev) (k : Nat) : Dev :=
  (d.wf R.CXP_IDEC_STATUS (0x200 + k) 1 0 1).setCxp
    { d.cxp with prog := d.cxp.prog.erase k, progSent := d.cxp.progSent.erase k }

/-- IDEC_PROGRAM (R303): with the port up, and room for the completion (R180), CXP writes the target's HDM decoder and its Commit. -/
def execIdecProgram (idec : Nat) (s : State) : Host.Outcome State Fault Refusal := s.eff fun d =>
  if d.cxp.progSent.contains idec ∨ !d.idecReach idec ∨ !d.loftRoom 1 then d
  else
    let i := 0x200 + idec
    let d := d.setCxp { d.cxp with prog := d.cxp.prog.insert idec (d.now + 1), progSent := d.cxp.progSent ++ [idec] }
    d.emit (.m2s (d.idecPort idec) 1 [(d.idecLd idec).getD 16, d.idecBase idec, d.idecSize idec, d.rf R.CXP_IDEC_DPA i 11 0 * 268435456])

/-- The procedure of R303 ends for a decoder. -/
def Dev.idecEnd (d : Dev) (k : Nat) : Dev :=
  (d.wr R.CXP_IDEC_CTRL (0x200 + k) 0).setCxp { d.cxp with prog := d.cxp.prog.erase k, progSent := d.cxp.progSent.erase k }

/-- IDEC_COMMITTED (R303): the target reports Committed. -/
def execIdecCommitted (idec : Nat) (s : State) : Host.Outcome State Fault Refusal := s.eff fun d =>
  if d.cxp.progSent.contains idec && d.idecReach idec then
    ((d.idecEnd idec).wf R.CXP_IDEC_STATUS (0x200 + idec) 1 0 2).brgPump
  else d

/-- IDEC_NOT_COMMITTED (R303): the target reports Error Not Committed, or 10 ms pass without an answer. -/
def execIdecNotCommitted (idec : Nat) (timeout : Bool) (s : State) : Host.Outcome State Fault Refusal := s.eff fun d =>
  if d.cxp.progSent.contains idec && d.idecState idec == 1 then
    if timeout then (d.advanceTo (d.cxp.prog.getD idec 1 - 1 + 10000000)).idecFail idec 5
    else if d.idecReach idec then d.idecFail idec 6 else d
  else d

/-- RECOMMIT of a decoder (R303): an enabled one is programmed again; RECOMMIT reads 1 until that ends. -/
def Dev.idecRecommit (d : Dev) (k : Nat) : Dev :=
  if d.idecSize k = 0 then d else (d.idecStart k).wr R.CXP_IDEC_CTRL (0x200 + k) 1

/-- RECOMMIT (R303): a write of IDEC_CTRL.RECOMMIT. -/
def execRecommit (a : Acc) (s : State) : Host.Outcome State Fault Refusal := s.eff fun d =>
  d.guardW a R.CXP_IDEC_CTRL fun i d => d.idecRecommit (i - 0x200)

/-! ### Device health (R305, R306) -/

/-- HEALTH_POLL (R305): the next poll of the media status, at the next multiple of HEALTH_INT ms of device time (log entry
41); `bad` lists the decoders whose device reports not ready or failed. -/
def execHealthPoll (bad : List Nat) (s : State) : Host.Outcome State Fault Refusal := s.eff fun d =>
  let int := d.rf R.CXP_CXP_CTRL 0 15 0 * 1000000
  if int = 0 ∨ d.failsafe then d
  else
    let d := d.advanceTo ((d.now / int + 1) * int)
    (d.idecs.filter fun k => bad.contains k && d.dlUp (d.idecPort k)).foldl (fun d k =>
      if d.idecState k = 2 then d.idecFail k 4 else d) d

/-- VIRAL_RECEIVED (R306): viral on a CXL port fails its decoders, is forwarded to the upstream port of a stable that owns the
port alone, is reported, and contains the port. -/
def execViralReceived (port : Nat) (s : State) : Host.Outcome State Fault Refusal := s.eff fun d =>
  if !d.linkLive port ∨ !d.isCxl port ∨ d.portContained port then d
  else
    let d := d.idecPortFail port 3
    let d := match (if d.isDown port then d.owner port else none).bind d.upPort with
      | some up => if d.linkLive up then d.emit (.m2s up 2 []) else d
      | none => d
    let d := d.cxpEvent 7 port 0 0 (d.boundStables port)
    d.fault 0x15 (d.owner port) (some port) none (d.unitRef (.port port)) 0

/-- The enabled decoders that name an LD of a port, or an SLD. -/
def Dev.idecsOf (d : Dev) (port : Nat) (ld : Option Nat) : List Nat := d.idecs.filter fun k => d.idecPort k == port && d.idecLd k == ld

/-- DC_EXTENT_OFFER (R309): an extent offered to a device-private LD or SLD is accepted or declined, as DC_ACCEPT of its
lowest decoder says. -/
def execDcExtentOffer (port : Nat) (ld : Option Nat) (s : State) : Host.Outcome State Fault Refusal := s.eff fun d =>
  match d.idecsOf port ld with
  | [] => d
  | k :: _ =>
    if d.failsafe ∨ !d.linkLive port then d
    else (d.emit (.m2s port 3 [ld.getD 16, b2n (d.rb R.CXP_IDEC_CFG (0x200 + k) 14)])).cxpEvent 8 port (ld.getD 0) k []

end Sys2Proof.Machine
end

