-- ==== Sys2Proof/Machine/Monitor.lean ====
section
/-! DEFINITION. Safety and error containment (R368–R400): the scrub, self-test, fault injection, monitors, completion
timeouts, and the containment and release of ports and stables. -/

namespace Sys2Proof.Machine

/-! ### The scrub of duplicated tables (R376, R384) -/

/-- The stables that an entry of a duplicated structure names. -/
def Dev.entryStables (d : Dev) (st i : Nat) : List Nat :=
  if st = 0 then [fld (d.ruleW i 3) 5 0]
  else if st = 1 then [fld (d.winW i 3) 5 0]
  else if st = 2 then [fld (d.xingW i 2) 5 0, fld (d.xingW i 2) 13 8]
  else if st = 3 then (if i < 128 then d.portStables i else [])
  else if st = 4 then [d.sliceStable i]
  else []

/-- The page of a duplicated structure, for the detecting unit. -/
def dupPage (st : Nat) : Nat := if st = 0 ∨ st = 3 then 0x600 else if st = 1 ∨ st = 2 then 0x500 else if st = 4 then 0x780 else 0xc00

/-- A fault that the scrub finds in an entry. -/
def Dev.scrubFault (d : Dev) (cls st i : Nat) (stables : List Nat) : Dev :=
  d.react cls stables [] [] (d.unitRef (.block (dupPage st))) (word (i + 65536 * st))

/-- The scrub of one entry: an unreadable copy is rewritten from the other; copies that differ stay as they are. -/
def Dev.scrubEntry (d : Dev) (st i : Nat) : Dev :=
  let mine (f : Nat × Nat × Nat) : Bool := f.1 == st && f.2.1 == i
  let flips := d.saf.flips.filter mine
  let badP := d.saf.bad.contains (st, i, false)
  let badC := d.saf.bad.contains (st, i, true)
  let clean (d : Dev) : Dev :=
    { d with saf := { d.saf with flips := d.saf.flips.filter fun f => !mine f, bad := d.saf.bad.filter fun b => !(b.1 == st && b.2.1 == i) } }
  if badP && badC then (d.bumpBy R.SAF_CNT_UE 0 2).scrubFault 9 st i []
  else if badP then ((clean (flips.foldl (fun d f => d.flipBit st i f.2.2) d)).bump R.SAF_CNT_UE).raise 0x783
  else if badC then ((clean d).bump R.SAF_CNT_UE).raise 0x783
  else if flips.isEmpty then d
  else d.scrubFault 8 st i (d.entryStables st i ++ d.chkView.entryStables st i).eraseDups

/-- The entries in which a copy differs or is unreadable. -/
def Dev.dirtyEntries (d : Dev) : List (Nat × Nat) :=
  (d.saf.flips.map (fun f => (f.1, f.2.1)) ++ d.saf.bad.map fun b => (b.1, b.2.1)).eraseDups

/-- Scrub the entries that a predicate selects. DEDUCED: log entry 74. -/
def Dev.scrub (d : Dev) (sel : Nat × Nat → Bool) : Dev :=
  (d.dirtyEntries.filter sel).foldl (fun d e => d.scrubEntry e.1 e.2) d

/-- The instant at which work that runs once in each period of device time next ends its period (log entry 41). DESIGN CHOICE: log entry
12. -/
def Dev.nextPeriod (d : Dev) (ms : Nat) : Nat := (d.now / (1000000 * ms) + 1) * (1000000 * ms)

/-- The configuration that is held in two copies (R375): windows, crossings and routes, rules and default rules, PORT_OWN, STB_CFG and
PERM, slices, LD_BIND and the IDECs, bridge windows, CH_OWN and CH_PASID, MC_CFG, LOFT_CFG and LOFT_BASE. -/
def dupCfg (page off : Nat) : Bool :=
  let within (lo hi : Nat) : Bool := decide (lo ≤ off) && decide (off ≤ hi)
  if page = 0x500 then within 0x108 0x114 || within 0x124 0x130 || off == 0x200 || off == 0x300
  else if page = 0x600 then within 0x108 0x114 || off == 0x124 || within 0x200 0x27c || off == 0x300
  else if page = 0x780 then within 0x200 0x20c
  else if page = 0x800 then within 0x340 0x410
  else if page = 0x900 then within 0x200 0x210
  else if page = 0xa00 then within 0x200 0x204
  else if page = 0x700 then within 0x100 0x108
  else page == 0x400 && off == 0x300

/-- An uncorrectable error in a word of configuration that is held once: the word takes its reset value (R375). -/
def Dev.cfgUe (d : Dev) (page inst off : Nat) : Dev :=
  match findReg page off with
  | some x =>
    if dupCfg page off ∨ (x.acc ≠ .rw ∧ x.acc ≠ .rws ∧ x.acc ≠ .rwl) then d
    else
      let d := (d.wr ⟨page, off⟩ inst (resetWord page inst off)).bump R.SAF_CNT_UE
      d.fault 0x19 none none none (d.unitRef (.block page)) (word (off + 4096 * page))
  | none => d

/-- SCRUB_PASS (R375, R376): the regular pass over every duplicated table. `seu` gives the storage errors that it meets, as
structure, entry and 0 correctable, 1 unreadable primary copy, 2 unreadable check copy, 3 both; `single` the words of
single-copy configuration found uncorrectable, as page, select value and offset. DEDUCED: log entry 74. -/
def execScrubPass (seu single : List (Nat × Nat × Nat)) (s : State) : Host.Outcome State Fault Refusal := s.eff fun d =>
  let ms := d.rf R.SAF_SCRUB_CFG 0 15 0
  if ms = 0 ∨ !d.clockRuns then d
  else
    let d := d.advanceTo (d.nextPeriod ms)
    let d := seu.foldl (fun d e =>
      if e.2.2 = 0 then d.corrected e.1
      else
        let add := (if e.2.2 = 1 ∨ e.2.2 = 3 then [(e.1, e.2.1, false)] else []) ++ (if e.2.2 = 2 ∨ e.2.2 = 3 then [(e.1, e.2.1, true)] else [])
        { d with saf := { d.saf with bad := (d.saf.bad ++ add).eraseDups } }) d
    single.foldl (fun d e => d.cfgUe e.1 e.2.1 e.2.2) (d.scrub fun _ => true)

/-- TARGETED_SCRUB (R384): the scrub that follows the oldest disagreement, and what it attributes it to. -/
def execTargetedScrub (s : State) : Host.Outcome State Fault Refusal := s.eff fun d =>
  match d.saf.disq with
  | [] => d
  | x :: rest =>
    let d := { d with saf := { d.saf with disq := rest } }
    if d.dirtyEntries.any x.entries.contains then d.scrub x.entries.contains
    else
      let win := d.rf R.SAF_DIS_CFG 0 31 16 * 1000000
      let times := (d.saf.disTimes ++ [x.time]).filter fun t => win == 0 || decide (d.now < t + win)
      let d := { d with saf := { d.saf with disTimes := times } }
      let lim := d.rf R.SAF_DIS_CFG 0 7 0
      if lim ≠ 0 ∧ lim ≤ times.length then
        d.fault 0x0a x.stable (some x.port) none (d.unitRef (.block 0xc00)) (word times.length)
      else d

/-! ### Self-test and injection (R395, R396) -/

/-- SELF_TEST_PASS (R395): a pass over every checker ends; `silent` is the checker that failed to detect its fault. -/
def execSelfTestPass (silent : Option Nat) (s : State) : Host.Outcome State Fault Refusal := s.eff fun d =>
  let ms := d.rf R.SAF_ST_CFG 0 15 0
  if ms = 0 ∨ !d.clockRuns then d
  else
    let d := d.advanceTo (d.nextPeriod ms)
    let d := d.wf R.SAF_ST_STATUS 0 31 16 (d.rf R.SAF_ST_STATUS 0 31 16 + 1)
    let d := match silent with
      | some k => ((d.wf R.SAF_ST_STATUS 0 1 1 1).wf R.SAF_ST_STATUS 0 15 8 k).fault 0x11 none none none (d.unitRef (.block 0xc00)) (word k)
      | none => d
    d.raise 0x791

/-- Toggle a bit of an entry's check copy. DESIGN CHOICE: log entry 24. DEDUCED: log entry 44. -/
def Dev.flipCheck (d : Dev) (st i b : Nat) : Dev :=
  let f := d.saf.flips
  { d with saf := { d.saf with flips := if f.contains (st, i, b) then f.erase (st, i, b) else f ++ [(st, i, b)] } }

/-- Inject the fault that INJ_CFG describes (R396). -/
def Dev.inject (d : Dev) : Dev :=
  let kind := d.rf R.SAF_INJ_CFG 0 3 0
  let st := d.rf R.SAF_INJ_CFG 0 15 12
  let idx := d.rf R.SAF_INJ_CFG 0 29 16
  let b := d.rf R.SAF_INJ_BIT 0 9 0
  if !d.rb R.SAF_SAF_CTRL 0 0 ∨ kind = 0 ∨ 7 < kind then d
  else if kind = 6 then d.fault 0x0c none (some 130) none (d.unitRef (.port 130)) 0
  else if kind = 7 then
    (if st = 3 then d.flipCheck st idx (b % 32) else if st ≤ 4 then d.flipCheck st idx (b % 128) else d)
  else { d with saf := { d.saf with inj := some ⟨kind, d.rf R.SAF_INJ_CFG 0 11 4, st, idx, b⟩ } }

/-- GO (R396): a write of INJ_CTRL.GO while INJ_EN is 1. DEDUCED: log entry 44. -/
def execGo (a : Acc) (s : State) : Host.Outcome State Fault Refusal := s.eff fun d => d.guardW a R.SAF_INJ_CTRL fun _ d => d.inject

/-- SAF_CMD.FORCE_FAILSAFE: class FORCED. -/
def Dev.forceFailsafe (d : Dev) : Dev := d.fault 0x1a none none none (d.unitRef (.block 0xc00)) 0

/-- FORCE_FAILSAFE (R385): a write of SAF_CMD.FORCE_FAILSAFE. -/
def execForceFailsafe (a : Acc) (s : State) : Host.Outcome State Fault Refusal := s.eff fun d =>
  d.guardW a R.SAF_SAF_CMD fun _ d => d.forceFailsafe

/-! ### Release (R386, R193) -/

/-- What was contained under HEADLESS_ACTION for a stable is released one by one: ports by number, slices as 256 + k. -/
def Dev.headFree (d : Dev) (x : Nat) : Dev :=
  d.path.fencedHead.foldl (fun d e =>
    if e.2.contains x then
      let l := e.2.filter (· != x)
      let d := { d with path := { d.path with fencedHead := Tbl.put d.path.fencedHead e.1 [] l } }
      if l.isEmpty then d.wf R.SWC_STABLE_SW_STATUS (0x200 + e.1) 1 1 0 else d
    else d) d

/-- The Enruez cores restart from the boot ROM (R386). -/
def Dev.coresRestart (d : Dev) : Dev :=
  { d with boot := { d.boot with coresDown := false, phase := .rom, tried := [], nextRec := 0, waitEnd := none, comWait := none, crc := 4294967295 }, out := .core 3 :: d.out }

/-- DPC Trigger Status of an OWNED port's function clears. -/
def Dev.dpcClear (d : Dev) (p : Nat) : Dev :=
  (d.portStables p).foldl (fun d s => match d.slotOf s p with
    | some k => d.setCfg s (8 + k) 98 (setFld (d.cfg s (8 + k) 98) 0 0 0)
    | none => d) d

/-- The release of a port takes effect. Under a STABLE containment of its owner it stays contained. -/
def Dev.portRelease (d : Dev) (p : Nat) : Dev :=
  let d := (d.wf R.PRT2_ERR_STATUS p 5 5 0).wr R.PRT2_ERR_CTRL p 0
  if !d.portContained p then d
  else if d.failsafe || (d.saf.portWide.contains p && (d.owner p).any d.stbContained) then
    d.wf R.PRT2_ERR_STATUS p 3 1 6
  else
    let d := (d.wf R.PRT2_ERR_STATUS p 3 0 0).headFree p
    let d := { d with saf := { d.saf with portWide := d.saf.portWide.filter (· != p) } }
    let d := if 128 ≤ p then (if p = 130 then d.coresRestart else d)
      else if d.isFabric p then d.setLkState p 0
      else if d.isUp p then (if d.portEn p then d.setLstate p 1 else d)
      else (d.wf R.PRT6_FLUSH_STATE p 1 1 0).dpcClear p
    d.raise 0x795

/-- A release is asked for: it waits while the port flushes. -/
def Dev.portReleaseReq (d : Dev) (p : Nat) : Dev :=
  if p < 128 ∧ d.flushing p then (d.wf R.PRT2_ERR_STATUS p 5 5 1).wf R.PRT2_ERR_CTRL p 1 1 1 else d.portRelease p

/-- CONTAIN of a port (R381). -/
def Dev.portContainReq (d : Dev) (p : Nat) : Dev :=
  if d.portExists p then d.containPort p 5 (d.rf R.PRT2_ERR_STATUS p 15 8) else d

/-- PORT_CONTAIN (R381): a write of ERR_CTRL.CONTAIN. -/
def execPortContain (a : Acc) (s : State) : Host.Outcome State Fault Refusal := s.eff fun d =>
  d.guardW a R.PRT2_ERR_CTRL fun p d => d.portContainReq p

/-- PORT_RELEASE (R386): a write of ERR_CTRL.RELEASE. -/
def execPortRelease (a : Acc) (s : State) : Host.Outcome State Fault Refusal := s.eff fun d =>
  d.guardW a R.PRT2_ERR_CTRL fun p d => d.portReleaseReq p

/-- UNTAINT of a port (R388). -/
def Dev.portUntaint (d : Dev) (p : Nat) : Dev := d.wf R.PRT2_ERR_STATUS p 4 4 0

/-- PORT_UNTAINT (R388): a write of ERR_CTRL.UNTAINT. -/
def execPortUntaint (a : Acc) (s : State) : Host.Outcome State Fault Refusal := s.eff fun d =>
  d.guardW a R.PRT2_ERR_CTRL fun p d => if p < 128 then d.portUntaint p else d

/-- A host's release of DPC at a downstream port of its hierarchy: the owner's alone is heard (R386). -/
def Dev.dpcRelease (d : Dev) (s p : Nat) : Dev :=
  if d.ownMode p = 1 ∧ d.owner p = some s ∧ d.isDown p ∧ d.portContained p then d.portReleaseReq p else d

/-- DPC_RELEASE (R386): a host clears DPC Trigger Status of the function of a port in its hierarchy. -/
def execDpcRelease (stable port : Nat) (s : State) : Host.Outcome State Fault Refusal := s.eff fun d => d.dpcRelease stable port

/-- A host's DPC software trigger (R393): it fences its own port; on a SHARED port it contains the stable's slices (R404). -/
def Dev.dpcSoft (d : Dev) (s p : Nat) : Dev :=
  if !d.isDown p then d
  else if d.ownMode p = 1 ∧ d.owner p = some s then { d with saf := { d.saf with dpc := d.saf.dpc ++ [(p, 39)] } }
  else ((d.portSlices p).filter fun e => d.sliceStable e.1 == s).foldl (fun d e => d.sliceContain e.1) d

/-- DPC_SOFTWARE_TRIGGER (R393, R404): a host sets the DPC software trigger of the function of a port. -/
def execDpcSoftwareTrigger (stable port : Nat) (s : State) : Host.Outcome State Fault Refusal := s.eff fun d => d.dpcSoft stable port

/-- STABLE_CONTAIN (R381): a write of STB_SAF_CTRL.CONTAIN. -/
def execStableContain (a : Acc) (s : State) : Host.Outcome State Fault Refusal := s.eff fun d =>
  d.guardW a R.SAF_STB_SAF_CTRL fun k d => d.containStable k 0

/-- The release of a stable (R386): every duplicated entry that names it is scrubbed; a difference or unreadable word that
remains refuses the release. -/
def Dev.stableRelease (d : Dev) (s : Nat) : Dev :=
  if !d.stbContained s ∨ d.failsafe then d
  else
    let names (d : Dev) (e : Nat × Nat) : Bool := (d.entryStables e.1 e.2).contains s || (d.chkView.entryStables e.1 e.2).contains s
    let d := d.scrub (names d)
    if d.dirtyEntries.any (names d) then d.wf R.SAF_STB_SAF_STATUS s 1 1 1
    else
      let d := (d.wf R.SAF_STB_SAF_STATUS s 1 0 0)
      { d with saf := { d.saf with portWide := d.saf.portWide.filter fun p => d.owner p != some s } }.raise 0x795

/-- STABLE_RELEASE (R386): a write of STB_SAF_CTRL.RELEASE. DEDUCED: log entry 74. -/
def execStableRelease (a : Acc) (s : State) : Host.Outcome State Fault Refusal := s.eff fun d =>
  d.guardW a R.SAF_STB_SAF_CTRL fun k d => d.stableRelease k

/-- CLEAR of the posted-loss log and of the fault log. -/
def Dev.pplClear (d : Dev) : Dev := { d with logs := { d.logs with ppl := d.logs.ppl.clear } }
def Dev.flogClear (d : Dev) : Dev := { d with logs := { d.logs with flog := d.logs.flog.clear } }

/-- PPL_CLEAR (R389): a write of PPL_CTRL.CLEAR. -/
def execPplClear (a : Acc) (s : State) : Host.Outcome State Fault Refusal := s.eff fun d =>
  d.guardW a R.PRT2_PPL_CTRL fun _ d => d.pplClear

/-- FLOG_CLEAR (R398): a write of FLOG_CTRL.CLEAR. -/
def execFlogClear (a : Acc) (s : State) : Host.Outcome State Fault Refusal := s.eff fun d =>
  d.guardW a R.SAF_FLOG_CTRL fun _ d => d.flogClear

/-! ### Monitors (R378, R379) -/

/-- LOCKSTEP_MISMATCH (R378): class LOCKSTEP, at port P130. -/
def execLockstepMismatch (s : State) : Host.Outcome State Fault Refusal := s.eff fun d =>
  d.fault 0x0c none (some 130) none (d.unitRef (.port 130)) 0

/-- CORE_CLOCK_LOSS (R379): the core PLL, or the device-time PLL, loses lock. -/
def execCoreClockLoss (deviceTime : Bool) (s : State) : Host.Outcome State Fault Refusal := s.eff fun d =>
  let d := d.wf R.SAF_MON_STATUS 0 (b2n deviceTime) (b2n deviceTime) 0
  d.fault 0x0e none none none (d.unitRef .device) (word (b2n deviceTime))

/-- A cluster's temperature in units of 0.125 °C. -/
def Dev.clTemp (d : Dev) (c : Nat) : Int := signed 16 (d.rf (R.CAL_CL_TEMP c) 0 15 0)

/-- The hottest cluster. -/
def Dev.hottest (d : Dev) : Int := (List.range 16).foldl (fun m c => max m (d.clTemp c)) (d.clTemp 0)

/-- A cluster reads a temperature (16 bits, 0.125 °C); crossing WARN or CRIT upwards is reported. -/
def Dev.tempRead (d : Dev) (cluster temp : Nat) : Dev :=
  let d := d.wf (R.CAL_CL_TEMP cluster) 0 15 0 temp
  let hot := d.hottest
  let above (k : Nat) : Bool := decide ((8 * min 131 (d.rf R.SAF_TEMP_TH 0 (8 * k + 7) (8 * k)) : Nat) < hot)
  let was (k : Nat) : Bool := d.rb R.SAF_MON_STATUS 0 (4 + k)
  let d1 := d.wf R.SAF_MON_STATUS 0 31 16 (hot % 65536).toNat
  let d1 := (d1.wf R.SAF_MON_STATUS 0 4 4 (b2n (above 0))).wf R.SAF_MON_STATUS 0 5 5 (b2n (above 1))
  let d1 := if above 0 && !was 0 then d1.raise 0x78c else d1
  if above 1 && !was 1 then d1.raise 0x78d else d1

/-- TEMP_THRESHOLD (R379): a cluster's temperature is read. -/
def execTempThreshold (cluster temp : Nat) (s : State) : Host.Outcome State Fault Refusal := s.eff fun d =>
  if 16 ≤ cluster then d else d.tempRead cluster temp

/-! ### Completion timeouts (R390) -/

/-- A timeout is counted and reported: class CTO. -/
def Dev.ctoCount (d : Dev) (stable : Option Nat) (port detail : Nat) : Dev :=
  (d.bump R.SAF_CNT_CTO).fault 0x17 stable (some port) none (d.unitRef (.port port)) (word detail)

/-- Keep a timed-out tag for a further CTO. -/
def Dev.holdTag (d : Dev) (code until_ : Nat) : Dev := { d with saf := { d.saf with tagsHeld := d.saf.tagsHeld ++ [(code, until_)] } }

/-- A DMA read or fetch times out. -/
def Dev.ctoDma (d : Dev) (tag : Nat) : Dev :=
  match d.dma.tags.find tag with
  | some g =>
    if g.timedOut then d
    else
      let d := d.advanceTo (g.since + g.cto)
      let d := (d.setTags (d.dma.tags.insert tag { g with timedOut := true })).holdTag tag (g.since + 2 * g.cto)
      let d := d.ctoCount (d.chOwner g.ch) 128 tag
      if g.orphan ∨ d.retired (some (domChan g.ch)) g.gen then d
      else ((match d.chOwner g.ch with
        | some s => d.aer s 1 14 none
        | none => d).chReadFail tag g)
  | none => d

/-- A CXL.mem request of the bridge times out: its decoder fails too (R305). -/
def Dev.ctoM2s (d : Dev) (id : Nat) : Dev :=
  match d.m2sOf id with
  | some e =>
    if !e.why.own then d
    else
      let d := d.advanceTo (e.since + e.cto)
      let d := (d.path.items.filter fun i => i.src == .m2s id && i.stage != .sending).foldl (fun d i => d.dropItem i) d
      let d := (d.holdTag (4096 + e.tag) (e.since + 2 * e.cto)).ctoCount e.stable 129 id
      let k := d.idecAt e.addr
      let d := d.m2sEnd e 3
      match k with
      | some k => if d.idecState k = 2 then d.idecFail k 5 else d
      | none => d
  | none => d

/-- An access of the loft times out (R274): its decoder fails, and the loft with it. DEDUCED: log entry 44. -/
def Dev.ctoLoft (d : Dev) (key : Nat) : Dev :=
  match d.opFor key fun f => f.step != 0 || f.why == .writeback with
  | some f =>
    let d := ((d.advanceTo (f.since + f.cto)).holdTag (8192 + key) (f.since + 2 * f.cto)).ctoCount none 130 0
    match d.loftIdec with
    | some k => if d.idecState k = 2 then d.idecFail k 5 else d.loftFail
    | none => d.loftFail
  | none => d

/-- COMPLETION_TIMEOUT (R390): a request that the block itself originates reaches CTO: `who` 0 a DMA tag, 1 a CXL.mem
request of the bridge by its number, 2 an access of the loft by its key, 3 a request of CXP for a decoder, or from 16 on the FM API
command that it has forwarded, which then returns Internal Error (log entry 10), 4 one of the Enruez cores. -/
def execCompletionTimeout (who id : Nat) (s : State) : Host.Outcome State Fault Refusal := s.eff fun d =>
  if who = 0 then d.ctoDma id
  else if who = 1 then d.ctoM2s id
  else if who = 2 then d.ctoLoft id
  else if who = 3 then
    if id < 16 then (if d.idecState id = 2 then (d.ctoCount none 130 id).idecFail id 5 else d)
    else match d.cxp.fmBusy with
      | some (p, op) =>
        let d := ((d.setCxp { d.cxp with fmBusy := none, tunnel := [] }).ctoCount none 130 id).wn R.CXP_FMAPI_LAST 0 (op % 65536 + 65536 * 4)
        (d.cxpEvent 9 0 0 0 []).emit (.msg p 7 [op, 4])
      | none => d
  else d.ctoCount none 130 0

/-- TAG_RELEASE (R390): a further CTO after its timeout a tag is released: `code` the DMA tag, 4096 + the M2S tag, or 8192 + the
key of a loft access. -/
def execTagRelease (code : Nat) (s : State) : Host.Outcome State Fault Refusal := s.eff fun d =>
  match d.saf.tagsHeld.find? fun e => e.1 == code with
  | some e =>
    let d := d.advanceTo e.2
    let d := { d with saf := { d.saf with tagsHeld := d.saf.tagsHeld.erase e } }
    if code < 4096 then (match d.dma.tags.find code with
      | some g => if g.timedOut then d.freeDmaTag code else d
      | none => d)
    else if code < 8192 then d.brgPump else d
  | none => d

/-! ### The end of a flush (R191 step 6) -/

/-- PORT_FLUSH_END (R191): no TLP is left queued for a port that flushes; a release that waited takes effect. -/
def execPortFlushEnd (port : Nat) (s : State) : Host.Outcome State Fault Refusal := s.eff fun d =>
  if !d.flushing port ∨ !(d.queueOf port).isEmpty then d
  else
    let d := d.wf R.PRT6_FLUSH_STATE port 0 0 0
    let d := d.wf R.PRT6_FLUSH_STATE port 31 16 (d.rf R.PRT6_FLUSH_STATE port 31 16 + 1)
    let d := d.raise 0x484
    if d.rb R.PRT2_ERR_STATUS port 5 then d.portRelease port else d

end Sys2Proof.Machine
end

