-- ==== Sys2Proof/Machine/Slices.lean ====
section
/-! DEFINITION. Stalls, the loft and slices (R259–R291): the loft's reads and writes, INIT, context operations, generations,
slices, ledger timeouts, dirty-page logging and traps. -/

namespace Sys2Proof.Machine

/-! ### Loft reads (R270, R271, R274) -/

/-- A fetch that did not find its copy bad ends a run of such fetches (R274). -/
def Dev.errRunEnd (d : Dev) : Dev := d.setStall { d.stall with errRun := 0 }

/-- What the first read decides for an operation: its loft way is read next, a lookup or creation of a present key is
answered, or the absent context is created or refused. -/
def Dev.setRead (d : Dev) (f : Fetch) (bad : List Nat) : Dev :=
  match d.loftWay f.key with
  | some id =>
    if bad.contains (id % 8) then d.ctxBad f
    else
      let ans (a : Nat) : Dev := match d.stall.loft.find id with
        | some c => ((d.rmOp f).opEnd a (foundWord c false)).runInvalidations
        | none => d
      match f.why with
      | .lookup a => ans a
      | .create a => ans a
      | _ =>
        let upd (g : Fetch) : Fetch := if g == f then { g with step := 2, way := id % 8, since := d.now, cto := d.ctoNs, sent := false } else g
        d.setStall { d.stall with fetch := d.stall.fetch.map upd }
  | none =>
    let d := d.errRunEnd
    match f.why with
    | .lookup a => ((d.rmOp f).opEnd a 0).runInvalidations
    | .request =>
      if d.stall.ctxErr.contains f.key then ((d.rmOp f).opRefused f 3).runInvalidations
      else if d.ctxAuto f.key then d.createLoft f
      else ((d.rmOp f).opRefused f 4).runInvalidations
    | _ => d.createLoft f

/-- The end of a loft access that has timed out: discarded and counted while its tag is held (R390). -/
def Dev.loftLate (d : Dev) (key : Nat) : Dev := if d.saf.tagsHeld.any fun e => e.1 == 8192 + key then d.bump R.SAF_CNT_CTO else d

/-- LOFT_SET_READ_DONE (R270): the first read of a key's loft set ends, well (`ok`) or in error; `bad` lists the ways whose
header arrived poisoned. DEDUCED: log entry 55. -/
def execLoftSetReadDone (key : Nat) (ok : Bool) (bad : List Nat) (s : State) : Host.Outcome State Fault Refusal := s.eff fun d =>
  match d.opFor key fun f => f.step == 1 && d.loftBack f with
  | none => d.loftLate key
  | some f => if d.failsafe ∨ !d.loftOk then d else if ok then d.setRead f bad else d.loftFail

/-- A good loft copy is filled under R265: on die, refused for want of a way, or held back while the eviction buffer is full. -/
def Dev.fill (d : Dev) (f : Fetch) (b : List Byte) : Dev :=
  let d := d.errRunEnd
  let c := d.refill (ctxOfBytes b)
  match (d.rmOp f).place { c with ctxId := 8 * f.set + f.way, cntMiss := c.cntMiss + d.missesOf f.key, lastUse := d.now } (f.port / 8) with
  | .error true => d
  | .error false => ((d.rmOp f).opRefused f 1).runInvalidations
  | .ok d => (d.setStall { d.stall with ctxErr := d.stall.ctxErr.erase f.key }).readyParked f.key |>.runInvalidations

/-- LOFT_CONTEXT_READ_DONE (R270): the second read ends, well or in error, poisoned or not; `data` is the 256 B of the way as the two reads
brought them. A copy that is poisoned or fails its checks is bad, a good one is filled. -/
def execLoftContextReadDone (key : Nat) (ok poison : Bool) (data : List Byte) (s : State) : Host.Outcome State Fault Refusal := s.eff fun d =>
  match d.opFor key fun f => f.step == 2 && d.loftBack f with
  | none => d.loftLate key
  | some f =>
    if d.failsafe ∨ !d.loftOk then d
    else if !ok then d.loftFail
    else if poison ∨ !d.copyGood key (8 * f.set + f.way) data then d.ctxBad f
    else d.fill f data

/-- WRITEBACK_DONE (R265): the write of a victim to its loft way completes and it leaves the eviction buffer. -/
def execWritebackDone (key : Nat) (s : State) : Host.Outcome State Fault Refusal := s.eff fun d =>
  match d.opFor key fun f => f.why == .writeback && d.loftBack f, d.stall.evict.find? fun e => e.2.key == key with
  | some f, some (_, c) =>
    if d.failsafe ∨ !d.loftOk then d
    else match (d.loftWay key) <|> (d.loftFree (d.loftSetOf key)) with
      | none => d
      | some id =>
        let d := d.setStall { d.stall with evict := dropFirst (fun e => e.2.key == key) d.stall.evict, ctxErr := d.stall.ctxErr.erase key }
        ((d.rmOp f).putLoft id { c with pinned := false }).runInvalidations
  | _, _ => d.loftLate key

/-! ### INIT (R264) -/

/-- INIT of the loft: ignored while one runs; LOFT_GEN advances; carried out where the loft's memory can be reached. The loft counts as
failed until its writes complete. DEDUCED: log entry 98. -/
def Dev.loftInit (d : Dev) : Dev :=
  if d.rb R.STL_LOFT_STATUS 0 2 then d
  else
    let d := d.wf R.STL_LOFT_STATUS 0 31 16 (d.loftGen + 1)
    if d.loftOn ∧ d.loftReach ∧ !d.failsafe then
      let was := d.rb R.STL_LOFT_STATUS 0 1
      let d := (d.wf R.STL_LOFT_STATUS 0 2 0 6).wf R.STL_LOFT_STATUS 0 3 3 0
      let d := (d.wr R.STL_LOFT_CTRL 0 1).loftEndOps
      if was then d else d.raise 0x5c2
    else (d.wf R.STL_LOFT_STATUS 0 0 0 0).wf R.STL_LOFT_STATUS 0 3 3 1 |>.loftFail

/-- LOFT_INIT (R264): a write of LOFT_CTRL.INIT. DEDUCED: log entry 55. -/
def execLoftInit (a : Acc) (s : State) : Host.Outcome State Fault Refusal := s.eff fun d =>
  d.guardW a R.STL_LOFT_CTRL fun _ d => d.loftInit

/-- LOFT_INIT_DONE (R264): the writes of INIT complete, or one ends in error and the loft fails. -/
def execLoftInitDone (ok : Bool) (s : State) : Host.Outcome State Fault Refusal := s.eff fun d =>
  if !d.rb R.STL_LOFT_STATUS 0 2 then d
  else if ok then
    let d := (d.wf R.STL_LOFT_STATUS 0 2 0 1).wr R.STL_LOFT_CTRL 0 0
    d.setStall { d.stall with loft := [], ctxErr := [], errRun := 0 }
  else d.loftFail

/-! ### CTX_OP (R288) -/

/-- The key in an accessor's CTX_KEY registers. -/
def Dev.ctxKeyOf (d : Dev) (acc : Nat) : Nat :=
  (d.arn acc R.STL_CTX_KEY_LO + 4294967296 * d.arn acc R.STL_CTX_KEY_HI) % 2 ^ 50

/-- LOOKUP, INVALIDATE or CREATE of an accessor's key. -/
def Dev.ctxStart (d : Dev) (acc key op : Nat) : Dev :=
  let busy (d : Dev) : Dev := d.setStall { d.stall with opBusy := d.stall.opBusy.insert acc op }
  let err : Word := 0x80000000
  if op = 2 then
    if (d.onDie key).any (·.pinned) || d.pinKeys.contains key then d.opEnd acc err
    else ((busy d).addOp key (.invalidate acc) 0).runInvalidations
  else
    let d := d.recall key
    match (d.onDie key) <|> (d.stall.evict.find? fun e => e.2.key == key).map (·.2) with
    | some c => d.opEnd acc (foundWord c true)
    | none =>
      if op = 4 ∧ d.sliceless key then d.opEnd acc err
      else if op = 1 then (if d.loftOk then (busy d).addOp key (.lookup acc) 1 else d.opEnd acc 0)
      else match d.absent key true with
        | (d, some r) => (if r = 1 then d.raise 0x5c1 else d).opEnd acc err
        | (d, none) =>
          if d.loftOn then (busy d).addOp key (.create acc) 1
          else match d.onDie key with
            | some c => d.opEnd acc (foundWord c true)
            | none => d.opEnd acc err

/-- A write of CTX_OP: ignored while an operation of the accessor runs; several operations at once, or a tenant's key of a
port that its stable does not own, are refused. -/
def Dev.ctxOp (d : Dev) (a : Acc) (ops : Nat) : Dev :=
  let acc := accIdx a
  let key := d.ctxKeyOf acc
  let foreign : Bool := match d.tenant a with
    | some s => !(d.ownMode (keyPort key) == 1 && d.owner (keyPort key) == some s)
    | none => false
  if d.stall.opBusy.getD acc 0 ≠ 0 ∨ ops = 0 then d
  else if foreign ∨ (ops ≠ 1 ∧ ops ≠ 2 ∧ ops ≠ 4) then d.opEnd acc 0x80000000
  else d.ctxStart acc key ops

/-- CTX_LOOKUP (R288): a write of CTX_OP.LOOKUP. -/
def execCtxLookup (a : Acc) (s : State) : Host.Outcome State Fault Refusal := s.eff fun d =>
  d.guardW a R.STL_CTX_OP fun _ d => d.ctxOp a 1

/-- CTX_INVALIDATE (R288): a write of CTX_OP.INVALIDATE. DEDUCED: log entry 55. -/
def execCtxInvalidate (a : Acc) (s : State) : Host.Outcome State Fault Refusal := s.eff fun d =>
  d.guardW a R.STL_CTX_OP fun _ d => d.ctxOp a 2

/-- CTX_CREATE (R288): a write of CTX_OP.CREATE. DEDUCED: log entry 51. -/
def execCtxCreate (a : Acc) (s : State) : Host.Outcome State Fault Refusal := s.eff fun d =>
  d.guardW a R.STL_CTX_OP fun _ d => d.ctxOp a 4

/-! ### Generations and slices (R276–R279) -/

/-- ADV of a port domain: an OWNED downstream port has one. -/
def Dev.portGenAdv (d : Dev) (p : Nat) : Dev := if p < 128 ∧ d.ownMode p = 1 ∧ d.isDown p then d.advanceDom (domPort p) else d

/-- PORT_GEN_ADV (R279): a write of PORT_GEN_CTRL.ADV. -/
def execPortGenAdv (a : Acc) (s : State) : Host.Outcome State Fault Refusal := s.eff fun d =>
  d.guardW a R.STL_PORT_GEN_CTRL fun p d => d.portGenAdv p

/-- GEN_ADVANCE_RELEASE (R279): the last TLP of the generation before the current one has gone, and the held advance takes
effect. -/
def execGenAdvanceRelease (dom : Nat) (s : State) : Host.Outcome State Fault Refusal := s.eff fun d =>
  let g := d.gen dom
  if g.pend && !d.genInUse dom ((g.g + 255) % 256) then (d.setGen dom ⟨(g.g + 1) % 256, false⟩).markGen dom else d

/-- RELEASE of a slice: a contained one is active again, under a new generation. -/
def Dev.sliceRelease (d : Dev) (k : Nat) : Dev :=
  if d.slice.contained.contains k then
    ((({ d with slice := { d.slice with contained := d.slice.contained.filter (· != k) } }).headFree (256 + k)).advanceDom (domSlice k))
  else d

/-- A write of SLICE_CTRL (R276). -/
def Dev.sliceCtrl (d : Dev) (k : Nat) (w : Word) : Dev :=
  let rel := bit w 2 && !bit w 1 && d.slice.contained.contains k
  let d := if bit w 1 ∧ ¬d.slice.contained.contains k then (d.sliceContain k).internalErr [d.sliceStable k] else d
  if rel then d.sliceRelease k else if bit w 0 then d.advanceDom (domSlice k) else d

/-- SLICE_GEN_ADV (R279): a write of SLICE_CTRL.GEN_ADV. -/
def execSliceGenAdv (a : Acc) (s : State) : Host.Outcome State Fault Refusal := s.eff fun d =>
  d.guardW a R.SLC_SLICE_CTRL fun k d => d.sliceCtrl k 1

/-- SLICE_CONTAIN (R276): a write of SLICE_CTRL.CONTAIN. -/
def execSliceContain (a : Acc) (s : State) : Host.Outcome State Fault Refusal := s.eff fun d =>
  d.guardW a R.SLC_SLICE_CTRL fun k d => d.sliceCtrl k 2

/-- SLICE_RELEASE (R276): a write of SLICE_CTRL.RELEASE. -/
def execSliceRelease (a : Acc) (s : State) : Host.Outcome State Fault Refusal := s.eff fun d =>
  d.guardW a R.SLC_SLICE_CTRL fun k d => d.sliceCtrl k 4

/-- LEDGER_TIMEOUT (R282): the age of an entry, by egress port, requester ID and tag, passes LED_TO. DEDUCED: log entry 53. -/
def execLedgerTimeout (egress rid tag : Nat) (s : State) : Host.Outcome State Fault Refusal := s.eff fun d =>
  let lim := d.rf R.PRT4_LED_TO 0 15 0 * 1000000
  match d.slice.ledger.find? fun l => l.egress == egress && l.rid == rid && l.tag == tag with
  | some l =>
    if lim = 0 then d
    else
      let d := d.advanceTo (l.time + lim)
      ((d.setLedger (d.slice.ledger.erase l)).bump R.PRT4_LED_CNT_TIMEOUT).raiseFor 0x5c6 l.stable.toList
  | none => d

/-! ### Dirty-page logging (R284–R286) -/

/-- A write of DLG_SIZE. -/
def Dev.dlgSize (d : Dev) (i : Nat) (v : Word) : Dev :=
  let d := ((d.wn R.SLC_DLG_SIZE i (fld v 15 0)).wn R.SLC_DLG_PROD i 0).wn R.SLC_DLG_CONS i 0
  { d with slice := { d.slice with phase := d.slice.phase.erase (i - 0x1000) } }

/-- DLG_SIZE_WRITE (R286): a write of DLG_SIZE. -/
def execDlgSizeWrite (a : Acc) (data : Word) (s : State) : Host.Outcome State Fault Refusal := s.eff fun d =>
  d.guardW a R.SLC_DLG_SIZE fun i d => d.dlgSize i data

/-- FILTER_CLEAR of a group. -/
def Dev.dlgFilterClear (d : Dev) (i : Nat) : Dev :=
  { d with slice := { d.slice with filter := d.slice.filter.erase (i - 0x1000) } }

/-- FILTER_CLEAR (R284): a write of DLG_CTRL.FILTER_CLEAR. -/
def execFilterClear (a : Acc) (s : State) : Host.Outcome State Fault Refusal := s.eff fun d =>
  d.guardW a R.SLC_DLG_CTRL fun i d => d.dlgFilterClear i

/-- SYNC of a group: it reads 1 until the record writes outstanding now have been transmitted or have failed. -/
def Dev.dlgSync (d : Dev) (i : Nat) : Dev :=
  let g := i - 0x1000
  let ids := (d.slice.dirtyOut.filter fun e => e.2 == g).map (·.1)
  if ids.isEmpty then d
  else ({ d with slice := { d.slice with syncWait := d.slice.syncWait.insert g ids } }).wf R.SLC_DLG_CTRL i 1 1 1

/-- SYNC (R286): a write of DLG_CTRL.SYNC. -/
def execSync (a : Acc) (s : State) : Host.Outcome State Fault Refusal := s.eff fun d =>
  d.guardW a R.SLC_DLG_CTRL fun i d => d.dlgSync i

/-! ### Traps (R287) -/

/-- TRAP_POP: the presented entry, the oldest unread one, is read. -/
def Dev.trapPop (d : Dev) : Dev :=
  { d with slice := { d.slice with traps := updFirst (fun x => !x.read) (fun x => { x with read := true }) d.slice.traps } }

/-- TRAP_POP (R287): a write of TRAP_POP. -/
def execTrapPop (a : Acc) (s : State) : Host.Outcome State Fault Refusal := s.eff fun d =>
  d.guardW a R.SLC_TRAP_POP fun _ d => d.trapPop

/-- The request of a trap entry. -/
def Trap.req (x : Trap) : Tlp :=
  { Tlp.blank with kind := if x.write then .cfgWr else .cfgRd, len := 1, fbe := x.fbe, rid := x.rid, tag := x.tag, tgt := x.target
                   reg := x.reg }

/-- Free a trap entry; the first request that waits takes it. -/
def Dev.trapFree (d : Dev) (x : Trap) : Dev :=
  ({ d with slice := { d.slice with traps := d.slice.traps.erase x } }).trapNext

/-- TRAP_CPL_GO: complete the entry that TRAP_CPL_ID names. -/
def Dev.trapGo (d : Dev) (a : Acc) : Dev :=
  match d.slice.traps.find? fun x => x.id == d.arn (accIdx a) R.SLC_TRAP_CPL_ID with
  | none => d
  | some x =>
    let sts := d.rf R.SLC_TRAP_CPL_STS 0 2 0
    let status := if sts = 0 ∨ sts = 4 then sts else 1
    let d := if status = 0 ∧ !x.write then
        d.completeData x.req (some x.stable) x.ingress 130 .mgmt 0 (bytesOf 4 (d.rn R.SLC_TRAP_CPL_DATA))
      else d.completeStatus x.req (some x.stable) x.ingress 130 .mgmt status
    d.trapFree x

/-- TRAP_CPL_GO (R287): a write of TRAP_CPL_GO. -/
def execTrapCplGo (a : Acc) (s : State) : Host.Outcome State Fault Refusal := s.eff fun d =>
  d.guardW a R.SLC_TRAP_CPL_GO fun _ d => d.trapGo a

/-- TRAP_TIMEOUT (R287): TRAP_TO ms pass since a request was trapped. -/
def execTrapTimeout (id : Nat) (s : State) : Host.Outcome State Fault Refusal := s.eff fun d =>
  match d.slice.traps.find? fun x => x.id == id with
  | none => d
  | some x =>
    let d := d.advanceTo (x.since + 1000000 * d.rf R.SLC_TRAP_CFG 0 31 16)
    ((d.completeStatus x.req (some x.stable) x.ingress 130 .mgmt 1).raise 0x5c9).trapFree x

/-! ### The refusal log (R273) -/

/-- CLEAR of the refusal log. -/
def Dev.rfClear (d : Dev) : Dev := { d with logs := { d.logs with rf := d.logs.rf.clear } }

/-- RF_CLEAR (R273): a write of RF_CTRL.CLEAR. -/
def execRfClear (a : Acc) (s : State) : Host.Outcome State Fault Refusal := s.eff fun d =>
  d.guardW a R.STL_RF_CTRL fun _ d => d.rfClear

/-- Word k of an entry of the refusal log. -/
def Refused.word (e : Refused) (k : Nat) : Word :=
  if k = 0 then Machine.word (e.port + 256 * e.fmtType + 65536 * e.stable.getD 0 + 4194304 * b2n e.stable.isSome + 8388608 * e.reason)
  else if k = 1 then Machine.word (e.rid + 65536 * (e.len % 1024))
  else if k = 2 then Machine.word (e.pasid.getD 0 % 1048576 + 1048576 * b2n e.pasid.isSome)
  else if k = 3 then Machine.word e.addr
  else if k = 4 then Machine.word (e.addr / 4294967296)
  else Machine.word e.time

/-- The entry of the refusal log at an accessor's cursor, as its class sees it. -/
def Dev.rfEntry (d : Dev) (a : Acc) : Option Refused :=
  (d.logs.rf.entries[d.arn (accIdx a) R.STL_RF_IDX % 16]?).filter fun e => match d.tenant a with
    | some s => e.stable == some s
    | none => true

/-- A read of RF_Wk; that of RF_W0 latches RF_TIME_HI for the accessor. -/
def Dev.rRf (d : Dev) (a : Acc) (k : Nat) : Word × Dev :=
  let e := d.rfEntry a
  let v := match e with
    | some e => e.word k
    | none => 0
  (v, if k = 0 then d.awn (accIdx a) R.STL_RF_TIME_HI (match e with
      | some e => e.time / 4294967296
      | none => 0) else d)

/-- RF_W0_READ (R273): a read of RF_W0. -/
def execRfW0Read (a : Acc) (s : State) : Host.Outcome State Fault Refusal := s.eff fun d =>
  d.guardR a (R.STL_RF_W 0) fun _ d => d.rRf a 0

end Sys2Proof.Machine
end

