-- ==== Sys2Proof/Machine/Irq.lean ====
section
/-! DEFINITION. Interrupts towards hosts (R407, R408, R431): MSI-X messages of the control functions and the INTx wires. -/

namespace Sys2Proof.Machine

/-! ### MSI-X (R407, R431) -/

/-- DW k of an entry of a stable's MSI-X table; a vector is masked at reset, as the standard provides. -/
def msixReset (k : Nat) : Word := if k % 4 = 3 then 1 else 0
def Dev.msixDw (d : Dev) (s k : Nat) : Word := d.fn.msix.getD (1024 * s + k) (msixReset k)
def Dev.setMsixDw (d : Dev) (s k : Nat) (w : Word) : Dev :=
  { d with fn := { d.fn with msix := Tbl.put d.fn.msix (1024 * s + k) (msixReset k) w } }

/-- MSI-X Table Size of a stable's control function, as its field reads (R407, R419). -/
def Dev.msixTop (d : Dev) (s : Nat) : Nat := d.fn.msixSize.getD s 63

/-- A stable is headless (R193). -/
def Dev.isHeadless (d : Dev) (s : Nat) : Bool := d.rb R.SWC_STABLE_SW_STATUS (0x200 + s) 0

/-- A vector can send its message: MSI-X is enabled, neither the function nor the vector is masked, the function may
master the bus, and the stable is not headless. -/
def Dev.msixReady (d : Dev) (s v : Nat) : Bool :=
  let w := d.cfg s 1 36
  d.ev.pba.contains (s, v) && bit w 31 && !bit w 30 && !bit (d.msixDw s (4 * v + 3)) 0 && decide (v ≤ d.msixTop s) &&
  d.cmdBit s 1 2 && !d.isHeadless s && (d.upPort s).isSome && !d.failsafe && !d.portContained 130 && !d.quiesced 130

/-- The coalescing gap of a vector has passed. -/
def Dev.msixFree (d : Dev) (s v : Nat) : Bool := decide (d.ev.msixGap.getD (256 * s + v) 0 ≤ d.now)

/-- The gap in force for a stable's function, in µs: FM_GAP for the fabric manager's. -/
def Dev.msixGapUs (d : Dev) (s : Nat) : Nat :=
  if d.fmStable = some s then d.rf R.EVT_EVT_COAL 0 15 8 else d.rf R.EVT_EVT_COAL 0 7 0

/-- P130 issues the message of a vector: a privileged posted write of the stable. -/
def Dev.msixIssue (d : Dev) (s v : Nat) : Dev :=
  if !d.msixReady s v || !d.msixFree s v then d
  else
    let addr := (d.msixDw s (4 * v)).toNat / 4 * 4 + 4294967296 * (d.msixDw s (4 * v + 1)).toNat
    let t := mkWrite addr (256 * d.secBus s 0) 0 (bytesOf 4 (d.msixDw s (4 * v + 2)).toNat)
    let gap := d.msixGapUs s
    let d := { d with ev := { d.ev with
      pba := d.ev.pba.erase (s, v)
      msixGap := if gap = 0 then d.ev.msixGap else d.ev.msixGap.insert (256 * s + v) (d.now + 1000 * gap) } }
    d.issue s 130 (.msix s v) t true none

/-- MSIX_MESSAGE (R407): P130 issues an MSI-X write for a pending, unmasked vector. -/
def execMsixMessage (stable vector : Nat) (s : State) : Host.Outcome State Fault Refusal := s.eff fun d =>
  d.msixIssue stable vector

/-- MSIX_GAP_END (R431): the coalescing gap of a vector ends, and a pending message is sent. -/
def execMsixGapEnd (stable vector : Nat) (s : State) : Host.Outcome State Fault Refusal := s.eff fun d =>
  match d.ev.msixGap.find (256 * stable + vector) with
  | none => d
  | some e =>
    let d := d.advanceTo e
    let d := { d with ev := { d.ev with msixGap := d.ev.msixGap.erase (256 * stable + vector) } }
    d.msixIssue stable vector

/-! ### INTx (R408) -/

/-- INTA of a control function: any PBA bit while MSI-X Enable and Interrupt Disable are 0. -/
def Dev.intaOn (d : Dev) (s : Nat) : Bool :=
  !bit (d.cfg s 1 36) 31 && !bit (d.cfg s 1 1) 10 && d.ev.pba.any fun e => e.1 == s

/-- The combined wires of a stable's upstream switch port: those of the downstream ports are swizzled by device number. A
port whose link is down asserts none, as the standard provides. -/
def Dev.intxWires (d : Dev) (s : Nat) : Nat :=
  let own := if d.intaOn s then 1 else 0
  (d.slots s).foldl (fun w (e : Nat × Nat × Nat) =>
    if e.2.1 = d.me ∧ d.ownMode e.2.2 = 1 ∧ d.dlUp e.2.2 then
      (bitsOf 4 (d.path.intx.getD e.2.2 0)).foldl (fun w i => w ||| 2 ^ ((i + 1 + e.1 / 8) % 4)) w
    else w) own

/-- Send Assert_INTx or Deassert_INTx for every wire that differs from what was last sent. -/
def Dev.intxSync (d : Dev) (s : Nat) : Dev :=
  if d.isHeadless s ∨ (d.upPort s).isNone ∨ d.failsafe then d
  else
    let w := d.intxWires s
    let was := d.path.intxOut.getD s 0
    let d := { d with path := { d.path with intxOut := Tbl.put d.path.intxOut s 0 w } }
    (List.range 4).foldl (fun d i =>
      if w.testBit i = was.testBit i then d else d.sendMsg s (if w.testBit i then 0x20 + i else 0x24 + i) []) d

/-- INTX_ASSERT (R408): the combined wires of a stable change. -/
def execIntxAssert (stable : Nat) (s : State) : Host.Outcome State Fault Refusal := s.eff fun d =>
  if stable < 64 then d.intxSync stable else d

/-- The upstream link of a stable returns (R193, R407, R408, R417): HEADLESS clears, a hierarchy reset by hot reset has its
limit, pending vectors send in ascending order, and
every wire still asserted is asserted again. -/
def Dev.upReturns (d : Dev) (s : Nat) : Dev :=
  let d := d.wf R.SWC_STABLE_SW_STATUS (0x200 + s) 0 0 0
  let d := if d.fn.readyAt.getD (4 * s) 0 = 2 ^ 64 then
      { d with fn := { d.fn with readyAt := Tbl.put d.fn.readyAt (4 * s) 0 (d.now + 2000001) } } else d
  let d := (sortBy (fun v => v) ((d.ev.pba.filter fun e => e.1 == s).map (·.2))).foldl (fun d v => d.msixIssue s v) d
  ({ d with path := { d.path with intxOut := d.path.intxOut.erase s } }).intxSync s

end Sys2Proof.Machine
end

