-- ==== Sys2Proof/Machine/Lanes.lean ====
section
/-! DEFINITION. Lanes, clusters and ports (R87–R115): training, Recovery, link power, reference clocks, lane tests and
hot-plug slots. -/

namespace Sys2Proof.Machine

/-! ### Training (R94–R98) -/

/-- The largest trained width that n lanes allow. -/
def widthOf (n : Nat) : Nat := if 16 ≤ n then 16 else if 8 ≤ n then 8 else if 4 ≤ n then 4 else if 2 ≤ n then 2 else min n 1

/-- LANE_STATUS of the lanes that carry a link: ACTIVE and locked, with rate and logical number; the other lanes of the
port's block are EXCLUDED, but for FAILED ones and lanes under test. DEDUCED: log entry 31. -/
def Dev.runLanes (d : Dev) (p rate inverted : Nat) : Dev :=
  let c := p / 8
  let l := d.linkLanes p
  (bitsOf 16 (d.blockMask p)).foldl (fun d k =>
    if l.contains k then
      d.wr (R.LAN_LANE_STATUS c) k (word (3 + 8 + 16 * b2n (inverted.testBit k) + 32 * rate + 256 * p + 65536 * d.logOf p k))
    else if d.laneState c k = 6 ∨ d.laneState c k = 7 then d
    else d.wr (R.LAN_LANE_STATUS c) k (word (5 + 256 * p))) d

/-- Raise LANE_FAULT of the lanes of a cluster-relative mask (R114). -/
def Dev.laneFaults (d : Dev) (p mask : Nat) : Dev :=
  (bitsOf 16 mask).foldl (fun d k => d.raise (0x100 + 16 * (p / 8) + k)) d

/-- Raise LINK_DEGRADED of a port (R115). -/
def Dev.linkDegraded (d : Dev) (p : Nat) : Dev := d.raise (0x200 + 4 * p + 2)

/-- A training counts as a completed procedure for every lane of the link (R118, R124): EFF values apply, the records are
written and counted, and rotation starts anew, staggered over the units. -/
def Dev.calTrained (d : Dev) (p : Nat) : Dev :=
  let ms := d.rf R.CAL_CAL_ROT p 15 0 * 1000000
  let c := p / 8
  let d := (d.linkLanes p).foldl (fun d k => (((d.applyEff c k).calRecord p k).bump (R.LAN_LCAL_CNT c) k).clearDue p k) d
  let d := d.wf R.CAL_CAL_PSTATUS p 4 4 0
  let at_ (k n : Nat) : Option Nat := if ms = 0 then none else some (d.now + (k + 1) * ms / n)
  if d.method p = 1 then
    let l := d.linkLanes p
    l.foldl (fun d k => d.setCalLane p k { d.calLane p k with lows := 0, lowRaised := false, rotAt := at_ (d.logOf p k) l.length }) d
  else if d.method p = 2 then
    (d.upperHalf p).foldl (fun d k => d.setCalLane p k { d.calLane p k with lows := 0, lowRaised := false, rotAt := at_ 0 1 }) d
  else d

/-- METHOD of a PCIe or CXL link as trained (R122). -/
def Dev.fixMethod (d : Dev) (p : Nat) : Dev :=
  let st := d.rd R.PRT0_LINK_STATUS p
  d.wf R.CAL_CAL_PSTATUS p 1 0 (if bit st 13 ∧ bit st 21 ∧ 2 ≤ fld st 20 16 ∧ d.rb R.PRT0_LINK_CTRL p 1 then 2 else 0)

/-- METHOD of a fabric link that trains with w lanes: ROTATE with two lanes or more (R122). -/
def Dev.mklMethod (d : Dev) (p w : Nat) : Dev := d.wf R.CAL_CAL_PSTATUS p 1 0 (if 2 ≤ w then 1 else 0)

/-- What a CXL link negotiates (R292, R293). -/
def Dev.cxlStatus (d : Dev) (p : Nat) (i : LinkInfo) : Dev :=
  let r := R.CXP_PORT_CXL_STATUS
  if !d.isCxl p then d.wr r (0x100 + p) 0
  else if d.isUp p then d.wr r (0x100 + p) (word (128 * b2n i.bi + 256 * b2n i.cache + 1024 * b2n i.ide))
  else
    let up (b : Nat) : Bool := match d.owner p with
      | some s => (d.upPort s).any fun q => d.rb r (0x100 + q) b
      | none => false
    let other : Bool := match d.owner p with
      | some s => (d.ownedDown s).any fun q => q != p && d.rb r (0x100 + q) 8
      | none => true
    let sld := i.devType != 2
    let bi := i.bi && sld && up 7
    let cache := i.cache && sld && !other && up 8
    d.wr r (0x100 + p) (word (i.devType % 4 + 4 * (if i.devType = 2 then min i.nld 16 else 0) + 128 * b2n bi + 256 * b2n cache
      + 512 * b2n i.dcd + 1024 * b2n i.ide))

/-- Training of a PCIe or CXL link ends in L0 at the final rate (R90, R95–R100, R122, R124). -/
def Dev.linkUp (d : Dev) (p : Nat) (i : LinkInfo) : Dev :=
  let lanes := (d.trainLanes p).filter fun k => !i.unlocked.testBit k
  let w := widthOf (min (min (d.tgtWidth p) i.width) lanes.length)
  if w = 0 then d
  else
    let cfg := d.rd R.PRT0_PORT_CFG p
    let cxl := bit cfg 2 && i.cxl
    let top := min (min (fld cfg 6 4) i.rate) (if cxl then 5 else 6)
    let held := if i.flit then top else min top 4
    let eqBad : Option Nat := i.eqFail.filter fun r => decide (2 ≤ r) && decide (r ≤ held)
    let rate := match eqBad with
      | some r => r - 1
      | none => held
    let flit := i.flit && (decide (5 ≤ rate) || bit cfg 11)
    let err := match eqBad with
      | some r => 4 + 16 * r
      | none => if held < top then 6 else if bit cfg 2 && !i.cxl then 5 else 0
    let all := min (min i.rate (if cxl then 5 else 6)) (if flit then 6 else 4)
    let cap := match i.eqFail with
      | some r => if 2 ≤ r ∧ r ≤ all then r - 1 else all
      | none => all
    let never := d.laneMask p &&& i.unlocked
    let d := d.wr R.PRT0_LINK_STATUS p (word (4 + 16 * rate + 128 * w + 4096 + 8192 * b2n flit + 16384 * b2n cxl
      + 32768 * b2n i.reversed + 65536 * w + 2097152 * b2n i.l0p + 4194304 + 8388608 * b2n i.retimer))
    let d := d.setPst p { d.pst p with detLanes := ofBits (lanes.take w), leftOut := 0, recFail := [], l0pReq := none, lmLanes := [],
                                        rateCap := cap, ptm := false, rising := false, flitP := i.flit }
    let d := (bitsOf 16 (d.blockMask p)).foldl (fun d k => if d.laneState (p / 8) k = 6 then d.setLane (p / 8) k 5 else d) d
    let d := (d.runLanes p rate i.inverted).laneFaults p never
    let d := d.wn R.PRT0_TRAIN_ERR p err
    let d := d.wr64 R.PRT0_UP_TIME_LO R.PRT0_UP_TIME_HI p d.now
    let d := (d.wf R.PRT0_LINK_CTRL p 0 0 0).fixMethod p
    let d := ((d.calTrained p).cxlStatus p i).report p w
    let d := (d.raise (0x200 + 4 * p)).dpcCor p 23
    let d := if w < d.tgtWidth p ∨ eqBad.isSome ∨ i.retimer then d.linkDegraded p else d
    match d.owner p with
    | some s => if d.isUp p then d.upReturns s else d
    | none => d

/-- A link is in training: its lanes search for receivers, or train. -/
def Dev.inTraining (d : Dev) (p : Nat) : Bool :=
  d.mayTrain p && !d.dlUp p && (bitsOf 16 (d.laneMask p)).any fun k => d.laneState (p / 8) k == 1 || d.laneState (p / 8) k == 2

/-- The lanes of MASK as a training has them: those of a cluster-relative mask in TRAINING, locked or not, the others in DETECT. -/
def Dev.stepLanes (d : Dev) (p lanes lock : Nat) : Dev :=
  let c := p / 8
  (d.trainLanes p).foldl (fun d k =>
    let st := if lanes.testBit k then 2 + 8 * lock else 1
    d.wr (R.LAN_LANE_STATUS c) k (word (st + 32 * (if d.isFabric p then 7 else 0) + 256 * p))) d

/-- A training under way reaches a further step of R96, with the lanes of a cluster-relative mask: 1 Polling, 2 Configuration, 3 L0 at
2.5 GT/s, where the data link comes up, 4 the Recovery of a change of rate, 5 Loopback or Compliance, where the partner directs the
port as a follower (R99). A fabric port, whose state MKL keeps, has only step 1. DEDUCED: log entry 32. -/
def Dev.trainStep (d : Dev) (p stage lanes : Nat) : Dev :=
  let st := d.lstate p
  let on := (d.trainLanes p).filter fun k => lanes.testBit k
  let w := widthOf (min (d.tgtWidth p) on.length)
  if w = 0 then d
  else if d.isFabric p then (if stage = 1 then d.stepLanes p lanes 0 else d)
  else if stage = 1 ∧ st = 1 then
    let d := if (d.portSlot p).isSome then d else d.wf R.PRT0_LINK_STATUS p 22 22 1
    (d.stepLanes p lanes 0).setLstate p 2
  else if stage = 2 ∧ st = 2 then (d.stepLanes p lanes 1).setLstate p 3
  else if stage = 3 ∧ st = 3 then
    let d := (d.stepLanes p lanes 1).setPst p { d.pst p with rising := true }
    let d := ((d.wf R.PRT0_LINK_STATUS p 20 16 w).wf R.PRT0_LINK_STATUS p 11 7 w).wf R.PRT0_LINK_STATUS p 12 12 1
    (d.wf R.PRT0_LINK_STATUS p 6 4 0).setLstate p 4
  else if stage = 3 ∧ st = 5 then d.setLstate p 4
  else if stage = 4 ∧ st = 4 then d.setLstate p 5
  else if stage = 5 ∧ (st = 2 ∨ st = 3) then (d.stepLanes p lanes 1).setLstate p 9
  else d

/-- Training begins: receiver detection on the lanes in MASK (R96 step 1). A fabric port hands its lanes to MKL. -/
def Dev.trainStart (d : Dev) (p : Nat) : Dev :=
  if !d.mayTrain p || d.dlUp p then d
  else if d.isFabric p then
    let st := d.lkState p
    if st = 0 ∨ st = 5 ∨ st = 6 then ((d.linkWords p 1).setLstate p 11).setLkState p 1 else d
  else d.linkWords p 1

/-- LINK_TRAINING_START (R96): training begins, with `stage` 0, or goes on to a further step with the lanes of a cluster-relative mask. -/
def execLinkTrainingStart (port stage lanes : Nat) (s : State) : Host.Outcome State Fault Refusal := s.eff fun d =>
  if stage = 0 then d.trainStart port else if d.inTraining port then d.trainStep port stage lanes else d

/-- LINK_UP (R96): training of a PCIe or CXL link ends in L0. -/
def execLinkUp (port : Nat) (info : LinkInfo) (s : State) : Host.Outcome State Fault Refusal := s.eff fun d =>
  if d.inTraining port && !d.isFabric port && d.lstate port != 9 then d.linkUp port info else d

/-- TRAINING_FAILURE (R96): a training step fails, with the reason and rate that TRAIN_ERR shows and the lanes that never
locked. Reasons 1 to 3 return the port to receiver detection; 4 to 6 are fallbacks, after which training goes on. DEDUCED: log entry 32. -/
def execTrainingFailure (port reason rate lanes : Nat) (s : State) : Host.Outcome State Fault Refusal := s.eff fun d =>
  if !d.inTraining port ∨ reason = 0 ∨ 6 < reason then d
  else
    let d := d.wn R.PRT0_TRAIN_ERR port (reason + 16 * (rate % 8))
    let d := if 3 < reason then d else if d.isFabric port then (d.linkWords port 1).setLstate port 11 else d.linkWords port 1
    let d := if (d.portSlot port).isSome then d else d.wf R.PRT0_LINK_STATUS port 22 22 (b2n (reason != 1))
    if reason ≤ 3 then (if reason = 1 then d else d.laneFaults port (d.laneMask port &&& lanes))
    else if reason = 4 then d.linkDegraded port else d

/-! ### Recovery (R94, R97, R140) -/

/-- A link in L0 enters Recovery: a procedure is aborted, and its link returns to the width before it. -/
def Dev.enterRecovery (d : Dev) (p : Nat) : Dev :=
  let back := (d.pst p).proc.map (·.width)
  let d := (d.procAbort p 3).adaptStop (p / 8) (d.linkLanes p)
  let d := if back.isSome then d.setPst p { d.pst p with l0pReq := back } else d
  d.setLstate p 5

/-- The lanes that a retraining through Recovery may use: those of MASK that the link trained on and that have not failed. -/
def Dev.recLanes (d : Dev) (p : Nat) : List Nat :=
  (d.trainLanes p).filter fun k => (d.pst p).detLanes.testBit k && d.laneState (p / 8) k != 6

/-- A link renegotiates its width through Recovery and Configuration over the given lanes. -/
def Dev.reconfigure (d : Dev) (p : Nat) (lanes : List Nat) : Dev :=
  let w := widthOf (min (d.tgtWidth p) lanes.length)
  if w = 0 then d.dlDown p 1 true true
  else
    let use := lanes.take w
    let det := (d.pst p).detLanes
    let d := d.setPst p { d.pst p with leftOut := ofBits ((bitsOf 16 det).filter fun k => !use.contains k), l0pReq := none, recFail := [] }
    let d := (d.wf R.PRT0_LINK_STATUS p 20 16 w).wf R.PRT0_LINK_STATUS p 11 7 w
    let inverted := ofBits ((bitsOf 16 det).filter fun k => bit (d.lane (p / 8) k) 4)
    let d := ((d.setLstate p 4).runLanes p (d.curRate p) inverted).wf R.PRT0_LINK_CTRL p 0 0 0
    let d := d.report p w
    if w < d.tgtWidth p then d.linkDegraded p else d

/-- Start a retraining (R94, R158): of a link that is up through Recovery where its lanes suffice, else from Detect. -/
def Dev.retrain (d : Dev) (p : Nat) : Dev :=
  let on := d.wf R.PRT0_LINK_CTRL p 0 0 1
  if d.isFabric p then (if d.lkState p = 3 then on.mklHold p true else d)
  else if d.dlUp p then
    let m := d.laneMask p
    if m ≠ 0 ∧ m &&& (d.pst p).detLanes = m then
      let w := widthOf (min (d.tgtWidth p) (d.recLanes p).length)
      let d := on.enterRecovery p
      d.report p (min w (d.repWidth p))
    else
      let d := on.dlDown p 1 false true
      if d.inTraining p then d else d.wf R.PRT0_LINK_CTRL p 0 0 0
  else if d.mayTrain p then on.trainStart p
  else d

/-- RETRAIN (R94): a write of LINK_CTRL.RETRAIN. -/
def execRetrain (a : Acc) (s : State) : Host.Outcome State Fault Refusal := s.eff fun d =>
  d.guardW a R.PRT0_LINK_CTRL fun inst d => d.retrain inst

/-- LANE_LOCK_LOSS (R97): a lane of a link in L0 loses lock. -/
def execLaneLockLoss (port lane : Nat) (s : State) : Host.Outcome State Fault Refusal := s.eff fun d =>
  if !d.isFabric port && d.dlUp port && (d.lstate port == 4 || d.lstate port == 6) && d.laneState (port / 8) lane == 3 &&
      (d.linkLanes port).contains lane then
    (d.enterRecovery port).wf (R.LAN_LANE_STATUS (port / 8)) lane 3 3 0
  else d

/-- LINK_ENTERS_RECOVERY (R140): a link error, or the partner, takes a link from L0 to Recovery. -/
def execLinkEntersRecovery (port : Nat) (s : State) : Host.Outcome State Fault Refusal := s.eff fun d =>
  if !d.isFabric port && d.dlUp port && (d.lstate port == 4 || d.lstate port == 6) then d.enterRecovery port else d

/-- The IDE streams of a port end: their keys are invalid. -/
def Dev.ideEnd (d : Dev) (p : Nat) : Dev :=
  let d := d.wr R.PRT3_IDE_STATUS p 0
  let d := if d.isCxl p then d.wf R.CXP_PORT_CXL_STATUS (0x100 + p) 10 10 0 else d
  (List.range 24).foldl (fun d k => d.wr ⟨0x203, 0x82c + 0x40 * k⟩ p 0) d

/-- The rate at which a link leaves Recovery: the highest that MAX_RATE in force and both ends allow (R92), with flit mode as R98 gives it
for that rate; without it the link has neither L0p nor IDE. DEDUCED: log entry 32. -/
def Dev.speedSync (d : Dev) (p : Nat) : Dev :=
  let r := min (d.rf R.PRT0_PORT_CFG p 6 4) (d.pst p).rateCap
  if r = d.curRate p then d
  else
    let flit := (d.pst p).flitP && (decide (5 ≤ r) || d.rb R.PRT0_PORT_CFG p 11)
    let d := (d.wf R.PRT0_LINK_STATUS p 6 4 r).wf R.PRT0_LINK_STATUS p 13 13 (b2n flit)
    let d := if flit then d else (d.ideEnd p).setPst p { d.pst p with l0pReq := some (d.rf R.PRT0_LINK_STATUS p 20 16) }
    (d.linkLanes p).foldl (fun d k => d.wf (R.LAN_LANE_STATUS (p / 8)) k 7 5 r) d

/-- RECOVERY_END (R94, R97): Recovery succeeds, or fails on the lanes of a cluster-relative mask. A lane on which it has
failed three times in a row is left out. -/
def execRecoveryEnd (port failed : Nat) (s : State) : Host.Outcome State Fault Refusal := s.eff fun d =>
  let reeq := (d.pst port).proc.any fun pr => pr.kind == .reeq
  if d.isFabric port || !d.dlUp port || d.lstate port != 5 || (reeq && failed == 0) then d
  else
    let d := d.procAbort port 3
    let c := port / 8
    let bad := (d.linkLanes port).filter fun k => failed.testBit k
    if bad.isEmpty then
      let d := (d.setPst port { d.pst port with recFail := [] }).speedSync port
      if d.rb R.PRT0_LINK_CTRL port 0 then d.reconfigure port (d.recLanes port)
      else
        let w := ((d.pst port).l0pReq).getD (d.curWidth port)
        let d := (d.linkLanes port).foldl (fun d k => d.wf (R.LAN_LANE_STATUS c) k 3 3 1) d
        (d.setLstate port (if w < d.rf R.PRT0_LINK_STATUS port 20 16 then 6 else 4)).l0pWiden port w
    else
      let t := bad.map fun k => (k, (d.pst port).recFail.getD k 0 + 1)
      let d := d.setPst port { d.pst port with recFail := t.foldl (fun l e => Tbl.put l e.1 0 e.2) [] }
      let out := (t.filter fun e => 3 ≤ e.2).map (·.1)
      if out.isEmpty then d
      else
        let d := (out.foldl (fun d k => (d.setLane c k 6).wf (R.LAN_LANE_STATUS c) k 3 3 0) d).laneFaults port (ofBits out)
        let d := d.reconfigure port (d.recLanes port)
        if d.dlUp port ∧ d.curWidth port = d.tgtWidth port then d.linkDegraded port else d

/-! ### Link power (R101–R103) -/

/-- A link runs at a narrower L0p width: the width is reported, then the lanes above it are PARKED. -/
def Dev.l0pNarrow (d : Dev) (p w : Nat) : Dev :=
  let d := (d.report p w).adaptStop (p / 8) ((d.linkLanes p).drop w)
  let d := ((d.linkLanes p).drop w).foldl (fun d k => d.setLane (p / 8) k 4) d
  (d.wf R.PRT0_LINK_STATUS p 11 7 w).setLstate p 6

/-- L0P_PARTNER_REQUEST (R101, R102, R134): narrowing is accepted at once; widening is deferred while a calibration window
is open, or until the return step of a HALF procedure. -/
def execL0pPartnerRequest (port width : Nat) (s : State) : Host.Outcome State Fault Refusal := s.eff fun d =>
  let st := d.rd R.PRT0_LINK_STATUS port
  if d.isFabric port || !d.dlUp port || !(d.lstate port == 4 || d.lstate port == 6) || !bit st 13 || !bit st 21 ||
      !d.rb R.PRT0_LINK_CTRL port 1 || width == 0 || widthOf width != width || decide (fld st 20 16 < width) then d
  else
    let x := d.pst port
    let half : Option Proc := x.proc.filter fun pr => pr.kind == .half
    let d := match half with
      | some pr => d.setPst port { x with proc := some { pr with ret := width } }
      | none => d
    let cur := d.curWidth port
    if width < cur then (d.setPst port { d.pst port with l0pReq := none }).l0pNarrow port width
    else if width = cur then d
    else if half.isSome ∨ !x.wins.isEmpty then d.setPst port { d.pst port with l0pReq := some width }
    else d.l0pWiden port width

/-- L0P_PARTNER_ACKNOWLEDGE (R133): the link runs at half width, its upper lanes PARKED, and the loopback is engaged. -/
def execL0pPartnerAcknowledge (port : Nat) (s : State) : Host.Outcome State Fault Refusal := s.eff fun d =>
  match (d.pst port).proc with
  | some pr =>
    if pr.kind = .half ∧ pr.step = .starting ∧ d.dlUp port then
      let w := min (d.rf R.PRT0_LINK_STATUS port 20 16 / 2) (d.curWidth port)
      let d := d.l0pNarrow port w
      let d := d.setPst port { d.pst port with proc := some { pr with step := .parked } }
      d.emit (.engine port 2 [pr.lanes])
    else d
  | none => d

/-- A PCIe link may enter L1 (R103), and in SL1 a CXL link as well (R457). -/
def Dev.l1Allowed (d : Dev) (p : Nat) : Bool :=
  decide (d.pwr.entry = 1) || (!d.isCxl p && d.rb R.PRT0_LINK_CTRL p 2)

/-- A pin's SB_CLKREQ names a port: the pin's input carries its CLKREQ_N (R485). -/
def Dev.clkreqRouted (d : Dev) (p : Nat) : Bool :=
  (List.range 64).any fun j => d.rb R.SBD_SB_CLKREQ j 8 && d.rf R.SBD_SB_CLKREQ j 7 0 == p

/-- A substate of L1 may be used (R103): its bit of LINK_CTRL, 3 for L1.1 and 4 for L1.2, and a routed CLKREQ_N. -/
def Dev.l1Sub (d : Dev) (p b : Nat) : Bool := !d.isCxl p && d.rb R.PRT0_LINK_CTRL p b && d.clkreqRouted p

/-- L1_ENTRY (R103): a link enters L1, with the substates that may be used, where it is enabled and nothing is queued or sent; that
it does says that the partner has acknowledged what it was sent. DEDUCED: log entry 29. -/
def execL1Entry (port : Nat) (s : State) : Host.Outcome State Fault Refusal := s.eff fun d =>
  if !d.isFabric port && d.dlUp port && (d.lstate port == 4 || d.lstate port == 6) && d.l1Allowed port &&
      (d.queueOf port).isEmpty && !d.busyAt port then
    (({ d with path := { d.path with replay := d.path.replay.erase port } }.procAbort port 3).setLstate port 7).emit
      (.engine port 9 [b2n (d.l1Sub port 3), b2n (d.l1Sub port 4)])
  else d

/-- A link leaves L1 (R103). DEDUCED: log entry 29. -/
def Dev.l1Leave (d : Dev) (p : Nat) : Dev :=
  if d.lstate p = 7 then d.setLstate p (if d.curWidth p < d.rf R.PRT0_LINK_STATUS p 20 16 then 6 else 4) else d

/-! ### Reference clocks (R105) -/

/-- REFCLK_LOSS (R105, R379): PRESENT or FREQ_OK of a cluster's reference clock falls; `freq` its frequency in 10 kHz. DEDUCED: log entry
33. -/
def execRefclkLoss (cl : Nat) (present freqOk : Bool) (freq : Nat) (s : State) : Host.Outcome State Fault Refusal := s.eff fun d =>
  if 16 ≤ cl ∨ (present && freqOk) then d
  else
    let was := d.refOk cl
    let d := d.wn (R.LAN_CL_REFCLK cl) 0 (b2n present + 2 * b2n freqOk + 65536 * (freq % 65536))
    if !was then d
    else
      let ps := d.clusterPorts cl
      let d := d.react 0x0d (ps.flatMap d.portStables).eraseDups ps (ps.flatMap fun p => (d.portSlices p).map (·.1))
        (d.unitRef (.cluster cl)) 0
      ps.foldl (fun d p =>
        if d.isFabric p then (if d.lkState p = 3 then d.mklHold p false else if d.lkState p = 4 then d else (d.linkWords p (d.lstate p)).setLkState p 0)
        else if d.dlUp p then d.dlDown p 1 false true
        else d.linkWords p (d.lstate p)) d

/-- REFCLK_RESTORE (R105): both bits return to 1, and the cluster's ports may train again. -/
def execRefclkRestore (cl freq : Nat) (s : State) : Host.Outcome State Fault Refusal := s.eff fun d =>
  if cl < 16 then d.wn (R.LAN_CL_REFCLK cl) 0 (3 + 65536 * (freq % 65536)) else d

/-! ### Lane tests and margining (R112, R139) -/

/-- Errors that the checker of a lane has counted, while CHK_EN is 1, are added to what LANE_TEST_ERR holds. -/
def Dev.chkCount (d : Dev) (c k errs : Nat) : Dev :=
  if d.rb (R.LAN_LANE_TEST c) k 1 then d.wn (R.LAN_LANE_TEST_ERR c) k (min 4294967295 (d.rn (R.LAN_LANE_TEST_ERR c) k + errs)) else d

/-- A write of LANE_TEST of a lane, whose checker has counted `errs` bit errors since LANE_TEST_ERR was last brought up to date. -/
def Dev.laneTest (d : Dev) (c k errs : Nat) (w : Word) : Dev :=
  let st := d.laneState c k
  if !(st == 0 || st == 5 || st == 7) || !d.rb (unitCtrl (0x100 + c)) k 0 then d
  else
    let d := (d.chkCount c k errs).wn (R.LAN_LANE_TEST c) k (w.toNat % 128)
    if w.toNat % 4 ≠ 0 then d.setLane c k 7
    else if st ≠ 7 then d
    else d.setLane c k (match d.blockPort c k with
      | some p => if d.portEn p && d.tgtWidth p != 0 then 5 else 0
      | none => 0)

/-- LANE_TEST_WRITE (R112): a write of LANE_TEST of the lane that the accessor has selected on a cluster's page; `errs` as in
LANE_TEST_ERR_READ. -/
def execLaneTestWrite (cl : Nat) (a : Acc) (data : Word) (errs : Nat) (s : State) : Host.Outcome State Fault Refusal := s.eff fun d =>
  if cl < 16 then d.guardW a (R.LAN_LANE_TEST cl) fun inst d => d.laneTest cl inst errs data else d

/-- A read of LANE_TEST_ERR: `errs` is what the checker has counted since the last read or write of LANE_TEST. -/
def Dev.laneTestErr (d : Dev) (c k errs : Nat) : Word × Dev :=
  let d := d.chkCount c k errs
  (d.rd (R.LAN_LANE_TEST_ERR c) k, d.wr (R.LAN_LANE_TEST_ERR c) k 0)

/-- LANE_TEST_ERR_READ (R111). -/
def execLaneTestErrRead (cl : Nat) (a : Acc) (errs : Nat) (s : State) : Host.Outcome State Fault Refusal := s.eff fun d =>
  if cl < 16 then d.guardR a (R.LAN_LANE_TEST_ERR cl) fun inst d => d.laneTestErr cl inst errs else d

/-- LANE_MARGINING_COMMAND (R99, R119, R139): a margining command for a lane of a link, at an offset (0 the normal point).
A parked lane, or LM_EN = 0, reports not ready. -/
def execLaneMarginingCommand (port lane offset : Nat) (s : State) : Host.Outcome State Fault Refusal := s.eff fun d =>
  if d.isFabric port || !d.dlUp port || !(d.linkLanes port).contains lane then d
  else if !d.rb R.PRT0_LINK_CTRL port 5 || d.laneState (port / 8) lane == 4 then d.emit (.engine port 3 [lane, 0])
  else
    let rest := (d.pst port).lmLanes.filter (· != lane)
    let d := if offset = 0 then d else d.adaptStop (port / 8) [lane]
    let d := d.setPst port { d.pst port with lmLanes := if offset = 0 then rest else rest ++ [lane] }
    d.emit (.engine port 3 [lane, 1, offset])

/-! ### Hot-plug slots (R106–R109) -/

/-- Set status bits of the Slot Status of the functions that present a port. -/
def Dev.slotStatus (d : Dev) (p : Nat) (bits : Nat) : Dev :=
  (List.range 64).foldl (fun d s => match d.slotOf s p with
    | some k => d.setCfg s (8 + k) 26 (d.cfg s (8 + k) 26 ||| word (bits * 65536))
    | none => d) d

/-- Raise SLOT of the port of a slot (R115). -/
def Dev.slotEvent (d : Dev) (k : Nat) : Dev := match d.slotPort k with
  | some p => d.raise (0x200 + 4 * p + 3)
  | none => d

/-- PRESENCE_CHANGE (R108, R109): a presence level is accepted for a slot. A loss is a surprise link down. -/
def execPresenceChange (slot : Nat) (present : Bool) (s : State) : Host.Outcome State Fault Refusal := s.eff fun d =>
  if 32 ≤ slot ∨ (d.slot slot).present = present then d
  else
    let d := d.setSlot slot { d.slot slot with present := present }
    match d.slotPort slot with
    | none => d
    | some p =>
      let d := (d.wf R.PRT1_SLOT_STATE p 0 0 (b2n present)).wf R.PRT0_LINK_STATUS p 22 22 (b2n present)
      let d := (d.slotStatus p 8).raise (0x200 + 4 * p + 3)
      if present then d
      else if d.dlUp p then d.dlDown p 1 true true
      else d.linkWords p (d.lstate p)

/-- The output word of an expander: PWREN and the two indicators of its slots. -/
def Dev.expWord (d : Dev) (k : Nat) : Nat :=
  (List.range 4).foldl (fun n j =>
    let x := d.slot (4 * k + j)
    let lit (c : Nat) : Bool := c == 1 || (c == 2 && x.blinkOn)
    n + 16 ^ j * (b2n x.power + 2 * b2n (lit x.attn) + 4 * b2n (lit x.pwrInd))) 0

/-- The port of a slot shows what is written for it. -/
def Dev.slotShow (d : Dev) (k : Nat) : Dev := match d.slotPort k with
  | none => d
  | some p =>
    let w := d.expWord (k / 4) / 16 ^ (k % 4)
    ((d.wf R.PRT1_SLOT_STATE p 1 1 w).wf R.PRT1_SLOT_STATE p 3 3 (w / 2)).wf R.PRT1_SLOT_STATE p 4 4 (w / 4)

/-- Write an expander's outputs for a slot: queued behind writes that are not yet acknowledged; `cmd` where host software
waits for Command Completed. DESIGN CHOICE: log entry 34. -/
def Dev.expWrite (d : Dev) (k : Nat) (cmd : Bool) : Dev :=
  let e := k / 4
  let d := d.slotShow k
  let q := d.ports.expQ.getD e []
  let w := d.expWord e
  let d := { d with ports := { d.ports with expQ := Tbl.put d.ports.expQ e [] (q ++ [w + 65536 * 2 ^ (k % 4) + 1048576 * b2n cmd]) } }
  if q.isEmpty then d.emit (.bus 1 (d.rf (R.PRT1_HP_EXP e) 0 6 0) [d.rf (R.PRT1_HP_EXP e) 0 23 16, w]) else d

/-- A slot has an expander in use. -/
def Dev.slotCtl (d : Dev) (k : Nat) : Bool := d.rb (R.PRT1_HP_EXP (k / 4)) 0 7

/-- Power Controller Control of a port's slot is set to on; its reset output stays asserted until PWR_DELAY has run (R108). -/
def Dev.slotOn (d : Dev) (p : Nat) : Dev := match d.portSlot p with
  | some k =>
    if d.slotCtl k && !(d.slot k).power then
      ((d.setSlot k { d.slot k with power := true, cmdDone := false, resetOn := true }).emit (.pin (.slotReset p) true)).expWrite k true
    else d
  | none => d

/-- Power Controller Control is set to off: the link goes down, the reset output is asserted, and PWREN := 0 is written. -/
def Dev.slotOff (d : Dev) (p : Nat) : Dev := match d.portSlot p with
  | some k =>
    if d.slotCtl k && (d.slot k).power then
      let d := if d.dlUp p then d.dlDown p 1 false true else d
      let d := (d.setSlot k { d.slot k with resetOn := true }).emit (.pin (.slotReset p) true)
      (d.setSlot k { d.slot k with power := false, powered := false, delayAt := none, cmdDone := false }).expWrite k true
    else d
  | none => d

/-- Indicator controls of a slot. -/
def Dev.slotInd (d : Dev) (k attn ind : Nat) : Dev :=
  if d.slotCtl k && ((d.slot k).attn != attn || (d.slot k).pwrInd != ind) then
    (d.setSlot k { d.slot k with attn := attn, pwrInd := ind, cmdDone := false }).expWrite k true
  else d

/-- SLOT_POWER_ON (R108 step 1). -/
def execSlotPowerOn (port : Nat) (s : State) : Host.Outcome State Fault Refusal := s.eff fun d => d.slotOn port

/-- SLOT_POWER_OFF (R108 step 5). -/
def execSlotPowerOff (port : Nat) (s : State) : Host.Outcome State Fault Refusal := s.eff fun d => d.slotOff port

/-- The reset output of a slot is deasserted (R108 step 3). -/
def Dev.slotResetEnd (d : Dev) (k : Nat) : Dev :=
  let d := d.setSlot k { d.slot k with delayAt := none, resetOn := false }
  match d.slotPort k with
  | some p => d.emit (.pin (.slotReset p) false)
  | none => d

/-- EXPANDER_WRITE_ACK (R107, R108): an expander acknowledges its oldest output write. -/
def execExpanderWriteAck (expander : Nat) (s : State) : Host.Outcome State Fault Refusal := s.eff fun d =>
  match d.ports.expQ.getD expander [] with
  | [] => d
  | w :: rest =>
    let d := { d with ports := { d.ports with expQ := Tbl.put d.ports.expQ expander [] rest } }
    let d := (List.range 4).foldl (fun d j =>
      if (w / 65536).testBit j then
        let k := 4 * expander + j
        let on := (w / 16 ^ j).testBit 0
        let x := d.slot k
        let d := d.setSlot k { x with powered := on, cmdDone := x.cmdDone || w.testBit 20 }
        let d := match d.slotPort k with
          | some p => if w.testBit 20 then d.slotStatus p 16 else d
          | none => d
        if on && !x.powered then
          let ms := ((d.slotPort k).map fun p => d.rf R.PRT1_SLOT_CFG p 15 8).getD 0
          if ms = 0 then d.slotResetEnd k else d.setSlot k { d.slot k with delayAt := some (d.now + 1000000 * ms) }
        else d
      else d) d
    match rest with
    | [] => d
    | n :: _ => d.emit (.bus 1 (d.rf (R.PRT1_HP_EXP expander) 0 6 0) [d.rf (R.PRT1_HP_EXP expander) 0 23 16, n % 65536])

/-- An expander's oldest output write is sent again. DESIGN CHOICE: log entry 34. -/
def Dev.expRetry (d : Dev) (e : Nat) : Dev := match d.ports.expQ.getD e [] with
  | [] => d
  | w :: _ => d.emit (.bus 1 (d.rf (R.PRT1_HP_EXP e) 0 6 0) [d.rf (R.PRT1_HP_EXP e) 0 23 16, w % 65536])

/-- EXPANDER_WRITE_NAK (R107): the oldest output write of an expander is not acknowledged. -/
def execExpanderWriteNak (expander : Nat) (s : State) : Host.Outcome State Fault Refusal := s.eff fun d =>
  match d.ports.expQ.getD expander [] with
  | [] => d
  | w :: _ =>
    (bitsOf 4 (w / 65536)).foldl (fun d j => d.slotEvent (4 * expander + j)) (d.wf R.PRT1_HP_ERR 0 expander expander 1)

/-- EXPANDER_WRITE_RETRY (R107): while polling is off, an unacknowledged output write is sent again. DESIGN CHOICE: log entry 34. -/
def execExpanderWriteRetry (expander : Nat) (s : State) : Host.Outcome State Fault Refusal := s.eff fun d =>
  if d.rf R.PRT1_HP_POLL 0 7 0 = 0 then d.expRetry expander else d

/-- Read the inputs of the expanders in use, over the bus: a button level that two reads agree on is reported. -/
def Dev.expRead (d : Dev) (inputs : List Nat) : Dev :=
  let d := ((List.range 8).filter fun e => d.rb (R.PRT1_HP_EXP e) 0 7).foldl (fun d e =>
    d.emit (.bus 1 (d.rf (R.PRT1_HP_EXP e) 0 6 0) [d.rf (R.PRT1_HP_EXP e) 0 15 8])) d
  (List.range 32).foldl (fun d k => match d.slotPort k with
    | none => d
    | some p =>
      if !d.slotCtl k then d
      else
        let b := !((inputs.getD (k / 4) 65535).testBit (4 * (k % 4) + 3))
        let x := d.slot k
        let d := d.setSlot k { x with btnPrev := b, btn := if b = x.btnPrev then b else x.btn }
        if b = x.btnPrev ∧ b ≠ x.btn then
          let d := d.wf R.PRT1_SLOT_STATE p 2 2 (b2n b)
          if b then (d.slotStatus p 1).raise (0x200 + 4 * p + 3) else d
        else d) d

/-- EXPANDER_POLL (R107): the inputs of the eight expanders are read, and unacknowledged writes are sent again. -/
def execExpanderPoll (inputs : List Nat) (s : State) : Host.Outcome State Fault Refusal := s.eff fun d =>
  let ms := d.rf R.PRT1_HP_POLL 0 7 0
  if ms = 0 then d
  else (List.range 8).foldl (fun d e => d.expRetry e) ((d.advanceTo (d.nextPeriod ms)).expRead inputs)

/-- HP_INT (R107): a falling edge of HP_INT_N reads the inputs at once. -/
def execHpInt (inputs : List Nat) (s : State) : Host.Outcome State Fault Refusal := s.eff fun d => d.expRead inputs

/-- INDICATOR_BLINK (R107): the blinking indicators of a slot toggle. DESIGN CHOICE: log entry 34. -/
def execIndicatorBlink (slot : Nat) (s : State) : Host.Outcome State Fault Refusal := s.eff fun d =>
  let x := d.slot slot
  if slot < 32 && d.slotCtl slot && (x.attn == 2 || x.pwrInd == 2) then
    (d.setSlot slot { x with blinkOn := !x.blinkOn }).expWrite slot false
  else d

/-- PWR_DELAY_END (R108 step 3): PWR_DELAY ms have passed since the acknowledged power-on. -/
def execPwrDelayEnd (port : Nat) (s : State) : Host.Outcome State Fault Refusal := s.eff fun d =>
  match d.portSlot port with
  | some k => (match (d.slot k).delayAt with
    | some t => (d.advanceTo t).slotResetEnd k
    | none => d)
  | none => d

end Sys2Proof.Machine
end

