-- ==== Sys2Proof/Machine/Calib.lean ====
section
/-! DEFINITION. Calibration under live traffic (R116–R144): margin evaluation, triggers, and the ROTATE, HALF and
re-equalisation procedures. -/

namespace Sys2Proof.Machine

/-! ### Triggers (R120, R123, R124, R129, R132) -/

/-- The link of a port runs: L0, L0p or Recovery of a PCIe or CXL link, ACTIVE of a fabric link. -/
def Dev.calLive (d : Dev) (p : Nat) : Bool := if d.isFabric p then d.lkState p == 3 else d.dlUp p && d.lstate p != 7

/-- A re-equalisation of a port becomes due. -/
def Dev.reeqMark (d : Dev) (p : Nat) : Dev :=
  (d.setPst p { d.pst p with reeqDue := true }).wf R.CAL_CAL_PSTATUS p 5 5 1

/-- The eye of a lane is measured: height in [7:0], width in [15:8]. -/
def Dev.marginLane (d : Dev) (p k eye : Nat) : Dev :=
  let c := p / 8
  let d := d.wn (R.LAN_EYE c) k (eye % 65536)
  let x := d.calLane p k
  if d.eff c 7 k ≤ eye % 256 then d.setCalLane p k { x with lows := 0, lowRaised := false }
  else
    let d := d.setCalLane p k { x with lows := min 2 (x.lows + 1) }
    if x.lows = 0 then d
    else if !(d.unitOf p k).isEmpty then d.makeDue p k 2
    else if d.permParked p k then d
    else if d.rb R.CAL_CAL_POL p 3 then d.reeqMark p
    else if x.lowRaised then d
    else (d.setCalLane p k { d.calLane p k with lowRaised := true }).raise 0x0c1

/-- The temperature trigger of a lane. -/
def Dev.tempLane (d : Dev) (p k : Nat) : Dev :=
  let c := p / 8
  let delta := d.rf R.CAL_CAL_POL p 15 8
  let a := d.clTemp c
  let b := signed 16 (d.rf (R.LAN_LCAL_TEMP c) k 15 0)
  if delta ≠ 0 ∧ 8 * delta < (a - b).natAbs then d.trigger p k 1 else d

/-- MARGIN_EVAL (R120, R123, R136): the clusters' temperatures (16 bits, 0.125 °C) and the eyes of the lanes, by device lane
number. -/
def execMarginEval (temps : List Nat) (eyes : List (Nat × Nat)) (s : State) : Host.Outcome State Fault Refusal := s.eff fun d =>
  let ms := d.rf R.CAL_CAL_CTRL 0 15 8
  if ms = 0 then d
  else
    let d := d.advanceTo (d.nextPeriod ms)
    let d := (List.range 16).foldl (fun d c => match temps[c]? with
      | some t => d.wn (R.CAL_CL_TEMP c) 0 (t % 65536)
      | none => d) d
    (d.physPorts.filter d.calLive).foldl (fun d p =>
      (d.linkLanes p).foldl (fun d k =>
        let d := if d.laneState (p / 8) k = 3 then (match eyes.find? fun e => e.1 == 16 * (p / 8) + k with
          | some e => d.marginLane p k e.2
          | none => d) else d
        d.tempLane p k) d) d

/-- A write of CAL_REQ: the named lanes that a procedure can calibrate become due with trigger manual. -/
def Dev.calReq (d : Dev) (p : Nat) (w : Word) : Dev :=
  if !d.calLive p then d
  else (bitsOf 16 w.toNat).foldl (fun d k =>
    if (d.unitOf p k).isEmpty then d else (d.makeDue p k 3).wf R.CAL_CAL_REQ p k k 1) d

/-- CAL_REQ (R123). DEDUCED: log entry 35. -/
def execCalReq (a : Acc) (data : Word) (s : State) : Host.Outcome State Fault Refusal := s.eff fun d =>
  d.guardW a R.CAL_CAL_REQ fun inst d => d.calReq inst data

/-- ROTATION_DUE (R124): ROT_PERIOD after a lane's last calibration, or at its staggered instant, it becomes due. -/
def execRotationDue (port lane : Nat) (s : State) : Host.Outcome State Fault Refusal := s.eff fun d =>
  let ms := d.rf R.CAL_CAL_ROT port 15 0
  let x := d.calLane port lane
  if ms = 0 ∨ !d.calLive port ∨ x.due.isSome ∨ (d.unitOf port lane).isEmpty then d
  else
    let c := port / 8
    let t := x.rotAt.getD (d.rd64 (R.LAN_LCAL_TIME_LO c) (R.LAN_LCAL_TIME_HI c) lane + 1000000 * ms)
    let d := d.advanceTo t
    (d.setCalLane port lane { d.calLane port lane with rotAt := none }).makeDue port lane 0

/-- CAL_FAIL_RETRY (R132): 10 ms after a failed procedure, a lane becomes due with trigger margin. -/
def execCalFailRetry (port lane : Nat) (s : State) : Host.Outcome State Fault Refusal := s.eff fun d =>
  match (d.calLane port lane).retryAt with
  | none => d
  | some t =>
    let d := d.advanceTo t
    (d.setCalLane port lane { d.calLane port lane with retryAt := none }).trigger port lane 2

/-- The lanes of a port that are due, in logical order, with trigger and time. -/
def Dev.dueLanes (d : Dev) (p : Nat) : List (Nat × Nat × Nat) :=
  (d.linkLanes p).filterMap fun k => ((d.calLane p k).due).map fun e => (k, e.1, e.2)

/-- The due lanes of units that no procedure works on and that have not been reported as starved, since when. -/
def Dev.waitingLanes (d : Dev) (p : Nat) : List (Nat × Nat × Nat) :=
  (d.dueLanes p).filter fun e => (d.unitOf p e.1).all (fun k => !(d.calLane p k).starved) &&
    !((d.pst p).proc.any fun pr => pr.lanes.testBit e.1)

/-- CAL_STARVED (R129): the unit that has been due longest has been so for longer than its limit without a start; each unit is reported
once. -/
def execCalStarved (port : Nat) (s : State) : Host.Outcome State Fault Refusal := s.eff fun d =>
  let ms := d.rf R.CAL_CAL_ROT port 15 0
  let limit := 1000000 * (if ms = 0 then 4000 else 2 * ms)
  match sortBy (fun e : Nat × Nat × Nat => e.2.2) (d.waitingLanes port) with
  | [] => d
  | e :: _ =>
    let d := d.advanceTo (e.2.2 + limit + 1)
    let d := (d.unitOf port e.1).foldl (fun d k => d.setCalLane port k { d.calLane port k with starved := true }) d
    (d.wf R.CAL_CAL_PSTATUS port 4 4 1).raise 0x0c0

/-! ### Starting (R125–R128) -/

/-- Nothing forbids a procedure on a port (R126). -/
def Dev.calFree (d : Dev) (p : Nat) : Bool :=
  let at_ := d.ports.alarmAt.getD (p / 8) 0
  decide (d.pwr.entry = 0) && d.rb R.CAL_CAL_POL p 0 && d.rb R.CAL_CAL_CTRL 0 0 && !d.portContained p && (d.pst p).lmLanes.isEmpty &&
  (decide (at_ = 0) || decide (at_ + 999999 ≤ d.now)) && (d.clusterPorts (p / 8)).all fun q => (d.pst q).proc.isNone

/-- A calibration window is open with at least the given µs left. -/
def Dev.winLeft (d : Dev) (p us : Nat) : Bool := (d.winEnd p).any fun e => decide (d.now < e) && decide (d.now + 1000 * us ≤ e)

/-- WIN_MODE permits a start (R126, R128). -/
def Dev.winMay (d : Dev) (p : Nat) : Bool :=
  let m := d.rf R.CAL_CAL_POL p 2 1
  let booked := d.winLeft p (d.rf R.CAL_CAL_POL p 31 16)
  if m = 0 then true else if m = 1 then booked else if m = 2 then false else d.isFabric p || booked

/-- The unit that comes first on a port (R125): by trigger, then by logical lane. -/
def Dev.calNext (d : Dev) (p : Nat) : Option (Nat × Nat) :=
  match sortBy (fun e : Nat × Nat × Nat => trigRank e.2.1) (d.dueLanes p) with
  | [] => none
  | e :: _ => some (e.1, e.2.1)

/-- The link of a port is in a state in which a procedure can start. -/
def Dev.calLink (d : Dev) (p : Nat) : Bool :=
  if d.isFabric p then
    d.method p == 1 && d.lkState p == 3 && (d.lnk p).park.isNone && (d.lnk p).join.isNone && (d.lnk p).swap.isNone && decide (2 ≤ popCount 16 (d.actMask p))
  else d.method p == 2 && d.dlUp p && (d.lstate p == 4 || d.lstate p == 6)

/-- A port is ready to start a procedure. -/
def Dev.calReady (d : Dev) (p : Nat) : Bool := (d.calNext p).isSome && d.calFree p && d.winMay p && d.calLink p

/-- Among the ports of a cluster that are ready, the engine takes the one whose window opened first, then the lowest. A port
without an open window counts as opened now. DEDUCED: log entry 35. -/
def Dev.calPick (d : Dev) (c : Nat) : Option Nat :=
  (sortBy (fun p => if (d.pst p).wins.isEmpty then d.now else (d.pst p).winAt) ((d.clusterPorts c).filter d.calReady)).head?

/-- A procedure begins: its lanes are IN_PROC, start from their EFF values, and the thresholds and the policy are read. `width` is the
width before it and `ret` the one to return to. -/
def Dev.procStart (d : Dev) (p : Nat) (kind : ProcKind) (step : ProcStep) (lanes : List Nat) (first trig width ret : Nat) : Dev :=
  let c := p / 8
  let pr : Proc :=
    { kind := kind, step := step, lanes := ofBits lanes, first := first, trig := trig, start := d.now, width := width
      ret := ret, eye := 0, alarms := 0, th := lanes.foldl (fun t k => Tbl.put t k 0 (d.eff c 7 k)) []
      lim := d.rf R.CAL_CAL_POL p 7 4, reeq := d.rb R.CAL_CAL_POL p 3 }
  let d := d.setPst p { d.pst p with proc := some pr }
  let d := (d.wf R.CAL_CAL_PSTATUS p 2 2 1).wf R.CAL_CAL_PSTATUS p 11 8 first
  lanes.foldl (fun d k =>
    let x := d.calLane p k
    let was := x.applied ++ [d.rn (R.LAN_ADAPT c) k]
    let d := d.setCalLane p k { x with due := x.due.map (fun e => (e.1, d.now)), starved := false, was := was }
    ((d.applyEff c k).wf (R.LAN_LCAL_STATUS c) k 2 0 2)) d

/-- ROTATE_START (R130): width − 1 is reported and the park of the lane requested; a lane that is parked already needs
neither. -/
def execRotateStart (port : Nat) (s : State) : Host.Outcome State Fault Refusal := s.eff fun d =>
  match d.calNext port with
  | none => d
  | some (k, trig) =>
    if !d.isFabric port ∨ d.calPick (port / 8) ≠ some port then d
    else
      let w := popCount 16 (d.actMask port)
      if (d.actMask port).testBit k then
        let d := (d.procStart port .rotate .starting [k] k trig w w).report port (w - 1)
        let d := (d.setLnk port { d.lnk port with park := some (k, false) }).wf R.MKL_LK_STATE (lkInst port) 8 8 1
        d.sym port 6 [d.logOf port k, 0]
      else d.procStart port .rotate .parked [k] k trig (w + 1) (w + 1)

/-- HALF_START (R133, R134): half the width is reported and L0p narrowing requested; the return width is the link's, unless the partner
asks for another during the procedure. -/
def execHalfStart (port : Nat) (s : State) : Host.Outcome State Fault Refusal := s.eff fun d =>
  match d.calNext port with
  | none => d
  | some (_, trig) =>
    if d.isFabric port ∨ d.calPick (port / 8) ≠ some port then d
    else
      let full := d.rf R.PRT0_LINK_STATUS port 20 16
      let half := full / 2
      let up := d.upperHalf port
      let w := d.curWidth port
      let d := (d.procStart port .half .starting up (up.headD 0) trig w full).report port (min half w)
      (d.setLstate port 6).emit (.engine port 1 [half])

/-- REEQ_START (R136): inside an open window with enough time left; width 0 is reported, then the link enters Recovery. What forbids a
procedure forbids it too (R126), and it takes the cluster's engine. DESIGN CHOICE: log entry 90. -/
def execReeqStart (port : Nat) (s : State) : Host.Outcome State Fault Refusal := s.eff fun d =>
  if !(d.pst port).reeqDue || d.isFabric port || !d.dlUp port || !(d.lstate port == 4 || d.lstate port == 6) ||
      !d.calFree port || !d.winLeft port (max 2000 (d.rf R.CAL_CAL_POL port 31 16)) then d
  else
    let l := d.linkLanes port
    let pr : Proc :=
      { kind := .reeq, step := .parked, lanes := ofBits l, first := l.headD 0, trig := 2, start := d.now, width := d.curWidth port
        ret := d.curWidth port, eye := 0, alarms := 0, th := [], lim := 0, reeq := true }
    let d := (d.adaptStop (port / 8) l).setPst port { d.pst port with proc := some pr }
    let d := (d.wf R.CAL_CAL_PSTATUS port 2 2 1).wf R.CAL_CAL_PSTATUS port 11 8 pr.first
    ((d.report port 0).setLstate port 5).emit (.engine port 4 [])

/-! ### During a procedure -/

/-- The lanes of a procedure that ends without a result return to service with their previous settings. DEDUCED: log entry 35. -/
def Dev.procReturn (d : Dev) (p : Nat) (pr : Proc) : Dev := match pr.kind with
  | .rotate =>
    if d.lkState p = 3 ∧ d.laneState (p / 8) pr.first = 4 ∧ (d.lnk p).join.isNone then
      let d := (d.setLnk p { d.lnk p with join := some pr.first, joinAt := d.now }).wf R.MKL_LK_STATE (lkInst p) 8 8 1
      d.sym p 9 [d.logOf p pr.first]
    else d.report p (popCount 16 (d.actMask p))
  | .half => (d.setLstate p 6).l0pWiden p pr.width
  | .reeq => (d.setLstate p 4).l0pWiden p pr.width

/-- A procedure ends DISTURBED (4) or with FAULT (7). DEDUCED: log entry 35. -/
def Dev.procStop (d : Dev) (p outcome : Nat) : Dev := match (d.pst p).proc with
  | none => d
  | some pr => (d.procAbort p outcome).procReturn p pr

/-- A foreground command is carried out on a lane. From 256 on it is the request for a step of a transmit cursor of the partner, which a
CAL_STEP message carries (R130, R148): bit 0 up, bit 1 the post-cursor. DESIGN CHOICE: log entry 91. -/
def Dev.laneCommand (d : Dev) (p k cmd : Nat) : Dev :=
  if cmd < 256 then d.emit (.engine p 5 [k, cmd])
  else match (d.bundleOf p).filter fun _ => d.lkState p == 3 with
    | some b => d.ctlNear b [3, d.logOf p k, cmd / 2 % 2, cmd % 2]
    | none => d

/-- CAL_LANE_COMMAND (R121): a procedure issues a foreground command for a lane of its cluster. It is carried out on a lane
PARKED under the procedure, or under one of the partner (R131); otherwise it is ignored and the procedure ends with FAULT. -/
def execCalLaneCommand (port lane cmd : Nat) (s : State) : Host.Outcome State Fault Refusal := s.eff fun d =>
  let parked := d.laneState (port / 8) lane == 4
  if parked && (d.lnk port).guest == some lane then d.laneCommand port lane cmd
  else match (d.pst port).proc with
  | none => d
  | some pr =>
    if pr.kind ≠ .reeq ∧ pr.lanes.testBit lane ∧ parked then d.laneCommand port lane cmd
    else
      let d := d.procStop port 7
      d.fault 0x12 none (some port) none (d.unitRef (.block 0x40)) (d.rd R.CAL_CAL_LAST port)

/-- EYE_HEIGHT_MEASURED (R130): the calibration and measurement of a parked lane are complete; the join is requested. -/
def execEyeHeightMeasured (port eye : Nat) (s : State) : Host.Outcome State Fault Refusal := s.eff fun d =>
  match (d.pst port).proc with
  | none => d
  | some pr =>
    if pr.kind = .rotate ∧ pr.step = .parked ∧ d.lkState port = 3 then
      let d := d.setPst port { d.pst port with proc := some { pr with step := .measured, eye := eye % 256 } }
      let d := (d.setLnk port { d.lnk port with join := some pr.first, joinAt := d.now }).wf R.MKL_LK_STATE (lkInst port) 8 8 1
      d.sym port 9 [d.logOf port pr.first]
    else d

/-- LOOPBACK_STAGE_DONE (R133): the loopback is released and the return width requested. -/
def execLoopbackStageDone (port : Nat) (s : State) : Host.Outcome State Fault Refusal := s.eff fun d =>
  match (d.pst port).proc with
  | none => d
  | some pr =>
    if pr.kind = .half ∧ pr.step = .parked then
      (d.setPst port { d.pst port with proc := some { pr with step := .measured } }).emit (.engine port 6 [pr.ret])
    else d

/-! ### Ending (R132, R135, R136) -/

/-- The result of one lane: its records, new settings, FAILS and MARGIN; the answer tells whether it passed and whether FAILS reached
FAIL_LIMIT, as it was at the start. -/
def Dev.laneResult (d : Dev) (p k eye th lim : Nat) : Dev × Bool × Bool :=
  let c := p / 8
  let ok := decide (th ≤ eye)
  let r := R.LAN_LCAL_STATUS c
  let fails := if ok then 0 else min 15 (d.rf r k 7 4 + 1)
  let d := (((d.wf r k 3 3 (b2n !ok)).wf r k 7 4 fails).wf r k 31 16 eye).wf (R.LAN_EYE c) k 7 0 eye
  let d := (((d.calRecord p k).bump (R.LAN_LCAL_CNT c) k).clearDue p k).adaptLatch c k
  let d := d.setCalLane p k { d.calLane p k with
    lows := 0, lowRaised := false, was := [], retryAt := if ok then none else some (d.now + 10000000) }
  (d, ok, lim != 0 && decide (lim ≤ fails))

/-- A procedure on a port has completed (R129). -/
def Dev.procDone (d : Dev) (p : Nat) : Dev :=
  (d.wf R.CAL_CAL_PSTATUS p 4 4 0).bump R.CAL_CAL_CNT_DONE p

/-- A ROTATE procedure ends on its lane, which passes or fails (R132); at FAIL_LIMIT the lane is to be parked permanently.
`joined` is false where the lane could not rejoin, which is a failure. -/
def Dev.rotateFinish (d : Dev) (p : Nat) (pr : Proc) (joined : Bool) : Dev :=
  let k := pr.first
  let (d, ok, lim) := d.laneResult p k pr.eye (if joined then pr.th.getD k 0 else 256) pr.lim
  let d := (d.procClose p pr (if ok then 1 else if lim then 5 else 2)).procDone p
  let d := d.report p (popCount 16 (d.actMask p))
  if ok then d
  else
    let d := (d.bump R.CAL_CAL_CNT_FAIL p).raiseCal p 0
    if !lim then d
    else
      let d := d.raiseCal p 1
      if (d.actMask p).testBit k then
        if popCount 16 (d.actMask p) ≤ 1 ∨ (d.lnk p).park.isSome ∨ (d.lnk p).join.isSome ∨ (d.lnk p).swap.isSome then d
        else
          let d := (d.setLnk p { d.lnk p with park := some (k, true) }).wf R.MKL_LK_STATE (lkInst p) 8 8 1
          (d.report p (popCount 16 (d.actMask p) - 1)).sym p 6 [d.logOf p k, 1]
      else
        let d := (d.wf (R.LAN_LCAL_STATUS (p / 8)) k 2 0 3).setCalLane p k { d.calLane p k with retryAt := none }
        let d := (d.wf R.MKL_LK_PARKED (lkInst p) k k 1).wf R.MKL_LK_PARKED (lkInst p) (16 + k) (16 + k) 0
        d.mklEvent p (d.logOf p k) 3

/-- ROTATE_END (R130, R132): the lane carries packets again and the procedure ends. -/
def execRotateEnd (port : Nat) (s : State) : Host.Outcome State Fault Refusal := s.eff fun d =>
  match (d.pst port).proc with
  | none => d
  | some pr =>
    if pr.kind = .rotate ∧ pr.step = .measured ∧ (d.lnk port).join.isNone ∧ (d.actMask port).testBit pr.first then
      d.rotateFinish port pr true
    else d

/-- HALF_END (R133–R135): the link runs at the return width; `eyes` are the eye heights of the half, by lane. -/
def execHalfEnd (port : Nat) (eyes : List (Nat × Nat)) (s : State) : Host.Outcome State Fault Refusal := s.eff fun d =>
  match (d.pst port).proc with
  | none => d
  | some pr =>
    if pr.kind ≠ .half ∨ pr.step ≠ .measured then d
    else
      let full := d.rf R.PRT0_LINK_STATUS port 20 16
      let d := if d.curWidth port < pr.ret then d.l0pWiden port pr.ret else d.report port (d.curWidth port)
      let d := d.setLstate port (if d.curWidth port < full then 6 else 4)
      let step (acc : Dev × Bool × Bool) (k : Nat) : Dev × Bool × Bool :=
        let (d, ok, lim) := acc.1.laneResult port k (((eyes.find? fun e => e.1 == k).map (·.2)).getD 0 % 256) (pr.th.getD k 0) pr.lim
        (d, acc.2.1 && ok, acc.2.2 || lim)
      let (d, ok, lim) := (bitsOf 16 pr.lanes).foldl step (d, true, false)
      let d := (d.procClose port pr (if ok then 1 else 2)).procDone port
      if ok then d
      else
        let d := (d.bump R.CAL_CAL_CNT_FAIL port).raiseCal port 0
        if lim ∧ pr.reeq then d.reeqMark port else d

/-- REEQ_DONE (R136): the link is in L0 again and the trained width is reported. It counts in CAL_CNT_DONE and clears STARVED, as a
procedure does. DESIGN CHOICE: log entry 90. -/
def execReeqDone (port : Nat) (s : State) : Host.Outcome State Fault Refusal := s.eff fun d =>
  match (d.pst port).proc with
  | none => d
  | some pr =>
    if pr.kind ≠ .reeq ∨ !d.dlUp port then d
    else
      let d := (d.procClose port pr 6).procDone port
      let d := (d.setPst port { d.pst port with reeqDue := false }).wf R.CAL_CAL_PSTATUS port 5 5 0
      let d := (d.linkLanes port).foldl (fun d k =>
        d.setCalLane port k { d.calLane port k with lows := 0, lowRaised := false }) d
      ((d.setLstate port 4).l0pWiden port (d.rf R.PRT0_LINK_STATUS port 20 16)).raiseWith 0x0c2
        (d.rd R.CAL_CAL_LAST port) []

/-- DROOP_ALARM (R140, R141, R144): a cluster's supply falls below its alarm threshold; `measuring` tells whether the
cluster's procedure stands in a measurement step. -/
def execDroopAlarm (cl : Nat) (measuring : Bool) (s : State) : Host.Outcome State Fault Refusal := s.eff fun d =>
  if 16 ≤ cl then d
  else
    let d := ((d.bump (R.CAL_DRP_ALM_CNT cl)).raise (0x080 + 4 * cl + 2))
    let d := { d with ports := { d.ports with alarmAt := Tbl.put d.ports.alarmAt cl 0 (d.now + 1) } }
    match (d.clusterPorts cl).find? fun p => (d.pst p).proc.isSome with
    | none => d
    | some p => (match (d.pst p).proc with
      | some pr =>
        if !measuring ∨ pr.kind = .reeq then d
        else if pr.alarms = 0 then d.setPst p { d.pst p with proc := some { pr with alarms := 1 } }
        else d.procStop p 4
      | none => d)

end Sys2Proof.Machine
end

