-- ==== Sys2Proof/Machine/Mirkel.lean ====
section
/-! DEFINITION. The Mirkel fabric link (R145–R167): frames, packets and their release at the far member (R220, R224),
acknowledgement and replay, credits and the census, lanes, hold and resume, and order resets. -/

namespace Sys2Proof.Machine

/-! ### Frames (R146, R149) -/

/-- One bit of the CRC-48 of a frame, most significant first. -/
def crc48Bit (c : Nat) (b : Bool) : Nat :=
  let out := c.testBit 47 != b
  (c * 2 % 2 ^ 48) ^^^ (if out then 0x1b4f293d1d07 else 0)

/-- The CRC-48 of bytes in frame order: initial value all ones, no reflection (R146). -/
def crc48 (l : List Byte) : Nat :=
  l.foldl (fun c x => [7, 6, 5, 4, 3, 2, 1, 0].foldl (fun c i => crc48Bit c (x.toNat.testBit i)) c) (2 ^ 48 - 1)

/-- A number from bytes, the first most significant. -/
def beNat (l : List Byte) : Nat := l.foldl (fun n x => 256 * n + x.toNat) 0

/-- A frame, its FEC applied, passes its CRC: bytes 242 to 247 hold that of bytes 0 to 241. PRESUMED: log entry 39. -/
def frameOk (l : List Byte) : Bool := decide (l.length = 248) && crc48 (l.take 242) == beNat (l.drop 242)

/-- FHDR[0] of a frame: END_MAP. -/
def endMap (l : List Byte) : Bool := ((l.getD 0 0).toNat).testBit 0

/-- The slots of a frame, each as a number, bit 0 first. -/
def frameSlots (l : List Byte) : List Nat := (List.range 15).map fun i => numOf ((l.drop (2 + 16 * i)).take 16)

/-- Walk over the slots of a frame: how many slots a packet goes on into the next frame, and whether a control symbol of a reserved type
was met. `left` slots belong to a packet that began before. -/
def slotWalk : List Nat → Nat → Bool → Nat × Bool
  | [], left, bad => (left, bad)
  | x :: l, left, bad =>
    if 0 < left then slotWalk l (left - 1) bad
    else if x / 65536 % 4 = 3 then slotWalk l 0 (bad || decide (15 ≤ x / 262144 % 256))
    else slotWalk l (x / 262144 % 512 - 1) bad

/-! ### Lanes of a link (R162, R163) -/

/-- A lane of a link is parked at this end: out of the lane map, PARKED, and the narrower width reported. -/
def Dev.mklPark (d : Dev) (p k : Nat) (perm : Bool) : Dev :=
  let c := p / 8
  let d := d.adaptStop c [k]
  let m := ofBits ((bitsOf 16 (d.actMask p)).filter (· != k))
  let d := (d.setActMask p m).setLane c k 4
  let d := (d.wf R.MKL_LK_PARKED (lkInst p) k k (b2n perm)).wf R.MKL_LK_PARKED (lkInst p) (16 + k) (16 + k) (b2n !perm)
  let d := d.setLnk p { d.lnk p with mapGen := ((d.lnk p).mapGen + 1) % 8 }
  let d := d.report p (popCount 16 m)
  if perm then
    let d := (d.clearDue p k).wf (R.LAN_LCAL_STATUS c) k 2 0 3
    d.mklEvent p (d.logOf p k) 3
  else d

/-- A parked lane carries packets again. -/
def Dev.mklJoin (d : Dev) (p k : Nat) : Dev :=
  let d := (d.setActMask p (ofBits (k :: (bitsOf 16 (d.actMask p))))).setLane (p / 8) k 3
  let d := d.wf (R.LAN_LANE_STATUS (p / 8)) k 3 3 1
  let d := (d.wf R.MKL_LK_PARKED (lkInst p) k k 0).wf R.MKL_LK_PARKED (lkInst p) (16 + k) (16 + k) 0
  d.setLnk p { d.lnk p with mapGen := ((d.lnk p).mapGen + 1) % 8 }

/-- A park or a join has been agreed on (R162): the narrower width is reported, END_MAP goes out with the next frame, and the lane follows
at the partner's END_MAP. -/
def Dev.mapAgree (d : Dev) (p k how : Nat) : Dev :=
  let d := (d.setLnk p { d.lnk p with swap := some (k, how) }).wf R.MKL_LK_STATE (lkInst p) 8 8 1
  if how = 2 then d else d.report p (min (d.repWidth p) (popCount 16 (d.actMask p) - 1))

/-- The partner's END_MAP frame: the park or join agreed on is complete at this end. A lane that rejoins after a procedure of the
partner counts as calibrated here too (R131). -/
def Dev.mapEnd (d : Dev) (p : Nat) : Dev :=
  match (d.lnk p).swap with
  | none => d
  | some (k, how) =>
    let guest := (d.lnk p).guest == some k
    let d := (d.setLnk p { d.lnk p with swap := none }).wf R.MKL_LK_STATE (lkInst p) 8 8 0
    if how = 2 then
      let d := d.mklJoin p k
      let d := if guest then
          let d := d.setLnk p { d.lnk p with guest := none }
          ((((d.calRecord p k).bump (R.LAN_LCAL_CNT (p / 8)) k).clearDue p k).adaptLatch (p / 8) k).procDone p
        else d
      if !guest && (d.pst p).proc.isSome then d else d.report p (popCount 16 (d.actMask p))
    else
      let d := d.mklPark p k (how == 1)
      match (d.pst p).proc with
      | some pr =>
        if pr.kind = .rotate ∧ pr.step = .starting ∧ pr.first = k then
          d.setPst p { d.pst p with proc := some { pr with step := .parked } }
        else d
      | none => d

/-- FRAME_RECEIVED (R146): a frame arrives over a fabric link, or a flit over a PCIe or CXL link in flit mode (R111). `frame` holds bytes 0
to 247 of a frame as FEC leaves them, `ce` the FEC corrections by lane, `ue` the lanes on which a frame or flit that fails had an
error. A frame that fails its CRC is discarded with every slot in it; a flit fails where a lane had an uncorrectable error, which on a CXL
link is a physical layer error of the port's CXL RAS capability (R394). PRESUMED: log entry 39. -/
def execFrameReceived (port : Nat) (frame : List Byte) (ce : List (Nat × Nat)) (ue : Nat) (s : State) :
    Host.Outcome State Fault Refusal := s.eff fun d =>
  let c := port / 8
  let fabric := d.isFabric port
  let carries := if fabric then decide (2 ≤ d.lkState port) && d.lkState port != 5
    else d.dlUp port && d.rb R.PRT0_LINK_STATUS port 13
  if !carries then d
  else
    let d := (ce.filter fun e => (d.linkLanes port).contains e.1).foldl (fun d e => d.bumpBy (R.LAN_LANE_FEC_CE c) e.1 e.2) d
    let left := (d.lnk port).left
    if fabric ∧ frameOk frame then
      let (left, unknown) := slotWalk (frameSlots frame) left false
      let d := d.setLnk port { d.lnk port with left := left }
      let d := if endMap frame then d.mapEnd port else d
      if unknown then d.mklProtocol port else d
    else if !fabric && ue == 0 then d
    else
      let d := if fabric then d.setLnk port { d.lnk port with left := left - 15 } else d
      let bad := (d.linkLanes port).filter fun k => ue.testBit k
      let d := bad.foldl (fun d k => d.bump (R.LAN_LANE_FEC_UE c) k) d
      let d := match (d.owner port).filter fun _ => d.isUp port && d.isCxl port with
        | some st => d.setCfg st 3 3 (d.cfg st 3 3 ||| 0x40)
        | none => d
      d.laneFaults port (ofBits (bad.filter fun k => d.laneState c k == 3))

/-- A procedure whose park is not carried out is withdrawn: its unit stays due, and the width is reported again. -/
def Dev.parkWithdraw (d : Dev) (p : Nat) : Dev :=
  let d := (d.setLnk p { d.lnk p with park := none }).wf R.MKL_LK_STATE (lkInst p) 8 8 0
  let d := match (d.pst p).proc with
    | some pr =>
      if pr.kind == ProcKind.rotate && pr.step == ProcStep.starting then
        let d := (d.setPst p { d.pst p with proc := none }).wf R.CAL_CAL_PSTATUS p 2 2 0
        (d.wf R.CAL_CAL_PSTATUS p 11 8 0).wf (R.LAN_LCAL_STATUS (p / 8)) pr.first 2 0 (b2n (d.calLane p pr.first).due.isSome)
      else d
    | none => d
  d.report p (popCount 16 (d.actMask p))

/-- PARK_REQ (R162, R131): the partner asks to park a logical lane, for a procedure of its own or permanently (R144). When both ends have asked, the request of the lower
member number is carried out. DEDUCED: log entry 37. -/
def execParkReq (port lane : Nat) (perm : Bool) (s : State) : Host.Outcome State Fault Refusal := s.eff fun d =>
  match d.logLane port lane with
  | none => d
  | some k =>
    if !d.isFabric port || d.lkState port != 3 then d
    else if (d.lnk port).park.isSome && decide (d.me < d.rf R.MKL_LK_PARTNER (lkInst port) 2 0) then d
    else
      let d := if (d.lnk port).park.isSome then d.parkWithdraw port else d
      if (d.lnk port).join.isSome || (d.lnk port).swap.isSome then d.sym port 8 [lane, 1]
      else if !(d.actMask port).testBit k then d.sym port 8 [lane, 2]
      else if popCount 16 (d.actMask port) ≤ 1 then d.sym port 8 [lane, 3]
      else
        let d := (d.mapAgree port k (b2n perm)).sym port 7 [lane]
        if perm then d.raiseCal port 1 else d.setLnk port { d.lnk port with guest := some k }

/-- PARK_ACK (R162, R130): the partner agrees to park the lane that this end asked for; both ends do at the frame boundary. -/
def execParkAck (port lane : Nat) (s : State) : Host.Outcome State Fault Refusal := s.eff fun d =>
  match (d.lnk port).park with
  | none => d
  | some (k, perm) =>
    if d.lkState port ≠ 3 ∨ d.logOf port k ≠ lane then d
    else
      (d.setLnk port { d.lnk port with park := none }).mapAgree port k (b2n perm)

/-- PARK_REFUSE (R162): the request ends; the unit stays due. -/
def execParkRefuse (port lane reason : Nat) (s : State) : Host.Outcome State Fault Refusal := s.eff fun d =>
  match (d.lnk port).park with
  | none => d
  | some (k, _) => if d.logOf port k = lane ∧ reason ≠ 0 then d.parkWithdraw port else d

/-- JOIN_REQ (R162, R131): the partner returns a parked lane. `aligned` tells whether its deskew succeeds: then JOIN_ACK is sent, and the lane
is restored at the partner's END_MAP frame; otherwise it stays PARKED, without an answer. -/
def execJoinReq (port lane : Nat) (aligned : Bool) (s : State) : Host.Outcome State Fault Refusal := s.eff fun d =>
  match d.logLane port lane with
  | none => d
  | some k =>
    if !d.isFabric port || d.lkState port != 3 || (d.actMask port).testBit k || d.permParked port k || !aligned ||
        (d.lnk port).swap.isSome then d
    else ((d.setLnk port { d.lnk port with guest := some k }).mapAgree port k 2).sym port 10 [lane]

/-- JOIN_ACK (R162): the lane that this end asked to join is restored at the partner's END_MAP frame; the width of a procedure is reported
at its end. -/
def execJoinAck (port lane : Nat) (s : State) : Host.Outcome State Fault Refusal := s.eff fun d =>
  match (d.lnk port).join with
  | none => d
  | some k =>
    if d.lkState port ≠ 3 ∨ d.logOf port k ≠ lane then d
    else
      (d.setLnk port { d.lnk port with join := none }).mapAgree port k 2

/-- JOIN_TIMEOUT (R162): a lane does not align within 10 µs; it stays PARKED and the procedure ends with FAIL. -/
def execJoinTimeout (port : Nat) (s : State) : Host.Outcome State Fault Refusal := s.eff fun d =>
  match (d.lnk port).join with
  | none => d
  | some _ =>
    let d := d.advanceTo ((d.lnk port).joinAt + 10000)
    let d := (d.setLnk port { d.lnk port with join := none }).wf R.MKL_LK_STATE (lkInst port) 8 8 0
    match (d.pst port).proc with
    | some pr => if pr.kind = .rotate ∧ pr.step = .measured then d.rotateFinish port pr false else d
    | none => d

/-- A lane is lost while its link stays ACTIVE: parked at once and due with trigger margin; the last one takes the link to
HOLD (R163). -/
def Dev.laneGone (d : Dev) (p k : Nat) : Dev :=
  if !d.isFabric p || d.lkState p != 3 || !(d.actMask p).testBit k then d
  else
    let lost := d.wf (R.LAN_LANE_STATUS (p / 8)) k 3 3 0
    if popCount 16 (d.actMask p) ≤ 1 then lost.mklHold p false
    else
      let lost := if (lost.lnk p).swap.any fun e => e.1 == k then
          (lost.setLnk p { lost.lnk p with swap := none }).wf R.MKL_LK_STATE (lkInst p) 8 8 0
        else lost
      let d := lost.mklPark p k false
      (d.mklEvent p (d.logOf p k) 3).makeDue p k 2

/-- LANE_LOST (R163): the partner has lost a logical lane. -/
def execLaneLost (port lane : Nat) (s : State) : Host.Outcome State Fault Refusal := s.eff fun d =>
  match d.logLane port lane with
  | none => d
  | some k => d.laneGone port k

/-- MIRKEL_LANE_LOSS (R163): a lane of the cluster loses lock; LANE_LOST is sent. -/
def execMirkelLaneLoss (port lane : Nat) (s : State) : Host.Outcome State Fault Refusal := s.eff fun d =>
  if d.isFabric port && d.lkState port == 3 && (d.actMask port).testBit lane then
    (d.sym port 11 [d.logOf port lane]).laneGone port lane
  else d

/-- MIRKEL_LOCK_LOSS (R158): every active lane loses lock. -/
def execMirkelLockLoss (port : Nat) (s : State) : Host.Outcome State Fault Refusal := s.eff fun d =>
  if d.isFabric port && d.lkState port == 3 then
    ((bitsOf 16 (d.actMask port)).foldl (fun d k => d.wf (R.LAN_LANE_STATUS (port / 8)) k 3 3 0) d).mklHold port false
  else d

/-! ### Release at the far member (R147, R164, R220, R224) -/

/-- A 23-bit count has reached another. -/
def geq23 (a w : Nat) : Bool := decide ((a + 8388608 - w % 8388608) % 8388608 < 4194304)

/-- The bucket of a packet. -/
def pktBucket (pk : Packet) : Nat := (pk.src * 131 + pk.srcPort) % 256

/-- The epoch that a packet's bit names: in force, the next, or the previous one. -/
inductive PktEpoch where
  | now | next | last
  deriving DecidableEq, Repr

/-- A differing bit names E + 1 from the PREPARE of the commit that makes it until its adoption here, else E − 1 (R224). -/
def Dev.pktEpoch (d : Dev) (pk : Packet) : PktEpoch :=
  if pk.epoch % 2 = d.staging.epoch.toNat % 2 then .now
  else match d.yard.phase with
    | .preparing | .prepared => .next
    | _ => .last

/-- A packet that an order reset has released, but whose epoch holds it: it waits for no count and adds to none. -/
def pktFree (pk : Packet) : Bool := decide (8388608 ≤ pk.wait)

/-- The order condition of a packet at the head of its link (R164); none binds once every link of the bundle is down. -/
def Dev.pktInOrder (d : Dev) (p : Nat) (pk : Packet) : Bool :=
  match d.bundleOf p with
  | none => true
  | some b =>
    let x := d.bnd b
    let k := pktBucket pk
    (pk.off && pk.ro) || pktFree pk || !d.bundleLive b ||
    geq23 (if pk.off then x.relMain.getD k 0 else x.relOff.getD k 0) pk.wait

/-- A packet waits for the adoption of its epoch at the member it is for. -/
def Dev.pktHeld (d : Dev) (pk : Packet) : Bool := !pk.ctl && pk.dst == d.me && d.pktEpoch pk == .next

/-- A TLP that no stable or route of this member takes (R216, R220, R222): discarded as UNREACHABLE; a non-posted request is completed
with UR. DESIGN CHOICE: log entry 97. -/
def Dev.pktUnreach (d : Dev) (p : Nat) (pk : Packet) (t : Tlp) : Dev :=
  let d := d.logRoute none p 7 t
  if tcls t = 1 ∧ !isMem t then d.endBack p pk 1 else d

/-- A TLP of a packet enters stage 6, with the carriage CRC that the packet carries and the epoch it names. DEDUCED: log
entry 38. -/
def Dev.pktItem (d : Dev) (pk : Packet) (it : Item) : Dev :=
  let id := d.path.nextId
  let ep := match d.pktEpoch pk with
    | .now => d.staging.epoch
    | .next => d.staging.epoch + 1
    | .last => d.staging.epoch - 1
  (d.addItem { it with pkt := some pk, hops := pk.hops }).updItem id fun i => { i with epoch := ep, ccrc := pk.ccrc }

/-- The far member's evaluation of a TLP for one of its ports (R187, R224): decoded as from the port at which it entered the yard, a copy
for one destination of a multicast or broadcast as a unicast TLP. Under the epoch in force the result is compared with
the carried destination; a stale TLP keeps that destination and is re-checked at stage 8. -/
def Dev.pktEval (d : Dev) (s p : Nat) (pk : Packet) (t : Tlp) (priv : Bool) : Eval × Eval :=
  let carried := Dest.port d.me pk.dstPort
  if d.pktEpoch pk = .now then
    let unicast (x : Dev) (e : Eval) : Eval := match e.dest with
      | .mcast g => if (x.mcDests s g).contains (d.me, pk.dstPort) then { e with dest := carried } else e
      | .loc => { e with dest := carried }
      | _ => e
    let src := farIn pk.src pk.srcPort
    let e := unicast d (d.evaluateAt (some s) src p t priv none)
    let c := unicast d.chkView (d.chkView.evaluateAt (some s) src p t priv none)
    (e, if e.dest = carried then c else { c with dest := carried })
  else (mkEval (some s) carried t.addr, mkEval (some s) carried t.addr)

/-- A packet leaves the receive buffer: a control message for another member is sent on, a TLP enters stage 6. The effect of
a control message for this member is a command of its own. -/
def Dev.pktDeliver (d : Dev) (p : Nat) (pk : Packet) : Dev :=
  let gone (d : Dev) : Dev := d.unitsFreed p pk.cls (pktUnits pk.slots)
  let t := { pk.tlp with ep := pk.tlp.ep || pk.poison }
  if pk.dst ≠ d.me ∧ pk.hops = 3 then (gone d).mklProtocol p
  else if pk.ctl then
    if pk.dst = d.me then gone d
    else gone { d with mkl := { d.mkl with ctl := d.mkl.ctl ++ [⟨pk.dst, none, pk.src, pk.hops + 1, pk.epoch, pk.msg⟩] } }
  else if (d.bundleOf p).isNone then gone d
  else if pk.dst ≠ d.me then
    if (d.memberPath pk.dst).isNone then (gone d).pktUnreach p pk t
    else
      let e := mkEval none (.port pk.dst pk.dstPort) t.addr
      d.pktItem pk { mkItem t p .ext e e with transit := some pk.dst }
  else match d.localOf pk.stable with
    | none => (gone d).pktUnreach p pk t
    | some s =>
      let enter (d : Dev) : Dev :=
        let (e, c) := d.pktEval s p pk t pk.priv
        d.pktItem pk { mkItem t p .ext e c with priv := pk.priv }
      if t.kind = .cpl then
        match d.ledgerOf p t with
        | some l => (match d.ledgerTake l t with
            | (d, true) => enter d
            | (d, false) => gone d)
        | none =>
          if (((d.bundleOf p).bind d.bundleLead).map d.ledgerOn).getD false then (gone d).unexpected p t else enter d
      else match d.trapSlice s t (.port d.me pk.dstPort) with
        | some k => (gone d).trap t p s k
        | none => enter d

/-- The packet at the head of a link's receive buffer is released, and counted in its bucket. -/
def Dev.rxRelease (d : Dev) (p : Nat) : Dev :=
  match (d.lnk p).rx with
  | [] => d
  | pk :: rest =>
    let d := d.setLnk p { d.lnk p with rx := rest }
    let d := match d.bundleOf p with
      | some b =>
        let x := d.bnd b
        let k := pktBucket pk
        if pktFree pk then d
        else if pk.off then d.setBnd b { x with relOff := Tbl.put x.relOff k 0 ((x.relOff.getD k 0 + 1) % 8388608) }
        else d.setBnd b { x with relMain := Tbl.put x.relMain k 0 ((x.relMain.getD k 0 + 1) % 8388608) }
      | none => d
    d.pktDeliver p pk

/-- The packet at the head of a link can leave. -/
def Dev.rxReady (d : Dev) (p : Nat) : Bool :=
  match (d.lnk p).rx with
  | [] => false
  | pk :: _ => !d.quiesced p && !d.pktHeld pk && d.pktInOrder p pk

/-- Release what can leave, over the links of a bundle. -/
def Dev.rxDrainN : Nat → List Nat → Dev → Dev
  | 0, _, d => d
  | n + 1, ports, d =>
    match ports.find? d.rxReady with
    | none => d
    | some p => Dev.rxDrainN n ports (d.rxRelease p)

/-- Release what can leave from the receive buffers of the bundle of a link, or of the link alone. DEDUCED: log entry 37. -/
def Dev.rxDrain (d : Dev) (p : Nat) : Dev :=
  let ports := match d.bundleOf p with
    | some b => d.bundlePorts b
    | none => [p]
  Dev.rxDrainN (sumOf (fun q => (d.lnk q).rx.length) ports) ports d

/-- Release what can leave from every receive buffer. -/
def Dev.rxDrainAll (d : Dev) : Dev := (d.mkl.link.map (·.1)).foldl (fun d p => d.rxDrain p) d

/-! ### Sequence, acknowledgement and replay (R150–R152) -/

/-- Send an ACK for the last packet accepted. -/
def Dev.ackSend (d : Dev) (p : Nat) : Dev :=
  let l := d.lnk p
  (d.setLnk p { l with sinceAck := 0, firstAt := 0 }).sym p 1 [(l.expect + 65535) % 65536]

/-- PACKET_RECEIVED (R151, R11): a packet arrives on an ACTIVE link. DESIGN CHOICE: log entry 36. DEDUCED: log entry 37. -/
def execPacketReceived (port : Nat) (pk : Packet) (s : State) : Host.Outcome State Fault Refusal := s.eff fun d =>
  if !d.isFabric port || d.lkState port != 3 then d
  else
    let l := d.lnk port
    let dist := (pk.seq % 65536 + 65536 - l.expect) % 65536
    if dist = 0 then
      let l := { l with
        expect := (l.expect + 1) % 65536, gap := false, sinceAck := l.sinceAck + 1
        firstAt := if l.firstAt = 0 then d.now + 1 else l.firstAt, rx := l.rx ++ [pk] }
      let d := d.setLnk port l
      let d := if pk.ctl then d else { d with pwr := { d.pwr with lastRx := d.now } }
      let n := d.rf R.MKL_LK_CFG (lkInst port) 25 18
      let d := if n ≠ 0 ∧ n ≤ l.sinceAck then d.ackSend port else d
      d.rxDrain port
    else if dist ≤ 16383 then
      if l.gap then d else (d.setLnk port { l with gap := true }).sym port 2 [(l.expect + 65535) % 65536]
    else if 49153 ≤ dist then
      let d := d.bump R.MKL_LK_CNT_DUP (lkInst port)
      if d.rf R.MKL_LK_TIMING (lkInst port) 7 0 = 0 then d.ackSend port
      else d.setLnk port { l with firstAt := if l.firstAt = 0 then d.now + 1 else l.firstAt }
    else (d.mklProtocol port).mklHold port false

/-- ACK_TIMER (R152): ACK_NS after the first packet accepted since the last ACK, an ACK is sent. -/
def execAckTimer (port : Nat) (s : State) : Host.Outcome State Fault Refusal := s.eff fun d =>
  let l := d.lnk port
  let ns := 10 * d.rf R.MKL_LK_TIMING (lkInst port) 7 0
  if !d.isFabric port || d.lkState port != 3 || l.firstAt == 0 || ns == 0 then d
  else (d.advanceTo (l.firstAt - 1 + ns)).ackSend port

/-- Release every packet up to a sequence number; the replay timer restarts when that advances. -/
def Dev.ackTo (d : Dev) (p n : Nat) : Dev :=
  let l := d.lnk p
  let rest := l.replay.dropWhile fun e => decide ((n % 65536 + 65536 - e.pk.seq) % 65536 < 16384)
  if rest.length = l.replay.length then d
  else d.setLnk p { l with replay := rest, expiries := 0, timerAt := if rest.isEmpty then 0 else d.now + 1 }

/-- Packets of the replay buffer are sent again, in order; their frames take the time that the slots of R437 count. -/
def Dev.resendPkts (d : Dev) (p : Nat) (es : List Sent2) : Dev :=
  if es.isEmpty then d
  else
    let w := max 1 (popCount 16 (d.actMask p))
    let l := d.lnk p
    let live := l.resend.filter fun e => decide (d.now < e.1)
    let start := (live.getLast?.map (·.1)).getD d.now
    let times := (es.foldl (fun (acc : Nat × List (Nat × Option Nat)) e =>
      let t := acc.1 + cdiv (16 * cdiv e.pk.slots 15) w
      (t, acc.2 ++ [(t, e.stable)])) (start, [])).2
    let d := d.setLnk p { l with resend := live ++ times }
    let d := es.foldl (fun d e => d.emit (.packet p (pktHead e.pk) e.pk)) d
    d.bumpBy R.MKL_LK_CNT_REPLAY (lkInst p) es.length

/-- Replay every packet that is unacknowledged and charged under the present accounting. -/
def Dev.replayAll (d : Dev) (p : Nat) : Dev := d.resendPkts p ((d.lnk p).replay.filter (·.charged))

/-- ACK (R152). -/
def execAck (port seq : Nat) (s : State) : Host.Outcome State Fault Refusal := s.eff fun d =>
  if d.isFabric port && d.lkState port == 3 then d.ackTo port seq else d

/-- NAK (R152): releases the same packets and replays the rest. -/
def execNak (port seq : Nat) (s : State) : Host.Outcome State Fault Refusal := s.eff fun d =>
  if d.isFabric port && d.lkState port == 3 then ((d.bump R.MKL_LK_CNT_NAK (lkInst port)).ackTo port seq).replayAll port else d

/-- REPLAY_TIMEOUT (R152, R158): the replay timer expires; at REPLAY_LIMIT expiries in a row the link enters HOLD. -/
def execReplayTimeout (port : Nat) (s : State) : Host.Outcome State Fault Refusal := s.eff fun d =>
  let l := d.lnk port
  if !d.isFabric port || d.lkState port != 3 || l.replay.isEmpty then d
  else
    let d := d.advanceTo (l.timerAt - 1 + 100 * d.rf R.MKL_LK_CFG (lkInst port) 14 5)
    let d := (d.setLnk port { l with expiries := l.expiries + 1, timerAt := d.now + 1 }).bump R.MKL_LK_CNT_TIMEOUT (lkInst port)
    if d.rf R.MKL_LK_CFG (lkInst port) 17 15 ≤ l.expiries + 1 then d.mklHold port false else d.replayAll port

/-! ### Credits and the census (R153–R157) -/

/-- Units of a class that the receiver of a link holds: packets in its receive buffer, and TLPs that wait for the shed. -/
def Dev.rxHeld (d : Dev) (p k : Nat) : Nat :=
  sumOf (fun pk : Packet => if pk.cls = k then pktUnits pk.slots else 0) (d.lnk p).rx +
  sumOf (fun i : Item => match i.pkt with
    | some pk => if i.stage = .store ∧ i.ingress = p ∧ pk.cls = k then pktUnits pk.slots else 0
    | none => 0) d.path.items

/-- Credit accounting starts: the receiver's limits are LK_CRED_x less what it holds; the transmitter's totals are 0, and
packets still in its replay buffer are to be charged anew. -/
def Dev.acctStart (d : Dev) (p : Nat) : Dev :=
  let l := d.lnk p
  let held : Trio := ⟨d.rxHeld p 0, d.rxHeld p 1, d.rxHeld p 2⟩
  let n := lkInst p
  let d := d.setLnk p { l with
    charged := Trio.zero, limit := Trio.zero, freed := Trio.zero, old := held, unsent := 0, freedAt := 0, leakSaid := 0
    cred := ⟨d.rf R.MKL_LK_CRED_P n 11 0, d.rf R.MKL_LK_CRED_NP n 11 0, d.rf R.MKL_LK_CRED_CPL n 11 0⟩
    replay := l.replay.map fun e => { e with charged := false } }
  d.creditSend p

/-- The packets of a previous accounting that the limits now allow, in order: charged once. -/
def chargeFit : List Sent2 → Trio → Trio → List Sent2 × List Sent2 × Trio
  | [], c, _ => ([], [], c)
  | e :: l, c, lim =>
    if e.charged then
      let (a, b, c) := chargeFit l c lim
      (e :: a, b, c)
    else
      let k := e.pk.cls
      let u := pktUnits e.pk.slots
      if c.get k + u + (if k = 0 ∧ ¬e.pk.ctl then 8 else 0) ≤ lim.get k then
        let (a, b, c) := chargeFit l (c.set k (c.get k + u)) lim
        ({ e with charged := true } :: a, e :: b, c)
      else (e :: l, [], c)

/-- CREDIT (R154): the cumulative limits of the three classes. -/
def execCredit (port p n c : Nat) (s : State) : Host.Outcome State Fault Refusal := s.eff fun d =>
  if !d.isFabric port || d.lkState port != 3 then d
  else
    let l := d.lnk port
    let up (cur x : Nat) : Nat :=
      let dlt := (x % 16777216 + 16777216 - cur % 16777216) % 16777216
      if dlt < 8388608 then cur + dlt else cur
    let lim : Trio := ⟨up l.limit.p p, up l.limit.n n, up l.limit.c c⟩
    let (all, out, charged) := chargeFit l.replay l.charged lim
    (d.setLnk port { l with limit := lim, replay := all, charged := charged }).resendPkts port out

/-- CREDIT_RETURN_TIMER (R154): 50 ns after the first unit freed, or 1 µs after the last CREDIT, the receiver sends one. -/
def execCreditReturnTimer (port : Nat) (s : State) : Host.Outcome State Fault Refusal := s.eff fun d =>
  let l := d.lnk port
  if !d.isFabric port || d.lkState port != 3 then d
  else
    let due := if l.unsent = 0 then l.creditAt + 1000 else min (l.freedAt - 1 + 50) (l.creditAt + 1000)
    (d.advanceTo due).creditSend port

/-- CENSUS_TIMER (R156): the transmitter sends its charged totals. -/
def execCensusTimer (port : Nat) (s : State) : Host.Outcome State Fault Refusal := s.eff fun d =>
  let ms := d.rf R.MKL_LK_TIMING (lkInst port) 23 16
  if !d.isFabric port || d.lkState port != 3 || ms == 0 then d
  else
    let d := d.advanceTo ((d.now / (1000000 * ms) + 1) * (1000000 * ms))
    let l := d.lnk port
    let n := (l.census + 1) % 256
    let m (k : Nat) : Nat := l.charged.get k % 16777216
    (d.setLnk port { l with census := n, marked := l.charged }).sym port 4 [n, m 0, m 1, m 2]

/-- CENSUS_MARK (R156): answered with what the receiver has freed and holds, unless a gap is pending. Units held since before the
accounting started, which the limits of R154 leave out and the transmitter does not charge, count in neither. DEDUCED: log entry 92. -/
def execCensusMark (port num : Nat) (s : State) : Host.Outcome State Fault Refusal := s.eff fun d =>
  let l := d.lnk port
  if !d.isFabric port || d.lkState port != 3 || l.gap then d
  else
    let g (k : Nat) : Nat := (l.freed.get k + (d.rxHeld port k - l.old.get k)) % 16777216
    d.sym port 5 [num % 256, g 0, g 1, g 2]

/-- The leak register and the least window of a class. -/
def leakReg (k : Nat) : Reg := if k = 0 then R.MKL_LK_LEAK_P else if k = 1 then R.MKL_LK_LEAK_NP else R.MKL_LK_LEAK_CPL
def classFloor (k : Nat) : Nat := if k = 0 then 74 else if k = 1 then 2 else 66

/-- The answer of a census for one class: the leak is recorded, CREDIT_LEAK raised once, a shortfall holds the link. -/
def Dev.censusClass (d : Dev) (p k g : Nat) : Dev :=
  let l := d.lnk p
  let x := (l.marked.get k % 16777216 + 16777216 - g % 16777216) % 16777216
  if d.lkState p ≠ 3 then d
  else if 8388608 ≤ x then (d.mklProtocol p).mklHold p false
  else
    let d := d.wn (leakReg k) (lkInst p) x
    let cred := l.cred.get k
    let th := d.rf R.MKL_LK_TIMING (lkInst p) 26 24
    let d := if (cred - x) * 8 < cred * th ∧ !l.leakSaid.testBit k then
        (d.setLnk p { l with leakSaid := l.leakSaid + 2 ^ k }).mklEvent p 0 4 else d
    if cred - x < classFloor k then d.mklHold p false else d

/-- CENSUS_RSP (R156, R157). -/
def execCensusRsp (port num p n c : Nat) (s : State) : Host.Outcome State Fault Refusal := s.eff fun d =>
  if d.isFabric port && d.lkState port == 3 && num == (d.lnk port).census then
    ((d.censusClass port 0 p).censusClass port 1 n).censusClass port 2 c
  else d

/-! ### Training, hold and resume (R158–R160) -/

/-- Send IDENT: member, yard number, yard epoch, port and device token. -/
def Dev.identSend (d : Dev) (p : Nat) : Dev :=
  d.sym p 12 [d.me, d.rf R.DEV_YARD_CFG 0 8 1, d.staging.epoch.toNat, p, (Config.deviceToken d.boot.resets).toNat]

/-- LANES_ALIGNED (R96, R159): the lanes of a link that trains, or of a held link that retrains, align; `lanes` is a
cluster-relative mask. Nothing aligns without the cluster's reference clock (R105); a lane that fails to lock raises LANE_FAULT (R114).
A training from Detect ends permanent parks. -/
def execLanesAligned (port lanes : Nat) (s : State) : Host.Outcome State Fault Refusal := s.eff fun d =>
  let c := port / 8
  let n := lkInst port
  let st := d.lkState port
  if !d.isFabric port || !(st == 1 || st == 4) || !d.refOk c then d
  else if st = 1 ∨ (d.lnk port).full then
    let on := ((d.trainLanes port).filter fun k => lanes.testBit k).take (d.tgtWidth port)
    if on.isEmpty || !d.mayTrain port then d
    else
      let d := d.laneFaults port (ofBits ((d.trainLanes port).filter fun k => !lanes.testBit k))
      let d := (bitsOf 16 (d.rf R.MKL_LK_PARKED n 15 0)).foldl (fun d k => d.wf (R.LAN_LCAL_STATUS c) k 2 0 0) d
      let d := (d.wr R.MKL_LK_PARKED n 0).setPst port { d.pst port with detLanes := ofBits on, leftOut := 0, recFail := [] }
      let keep := fld (d.rd R.PRT0_LINK_STATUS port) 31 22
      let d := d.wr R.PRT0_LINK_STATUS port (word (11 + 16 * 7 + 65536 * on.length + 4194304 * keep))
      let d := if (d.portSlot port).isSome then d else d.wf R.PRT0_LINK_STATUS port 22 22 1
      let d := ((d.setActMask port (ofBits on)).runLanes port 7 0).wn R.PRT0_TRAIN_ERR port 0
      (if st = 1 then d.setLkState port 2 else d).identSend port
  else
    let mine := (d.linkLanes port).filter fun k => !d.permParked port k
    let on := mine.filter fun k => lanes.testBit k
    if on.isEmpty then d
    else
      let d := d.laneFaults port (ofBits (mine.filter fun k => !lanes.testBit k))
      let d := mine.foldl (fun d k =>
        if lanes.testBit k then
          ((d.setLane c k 3).wf (R.LAN_LANE_STATUS c) k 3 3 1).wf R.MKL_LK_PARKED n (16 + k) (16 + k) 0
        else ((d.setLane c k 4).wf R.MKL_LK_PARKED n (16 + k) (16 + k) 1).makeDue port k 2) d
      (d.setActMask port (ofBits on)).identSend port

/-- RESUME (R159, R154): the same partner names the last packet it accepted; the rest is replayed as credits allow. The link becomes ACTIVE
in its bundle again, which takes an order reset (R165). DEDUCED: log entry 37. -/
def execResume (port seq : Nat) (s : State) : Host.Outcome State Fault Refusal := s.eff fun d =>
  let l := d.lnk port
  let n := lkInst port
  if !d.isFabric port || d.lkState port != 4 || !l.same then d
  else
    let d := (d.ackTo port seq).setLkState port 3
    let d := (d.setLnk port { d.lnk port with same := false, full := false, expiries := 0, gap := false, timerAt := d.now + 1 }).acctStart port
    let d := d.wn R.MKL_LK_HOLD_LAST n (min 65535 ((d.now - l.holdAt) / 1000))
    let w := popCount 16 (d.actMask port)
    let d := if l.full then
        let d := ((d.mklMethod port w).calTrained port).wf R.PRT0_LINK_CTRL port 0 0 0
        if w < d.tgtWidth port then d.linkDegraded port else d
      else d
    let d := (d.mklEvent port 0 1).wf R.PRT0_LINK_STATUS port 11 7 (popCount 16 (d.actMask port))
    let d := match d.bundleOf port with
      | some b => (d.pinsSpread b).orStart b
      | none => d
    (d.report port (popCount 16 (d.actMask port))).rxDrain port

/-- HOLD_TIMEOUT (R159, R160): HOLD_TIME after HOLD entry the link flushes. -/
def execHoldTimeout (port : Nat) (s : State) : Host.Outcome State Fault Refusal := s.eff fun d =>
  if !d.isFabric port || d.lkState port != 4 then d
  else
    let d := d.advanceTo ((d.lnk port).holdAt + 10000 * d.rf R.MKL_LK_TIMING (lkInst port) 15 8)
    (d.mklFlush port).rxDrain port

/-! ### Order resets (R164–R166) -/

/-- An order reset of a bundle ends: its counts are clear and the pin table last written is in force. -/
def Dev.orEnd (d : Dev) (b : Nat) : Dev :=
  let x := d.bnd b
  (d.setBnd b { x with sentMain := [], sentOff := [], pins := x.pinsNew, orPhase := 0 }).wf R.MKL_BND_CTRL b 0 0 0

/-- ORDER_RESET_SEND (R165): every packet of the bundle is acknowledged; ORDER_RESET is sent on every ACTIVE link. With no
ACTIVE link there is no one to tell. -/
def execOrderResetSend (bundle : Nat) (s : State) : Host.Outcome State Fault Refusal := s.eff fun d =>
  let x := d.bnd bundle
  if x.orPhase ≠ 1 ∨ (d.bundlePorts bundle).any (fun p => !(d.lnk p).replay.isEmpty) then d
  else
    let on := d.activeLinks bundle
    if on.isEmpty then (if d.bundleLive bundle then d else d.orEnd bundle)
    else on.foldl (fun d p => d.sym p 14 []) (d.setBnd bundle { x with orPhase := 2 })

/-- Release every packet of a link, waiting or not; one that its epoch holds stays, and counts no more. -/
def Dev.rxForce (d : Dev) (p : Nat) : Dev :=
  let n := (d.lnk p).rx.length
  let held := (d.lnk p).rx.filter d.pktHeld
  let d := d.setLnk p { d.lnk p with rx := (d.lnk p).rx.filter fun pk => !d.pktHeld pk }
  let d := (List.range n).foldl (fun d _ => d.rxRelease p) d
  d.setLnk p { d.lnk p with rx := held.map fun pk => { pk with wait := 8388608 } }

/-- ORDER_RESET (R165): once it has arrived on every ACTIVE link, waiting packets are released and the counts cleared. -/
def execOrderReset (port : Nat) (s : State) : Host.Outcome State Fault Refusal := s.eff fun d =>
  match d.bundleOf port with
  | none => d
  | some b =>
    if d.lkState port ≠ 3 then d
    else
      let x := d.bnd b
      let got := if x.orGot.contains port then x.orGot else x.orGot ++ [port]
      if (d.activeLinks b).all got.contains then
        let d := (d.bundlePorts b).foldl (fun d p => d.rxForce p) d
        let d := d.setBnd b { d.bnd b with relMain := [], relOff := [], orGot := [] }
        d.ctlNear b [5]
      else d.setBnd b { x with orGot := got }

/-- ORDER_RESET_ACK (R165): the sender clears its counts, loads the pin table and resumes. -/
def execOrderResetAck (bundle : Nat) (s : State) : Host.Outcome State Fault Refusal := s.eff fun d =>
  if (d.bnd bundle).orPhase = 2 then d.orEnd bundle else d

/-- A write of 1 to BND_CTRL.ORDER_RESET (R165, R166). -/
def Dev.orderResetWrite (d : Dev) (b : Nat) : Dev :=
  if (d.bundlePorts b).isEmpty then d else (d.wf R.MKL_BND_CTRL b 0 0 1).orStart b

/-- BND_ORDER_RESET (R165). -/
def execBndOrderReset (a : Acc) (s : State) : Host.Outcome State Fault Refusal := s.eff fun d =>
  d.guardW a R.MKL_BND_CTRL fun inst d => d.orderResetWrite inst

/-- A write of BND_PIN_DATA: the link slot of the bucket at the accessor's cursor, for the next order reset. -/
def Dev.pinWrite (d : Dev) (a : Acc) (b : Nat) (w : Word) : Dev :=
  let acc := winAcc (accIdx a) b
  let k := d.arn acc R.MKL_BND_PIN_IDX % 256
  let x := d.bnd b
  (d.setBnd b { x with pinsNew := Tbl.put x.pinsNew k 0 (fld w 2 0) }).awn acc R.MKL_BND_PIN_IDX ((k + 1) % 256)

/-- BND_PIN_DATA_WRITE (R166). -/
def execBndPinDataWrite (a : Acc) (data : Word) (s : State) : Host.Outcome State Fault Refusal := s.eff fun d =>
  d.guardW a R.MKL_BND_PIN_DATA fun inst d => d.pinWrite a inst data

/-! ### Cursor steps (R130) -/

/-- CAL_STEP (R130): the partner asks for a step of a transmit cursor (0 pre, 1 post) of a lane that a ROTATE procedure has
parked: up, or down, by one. -/
def execCalStep (port lane cursor : Nat) (up : Bool) (s : State) : Host.Outcome State Fault Refusal := s.eff fun d =>
  match d.logLane port lane with
  | none => d
  | some k =>
    let c := port / 8
    if !d.isFabric port || d.lkState port != 3 || d.laneState c k != 4 || d.permParked port k || 1 < cursor then d
    else d.emit (.engine port 7 [k, cursor, b2n up])

end Sys2Proof.Machine
end

