-- ==== Sys2Proof/Machine/Commit.lean ====
section
/-! DEFINITION. Staged configuration (R53–R62): staging a value, the checks of each page's commit, the adoption of a set and
what follows from it, and the drain of the routing and isolation group. -/

namespace Sys2Proof.Machine

/-! ### Staged sets (R53, R60) -/

/-- Two staged words name the same register. -/
def Stg.same (a b : Stg) : Bool := a.page == b.page && a.inst == b.inst && a.off == b.off

/-- Stage a word for an accessor; an earlier value of it for the same register and page of commit is replaced. -/
def Dev.stage (d : Dev) (x : Stg) : Dev :=
  { d with staging := { d.staging with
      staged := (d.staging.staged.filter fun y => !(y.acc == x.acc && y.via == x.via && y.same x)) ++ [x] } }

/-- The pages of a page's commit: RTE and ISO are one group (R56). -/
def groupOf (page : Nat) : List Nat := if page = 0x500 ∨ page = 0x600 then [0x500, 0x600] else [page]

/-- The staged set of an accessor on a page. -/
def Dev.stagedSet (d : Dev) (acc page : Nat) : List Stg :=
  d.staging.staged.filter fun x => x.acc == acc && (groupOf page).contains x.via
def Dev.unstage (d : Dev) (acc page : Nat) : Dev :=
  { d with staging := { d.staging with staged := d.staging.staged.filter fun x => !(x.acc == acc && (groupOf page).contains x.via) } }

/-- Write a staged word into force. The pseudo-page 0x1001 holds the routing fields of functions: the select value is stable ×
256 + function, the offset that of the register. -/
def Dev.putStg (d : Dev) (x : Stg) : Dev :=
  if x.page = 0x1001 then
    let dw := x.off % 65536 / 4
    let m := x.off / 65536
    let old := (d.cfg (x.inst / 256) (x.inst % 256) dw).toNat
    d.setCfg (x.inst / 256) (x.inst % 256) dw (word (old - (old &&& (m ||| x.val.toNat)) + (x.val.toNat &&& m)))
  else d.wr ⟨x.page, x.off⟩ x.inst x.val

/-- The entry of a duplicated structure that a staged word belongs to. -/
def stgEntry (x : Stg) : Option (Nat × Nat) :=
  if x.page = 0x600 ∧ 0x108 ≤ x.off ∧ x.off < 0x118 then some (0, x.inst)
  else if x.page = 0x500 ∧ 0x108 ≤ x.off ∧ x.off < 0x118 then some (1, x.inst)
  else if x.page = 0x500 ∧ 0x124 ≤ x.off ∧ x.off < 0x134 then some (2, x.inst)
  else if x.page = 0x600 ∧ x.off = 0x300 then some (3, x.inst - 0x100)
  else if x.page = 0x780 ∧ 0x200 ≤ x.off ∧ x.off < 0x210 then some (4, x.inst)
  else none

/-- Both copies of every word of a set are written (R375). -/
def Dev.putSet (d : Dev) (set : List Stg) : Dev :=
  let d := set.foldl Dev.putStg d
  let e := set.filterMap stgEntry
  { d with saf := { d.saf with
      flips := d.saf.flips.filter fun f => !e.contains (f.1, f.2.1)
      bad := d.saf.bad.filter fun f => !e.contains (f.1, f.2.1) } }

/-! ### Checks (R54) -/

/-- A failed check: the code of LAST_ERR and the offset of the register that ERR_INDEX names. -/
abbrev Bad := Option (Nat × Nat)
def firstBad (l : List (Bool × Nat × Nat)) : Bad := (l.find? fun e => e.1).map (·.2)

/-- The instances of a register that a set stages, and whether it stages one of them. -/
def stgInsts (set : List Stg) (page lo hi : Nat) : List Nat :=
  ((set.filter fun x => x.page == page && decide (lo ≤ x.off) && decide (x.off < hi)).map Stg.inst).eraseDups
def stgHas (set : List Stg) (r : Reg) (inst : Nat) : Bool := set.any fun x => x.page == r.page && x.off == r.off && x.inst == inst

/-- Ranges of byte or page numbers [a, a + n) and [b, b + m) overlap. -/
def rangesMeet (a n b m : Nat) : Bool := n != 0 && m != 0 && decide (a < b + m) && decide (b < a + n)

/-- Some two of a list clash, the first of them chosen. -/
def somePair {α : Type} (p : α → α → Bool) : List α → Bool
  | [] => false
  | a :: l => l.any (p a) || somePair p l

/-- PWR (R451, R456). -/
def checkPwr (n : Dev) (_ : List Stg) : Bad := firstBad [
  (n.rf R.PWR_PL_CFG 0 15 0 == 0, 1, 0x108), (n.rf R.PWR_SLEEP_CFG 0 15 8 == 0, 1, 0x110)]

/-- The first entry of a domain's new range that is out of order or has no defined action (R80). -/
def badEntry (n : Dev) (dom : Nat) : Option Nat :=
  let base := n.rf R.CYC_SCHED_BASE dom 9 0
  ((List.range (n.rf R.CYC_SCHED_COUNT dom 10 0)).map (base + ·)).find? fun i =>
    let w := n.ent dom i 0
    decide (5 < fld w 19 16) || (decide (base < i) && decide (fld w 15 0 < fld (n.ent dom (i - 1) 0) 15 0))

/-- CYC (R80). -/
def checkCyc (n : Dev) (set : List Stg) : Bad :=
  let doms := stgInsts set 0x20 0x100 0x1c0
  let lists (dom : Nat) : List (Bool × Nat × Nat) :=
    let src := n.domCtl dom 2 1
    let p := n.domCtl dom 15 8
    let ctl := n.rd R.CYC_DOM_CTRL dom
    let gain := fld ctl 19 16
    let rng := stgHas set R.CYC_SCHED_BASE dom || stgHas set R.CYC_SCHED_COUNT dom
    [(decide (n.rf R.CYC_SCHED_BASE dom 9 0 + n.rf R.CYC_SCHED_COUNT dom 10 0 > 1024), 1,
        if stgHas set R.CYC_SCHED_COUNT dom then 0x124 else 0x120),
     (decide (n.nomPeriod dom < 2000) || decide (16000000000 < n.nomPeriod dom), 1, if stgHas set R.CYC_NOM_PERIOD_LO dom then 0x104 else 0x108),
     (decide (8 < gain), 1, 0x100),
     ((src == 2 || src == 3) && !n.isUp p, 1, 0x100),
     (rng && (badEntry n dom).isSome, 2, 0x120)]
  firstBad (doms.flatMap lists)

/-- LAN (R87, R89). -/
def checkLan (d n : Dev) (c : Nat) : Bad :=
  let s := n.rf (R.LAN_CL_LAYOUT c) 0 6 0
  let ports := d.clusterPorts c
  firstBad [
    (!layoutValid s, 2, 0x100),
    (s != d.rf (R.LAN_CL_LAYOUT c) 0 6 0 &&
      ports.any (fun p => d.portEn p || d.ownMode p != 0 || (d.bundleOf p).isSome), 2, 0x100)]

/-- Slots of ports (R106), for the ports whose role or slot a set stages. -/
def badSlot (n : Dev) (ports : List Nat) : Bool :=
  let on := (n.listed R.PRT1_SLOT_CFG).filter fun e => bit e.2 0
  ports.any fun p => n.rb R.PRT1_SLOT_CFG p 0 &&
    (!n.isDown p || on.any fun e => e.1 != p && fld e.2 6 2 == n.rf R.PRT1_SLOT_CFG p 6 2)

/-- PRT page 0x0200 (R91, R104, R106, R164). Every port number with ROLE upstream in force counts towards the 48, also one that the layout does not
have. DESIGN CHOICE: log entry 89. -/
def checkPrt0 (n : Dev) (set : List Stg) : Bad :=
  let ports := stgInsts set 0x200 0x100 0x104
  firstBad ((ports.flatMap fun p =>
    let w := n.rd R.PRT0_PORT_CFG p
    [(fld w 1 0 == 3 || fld w 6 4 == 7 || fld w 9 8 == 3, 1, 0x100),
     (fld w 1 0 == 2 && fld w 9 8 == 2, 2, 0x100)]) ++
    [(!ports.isEmpty && decide (48 < ((List.range 128).filter n.isUp).length), 1, 0x100), (badSlot n ports, 2, 0x100),
     (ports.any fun p => (n.bundleOf p).any fun b => decide (8 < (n.bundlePorts b).length), 2, 0x100)])

/-- PRT page 0x0201 (R106). -/
def checkPrt1 (n : Dev) (set : List Stg) : Bad := firstBad [(badSlot n (stgInsts set 0x201 0x100 0x104), 2, 0x100)]

/-- PRT page 0x0205 (R402, R404): FN_CFG, and the slot tables of the stables that a set stages. -/
def checkPrt5 (d n : Dev) (set : List Stg) : Bad :=
  let stbs := ((stgInsts set 0x205 0x194 0x198).map (· / 256)).eraseDups
  let valid (w : Word) : Bool := bit w 0
  let slots (s : Nat) := (n.listed R.PRT5_VSLOT_DATA).filter fun e => e.1 / 256 == s && valid e.2
  let inUse (s k : Nat) : Bool := let fn := 8 + k
    d.secBus s fn != 0 || d.cmdBit s fn 0 || d.cmdBit s fn 1 || d.cmdBit s fn 2
  firstBad (((stgInsts set 0x205 0x184 0x188).map fun i => (decide (20 < n.rf R.PRT5_FN_CFG i 5 1), 1, 0x184)) ++
    stbs.map (fun s =>
      let l := slots s
      (somePair (fun a b => a.2 == b.2) l ||
       l.any (fun e => e.1 % 8 != 0 && !valid (n.rd R.PRT5_VSLOT_DATA (e.1 / 8 * 8))), 2, 0x194)) ++
    (stgInsts set 0x205 0x194 0x198).map fun i =>
      (n.rd R.PRT5_VSLOT_DATA i != d.rd R.PRT5_VSLOT_DATA i && valid (d.rd R.PRT5_VSLOT_DATA i) && inUse (i / 256) (i % 256), 2, 0x194))

/-- MKL (R153, R164, R166). -/
def checkMkl (n : Dev) (set : List Stg) : Bad :=
  let links := stgInsts set 0x300 0x200 0x214
  let cfgd := stgInsts set 0x300 0x200 0x204
  firstBad ((links.flatMap fun i =>
    let cfg := n.rd R.MKL_LK_CFG i
    let t := n.rd R.MKL_LK_TIMING i
    let (p, np, c) := (n.rf R.MKL_LK_CRED_P i 11 0, n.rf R.MKL_LK_CRED_NP i 11 0, n.rf R.MKL_LK_CRED_CPL i 11 0)
    let rx := 128 * ((n.block (i - 0x100)).map (·.2)).getD 0
    let cred := stgHas set R.MKL_LK_CRED_P i || stgHas set R.MKL_LK_CRED_NP i || stgHas set R.MKL_LK_CRED_CPL i
    [(decide (fld cfg 14 5 < 5) || decide (640 < fld cfg 14 5), 1, 0x200), (fld cfg 17 15 == 0, 1, 0x200),
     (decide (200 < fld t 15 8), 1, 0x204), (fld cfg 25 18 == 0 && fld t 7 0 == 0, 2, 0x204),
     (cred && (decide (p < 74) || decide (np < 2) || decide (c < 66) || decide (rx < p + np + c)), 2, 0x208)]) ++
    (cfgd.map fun i => (n.rb R.MKL_LK_CFG i 0 && !n.isFabric (i - 0x100), 2, 0x200)) ++
    [(!cfgd.isEmpty && (List.range 16).any fun b => decide (8 < (n.bundlePorts b).length), 2, 0x200)])

/-- SWC (R184). -/
def checkSwc (n : Dev) (set : List Stg) : Bad :=
  let g := (n.listed R.SWC_MC_CFG).filter fun e => bit e.2 0
  let st := stgInsts set 0x400 0x300 0x304
  firstBad [(somePair (fun a b => (st.contains a.1 || st.contains b.1) && fld a.2 6 1 == fld b.2 6 1 && fld a.2 13 8 == fld b.2 13 8) g,
    2, 0x300)]

/-- SHD (R175). -/
def checkShd (n : Dev) (set : List Stg) : Bad :=
  firstBad (((stgInsts set 0x440 0x204 0x210).flatMap fun p =>
    [(decide (n.rsv p 0 < 16), 1, 0x204), (n.rsv p 1 == 0, 1, 0x208), (decide (n.rsv p 2 < 16), 1, 0x20c)]) ++
    [(decide (180224 < n.rsvTotal + n.mirrorCells), 2, 0x204)])

/-! ### The checks of the routing and isolation group -/

/-- The windows, rules and bridge windows that are enabled. -/
def Dev.winsOn (d : Dev) : List Nat := ((d.listed (R.RTE_WIN_W 2)).filter fun e => e.2 != 0).map (·.1)
def Dev.rulesOn (d : Dev) : List Nat := ((d.listed (R.ISO_RULE_W 2)).filter fun e => e.2 != 0).map (·.1)
def Dev.brgsOn (d : Dev) : List Nat := ((d.listed R.BRG_WIN_SIZE).filter fun e => e.2 != 0).map (·.1)
def Dev.winPage (d : Dev) (i : Nat) : Nat := pageBase (d.winW i 0) (d.winW i 1) / 4096
def Dev.rulePage (d : Dev) (i : Nat) : Nat := pageBase (d.ruleW i 0) (d.ruleW i 1) / 4096
def Dev.brgBase (d : Dev) (w : Nat) : Nat := d.rf R.BRG_WIN_IBASE_LO w 31 12 + 1048576 * d.rf R.BRG_WIN_IBASE_HI w 19 0

/-- A BRIDGE entry does not fit its bridge window (R313). -/
def badBridge (n : Dev) (i : Nat) : Bool :=
  let w := n.winW i 3
  let k := fld w 15 8
  let size := n.rn R.BRG_WIN_SIZE k
  fld w 7 6 == 2 && (size == 0 || n.rf R.BRG_WIN_CFG k 5 0 != fld w 5 0 || decide (size < (n.winW i 2).toNat))

/-- RTE (R205, R213, R214, R220, R225, R313). A conflict counts where the set stages one side of it. -/
def checkRte (n : Dev) (set : List Stg) : List (Bool × Nat × Nat) :=
  let st := stgInsts set 0x500 0x108 0x118
  let xst := stgInsts set 0x500 0x124 0x134
  let own := stgInsts set 0x600 0x300 0x304
  let on := n.winsOn
  let size (i : Nat) : Nat := (n.winW i 2).toNat
  let stb (i : Nat) : Nat := fld (n.winW i 3) 5 0
  let kind (i : Nat) : Nat := fld (n.winW i 3) 7 6
  let expect := n.rf R.DEV_YARD_CFG 0 22 15
  let portBad (i : Nat) : Bool :=
    let w := n.winW i 3
    let m := fld w 18 16
    let p := fld w 15 8
    kind i == 0 &&
    ((st.contains i && (if n.yardEn then m != n.me && !expect.testBit m else m != 0)) ||
     (m == n.me && (st.contains i || own.contains (0x100 + p)) &&
      !(n.isDown p && n.portExists p && ((n.ownMode p == 1 && n.owner p == some (stb i)) || (n.ownMode p == 2 && (n.sharers p).contains (stb i))))))
  let xBad (i : Nat) : Bool := let k := fld (n.winW i 3) 29 20
    kind i == 1 && (st.contains i || xst.contains k) && fld (n.xingW k 2) 5 0 != stb i
  let yst := stgInsts set 0x500 0x200 0x204
  let ys := (n.listed R.RTE_STB_ROUTE).filter fun e => bit e.2 8
  [(n.rf R.RTE_YARD_CFG 0 15 0 == 0, 1, 0x160)] ++
  st.map (fun i => (kind i == 3, 1, 0x114)) ++
  st.map (fun i => (decide (4503599627370496 < n.winPage i + size i), 1, 0x114)) ++
  [((st.any fun i => on.contains i && on.any fun j => j != i && stb j == stb i && rangesMeet (n.winPage i) (size i) (n.winPage j) (size j)), 2, 0x114),
   (on.any portBad, 2, 0x114), (on.any xBad, 2, 0x114), ((on.filter st.contains).any (badBridge n), 2, 0x114)] ++
  xst.map (fun k => (fld (n.xingW k 2) 13 8 == fld (n.xingW k 2) 5 0, 2, 0x130)) ++
  [(somePair (fun a b => (yst.contains a.1 || yst.contains b.1) && fld a.2 7 0 == fld b.2 7 0) ys, 2, 0x200)]

/-- A stable still owns or shares something (R229). -/
def stbInUse (n : Dev) (s : Nat) : Bool :=
  ((List.range 128).any fun p => (n.portStables p).contains s) ||
  (n.winsOn.any fun i => fld (n.winW i 3) 5 0 == s) ||
  ((n.listed R.SWC_MC_CFG).any fun e => bit e.2 0 && fld e.2 6 1 == s) ||
  ((n.listed R.SLC_SLICE_CFG).any fun e => bit e.2 0 && fld e.2 14 9 == s) ||
  ((List.range 64).any fun c => n.chOwner c == some s) ||
  (n.brgsOn.any fun w => n.rf R.BRG_WIN_CFG w 5 0 == s)

/-- ISO (R229–R231, R238, R302). -/
def checkIso (d n : Dev) (set : List Stg) : List (Bool × Nat × Nat) :=
  let own := (stgInsts set 0x600 0x300 0x304).map (· - 0x100)
  let st := stgInsts set 0x600 0x108 0x118
  let xst := stgInsts set 0x500 0x124 0x134
  let en := stgInsts set 0x600 0x200 0x204
  let ups := (List.range 128).filter fun p => n.isUp p && n.ownMode p == 1
  let src (i : Nat) : Nat := fld (n.ruleW i 3) 7 6
  let srcId (i : Nat) : Nat := fld (n.ruleW i 3) 23 8
  let size (i : Nat) : Nat := (n.ruleW i 2).toNat
  let on := n.rulesOn
  let clash (i j : Nat) : Bool := i != j && (n.ruleW i 3).toNat % 16777216 == (n.ruleW j 3).toNat % 16777216 &&
    rangesMeet (n.rulePage i) (size i) (n.rulePage j) (size j)
  own.map (fun p => (n.ownMode p == 3, 1, 0x300)) ++
  st.map (fun i => (decide (4503599627370496 < n.rulePage i + size i) || (src i == 1 && decide (130 < srcId i)), 1, 0x114)) ++
  own.map (fun p => ((n.isFabric p && n.ownMode p != 0) || (n.isUp p && n.ownMode p != 1) || (!n.isDown p && n.ownMode p == 2) ||
    (n.ownMode p == 1 && !n.stbEn (n.rf R.ISO_PORT_OWN (0x100 + p) 13 8)) ||
    (n.ownMode p != 0 && (d.idecs.any fun k => d.idecPort k == p && (d.idecLd k).isNone)), 2, 0x300)) ++
  [(!own.isEmpty && somePair (fun a b => n.owner a == n.owner b) ups, 2, 0x300)] ++
  en.map (fun s => (!n.stbEn s && d.stbEn s && stbInUse n s, 2, 0x200)) ++
  [(st.any fun i => on.contains i && on.any (clash i), 2, 0x114),
   (on.any fun i => src i == 3 && (st.contains i || xst.contains (srcId i % 1024)) &&
      fld (n.xingW (srcId i % 1024) 2) 13 8 != fld (n.ruleW i 3) 5 0, 2, 0x114)]

/-- The group's checks see one combined set (R56). -/
def checkGroup (d n : Dev) (set : List Stg) : Bad := firstBad (checkRte n set ++ checkIso d n set)

/-! ### The checks of the remaining pages -/

/-- STL (R266, R271, R275, R304). -/
def checkStl (n : Dev) (set : List Stg) : Bad :=
  let ports := stgInsts set 0x700 0x200 0x204
  let pins := stgInsts set 0x700 0x134 0x13c
  let loft := !(stgInsts set 0x700 0x100 0x10c).isEmpty
  let sets := n.pinKeys.map stallSet
  firstBad (ports.flatMap (fun p =>
    let w := n.rd R.STL_STL_PORT_CFG p
    [(decide (1 < fld w 1 0), 1, 0x200), (bit w 26 && n.rf R.SLC_SLICE_CFG (fld w 25 16) 8 1 != p, 2, 0x200)]) ++
    [(!pins.isEmpty && sets.any (fun k => decide (4 < (sets.filter (· == k)).length)), 2, 0x138),
     (loft && n.loftOn && n.loftIdec.isNone, 2, 0x100)])

/-- SLC (R275, R289, R297). -/
def checkSlc (n : Dev) (set : List Stg) : Bad :=
  let st := stgInsts set 0x780 0x200 0x210
  let grp := stgInsts set 0x780 0x300 0x304
  let cfg (k : Nat) : Word := n.rd R.SLC_SLICE_CFG k
  let base (k : Nat) : Nat := n.rf R.SLC_SLICE_PBASE k 19 0
  let cnt (k : Nat) : Nat := n.rf R.SLC_SLICE_PCOUNT k 20 0
  let on := ((n.listed R.SLC_SLICE_CFG).filter fun e => bit e.2 0).map (·.1)
  let clash (k j : Nat) : Bool := j != k && fld (cfg j) 8 1 == fld (cfg k) 8 1 && bit (cfg j) 25 == bit (cfg k) 25 &&
    rangesMeet (base k) (cnt k) (base j) (cnt j)
  firstBad (st.flatMap (fun k =>
    [(decide (1048576 < base k + cnt k), 1, if stgHas set R.SLC_SLICE_PCOUNT k then 0x208 else 0x204),
     (bit (cfg k) 25 && decide (65536 < base k + cnt k), 1, if stgHas set R.SLC_SLICE_PCOUNT k then 0x208 else 0x204),
     (bit (cfg k) 17 && n.rf R.SLC_SLICE_NPMAX k 15 0 == 0, 1, if stgHas set R.SLC_SLICE_NPMAX k then 0x20c else 0x200),
     (decide (1 < fld (cfg k) 16 15), 1, 0x200)]) ++
    on.flatMap (fun k =>
      let p := fld (cfg k) 8 1
      [(n.ownMode p != 2, 2, 0x200), (n.isMld p, 2, 0x200), (on.any (clash k), 2, 0x204), (!n.stbEn (fld (cfg k) 14 9), 2, 0x200)]) ++
    on.map fun k =>
      let g := fld (cfg k) 24 19
      ((st.contains k || grp.contains (0x1000 + g)) && bit (cfg k) 18 && n.rf R.SLC_DLG_CFG (0x1000 + g) 6 1 != fld (cfg k) 14 9, 2, 0x200))

/-- CXP (R296, R301, R302). -/
def checkCxp (n : Dev) (set : List Stg) : Bad :=
  let lds := (set.filter fun x => x.page == 0x800 && decide (0x340 ≤ x.off) && decide (x.off < 0x380)).map fun x =>
    (x.inst - 0x100, (x.off - 0x340) / 4)
  let st := (stgInsts set 0x800 0x400 0x414).map (· - 0x200)
  let dpa (k : Nat) : Nat := n.rf R.CXP_IDEC_DPA (0x200 + k) 11 0
  let sz (k : Nat) : Nat := n.rf R.CXP_IDEC_SIZE (0x200 + k) 23 0
  let on := n.idecs
  let named (p ld : Nat) : Bool := on.any fun k => n.idecPort k == p && n.idecLd k == some ld
  firstBad (st.flatMap (fun k =>
    [(decide (2 ^ 52 < n.idecBase k + n.idecSize k), 1, 0x408), (decide (4096 < dpa k + sz k), 1, 0x40c)]) ++
    (st.filter on.contains).flatMap (fun k =>
      [(on.any (fun j => j != k && rangesMeet (n.idecBase j) (n.idecSize j) (n.idecBase k) (n.idecSize k)), 2, 0x400),
       (on.any (fun j => j != k && n.idecPort j == n.idecPort k && n.idecLd j == n.idecLd k && rangesMeet (dpa j) (sz j) (dpa k) (sz k)), 2, 0x40c),
       ((match n.idecLd k with
         | some ld => (n.ldStable (n.idecPort k) ld).isSome
         | none => n.ownMode (n.idecPort k) != 0), 2, 0x410)]) ++
    lds.map fun e =>
      let off := 0x340 + 4 * e.2
      let w := n.ldStable e.1 e.2
      (w.isSome && (n.ownMode e.1 != 2 || !n.isMld e.1 || decide (n.rf R.CXP_PORT_CXL_STATUS (0x100 + e.1) 6 2 ≤ e.2) ||
        ((List.range 16).any fun k => k != e.2 && n.ldStable e.1 k == w) || (w.any fun s => !n.stbEn s) || named e.1 e.2), 2, off))

/-- BRG (R312, R313, R323, R329). -/
def checkBrg (n : Dev) (set : List Stg) : Bad :=
  let st := stgInsts set 0x900 0x200 0x214
  let size (w : Nat) : Nat := n.rn R.BRG_WIN_SIZE w
  let inIdec (w : Nat) : Bool := n.idecs.any fun k => !n.idecPriv k &&
    decide (n.idecBase k ≤ 4096 * n.brgBase w) && decide (4096 * (n.brgBase w + size w) ≤ n.idecBase k + n.idecSize k)
  let rsv := sumOf (fun w => n.rf R.BRG_WIN_WBUF w 11 0) (List.range 256)
  firstBad ([(n.rf R.BRG_BRG_CFG 0 15 0 == 0, 1, 0x100)] ++ st.flatMap (fun w =>
    [(n.rf R.BRG_WIN_CFG w 8 7 == 3, 1, 0x200), (decide (1099511627776 < n.brgBase w + size w), 1, 0x20c),
     (size w != 0 && !inIdec w, 2, 0x204), (size w != 0 && !n.stbEn (n.rf R.BRG_WIN_CFG w 5 0), 2, 0x200),
     (n.rf R.BRG_WIN_WBUF w 11 0 == 0 && n.rf R.BRG_WIN_WBUF w 27 16 == 0, 2, 0x210),
     (n.winsOn.any (fun i => fld (n.winW i 3) 15 8 == w && badBridge n i), 2, 0x20c)]) ++
    [(decide (2048 < rsv), 2, 0x210)])

/-- DMA (R334). -/
def checkDma (d n : Dev) (set : List Stg) : Bad :=
  firstBad ((stgInsts set 0xa00 0x200 0x204).map fun c =>
    let w := n.rd R.DMA_CH_OWN c
    ((w != d.rd R.DMA_CH_OWN c && d.rf R.DMA_CH_STATUS c 1 0 != 0) || !n.stbEn (fld w 6 1), 2, 0x200))

/-- SCH (R355). -/
def checkSch (n : Dev) (set : List Stg) : Bad :=
  let st := stgInsts set 0xb00 0x400 0x404
  let on := (n.listed R.SCH_SH_CFG).filter fun e => bit e.2 0
  let clash (a b : Nat × Word) : Bool := a.1 != b.1 && fld a.2 6 1 == fld b.2 6 1 && fld a.2 15 8 == fld b.2 15 8 &&
    (fld a.2 23 16 &&& fld b.2 23 16) != 0
  firstBad (st.map (fun i => (decide (130 < n.rf R.SCH_SH_CFG i 15 8), 1, 0x400)) ++
    [((on.filter fun e => st.contains e.1).any fun a => !n.stbEn (fld a.2 6 1) || on.any (clash a), 2, 0x400)])

/-- SAF (R390). -/
def checkSaf (n : Dev) (_ : List Stg) : Bad :=
  let c := n.rf R.SAF_CTO_CFG 0 21 0
  firstBad [(decide (c < 50) || decide (4000000 < c), 1, 0x10c)]

/-- The checks of a commit on a page: `n` is the device as it would stand. DEDUCED: log entry 57. -/
def checkPage (d n : Dev) (page : Nat) (set : List Stg) : Bad :=
  let set := set.filter fun x => x.page == page || page == 0x500 || page == 0x600
  if page = 0x13 then checkPwr n set
  else if page = 0x20 then checkCyc n set
  else if 0x100 ≤ page ∧ page < 0x110 then checkLan d n (page - 0x100)
  else if page = 0x200 then checkPrt0 n set
  else if page = 0x201 then checkPrt1 n set
  else if page = 0x205 then checkPrt5 d n set
  else if page = 0x300 then checkMkl n set
  else if page = 0x400 then checkSwc n set
  else if page = 0x440 then checkShd n set
  else if page = 0x500 ∨ page = 0x600 then checkGroup d n set
  else if page = 0x700 then checkStl n set
  else if page = 0x780 then checkSlc n set
  else if page = 0x800 then checkCxp n set
  else if page = 0x900 then checkBrg n set
  else if page = 0xa00 then checkDma d n set
  else if page = 0xb00 then checkSch n set
  else if page = 0xc00 then checkSaf n set
  else none

/-! ### What an adoption brings about -/

/-- The topology generation advances (R21). -/
def Dev.topoChange (d : Dev) : Dev := { d with staging := { d.staging with topoGen := d.staging.topoGen + 1 } }

/-- The unit tree: the parent of the device, and the children of every unit whose children are not fixed (R19). -/
def Dev.tree (d : Dev) : Option Unit × List (List Unit) :=
  (d.parent .device,
    ((if d.isHead then Unit.yard :: (List.range 4).map Unit.sub else []) ++ [Unit.device] ++ (List.range 16).map Unit.cluster ++
      (List.range 16).map Unit.bundle ++ (List.range 128).map Unit.port).map d.children)

/-- A staged word that can move a unit in the tree: a layout, the EN or the ROLE of a port, the bundle of a link (R21). -/
def movesTree (x : Stg) : Bool :=
  (decide (0x100 ≤ x.page) && decide (x.page < 0x110) && x.off == 0x100) ||
  (x.page == 0x200 && (x.off == 0x28 || x.off == 0x100)) || (x.page == 0x300 && x.off == 0x200)

/-- The topology generation after a commit: once for a commit that changed any unit's parent or child list (R21). -/
def Dev.topoSync (d old : Dev) (set : List Stg) : Dev :=
  let may := set.any movesTree || d.yard.tree != old.yard.tree || d.yard.subs != old.yard.subs
  if may && decide (d.tree ≠ old.tree) then d.topoChange else d

/-- A fabric link goes down by disable or a change of its port: it flushes at once (R160), and permanent parks end (R163). -/
def Dev.fabricOff (d : Dev) (p st : Nat) : Dev :=
  let d := if d.lkState p = 3 ∨ d.lkState p = 4 then d.mklFlush p else d
  let parked := d.rf R.MKL_LK_PARKED (lkInst p) 15 0
  let d := (bitsOf 16 parked).foldl (fun d k => d.wf (R.LAN_LCAL_STATUS (p / 8)) k 2 0 0) d
  (((d.portLost p 1).setLkState p 0).wr R.MKL_LK_PARKED (lkInst p) 0).linkWords p st

/-- A port's link goes down by a commit; `st` is the state it shows. -/
def Dev.linkOff (d old : Dev) (p st : Nat) : Dev :=
  if old.isFabric p then d.fabricOff p st
  else if old.dlUp p then d.dlDown p st false true
  else d.linkWords p st

/-- A port's PORT_CFG or UNIT_CTRL has been adopted (R46, R92). A link in L1 leaves it for the Recovery of a speed change. A FLIT_LOW of
itself keeps the link as it is until its next training or change of rate. DESIGN CHOICE: log entry 88. -/
def Dev.portAdopt (d old : Dev) (p : Nat) : Dev :=
  if 128 ≤ p ∨ (d.block p).isNone then d
  else
    let a := old.rd R.PRT0_PORT_CFG p
    let b := d.rd R.PRT0_PORT_CFG p
    let keep (w : Word) := (fld w 2 0, fld w 9 8)
    let d := if old.portEn p ∧ !d.portEn p then d.linkOff old p 0
      else if !old.portEn p ∧ d.portEn p then d.linkWords p 1
      else if keep a ≠ keep b then d.linkOff old p 1
      else d
    if d.dlUp p ∧ !d.isFabric p ∧ (d.lstate p = 4 ∨ d.lstate p = 6 ∨ d.lstate p = 7) ∧ min (fld b 6 4) (d.pst p).rateCap ≠ d.curRate p then d.enterRecovery p
    else d

/-- A lane that returns to service is EXCLUDED until the next training. -/
def Dev.laneBack (d : Dev) (p k : Nat) : Dev :=
  if d.laneState (p / 8) k = 0 ∧ d.portEn p ∧ d.tgtWidth p ≠ 0 then d.setLane (p / 8) k 5 else d

/-- Lanes whose EN has been cleared power down: one that carries a link is lost to it (R46, R97, R163). -/
def Dev.laneAdopt (d old : Dev) (c k : Nat) : Dev :=
  let was := old.rb (unitCtrl (0x100 + c)) k 0
  let on := d.rb (unitCtrl (0x100 + c)) k 0
  if was = on then d
  else match d.blockPort c k with
    | none => d
    | some p =>
      if on then d.laneBack p k
      else if d.isFabric p ∧ d.lkState p = 3 ∧ (d.actMask p).testBit k then (d.sym p 11 [d.logOf p k]).laneGone p k
      else if !d.isFabric p ∧ d.dlUp p ∧ (d.linkLanes p).contains k ∧ d.laneState c k = 3 then
        (d.enterRecovery p).wf (R.LAN_LANE_STATUS c) k 3 3 0
      else d.setLane c k 0

/-- A new layout of a cluster (R89): its lanes lie in new blocks, and the credits of its fabric links follow the blocks. -/
def Dev.layoutAdopt (d : Dev) (c : Nat) : Dev :=
  let d := (List.range 16).foldl (fun d k => d.wr (R.LAN_LANE_STATUS c) k (if d.laneState c k = 7 then 0xff07 else 0xff00)) d
  let d := (List.range 8).foldl (fun d n =>
    let p := 8 * c + n
    let rx := 128 * ((d.block p).map (·.2)).getD 0
    let i := lkInst p
    ((d.wn R.MKL_LK_CRED_P i (rx / 2)).wn R.MKL_LK_CRED_NP i (rx / 8)).wn R.MKL_LK_CRED_CPL i (3 * rx / 8)) d
  d

/-- The membership of bundles has changed: the links of each bundle concerned get its buckets anew, by an order reset; a link
whose partner is not the bundle's is ISOLATED (R164, R165). -/
def Dev.bundleAdopt (d old : Dev) : Dev :=
  let moved := ((List.range 128).filter fun p => d.bundleOf p != old.bundleOf p)
  let bs := (moved.filterMap old.bundleOf ++ moved.filterMap d.bundleOf).eraseDups
  if moved.isEmpty then d
  else
    let d := moved.foldl (fun d p => match d.bundleOf p with
      | some b =>
        let mine := d.rf R.MKL_LK_PARTNER (lkInst p) 2 0
        let other := (d.bundlePorts b).find? fun q => !moved.contains q && d.rb R.MKL_LK_PARTNER (lkInst q) 31
        if (d.lkState p = 3 ∨ d.lkState p = 4) ∧ (other.any fun q => d.rf R.MKL_LK_PARTNER (lkInst q) 2 0 != mine) then
          ((d.mklFlush p).setLkState p 6).mklProtocol p
        else d
      | none => d) d
    bs.foldl (fun d b => if (d.bundlePorts b).isEmpty then d else (d.pinsSpread b).orStart b) d

/-- An expander taken into use has its direction registers written; a slot newly bound starts anew, and its port shows the presence
accepted for it, a port without a slot in-band presence (R106, R107, R113). -/
def Dev.slotAdopt (d old : Dev) : Dev :=
  let d := (List.range 8).foldl (fun d e =>
    if d.rb (R.PRT1_HP_EXP e) 0 7 ∧ d.rd (R.PRT1_HP_EXP e) 0 ≠ old.rd (R.PRT1_HP_EXP e) 0 then
      let d := d.emit (.bus 1 (d.rf (R.PRT1_HP_EXP e) 0 6 0) [d.rf (R.PRT1_HP_EXP e) 0 31 24, 0x8888])
      { d with ports := { d.ports with expQ := Tbl.put d.ports.expQ e [] [] } }
    else d) d
  let moved := (List.range 32).filter fun k => d.slotPort k != old.slotPort k
  let d := (moved.filterMap old.slotPort).foldl (fun d p =>
    (d.wr R.PRT1_SLOT_STATE p 0).wf R.PRT0_LINK_STATUS p 22 22 (b2n (d.dlUp p))) d
  moved.foldl (fun d k =>
    let on := (d.slot k).present
    let d := d.setSlot k { Slot.reset with present := on }
    match d.slotPort k with
    | some p => (d.wr R.PRT1_SLOT_STATE p (word (b2n on))).wf R.PRT0_LINK_STATUS p 22 22 (b2n on)
    | none => d) d

/-- The loft after an STL commit (R263, R264, R280). -/
def Dev.stlAdopt (d old : Dev) : Dev :=
  let place (x : Dev) := (x.rf R.STL_LOFT_CFG 0 12 1, x.loftBase)
  let d := if old.loftOn ∧ !d.loftOn then d.loftOff
    else if d.loftOn ∧ (!old.loftOn ∨ place d ≠ place old) then d.loftRestart
    else d
  d.pinSync

/-- Slices after an SLC commit: a new assignment advances the slice's generation (R280). -/
def Dev.slcAdopt (d old : Dev) (set : List Stg) : Dev :=
  let key (x : Dev) (k : Nat) := (x.rf R.SLC_SLICE_CFG k 14 1, x.rf R.SLC_SLICE_PBASE k 19 0, x.rf R.SLC_SLICE_PCOUNT k 20 0)
  ((stgInsts set 0x780 0x200 0x210).filter fun k => key d k != key old k).foldl (fun d k => d.advanceDom (domSlice k)) d

/-- Decoders and LD bindings after a CXP commit (R297, R303). -/
def Dev.cxpAdopt (d old : Dev) (set : List Stg) : Dev :=
  let lds := (List.range 128).flatMap fun p => (List.range 16).filterMap fun ld =>
    if stgHas set (R.CXP_LD_BIND ld) (0x100 + p) && d.ldStable p ld != old.ldStable p ld then some (p, ld) else none
  let d := lds.foldl (fun d e =>
    let d := match old.ldStable e.1 e.2 with
      | some s => d.synthLedger fun l => l.egress == e.1 && l.stable == some s
      | none => d
    d.advanceDom (domLd e.1 e.2)) d
  ((stgInsts set 0x800 0x400 0x414).map (· - 0x200)).foldl (fun d k =>
    let was := old.idecSize k != 0 && old.idecState k == 2
    let d := if d.idecSize k ≠ 0 then d.idecStart k else (d.idecEnd k).wr R.CXP_IDEC_STATUS (0x200 + k) 0
    if !was then d
    else if old.idecPriv k then d.loftFail
    else
      let d := (d.brg.lines.filter fun l => !l.issued && old.idecAt (64 * l.addr) == some k && (d.idecAt (64 * l.addr)).isNone).foldl
        (fun d l => d.lineFail l 1) d
      d.brgPump) d

/-- Bridge windows after a BRG commit: FENCE adopted on a tainted window fences it (R329). -/
def Dev.brgAdopt (d : Dev) (set : List Stg) : Dev :=
  (stgInsts set 0x900 0x200 0x204).foldl (fun d w =>
    let act := d.rf R.BRG_WIN_CFG w 8 7
    let fence := act == 2 || (act == 0 && d.rb R.BRG_WIN_CFG w 6)
    if d.rb R.BRG_WIN_STATUS w 0 && fence then d.wf R.BRG_WIN_STATUS w 1 1 1 else d) d

/-- Channels after a DMA commit: a new owner advances the channel's generation (R334, R347). -/
def Dev.dmaAdopt (d old : Dev) (set : List Stg) : Dev :=
  ((stgInsts set 0xa00 0x200 0x204).filter fun c => d.rf R.DMA_CH_OWN c 6 1 != old.rf R.DMA_CH_OWN c 6 1).foldl
    (fun d c => d.advanceDom (domChan c)) d

/-- Shapers that an SCH commit enables start with a full bucket (R357). -/
def Dev.schAdopt (d old : Dev) (set : List Stg) : Dev :=
  ((stgInsts set 0xb00 0x400 0x404).filter fun i => d.rb R.SCH_SH_CFG i 0 && !old.rb R.SCH_SH_CFG i 0).foldl
    (fun d i => d.setShaper (i - 0x1000) (d.shFull (i - 0x1000))) d

/-- The generation domains that a host action on a downstream port's function advances (R414): the port's where the stable
owns it, else those of its slices and LDs there. -/
def Dev.fnDomains (d : Dev) (s fn : Nat) : List Nat :=
  match (d.slots s).find? fun e => 8 + e.1 == fn with
  | none => []
  | some (_, m, p) =>
    if m ≠ d.me then []
    else if d.ownMode p = 1 then [domPort p]
    else ((d.portSlices p).filter fun e => d.sliceStable e.1 == s).map (fun e => domSlice e.1) ++
      ((List.range 16).filter fun ld => d.isMld p && d.ldStable p ld == some s).map (domLd p)

/-- Command registers after a commit of routing fields: a Bus Master Enable that a host cleared advances the domains (R414). The
fields that a hierarchy reset clears are staged under page 0x600, and the reset advances its domains once itself. DEDUCED: log entry 59. -/
def Dev.fnAdopt (d old : Dev) (set : List Stg) : Dev :=
  (set.filter fun x => x.page == 0x1001 && x.off % 65536 == 4 && x.via == 0x500).foldl (fun d x =>
    let s := x.inst / 256
    let fn := x.inst % 256
    if old.cmdBit s fn 2 ∧ !d.cmdBit s fn 2 then (d.fnDomains s fn).foldl (fun d k => d.advanceDom k) d else d) d

/-- What follows from a set that has been adopted; `old` is the device before it. -/
def Dev.adopted (d old : Dev) (set : List Stg) : Dev :=
  let ports := (stgInsts set 0x200 0x28 0x2c ++ stgInsts set 0x200 0x100 0x104).eraseDups
  let lanes := set.filter fun x => decide (0x100 ≤ x.page) && decide (x.page < 0x110) && x.off == 0x28 && decide (x.inst < 16)
  let d := ports.foldl (fun d p => d.portAdopt old p) d
  let d := lanes.foldl (fun d x => d.laneAdopt old (x.page - 0x100) x.inst) d
  let clusters := (List.range 16).filter fun c => d.rd (R.LAN_CL_LAYOUT c) != old.rd (R.LAN_CL_LAYOUT c)
  let d := clusters.foldl (fun d c => d.layoutAdopt c) d
  let d := (d.bundleAdopt old).topoSync old set
  let on (p : Nat) : Bool := set.any fun x => x.page == p
  let d := if on 0x20 then d.cycAdopt old else d
  let d := if on 0x201 then d.slotAdopt old else d
  let d := if on 0x440 then d.poolChanged else d
  let d := if on 0x700 then d.stlAdopt old else d
  let d := if on 0x780 then d.slcAdopt old set else d
  let d := if on 0x800 then d.cxpAdopt old set else d
  let d := if on 0x900 then d.brgAdopt set else d
  let d := if on 0xa00 then d.dmaAdopt old set else d
  let d := if on 0xb00 then d.schAdopt old set else d
  let d := if on 0x1001 then d.fnAdopt old set else d
  d.rxDrainAll

/-! ### Outcomes (R54, R57–R59) -/

/-- LAST_ERR and ERR_INDEX of a page, or of both pages of the group. -/
def Dev.setErr (d : Dev) (page code index : Nat) : Dev :=
  { d with staging := { d.staging with
      lastErr := (groupOf page).foldl (fun t p => Tbl.put t p 0 (code % 256 + 256 * (index % 65536))) d.staging.lastErr } }

/-- A commit is rejected. In the CONFLICT case of a schedule, SCHED_ERR names its first offending entry (R80). -/
def Dev.rejected (d n : Dev) (page : Nat) (b : Nat × Nat) : Dev :=
  let d := if page = 0x20 ∧ b.1 = 2 then
      (List.range 8).foldl (fun d dom =>
        let rng (x : Dev) := (x.rd R.CYC_SCHED_BASE dom, x.rd R.CYC_SCHED_COUNT dom)
        if rng n = rng d then d
        else match badEntry n dom with
          | some i => d.wn R.CYC_SCHED_ERR dom (i + 32768)
          | none => d) d
    else d
  d.setErr page b.1 (b.2 / 4)

/-- Adopt a set on the pages outside the group: it takes effect in one clock, and STAGE_EPOCH of the page counts (R56). DEDUCED: log entry
23. -/
def Dev.adoptPage (d : Dev) (page : Nat) (set : List Stg) : Dev :=
  let old := d
  let d := (d.putSet set).bump (stageEpoch page)
  (d.setErr page 0 0).adopted old set

/-- A commit on a page outside the group (R54, R58). -/
def Dev.commitPage (d : Dev) (acc page : Nat) : Dev :=
  let set := d.stagedSet acc page
  if set.isEmpty then d.setErr page 0 0
  else
    let n := d.putSet set
    match checkPage d n page set with
    | some b => d.rejected n page b
    | none => (d.unstage acc page).adoptPage page set

/-- Adopt a set on the group: a new epoch, and a drain of the old one. -/
def Dev.adoptGroup (d : Dev) (set : List Stg) (waiters : List Nat) : Dev :=
  let old := d
  let d := d.putSet set
  let d := { d with staging := { d.staging with
    epoch := d.staging.epoch + 1, draining := true, waiters := (d.staging.waiters ++ waiters).eraseDups } }
  d.adopted old set

/-- Values return to an accessor's staged set, but for those staged again since (R57). -/
def Dev.restage (d : Dev) (set : List Stg) : Dev :=
  let back := set.filter fun x => !d.staging.staged.any fun y => y.acc == x.acc && y.via == x.via && y.same x
  { d with staging := { d.staging with staged := back ++ d.staging.staged } }

/-- No TLP of an earlier epoch remains in the device: in the shed, in a receive buffer or in an unacknowledged replay buffer
of a fabric link (R57, R225). -/
def Dev.drained (d : Dev) : Bool :=
  (d.path.items.all fun i => !i.drains || i.epoch == d.staging.epoch || i.epoch == d.staging.epoch + 1) &&
  (d.mkl.link.all fun e => (e.2.rx.all fun k => k.ctl || d.pktEpoch k != .last) &&
    e.2.replay.all fun s => s.pk.ctl || d.pktEpoch s.pk != .last)

/-- The set of a held commit as its check sees it. -/
def Dev.heldSet (d : Dev) : List Stg := d.staging.held.flatMap fun h => h.set

/-- Held commits are checked in the order requested; those that pass take effect together under one epoch (R57 step 4). A
configuration write that fails its checks completes with UR and changes nothing. -/
def Dev.adoptHeld (d : Dev) : Dev :=
  let l := d.staging.held
  if l.isEmpty then d
  else
    let d := { d with staging := { d.staging with held := [] } }
    let step (acc : Dev × List Stg × List Nat × List (Option CfgWait)) (h : Held) : Dev × List Stg × List Nat × List (Option CfgWait) :=
      let (d, set, ws, cs) := acc
      let base := d.putSet set
      let n := base.putSet h.set
      match checkGroup base n h.set with
      | some b =>
        if h.cfg.isSome then (d.cfgDone h.cfg 1, set, ws, cs)
        else ((d.restage h.set).setErr 0x500 b.1 (b.2 / 4), set, ws, cs)
      | none => (d.setErr 0x500 0 0, set ++ h.set, if h.cfg.isSome then ws else ws ++ [h.acc], cs ++ [h.cfg])
    let (d, set, ws, cs) := l.foldl step (d, [], [], [])
    if set.isEmpty then d
    else cs.foldl (fun d c => d.cfgDone c 0) (d.adoptGroup set ws)

/-- A commit on the group of a device that is no yard member (R56–R58). -/
def Dev.commitGroup (d : Dev) (acc : Nat) (set : List Stg) (cfg : Option CfgWait) : Dev :=
  if d.staging.draining then
    { d with staging := { d.staging with held := d.staging.held ++ [⟨acc, set, cfg⟩] } }
  else
    let n := d.putSet set
    match checkGroup d n set with
    | some b => if cfg.isSome then d.cfgDone cfg 1 else (d.restage set).setErr 0x500 b.1 (b.2 / 4)
    | none =>
      let d := if cfg.isSome then d else d.setErr 0x500 0 0
      (d.adoptGroup set (if cfg.isSome then [] else [acc])).cfgDone cfg 0

/-- The drain ends: DRAINING clears, requesters' COMMIT reads 0, and held commits are taken up. -/
def Dev.drainEnd (d : Dev) : Dev :=
  ({ d with staging := { d.staging with draining := false, waiters := [] } }).adoptHeld

end Sys2Proof.Machine
end

