-- ==== Sys2Proof/Machine/Yard.lean ====
section
/-! DEFINITION. Commits on request (R53–R60), the two-phase yard commit (R26, R223–R226), admission of link partners (R159,
R474), reachability of members (R161) and yard formation (R475, R476). -/

namespace Sys2Proof.Machine

/-! ### Next hops and hop limits (R223, R226) -/

/-- The next-hop vector of this member, 3 bits per member, primary entries first; its own number means none. -/
def Dev.hopVector (d : Dev) : Nat :=
  let one (m v nh : Nat) := if m = d.me ∨ v = 0 then d.me else nh
  (List.range 8).foldl (fun n m =>
    let w := d.rd R.RTE_YROUTE (0x100 + m)
    n + one m (fld w 7 7) (fld w 6 4) * 8 ^ m + one m (fld w 15 15) (fld w 14 12) * 8 ^ (8 + m)) 0

/-- The next hop of member m towards another, by its vector: of the primary entry, or of the alternate. -/
def nextHop (vecs : Tbl Nat) (alt : Bool) (m dest : Nat) : Option Nat :=
  (vecs.find m).bind fun v =>
    let x := v / 8 ^ (dest + 8 * b2n alt) % 8
    if x = m then none else some x

/-- The hops of the path from m to a member that takes the alternate entry at one step and primary entries otherwise: none
where there is no such path, 5 where it exceeds 4 hops or revisits a member. -/
def pathHops (vecs : Tbl Nat) (dest : Nat) (altAt : Option Nat) : Nat → Nat → List Nat → Nat → Option Nat
  | 0, _, _, _ => some 5
  | n + 1, i, seen, m =>
    if m = dest then some i
    else match nextHop vecs (altAt == some i) m dest with
      | none => none
      | some x => if seen.contains x ∨ 4 ≤ i then some 5 else pathHops vecs dest altAt n (i + 1) (x :: seen) x

/-- The hops from m to a member by the primary entries, or by an alternate entry first. -/
def hopsOf (vecs : Tbl Nat) (alt : Bool) (m dest : Nat) : Option Nat :=
  pathHops vecs dest (if alt then some 0 else none) 6 0 [m] m

/-- A member beyond the hop limit (R223): the destination of the first path that is too long or revisits a member. -/
def beyond (vecs : Tbl Nat) (members : List Nat) : Option Nat :=
  let pairs := members.flatMap fun a => (members.filter (· != a)).map fun b => (a, b)
  (pairs.find? fun e => ([none, some 0, some 1, some 2, some 3] : List (Option Nat)).any fun k =>
    pathHops vecs e.2 k 6 0 [e.1] e.1 == some 5).map (·.2)

/-! ### The head (R225) -/

/-- Send a COMMIT message. -/
def Dev.ycSend (d : Dev) (m phase err : Nat) (data : List Nat) : Dev :=
  d.ctlSend m ([1, phase, d.me, err, d.yard.epoch, d.yard.id] ++ data)

/-- The head sends a phase to every member of the commit; YC_STATUS shows it. -/
def Dev.ycAll (d : Dev) (phase : Nat) : Dev :=
  (d.yard.parts.foldl (fun d m => d.ycSend m phase 0 []) d).wf R.RTE_YC_STATUS 0 3 1 phase

/-- Members that are reachable are lost no longer. -/
def Dev.found (d : Dev) (ms : List Nat) : Dev :=
  let d := { d with yard := { d.yard with lost := d.yard.lost.filter fun m => !ms.contains m } }
  ms.foldl (fun d m => d.wf R.MKL_MKL_YARD 0 (8 + m) (8 + m) 0) d

/-- The outcome of a commit at the head, on the page of each request. -/
def Dev.ycErr (d : Dev) (code index : Nat) : Dev :=
  (d.yard.accs.map (·.2)).eraseDups.foldl (fun d page => d.setErr page code index) d

/-- The outcome of a commit that a member refuses: the refusal's own, but on the page of a group, one of whose children rejects, it is
CHILD_REJECT with the child's index (R60). -/
def Dev.ycRefused (d : Dev) (child code index : Nat) : Dev :=
  let group := d.yard.accs.any fun e => e.2 == 0
  let d := d.ycErr code index
  if group then d.setErr 0 3 child else d

/-- Routes become valid again at a yard commit (R222). -/
def Dev.routesBack (d : Dev) : Dev :=
  { d with yard := { d.yard with unreach := d.yard.unreach.filter fun m => d.pathKind m == 0 } }

/-- The unit tree's part of a yard commit (R21, R28): the members, and their sub-yard numbers. The head takes these from YARD_SUB.
No message of the spec carries them to another member, whose place in the tree is a free value (log entry 78). -/
def Dev.ycTree (d : Dev) : Dev :=
  let (subs, d) : Nat × Dev := if d.isHead then (d.rf R.DEV_YARD_SUB 0 15 0, d) else
    let (x, d) := d.fresh
    (fld x 15 0, d)
  { d with yard := { d.yard with tree := ofBits d.yardMembers, subs := subs } }

/-- A new epoch is adopted on the tables of this member. -/
def Dev.ycAdoptSet (d : Dev) (set : List Stg) (epoch : Nat) (waiters : List Nat) (phase : YcPhase) : Dev :=
  let old := d
  let d := (d.putSet set).ycTree
  let d := { d with
    staging := { d.staging with
      epoch := BitVec.ofNat 32 epoch, draining := true, waiters := (d.staging.waiters ++ waiters).eraseDups }
    yard := { d.yard with phase := phase, snapshot := [], far := [] } }
  (d.adopted old set).routesBack

/-- The commit is cancelled before its adoption. The values of configuration writes are the snapshot's alone: their writes complete
with UR and nothing of them stays staged. -/
def Dev.ycCancel (d : Dev) (member : Nat) (outcome : Dev → Dev) : Dev :=
  let y := d.yard
  let d := (d.ycAll 7).wf R.RTE_YC_STATUS 0 6 4 member
  let d := (outcome d).restage (y.snapshot.filter fun x => decide (x.page < 0x1000))
  let d := y.cfgs.foldl (fun d c => d.cfgDone (some c) 1) d
  (d.ycIdle).raise 0x502

/-- The head adopts (step 3). -/
def Dev.ycAdopt (d : Dev) : Dev :=
  let y := d.yard
  let d := d.ycErr 0 0
  let waiters := (y.accs.filter fun e => e.2 == 0x500).map (·.1)
  let d := d.ycAdoptSet y.snapshot y.epoch waiters .adopting
  let vecs := Tbl.put y.nexthops d.me 0 d.hopVector
  let hops := (List.range 8).flatMap fun m => [(2 * m, (hopsOf vecs false d.me m).getD 0), (2 * m + 1, (hopsOf vecs true d.me m).getD 0)]
  let d := { d with yard := { d.yard with hops := hops.filter fun e => e.2 != 0, cfgs := [] } }
  let d := y.cfgs.foldl (fun d c => d.cfgDone (some c) 0) d
  d.ycAll 4

/-- The hop check, once every member is READY. -/
def Dev.ycReady (d : Dev) : Dev :=
  let y := d.yard
  if y.phase ≠ .preparing || !(y.parts.all fun m => y.ready.contains m) then d
  else
    let n := d.putSet y.snapshot
    match beyond (Tbl.put y.nexthops d.me 0 n.hopVector) (d.me :: y.parts) with
    | some m => d.ycCancel m fun d => d.ycErr 5 m
    | none => d.ycAdopt

/-- Before a PREPARE that carries out the commit of a group, the head tells its members so: the ID, whether the set of accessor 67
takes part too, and the accessors whose values the group fans out (R60). DESIGN CHOICE: log entry 9. -/
def Dev.ycMark (d : Dev) (plain : Bool) (groups : List Nat) : Dev :=
  if groups.isEmpty then d
  else d.yard.parts.foldl (fun d m => d.ctlSend m ([2, 4, d.yard.id, b2n plain] ++ groups)) d

/-- The head starts a yard commit (step 1). A lost member that is reachable again takes part. -/
def Dev.ycStart (d : Dev) (set : List Stg) (accs : List (Nat × Nat)) (cfgs : List CfgWait) : Dev :=
  let d := d.found (d.yard.lost.filter fun m => d.reachSet.contains m)
  let d := { d with yard := { d.yard with
    phase := .preparing, id := (d.yard.id + 1) % 65536, epoch := (d.staging.epoch + 1).toNat, ready := [], nexthops := []
    parts := (d.yardMembers.filter fun m => m != d.me && !d.isLost m), adopted := [], drained := [], headDrained := false
    snapshot := set, accs := accs, cfgs := cfgs, since := d.now } }
  let d := (d.wf R.RTE_YC_STATUS 0 0 0 1).wf R.RTE_YC_STATUS 0 31 16 d.yard.id
  let groups := (accs.filter fun e => e.2 == 0).map (·.1)
  ((d.ycMark (!cfgs.isEmpty || accs.any fun e => e.2 != 0) groups).ycAll 1).ycReady

/-- The page on which the outcome of a request shows: that of the group, or the device page for a set that was fanned out. -/
def setPage (set : List Stg) : Nat := if set.any fun x => x.via == 0 then 0 else 0x500

/-- Held commits of the head are checked in the order requested; those that pass go into one yard commit. -/
def Dev.ycHeld (d : Dev) : Dev :=
  let l := d.staging.held
  if l.isEmpty then d
  else
    let d := { d with staging := { d.staging with held := [] } }
    let step (acc : Dev × List Stg × List (Nat × Nat) × List CfgWait × Bool) (h : Held) :
        Dev × List Stg × List (Nat × Nat) × List CfgWait × Bool :=
      let (d, set, ws, cs, any) := acc
      let base := d.putSet set
      let n := base.putSet h.set
      match checkGroup base n h.set with
      | some b =>
        if h.cfg.isSome then (d.cfgDone h.cfg 1, set, ws, cs, any)
        else ((d.restage h.set).setErr (setPage h.set) b.1 (b.2 / 4), set, ws, cs, any)
      | none => (d, set ++ h.set, if h.cfg.isSome then ws else ws ++ [(h.acc, setPage h.set)], cs ++ h.cfg.toList, true)
    let (d, set, ws, cs, any) := l.foldl step (d, [], [], [], false)
    if any then d.ycStart set ws cs else d

/-- A commit at the head: held while another runs or drains, checked, and carried to every member. DEDUCED: log entry 58. -/
def Dev.ycRequest (d : Dev) (acc : Nat) (set : List Stg) (cfg : Option CfgWait) : Dev :=
  if d.staging.draining || d.yard.phase != .idle then
    { d with staging := { d.staging with held := d.staging.held ++ [⟨acc, set, cfg⟩] } }
  else
    let n := d.putSet set
    match checkGroup d n set with
    | some b => if cfg.isSome then d.cfgDone cfg 1 else (d.restage set).setErr (setPage set) b.1 (b.2 / 4)
    | none => d.ycStart set (if cfg.isSome then [] else [(acc, setPage set)]) cfg.toList

/-- A member at epoch 0 is reachable and takes part in no commit yet: the head starts one by itself while AUTO_JOIN is 1. -/
def Dev.autoJoin (d : Dev) : Dev :=
  let joins := d.yard.fresh.any fun m => d.reach.testBit m && !d.yard.parts.contains m
  let asked := d.staging.held.any fun h => h.set.isEmpty
  if d.isHead && d.rb R.DEV_YARD_CFG 0 23 && d.rb R.DEV_YARD_STATUS 0 0 && joins && !asked then
    (d.unstage 64 0x500).ycRequest 64 (d.stagedSet 64 0x500) none
  else d

/-- The commit is done once every member that is not lost and the head have drained (step 6). -/
def Dev.ycDone (d : Dev) : Dev :=
  let was := d.yard.phase
  let d := d.ycOver
  if was = .adopting ∧ d.yard.phase = .idle then d.ycHeld.autoJoin else d

/-- The first yard commit (R475): the head runs it when the reachable members cover EXPECT, or when its time has come.
Expected members that are not reachable are declared lost. DEDUCED: log entry 65. -/
def Dev.formTry (d : Dev) (timeUp : Bool) : Dev :=
  match d.boot.kciDone with
  | none => d
  | some _ =>
    if !d.isHead || d.rb R.DEV_YARD_STATUS 0 0 || d.yard.phase != .idle || d.staging.epoch != 0 then d
    else
      let want := (bitsOf 8 (d.rf R.DEV_YARD_CFG 0 22 15)).filter (· != d.me)
      let away := want.filter fun m => !d.reachSet.contains m
      if away.isEmpty || timeUp || d.rf R.DEV_YARD_CFG 0 31 24 == 0 then
        let d := away.foldl (fun d m => d.declareLost m) d
        (d.unstage 64 0x500).ycRequest 64 (d.stagedSet 64 0x500) none
      else d

/-! ### Requests at any device (R54–R60, R202, R203) -/

/-- The staged set fans out over members of the yard (R60). -/
def fansYard (set : List Stg) : Bool := set.any fun x => x.page == 0 && x.off == 0x28 && decide (0xfff0 ≤ x.inst) && x.inst != 0xffff

/-- A commit that an accessor requests on a page. On a yard member, commits of the group are the head's (R26); another member
keeps its values staged, and reports NO_HEAD while the head is lost (R29). An empty set changes nothing (R58), but at the
head a set may be staged at other members only. -/
def Dev.commitReq (d : Dev) (acc page : Nat) : Dev :=
  let set := d.stagedSet acc page
  let group := page == 0x500 || page == 0x600
  let wait (d : Dev) : Dev := if d.staging.draining then
      { d with staging := { d.staging with waiters := (d.staging.waiters ++ [acc]).eraseDups } } else d
  if !group && !(page == 0 && d.yardEn && fansYard set) then d.commitPage acc page
  else if !d.yardEn then
    if set.isEmpty then wait (d.setErr 0x500 0 0) else (d.unstage acc page).commitGroup acc set none
  else if d.isHead then
    if set.isEmpty && !d.yard.far.contains acc then wait (d.setErr 0x500 0 0)
    else (d.unstage acc page).ycRequest acc set none
  else if set.isEmpty then wait (d.setErr 0x500 0 0)
  else if d.isLost d.headNo then d.setErr page 7 0
  else d

/-- A commit of one routing-field register for a configuration write (R202, R203). -/
def Dev.commitCfg (d : Dev) (x : Stg) (c : CfgWait) : Dev :=
  if !d.yardEn then d.commitGroup x.acc [x] (some c)
  else if d.isHead then d.ycRequest x.acc [x] (some c)
  else if d.isLost d.headNo then d.cfgDone (some c) 1
  else ({ d with yard := { d.yard with forwarded := d.yard.forwarded ++ [(c, x)] } }).ctlSend d.headNo [2, 2, d.me]

/-- A member has asked the head for a yard commit that carries its configuration write. -/
def Dev.cfgCarried (d : Dev) : Dev := if d.isHead then d.ycRequest 64 [] none else d

/-- The pseudo-page on which a member keeps the values that a control write of the head's accessor fans out to it (R60). DESIGN CHOICE: log
entry 9. -/
def fanVia (acc : Nat) : Nat := 0x1100 + acc

/-- The values that a control write of an accessor of the head fanned out to a member are staged no longer. -/
def Dev.fanDrop (d : Dev) (own acc : Nat) : Dev :=
  { d with staging := { d.staging with staged := d.staging.staged.filter fun x => !(x.acc == own && x.via == fanVia acc) } }

/-- The head tells its members that an accessor's staged control values are discarded (R55, R60, R61). -/
def Dev.fanForget (d : Dev) (acc : Nat) : Dev :=
  if d.isHead && d.yard.far.contains acc then
    (d.yardMembers.filter fun m => m != d.me && !d.isLost m).foldl (fun d m => d.ctlSend m [2, 5, acc]) d
  else d

/-- An abort discards the staged values of a page; together with COMMIT it says so in LAST_ERR (R55). -/
def Dev.abortReq (d : Dev) (acc page : Nat) (commit : Bool) : Dev :=
  let d := { d with staging := { d.staging with staged := d.staging.staged.filter fun x => !(x.acc == acc && x.via == page) } }
  let d := if page = 0 then d.fanForget acc else d
  if commit then d.setErr page 6 0 else d

/-- A write of STAGE_CTRL. -/
def Dev.stageCtrl (d : Dev) (acc page : Nat) (w : Word) : Dev :=
  if bit w 1 then d.abortReq acc page (bit w 0) else if bit w 0 then d.commitReq acc page else d

def stageReg (page : Nat) : Reg := ⟨page, 0x80⟩

/-- STAGE_COMMIT (R54). -/
def execStageCommit (a : Acc) (page : Nat) (s : State) : Host.Outcome State Fault Refusal := s.eff fun d =>
  d.guardW a (stageReg page) fun _ d => d.commitReq (accIdx a) page

/-- STAGE_ABORT (R55): `commit` tells that the write set COMMIT too. -/
def execStageAbort (a : Acc) (page : Nat) (commit : Bool) (s : State) : Host.Outcome State Fault Refusal := s.eff fun d =>
  d.guardW a (stageReg page) fun _ d => d.abortReq (accIdx a) page commit

/-- DRAIN_END (R57, R225): no TLP of the previous epoch remains in this device. A member answers DRAINED; at the head the
commit is done once the members have drained too. Where the loss of a member has ended the head's drain, the commits held are taken up.
-/
def execDrainEnd (s : State) : Host.Outcome State Fault Refusal := s.eff fun d =>
  if !d.staging.draining then (if d.isHead && d.yard.phase == .idle then d.ycHeld.autoJoin else d)
  else if !d.drained then d
  else if !d.yardEn then d.drainEnd
  else if d.isHead then
    if d.yard.phase = .adopting then ({ d with yard := { d.yard with headDrained := true } }).ycDone
    else ({ d with staging := { d.staging with draining := false, waiters := [] } }).ycHeld
  else
    let was := d.yard.phase
    let d := { d with staging := { d.staging with draining := false, waiters := [] } }
    if was = .adopted then ((d.ycSend d.headNo 6 0 []).wf R.RTE_YC_STATUS 0 3 1 6).ycIdle else d

/-! ### Messages of a yard commit (R225, R226) -/

/-- PREPARE (R225 step 2, R475, R476): the member takes a snapshot, checks it and answers. DEDUCED: log entry 57. -/
def execPrepare (member epoch id : Nat) (s : State) : Host.Outcome State Fault Refusal := s.eff fun d =>
  if !d.yardEn || d.isHead then d
  else
    let y := d.yard
    let answer (d : Dev) (phase err : Nat) (data : List Nat) : Dev :=
      (d.ctlSend member ([1, phase, d.me, err, epoch, id] ++ data)).wf R.RTE_YC_STATUS 0 3 1 phase
    if member ≠ d.headNo then answer d 3 7 [0]
    else
      let d := d.found [member]
      let acc := if d.staging.epoch = 0 then 64 else 67
      let (plain, groups) : Bool × List Nat := match y.group with
        | some (i, plain, groups) => if i = id then (plain, groups) else (true, [])
        | none => (true, [])
      let set := (if plain then d.stagedSet acc 0x500 ++ y.forwarded.map (·.2) else []) ++
        groups.flatMap fun a => d.stagedSet 67 (fanVia a)
      let n := d.putSet set
      match checkGroup d n set with
      | some b => answer d 3 b.1 [b.2 / 4]
      | none =>
        let carried := if plain then y.forwarded.map fun e => e.1 else []
        let d := { d with yard := { d.yard with
          phase := .prepared, id := id, epoch := epoch, snapshot := set, cfgs := carried, since := d.now } }
        answer (d.wf R.RTE_YC_STATUS 0 31 16 id) 2 0 [n.hopVector]

/-- READY (R225 step 3). -/
def execReady (member id vector : Nat) (s : State) : Host.Outcome State Fault Refusal := s.eff fun d =>
  let y := d.yard
  if y.phase ≠ .preparing || id ≠ y.id || !y.parts.contains member then d
  else ({ d with yard := { y with ready := (y.ready ++ [member]).eraseDups, nexthops := Tbl.put y.nexthops member 0 vector } }).ycReady

/-- The place of the child of the yard unit that a member is or lies below. -/
def Dev.yardChild (d : Dev) (m : Nat) : Nat :=
  (d.children .yard).findIdx fun u => u == d.devUnit m || (d.children u).contains (d.devUnit m)

/-- REFUSE (R225). On the page of a group, a refusing member is a child that rejects: CHILD_REJECT with its index (R60). -/
def execRefuse (member id err index : Nat) (s : State) : Host.Outcome State Fault Refusal := s.eff fun d =>
  let y := d.yard
  if y.phase ≠ .preparing || id ≠ y.id || !y.parts.contains member then d
  else (d.ycCancel member fun d => d.ycRefused (d.yardChild member) err index).ycHeld

/-- The hop counts that a member other than the head can tell (R226): 1 to a neighbour, beyond it a value of the member's own. DEDUCED:
log entry 58. -/
def Dev.ycFarHops (d : Dev) : Dev :=
  let far (acc : Dev × Tbl Nat) (m : Nat) : Dev × Tbl Nat :=
    let w := acc.1.rd R.RTE_YROUTE (0x100 + m)
    let one (acc : Dev × Tbl Nat) (k v nh : Nat) : Dev × Tbl Nat :=
      if v = 0 ∨ m = acc.1.me then acc
      else if nh = m then (acc.1, Tbl.put acc.2 (2 * m + k) 0 1)
      else let (x, d) := acc.1.fresh; (d, Tbl.put acc.2 (2 * m + k) 0 (x.toNat % 8))
    one (one acc 0 (fld w 7 7) (fld w 6 4)) 1 (fld w 15 15) (fld w 14 12)
  let (d, hops) := (List.range 8).foldl far (d, [])
  { d with yard := { d.yard with hops := hops } }

/-- Relay ADOPT once to every neighbour. -/
def Dev.ycRelay (d : Dev) (epoch id : Nat) : Dev :=
  ((d.present.map (·.2)).eraseDups).foldl (fun d m => match d.present.find? fun e => e.2 == m with
    | some e => d.ctlNear e.1 [1, 4, d.me, 0, epoch, id]
    | none => d) d

/-- ADOPT (R225 step 4): from any member. The first one received is relayed once to every neighbour. -/
def execAdopt (id : Nat) (s : State) : Host.Outcome State Fault Refusal := s.eff fun d =>
  let y := d.yard
  if y.phase ≠ .prepared || id ≠ y.id then d
  else
    let same (x : Stg) : Bool := y.snapshot.any fun z => z == x
    let d := { d with staging := { d.staging with staged := d.staging.staged.filter fun x => !same x } }
    let d := d.found (d.yard.lost.filter fun m => d.reachSet.contains m)
    let d := ((d.ycAdoptSet y.snapshot y.epoch [] .adopted).wf R.DEV_YARD_STATUS 0 0 0 1).ycFarHops
    let d := { d with yard := { d.yard with forwarded := d.yard.forwarded.filter fun e => !y.cfgs.contains e.1, cfgs := [] } }
    let d := (y.cfgs.foldl (fun d c => d.cfgDone (some c) 0) d).ycRelay y.epoch id
    (d.ycSend d.headNo 5 0 []).wf R.RTE_YC_STATUS 0 3 1 5

/-- ADOPTED (R225): the head records it; a member that was at epoch 0 has joined (R475). -/
def execAdopted (member id : Nat) (s : State) : Host.Outcome State Fault Refusal := s.eff fun d =>
  let y := d.yard
  if y.phase ≠ .adopting || id ≠ y.id || !y.parts.contains member then d
  else
    let d := { d with yard := { y with adopted := (y.adopted ++ [member]).eraseDups, fresh := y.fresh.filter (· != member) } }
    if y.fresh.contains member then
      (d.wf R.DEV_YARD_STATUS 0 31 16 (d.rf R.DEV_YARD_STATUS 0 31 16 + 1)).raise 0x005
    else d

/-- DRAINED (R225 step 6). -/
def execDrained (member id : Nat) (s : State) : Host.Outcome State Fault Refusal := s.eff fun d =>
  let y := d.yard
  if y.phase ≠ .adopting || id ≠ y.id || !y.parts.contains member then d
  else ({ d with yard := { y with drained := (y.drained ++ [member]).eraseDups } }).ycDone

/-- CANCEL (R225): the member discards its snapshot; a configuration write that was carried with it completes with UR. -/
def execCancel (id : Nat) (s : State) : Host.Outcome State Fault Refusal := s.eff fun d =>
  let y := d.yard
  if y.phase ≠ .prepared || id ≠ y.id then d
  else
    let d := { d with yard := { y with phase := .idle, snapshot := [], cfgs := [], forwarded := y.forwarded.filter fun e => !y.cfgs.contains e.1 } }
    (y.cfgs.foldl (fun d c => d.cfgDone (some c) 1) d).rxDrainAll

/-- YARD_COMMIT_TIMEOUT (R225): a member has not answered PREPARE within COMMIT_TO µs. -/
def execYardCommitTimeout (member : Nat) (s : State) : Host.Outcome State Fault Refusal := s.eff fun d =>
  let y := d.yard
  if y.phase ≠ .preparing || !y.parts.contains member || y.ready.contains member then d
  else ((d.advanceTo (y.since + 1000 * d.rf R.RTE_YARD_CFG 0 15 0)).ycCancel member fun d => d.ycErr 4 member).ycHeld

/-! ### Admission, reachability and formation (R159, R161, R474, R475) -/

/-- A partner is admitted (R474): the yard numbers agree, its member is expected and another than this one, and it is the
partner of the bundle, if a link of the bundle has one. -/
def Dev.admits (d : Dev) (p member yard : Nat) : Bool :=
  let cfg := d.rd R.DEV_YARD_CFG
  bit cfg 0 && yard == fld cfg 8 1 && (fld cfg 22 15).testBit member && member != d.me &&
  match d.bundleOf p with
  | none => true
  | some b => (d.bundlePorts b).all fun q => q == p || !d.rb R.MKL_LK_PARTNER (lkInst q) 31 || d.rf R.MKL_LK_PARTNER (lkInst q) 2 0 == member

/-- A link comes into service with an admitted partner. -/
def Dev.fabricUp (d : Dev) (p member yard pport token : Nat) : Dev :=
  let n := lkInst p
  let w := popCount 16 (d.actMask p)
  let d := d.wn R.MKL_LK_PARTNER n (member + 8 * (pport % 256) + 2048 * (yard % 256) + 2147483648)
  let d := (d.wn R.MKL_LK_PTOKEN n token).setLnk p
    { d.lnk p with lastTok := token, lastPartner := some (member + 8 * pport), full := false, same := false, timerAt := d.now + 1 }
  let d := ((d.setLkState p 3).acctStart p).wf R.PRT0_LINK_STATUS p 11 7 w
  let d := d.wr64 R.PRT0_UP_TIME_LO R.PRT0_UP_TIME_HI p d.now
  let d := (d.wf R.PRT0_LINK_CTRL p 0 0 0).mklMethod p w
  let d := ((d.calTrained p).report p w).raise (0x200 + 4 * p)
  let d := if w < d.tgtWidth p then d.linkDegraded p else d
  match d.bundleOf p with
  | some b => (d.pinsSpread b).orStart b
  | none => d

/-- The head learns that a member is at epoch 0, or no longer. -/
def Dev.freshSet (d : Dev) (m : Nat) (fresh : Bool) : Dev :=
  let l := d.yard.fresh.filter (· != m)
  { d with yard := { d.yard with fresh := if fresh then l ++ [m] else l } }

/-- The head after a change of its reachability map: members may be lost, the first commit or an automatic join may start. -/
def Dev.headCheck (d : Dev) : Dev :=
  let d := d.lostSync
  if d.isHead then ((d.ycDone).formTry false).autoJoin else d

/-- IDENT (R159, R474): admission of a new partner, resume of the same one, or a flush. DEDUCED: log entry 65. -/
def execIdent (port member yard epoch pport token : Nat) (s : State) : Host.Outcome State Fault Refusal := s.eff fun d =>
  if !d.isFabric port then d
  else if d.lkState port = 2 then
    if d.admits port member yard then
      let d := d.fabricUp port member yard pport token
      let d := if d.isHead then d.freshSet member (epoch == 0) else d
      (d.headCheck).rxDrain port
    else (((d.setLkState port 6).report port 0).mklProtocol port).raise 0x006
  else if d.lkState port = 4 then
    let l := d.lnk port
    let hold := 10000 * d.rf R.MKL_LK_TIMING (lkInst port) 15 8
    if l.lastPartner = some (member + 8 * pport) ∧ l.lastTok = token ∧ epoch = d.staging.epoch.toNat ∧ d.now ≤ l.holdAt + hold then
      (d.setLnk port { l with same := true }).sym port 13 [(l.expect + 65535) % 65536]
    else (d.mklFlush port).rxDrain port
  else d

/-- TOPO (R161): the head records the neighbours of a member, and whether it is at epoch 0. DEDUCED: log entry 58. -/
def execTopo (member : Nat) (neighbours : List Nat) (fresh : Bool) (s : State) : Host.Outcome State Fault Refusal := s.eff fun d =>
  if !d.isHead || member = d.me then d
  else
    let rest := d.yard.links.filter fun e => e.1 != member
    let d := { d with yard := { d.yard with links := rest ++ neighbours.map fun n => (member, n) } }
    (d.freshSet member fresh).headCheck

/-- YARD_FORM_TIMEOUT (R475): FORM_TO × 10 ms after the head's KCI. -/
def execYardFormTimeout (s : State) : Host.Outcome State Fault Refusal := s.eff fun d =>
  match d.boot.kciDone with
  | none => d
  | some t =>
    if !d.isHead || d.rb R.DEV_YARD_STATUS 0 0 then d
    else (d.advanceTo (t + 10000000 * d.rf R.DEV_YARD_CFG 0 31 24)).formTry true

/-! ### Accesses carried out on another member (R52) -/

/-- The class of an accessor and its stable's yard number, as a message carries them; 256 for none. -/
def Dev.accMark (d : Dev) (a : Acc) : Nat × Nat :=
  (d.accClass a, match d.accStable a with
    | some s => if d.yen s then d.ystable s else 256
    | none => 256)

/-- Send a write, or a read, to a member. A lost member's write is discarded, and its read returns 0 (R52). Values that it may
stage there take part in the accessor's next commit of the group. DESIGN CHOICE: log entry 9. -/
def Dev.carry (d : Dev) (a : Acc) (m addr : Nat) (w : Option Word) : Dev :=
  let acc := accIdx a
  let c := d.accMark a
  let page := addr / 4096
  let d := match w with
    | none => { d with mgt := { d.mgt with remote := d.mgt.remote ++ [(acc, m, addr)] } }
    | some _ =>
      if (page = 0x500 ∨ page = 0x600) ∧ !d.yard.far.contains acc then { d with yard := { d.yard with far := d.yard.far ++ [acc] } } else d
  if d.isLost m then d.remoteFail acc w.isNone
  else d.ctlSend m [2, 0, acc, b2n w.isSome, c.1, c.2, addr, (w.getD 0).toNat]

end Sys2Proof.Machine
end

