-- ==== Sys2Proof/Machine/Functions.lean ====
section
/-! DEFINITION. The functions that hosts see (R401–R421): their standard registers as hosts read and write them, resets and
host actions, the DOE mailbox, SPDM sessions and IDE keys. -/

namespace Sys2Proof.Machine

/-! ### Which function (R401) -/

/-- The Enruez firmware runs. -/
def Dev.fwRuns (d : Dev) : Bool :=
  d.boot.phase == .firmware && !d.boot.halted && !d.boot.coresDown && !d.pwr.off && d.clockRuns && !d.failsafe

def Dev.brfEn (d : Dev) (s : Nat) : Bool := d.rb R.PRT5_FN_CFG s 0
def isSwitchFn (fn : Nat) : Bool := fn == 0 || decide (8 ≤ fn)

/-- The slot that a function number presents: its member and port. -/
def Dev.slotAt (d : Dev) (s fn : Nat) : Option (Nat × Nat) := ((d.slots s).find? fun e => 8 + e.1 == fn).map (·.2)

/-- The local port of a switch port function. -/
def Dev.portOfFn (d : Dev) (s fn : Nat) : Option Nat :=
  if fn = 0 then d.upPort s else match d.slotAt s fn with
    | some (m, p) => if m = d.me then some p else none
    | none => none

/-- The function that a configuration request of a stable addresses: Type 0 the upstream switch port, Type 1 a function on
the internal bus. -/
def Dev.cfgFn (d : Dev) (s : Nat) (t : Tlp) : Option Nat :=
  let df := t.tgt % 256
  if (d.upPort s).isNone then none
  else if t.fmtType % 2 = 0 then (if df = 0 then some 0 else none)
  else if df = 0 then some 1
  else if df = 1 then (if d.brfEn s then some 2 else none)
  else if 8 ≤ df ∧ (d.slotAt s df).isSome then some df else none

/-- A function that a stable has: the upstream switch port, the control function, the bridge function, or a switch port of its slot table. -/
def Dev.hasFn (d : Dev) (s fn : Nat) : Bool := fn == 0 || fn == 1 || (fn == 2 && d.brfEn s) || (decide (8 ≤ fn) && (d.slotAt s fn).isSome)

/-- A function of a stable is not ready for configuration requests (R417). -/
def Dev.fnBusy (d : Dev) (s fn : Nat) : Bool :=
  let late (i : Nat) : Bool := decide (d.now + 1 < d.fn.readyAt.getD i 0)
  late (4 * s) || (fn == 1 && late (4 * s + 1)) || (fn == 2 && late (4 * s + 2))

/-! ### Registers as hosts read them (R403–R410; places: log entry 7) -/

/-- The windows that the bridge directory of a stable lists, in address order (R410): window entry, page offset, pages. -/
def Dev.dirEntries (d : Dev) (s : Nat) : List (Nat × Nat × Nat) :=
  let base := d.bar64 s 2 4
  let size := d.barSize s 2 4
  let l := d.winsOn.filterMap fun i =>
    let b := 4096 * d.winPage i
    let n := 4096 * (d.winW i 2).toNat
    if fld (d.winW i 3) 5 0 = s ∧ fld (d.winW i 3) 7 6 = 2 ∧ base ≤ b ∧ b + n ≤ base + size then some (i, (b - base) / 4096, n / 4096) else none
  sortBy (fun e => e.2.1) l

/-- The directory's registers: word 3 DIR_COUNT, 4 DIR_IDX, 5 to 7 DIR_DATA0 to DIR_DATA2. -/
def Dev.dirWord (d : Dev) (s acc k : Nat) : Word :=
  let l := d.dirEntries s
  let idx := d.fn.dirIdx.getD acc 0
  if k = 3 then word l.length
  else if k = 4 then word idx
  else match l[idx]? with
    | none => 0
    | some (i, off, n) =>
      let w := fld (d.winW i 3) 15 8
      let cfg := d.rd R.BRG_WIN_CFG w
      if k = 5 then word (w + 256 * fld cfg 6 6 + 512 * fld cfg 9 9 + 1024 * fld cfg 10 10)
      else if k = 6 then word off else word n

/-- The words of the Golbuent DVSEC of a control function (R406). -/
def Dev.dvsecWord (d : Dev) (s k : Nat) : Word :=
  if k = 0 then word (s + 256 * s + 65536 * b2n (d.fmStable == some s))
  else if k = 1 then word (d.me + 8 * (d.ystable s) + 2048 * b2n (d.yen s))
  else if k = 2 then d.unitRef .device
  else word d.staging.topoGen.toNat

/-- A port's function carries the L1 PM Substates capability: CLKREQ_N is routed to it, and its link is no CXL link (R103). -/
def Dev.l1SubCap (d : Dev) (p : Nat) : Bool := d.clkreqRouted p && !d.isCxl p

/-- The link, slot and DPC registers of the function of a port in a stable's hierarchy (64: the port's own bridge, for the
fabric manager), with what the port does: L1 in Link Capabilities, the equalisation done at each rate, margining ready, L0p as L0P_EN has
it, and the L1 PM Substates capability at the end of the list (R99, R101, R103). PRESUMED: log entry 7. DEDUCED: log entry 30. -/
def Dev.portWord (d : Dev) (s fn p dw : Nat) (w : Word) : Word :=
  let slot := if 8 ≤ fn then d.portSlot p else none
  let on := s == 64 || d.decodes s d.me p
  let rate := if on && d.dlUp p then d.curRate p else 0
  if dw = 20 then setFld w 24 24 (b2n slot.isSome)
  else if dw = 23 then
    word (d.rf R.PRT0_PORT_CFG p 6 4 + 1 + 16 * ((d.block p).map (·.2)).getD 0 + 2048 * b2n (!d.isCxl p) + 524288 * 3 + 16777216 * p)
  else if dw = 24 then
    let st := if on then d.lstate p else 1
    let up := d.rb R.PRT0_LINK_STATUS p 12
    let w := if on then setFld (setFld w 19 16 (d.curRate p + b2n up)) 25 20 (d.curWidth p) else w
    setFld w 29 27 (b2n (st == 2 || st == 3 || st == 5) + 2 + 4 * b2n (on && up))
  else if dw = 25 then (match slot with
    | some _ => word (0x5b + 32 * d.rf R.PRT1_SLOT_CFG p 1 1 + 524288 * d.rf R.PRT1_SLOT_CFG p 31 19)
    | none => 0)
  else if dw = 26 then (match slot with
    | some k => setFld w 22 22 (b2n (d.slot k).present)
    | none => w)
  else if dw = 98 ∧ 8 ≤ fn ∧ d.ownMode p = 2 then
    let on := d.portContained p || (d.portSlices p).any fun e => d.sliceStable e.1 == s && d.slice.contained.contains e.1
    setFld (setFld w 2 0 (if on then 7 else 0)) 6 5 (b2n on)
  else if dw = 135 then word (if 3 ≤ rate then 15 else 0)
  else if dw = 163 then 1
  else if dw = 165 then word (if 4 ≤ rate then 15 else 0)
  else if dw = 177 then word (if 5 ≤ rate then 15 else 0)
  else if dw = 145 then word (65536 * b2n (d.rb R.PRT0_LINK_CTRL p 5 && on && d.dlUp p))
  else if dw = 183 then setFld w 3 3 (b2n (d.rb R.PRT0_LINK_CTRL p 1))
  else if d.l1SubCap p then (if dw = 192 then w + 0xfe000000 else if dw = 1016 then 0x1001e else if dw = 1017 then 0x1f else w)
  else w

/-- Bits of a standard register that show what the device does (R403): link and slot state of a local port, the DPC status of
a SHARED port (R404), INTA, the type bits of address registers, the serial number, the mailbox, the state of the IDE streams, and the CXL
DVSEC for switch ports while CXL is negotiated. PRESUMED: log entry 7. -/
def Dev.cfgRead (d : Dev) (s fn dw acc : Nat) : Word :=
  let w := d.cfg s fn dw
  if dw = 1 ∧ fn = 1 then setFld w 19 19 (b2n (d.intaOn s))
  else if dw = 3 ∧ (fn = 1 ∨ fn = 2) then setFld w 23 23 (b2n (d.brfEn s))
  else if dw = 3 ∧ 8 ≤ fn then setFld w 23 23 (b2n ((d.slots s).any fun e => e.1 / 8 == (fn - 8) / 8 && e.1 != fn - 8))
  else if (dw = 4 ∨ dw = 6) ∧ d.barSize s fn dw ≠ 0 then setFld w 3 0 (if fn = 2 then 12 else 4)
  else if dw = 7 ∧ isSwitchFn fn then setFld (setFld w 3 0 1) 11 8 1
  else if dw = 9 ∧ isSwitchFn fn then setFld (setFld w 3 0 1) 19 16 1
  else if dw = 36 ∧ fn = 1 then setFld w 26 16 (d.msixTop s)
  else if fn = 1 ∧ 107 ≤ dw ∧ dw < 111 then d.dvsecWord s (dw - 107)
  else if fn = 2 ∧ 107 ≤ dw ∧ dw < 112 then d.dirWord s acc (dw - 104)
  else if fn = 0 ∧ dw = 116 then d.rd R.DEV_DEV_SERIAL_LO 0
  else if fn = 0 ∧ dw = 117 then d.rd R.DEV_DEV_SERIAL_HI 0
  else if fn = 0 ∧ dw = 189 then word (b2n (d.fn.doe.contains s || d.boot.halted) + 4 * b2n (d.portContained 130))
  else match d.portOfFn s fn with
    | none => w
    | some p =>
      if 192 ≤ dw ∧ dw ≤ 210 ∧ dw ≠ 193 ∧ d.isCxl p then
        (if dw = 192 then word (0x10030 + 4194304 * 208) else if dw = 208 then 0x10023 else if dw = 209 then 0x02801e98
         else if dw = 210 then 3 else w)
      else if dw = 196 ∨ dw = 199 then setFld w 3 0 (2 * d.rf R.PRT3_IDE_STATUS p (b2n (dw == 199)) (b2n (dw == 199)))
      else d.portWord s fn p dw w

/-! ### Writes of hosts (R202, R403, R404, R414) -/

/-- The bits of a register that a host writes, and those that a 1 clears, as the standard gives them. PRESUMED: log entry 7. DEDUCED: log
entry 61. -/
def Dev.cfgMask (d : Dev) (s fn dw : Nat) : Nat :=
  let sw := isSwitchFn fn
  let down := decide (8 ≤ fn)
  let size (k : Nat) := d.barSize s fn k
  if dw = 1 then 0x547
  else if dw = 3 then 0xff
  else if (dw = 4 ∨ dw = 6) ∧ size dw ≠ 0 then (18446744073709551616 - size dw) % 4294967296
  else if (dw = 5 ∨ dw = 7) ∧ !(sw ∧ dw = 7) ∧ size (dw - 1) ≠ 0 then (18446744073709551616 - size (dw - 1)) / 4294967296
  else if dw = 15 then (if sw then 0x5f00ff else 0xff)
  else if dw = 17 then 0x103
  else if dw = 22 then 0x7fff
  else if dw = 30 then 0x87ff
  else if dw = 36 then (if fn = 1 then 0xc0000000 else 0)
  else if fn ≠ 2 ∧ (dw = 66 ∨ dw = 67 ∨ dw = 69) then 0xffffffff
  else if fn ≠ 2 ∧ dw = 70 then 0x140
  else if !sw then 0
  else if dw = 6 then 0xffffff
  else if dw = 7 then 0xf0f0
  else if dw = 8 ∨ dw = 9 then 0xfff0fff0
  else if 10 ≤ dw ∧ dw ≤ 12 then 0xffffffff
  else if dw = 24 then (if down then 0xfdb else 0xfcb)
  else if dw = 32 then 0xffff
  else if dw = 85 then 0x803f0000
  else if dw = 114 then 0x1
  else if dw = 119 then 0x3
  else if 146 ≤ dw ∧ dw < 162 then 0xff7f
  else if dw = 184 then 0x8
  else if dw = 195 ∨ dw = 198 then 0xff7ffffd
  else if dw = 200 then 0xffff00
  else if dw = 201 then 0xffff01
  else if dw = 1018 then 0xe3ffff0f
  else if dw = 1019 then 0xfb
  else if dw = 130 then 0x80000000
  else if dw = 86 then 0xfffff03f
  else if 87 ≤ dw ∧ dw ≤ 95 then 0xffffffff
  else if !down then 0
  else if dw = 26 then 0x1fff
  else if dw = 83 then 0x5f0000
  else if dw = 97 then 0xbf0000
  else 0

def cfgClears (fn dw : Nat) : Nat :=
  let sw := isSwitchFn fn
  if dw = 1 then 0xf9000000
  else if dw = 17 then 0x8000
  else if dw = 22 then 0xf0000
  else if fn ≠ 2 ∧ (dw = 65 ∨ dw = 68) then 0xffffffff
  else if dw = 120 ∧ sw then 0xffff
  else if dw = 7 ∧ sw then 0xf9000000
  else if dw = 24 ∧ sw then 0xc0000000
  else if dw = 26 ∧ 8 ≤ fn then 0x11f0000
  else if dw = 98 ∧ 8 ≤ fn then 0x8
  else 0

/-- The routing fields of a register (R202). -/
def routingBits (fn dw : Nat) : Nat :=
  if !isSwitchFn fn then 0
  else if dw = 1 then 7
  else if dw = 6 then 0xffffff
  else if dw = 7 then 0xf0f0
  else if 8 ≤ dw ∧ dw ≤ 12 then 0xffffffff
  else if dw = 83 ∧ 8 ≤ fn then 0x5f0000
  else if 85 ≤ dw ∧ dw ≤ 95 then 0xffffffff
  else 0

/-- The bytes of a word that byte enables select. -/
def beMask (be : Nat) : Nat := (bitsOf 4 be).foldl (fun n i => n + 255 * 256 ^ i) 0

/-- What a write makes of a register. -/
def Dev.cfgMerge (d : Dev) (s fn dw be : Nat) (data : Word) : Word :=
  let old := (d.cfg s fn dw).toNat
  let m := d.cfgMask s fn dw &&& beMask be
  let clr := cfgClears fn dw &&& beMask be &&& data.toNat
  word ((old - (old &&& m)) - ((old - (old &&& m)) &&& clr) + (data.toNat &&& m))

/-- A write to a routing field as the commit that carries it holds it: the bits that it writes, and its clears (R202). -/
def Dev.cfgStg (d : Dev) (s fn dw be : Nat) (data : Word) : Stg :=
  let m := d.cfgMask s fn dw &&& beMask be
  let clr := cfgClears fn dw &&& beMask be
  ⟨s, 0x500, 0x1001, 256 * s + fn, 4 * dw + 65536 * m, word (data.toNat &&& (m ||| clr))⟩

/-- Secondary Bus Reset of a downstream function (R414). -/
def Dev.sbrSet (d : Dev) (s fn : Nat) (on : Bool) : Dev :=
  match d.portOfFn s fn with
  | none => d
  | some p =>
    if fn < 8 then d
    else if d.ownMode p = 1 then
      let was := (d.pst p).sbr
      if on && !was then
        let d := (d.setPst p { d.pst p with sbr := true }).emit (.engine p 4 [1])
        let d := if d.dlUp p then d.dlDown p 8 false true else d.setLstate p 8
        (d.fnDomains s fn).foldl (fun d k => d.advanceDom k) d
      else if !on && was then
        let d := (d.setPst p { d.pst p with sbr := false }).emit (.engine p 4 [0])
        if d.lstate p = 8 then d.linkWords p 1 else d
      else d
    else if on then (d.fnDomains s fn).foldl (fun d k => d.advanceDom k) d
    else d

/-- Link Disable of an OWNED downstream function (R404, R414). -/
def Dev.linkDisSet (d : Dev) (s fn : Nat) (on : Bool) : Dev :=
  match d.portOfFn s fn with
  | none => d
  | some p =>
    let was := (d.pst p).linkDis
    if fn < 8 ∨ d.ownMode p ≠ 1 ∨ was = on then d
    else
      let d := d.setPst p { d.pst p with linkDis := on }
      if on then
        let d := if d.dlUp p then d.dlDown p 0 false true else d.linkWords p 0
        (d.fnDomains s fn).foldl (fun d k => d.advanceDom k) d
      else if d.portEn p ∧ d.lstate p = 0 then d.linkWords p 1 else d

/-! ### Function-level reset (R414, R417, R418) -/

/-- The registers of a function take their reset values, but for the routing fields. -/
def Dev.fnReset (d : Dev) (s fn : Nat) : Dev :=
  { d with fn := { d.fn with cfg := d.fn.cfg.filter fun e => e.1 / 1024 != 256 * s + fn || routingBits fn (e.1 % 1024) != 0 } }

/-- A function is busy after a reset, until the instant given at the latest. -/
def Dev.setReady (d : Dev) (i t : Nat) : Dev := { d with fn := { d.fn with readyAt := Tbl.put d.fn.readyAt i 0 (t + 1) } }

/-- What R61 clears of accessor σ's state: staged values, selects and child cursors. DEDUCED: log entry 59. -/
def Dev.accReset (d : Dev) (s : Nat) : Dev :=
  let d := { d with staging := { d.staging with staged := d.staging.staged.filter fun x => x.acc != s } }
  (d.dropAcc s fun _ off => off == 0xc0 || off == 0x1c).fanForget s

/-- The control function's own state: MSI-X table and pending bits, and the table size of its role (R407, R419). -/
def Dev.ctlReset (d : Dev) (s : Nat) : Dev :=
  let d := (d.fnReset s 1).accReset s
  let d := { d with
    fn := { d.fn with msix := d.fn.msix.filter (fun e => e.1 / 1024 != s)
                      msixSize := Tbl.put d.fn.msixSize s 63 (if d.fmStable == some s then 255 else 63) }
    ev := { d.ev with pba := d.ev.pba.filter (fun e => e.1 != s), msixGap := d.ev.msixGap.filter fun e => e.1 / 256 != s } }
  d.advanceChans s

/-- A function-level reset of the control function (1) or the bridge function (2). DEDUCED: log entry 59. -/
def Dev.flr (d : Dev) (s fn : Nat) : Dev :=
  if (d.upPort s).isNone then d
  else if fn = 1 then
    let d := (d.ctlReset s).wf R.PRT5_FN_STATUS s 15 8 (d.rf R.PRT5_FN_STATUS s 15 8 + 1)
    (d.setReady (4 * s + 1) (d.now + 2000000)).intxSync s
  else if fn = 2 ∧ d.brfEn s then (d.fnReset s 2).setReady (4 * s + 2) (d.now + 2000000)
  else d

/-! ### DOE, SPDM and IDE (R411–R413, R415) -/

/-- The DOE object in progress at a stable's mailbox ends. -/
def Dev.doeEnd (d : Dev) (s : Nat) : Dev := { d with fn := { d.fn with doe := d.fn.doe.filter (· != s) } }

/-- A DOE Abort, or the end of an object by a hierarchy reset. -/
def Dev.doeAbort (d : Dev) (s : Nat) : Dev := (d.doeEnd s).bump R.PRT3_DOE_CNT_ABORT s (some s)

/-- The firmware answers an object: the message is sent to the mailbox of the stable. -/
def Dev.doeAnswer (d : Dev) (s kind : Nat) : Dev :=
  ((d.doeEnd s).bump R.PRT3_DOE_CNT_OBJ s (some s)).emit (.msg 2 kind [s])

/-- The firmware takes up the objects that waited for it. -/
def Dev.doeResume (d : Dev) : Dev := if d.fwRuns then d.fn.doe.foldl (fun d s => d.doeAnswer s 0) d else d

/-- The port that a PortIndex names: 0 the upstream port, 1 + k the function of slot k. -/
def Dev.kmPort (d : Dev) (s idx : Nat) : Option Nat := if idx = 0 then d.upPort s else d.portOfFn s (7 + idx)

/-- IDE_KM from a stable's host is accepted for a port (R413). -/
def Dev.kmOk (d : Dev) (s idx : Nat) : Option Nat :=
  (d.kmPort s idx).filter fun p => d.ownMode p != 2 && d.rb R.PRT3_IDE_POL p 0

/-- A PortIndex that names a port of another member, on the head of the yard, whose firmware acts for it through the member select. What the
port's IDE_POL and PORT_OWN hold there is a free value. DESIGN CHOICE: log entry 60. -/
def Dev.kmFar (d : Dev) (s idx : Nat) : Option (Nat × Nat) × Dev :=
  match if idx = 0 then none else d.slotAt s (7 + idx) with
  | some (m, p) =>
    if m = d.me ∨ !d.isHead then (none, d)
    else
      let (x, d) := d.fresh
      (if bit x 0 then some (m, p) else none, d)
  | none => (none, d)

/-- The answer to a message of IDE_KM. -/
def Dev.kmAnswer (d : Dev) (code stable idx : Nat) (ok : Bool) : Dev := d.emit (.msg 2 code [stable, idx, b2n (!ok)])

/-- The key slots of a stream, direction and key set. -/
def kmSlots (stream dir set : Nat) : List Nat := [0, 1, 2].map fun sub => 12 * stream + 6 * dir + 3 * set + sub

/-! ### Hierarchy reset (R415, R417) -/

/-- The HDM decoder registers of a stable's vCS that hold something, as a set that clears them (R298). -/
def Dev.hdmClear (d : Dev) (s : Nat) : List Stg :=
  [0, 4, 8, 12, 16, 20, 24].flatMap fun off =>
    ((d.listed ⟨0x1000, off⟩).filter fun e => e.1 / 8 == s).map fun e => ⟨s, 0x500, 0x1000, e.1, off, 0⟩

/-- The routing fields of a stable that differ from their reset values, as a set that restores them, HDM decoders among
them. -/
def Dev.routingReset (d : Dev) (s : Nat) : List Stg :=
  d.hdmClear s ++ d.fn.cfg.filterMap fun e =>
    let fn := e.1 / 1024 % 256
    let dw := e.1 % 1024
    if e.1 / 262144 = s ∧ routingBits fn dw ≠ 0 then some ⟨s, 0x600, 0x1001, 256 * s + fn, 4 * dw + 65536 * 0xffffffff, cfgReset fn dw⟩ else none

/-- A set of routing fields is committed without a completion to return. -/
def Dev.commitFields (d : Dev) (s : Nat) (set : List Stg) : Dev :=
  if set.isEmpty then d
  else if !d.yardEn then d.commitGroup s set (some ⟨s, 65536, 0⟩)
  else if d.isHead then d.ycRequest s set (some ⟨s, 65536, 0⟩)
  else if d.isLost d.headNo then d
  else
    let l := set.map fun x => (CfgWait.mk s 65536 0, x)
    ({ d with yard := { d.yard with forwarded := d.yard.forwarded ++ l } }).ctlSend d.headNo [2, 2, d.me]

/-- A hierarchy reset: `hot` where it was received on the upstream link. DEDUCED: log entry 59. -/
def Dev.vhReset (d : Dev) (s : Nat) (hot : Bool) : Dev :=
  if (d.upPort s).isNone then d
  else
    let owned := d.ownedDown s
    let doms := owned.map domPort ++ (d.stableSlices s).map domSlice ++
      (List.range 128).flatMap fun p => if d.isMld p then
        ((List.range 16).filter fun ld => d.ldStable p ld == some s).map (domLd p) else []
    let d := (d.commitFields s (d.routingReset s)).ctlReset s
    let d := ([0, 2] ++ (List.range 248).map (8 + ·)).foldl (fun (d : Dev) fn => d.fnReset s fn) d
    let d := owned.foldl (fun d p =>
      let d := (d.setPst p { d.pst p with sbr := false, linkDis := false }).emit (.engine p 4 [2])
      if d.dlUp p then d.dlDown p 1 false true else if d.lstate p = 8 ∨ d.lstate p = 0 then d.linkWords p (b2n (d.portEn p)) else d) d
    let d := if d.fn.doe.contains s then d.doeAbort s else d
    let d := { d with fn := { d.fn with sess := d.fn.sess.erase s } }
    let d := ((d.upPort s).toList ++ owned).foldl (fun d p => d.ideEnd p) d
    let d := doms.foldl (fun d k => d.advanceDom k) d
    let d := owned.foldl (fun d p =>
      let cause := d.rf R.PRT2_ERR_STATUS p 3 1
      let d := if d.portContained p ∧ (cause = 1 ∨ cause = 2) then d.portReleaseReq p else d
      match d.slotOf s p with
      | some k => if d.portContained p then d.setCfg s (8 + k) 98 (d.cfg s (8 + k) 98 ||| 0x27) else d
      | none => d) d
    let d := d.wf R.PRT5_FN_STATUS s 31 16 (d.rf R.PRT5_FN_STATUS s 31 16 + 1)
    let d := if hot then d.setReady (4 * s) (2 ^ 64 - 1) else (d.wn R.PRT5_FN_CTRL s 1).setReady (4 * s) (d.now + 2000000)
    d.intxSync s

/-! ### A configuration write (R202, R404, R414) -/

/-- Host software writes the Margin Lane Control of a lane (R99): the command goes out on the link; what the receiver that it names
answers, in the Margin Lane Status, is a free value. DESIGN CHOICE: log entry 4. -/
def Dev.marginAsk (d : Dev) (s fn dw : Nat) : Dev :=
  match d.portOfFn s fn with
  | none => d
  | some p =>
    if !d.dlUp p then d
    else
      let (x, d) := d.fresh
      let w := d.cfg s fn dw
      (d.setCfg s fn dw (setFld w 31 16 (x.toNat % 65536))).emit (.engine p 10 [dw - 146, fld w 15 0])

/-- What a write of a register that is no routing field brings about; `old` is its value before. -/
def Dev.cfgEffect (d : Dev) (s fn dw be : Nat) (old data : Word) : Dev :=
  let new := d.cfg s fn dw
  let rise (i : Nat) : Bool := !bit old i && bit new i
  let fall (i : Nat) : Bool := bit old i && !bit new i
  let port := (d.portOfFn s fn).filter fun _ => decide (8 ≤ fn)
  let owned := port.any fun p => d.ownMode p == 1
  let hit (i : Nat) : Bool := bit data i && be.testBit (i / 8)
  if dw = 1 ∧ fn = 1 then (if fall 2 then d.advanceChans s else d).intxSync s
  else if dw = 15 ∧ 8 ≤ fn then (if rise 22 then d.sbrSet s fn true else if fall 22 then d.sbrSet s fn false else d)
  else if dw = 22 ∧ hit 15 then d.flr s fn
  else if dw = 24 ∧ owned then
    let d := if rise 4 then d.linkDisSet s fn true else if fall 4 then d.linkDisSet s fn false else d
    (match port with
     | some p => if hit 5 then d.retrain p else d
     | none => d)
  else if dw = 26 ∧ owned then (match port.bind d.portSlot with
    | some k =>
      let d := d.slotInd k (fld new 7 6) (fld new 9 8)
      if rise 10 then d.slotOff (port.getD 0) else if fall 10 then d.slotOn (port.getD 0) else d
    | none => d)
  else if dw = 36 ∧ fn = 1 then
    ((sortBy (fun v => v) ((d.ev.pba.filter fun e => e.1 == s).map (·.2))).foldl (fun d v => d.msixIssue s v) d).intxSync s
  else if 146 ≤ dw ∧ dw < 162 ∧ isSwitchFn fn then d.marginAsk s fn dw
  else if (dw = 195 ∨ dw = 198) ∧ isSwitchFn fn ∧ fall 0 then (match d.portOfFn s fn with
    | some p => d.wf R.PRT3_IDE_STATUS p (b2n (dw == 198)) (b2n (dw == 198)) 0
    | none => d)
  else if dw = 97 ∧ 8 ≤ fn ∧ hit 22 then (match port with
    | some p => d.dpcSoft s p
    | none => d)
  else if dw = 98 ∧ 8 ≤ fn ∧ hit 0 then (match port with
    | some p => d.dpcRelease s p
    | none => d)
  else d

/-- A write of a standard register that is no routing field. Link Disable, Retrain Link and Slot Control of a SHARED port's
function are ignored. -/
def Dev.cfgPlain (d : Dev) (s fn dw be : Nat) (data : Word) : Dev :=
  let shared := decide (8 ≤ fn) && (d.portOfFn s fn).any fun p => d.ownMode p == 2
  if shared ∧ dw = 26 then d.setCfg s fn 26 (d.cfg s fn 26 &&& word (4294967295 - (data.toNat &&& beMask be &&& 0x11f0000)))
  else if fn = 2 ∧ dw = 108 then { d with fn := { d.fn with dirIdx := Tbl.put d.fn.dirIdx s 0 data.toNat } }
  else
    let old := d.cfg s fn dw
    let new := d.cfgMerge s fn dw be data
    let new := if shared ∧ dw = 24 then setFld new 4 4 (fld old 4 4) else new
    (d.setCfg s fn dw new).cfgEffect s fn dw be old data

/-- A configuration write is to a routing field. -/
def isRouting (fn dw be : Nat) : Bool := (routingBits fn dw &&& beMask be) != 0

/-! ### The commands -/

/-- FUNCTION_LEVEL_RESET (R414). -/
def execFunctionLevelReset (stable fn : Nat) (s : State) : Host.Outcome State Fault Refusal := s.eff fun d =>
  if stable < 64 then d.flr stable fn else d

/-- BUS_MASTER_ENABLE_CLEAR (R414): of the control function at once, of a downstream function at a commit of the group. -/
def execBusMasterEnableClear (stable fn : Nat) (s : State) : Host.Outcome State Fault Refusal := s.eff fun d =>
  let w := setFld (d.cfg stable fn 1) 2 2 0
  if 64 ≤ stable ∨ (d.upPort stable).isNone ∨ !d.hasFn stable fn ∨ !d.cmdBit stable fn 2 then d
  else if fn = 1 then (d.setCfg stable 1 1 w).advanceChans stable
  else if fn = 2 then d.setCfg stable 2 1 w
  else d.commitFields stable [⟨stable, 0x500, 0x1001, 256 * stable + fn, 4 + 65536 * 4, 0⟩]

/-- SECONDARY_BUS_RESET (R414): the bit of a downstream function is set, or cleared again. -/
def execSecondaryBusReset (stable fn : Nat) (on : Bool) (s : State) : Host.Outcome State Fault Refusal := s.eff fun d =>
  if 64 ≤ stable ∨ fn < 8 ∨ (d.slotAt stable fn).isNone then d
  else (d.setCfg stable fn 15 (setFld (d.cfg stable fn 15) 22 22 (b2n on))).sbrSet stable fn on

/-- LINK_DISABLE (R414): the bit of a downstream function is set, or cleared again; ignored on a SHARED port. -/
def execLinkDisable (stable fn : Nat) (on : Bool) (s : State) : Host.Outcome State Fault Refusal := s.eff fun d =>
  match d.portOfFn stable fn with
  | none => d
  | some p =>
    if 64 ≤ stable ∨ fn < 8 ∨ d.ownMode p ≠ 1 then d
    else (d.setCfg stable fn 24 (setFld (d.cfg stable fn 24) 4 4 (b2n on))).linkDisSet stable fn on

/-- HOT_RESET_RECEIVED (R414, R415): the link goes down and the hierarchy of the port's stable is reset. -/
def execHotResetReceived (port : Nat) (s : State) : Host.Outcome State Fault Refusal := s.eff fun d =>
  match d.owner port with
  | none => d
  | some st =>
    if !d.isUp port || !d.dlUp port then d
    else (d.dlDown port 8 false true).vhReset st true

/-- VH_RESET (R415): a write of FN_CTRL.VH_RESET, for the stable at the accessor's cursor. -/
def execVhReset (a : Acc) (s : State) : Host.Outcome State Fault Refusal := s.eff fun d =>
  d.guardW a R.PRT5_FN_CTRL fun _ d => d.vhReset (d.arn (accIdx a) R.PRT5_FN_IDX % 64) false

/-- FUNCTION_READY (R417): after a reset of the hierarchy (0), the control function (1) or the bridge function (2). -/
def execFunctionReady (stable which : Nat) (s : State) : Host.Outcome State Fault Refusal := s.eff fun d =>
  if 64 ≤ stable ∨ 3 ≤ which ∨ d.fn.readyAt.getD (4 * stable + which) 0 = 2 ^ 64 then d
  else
    let d := { d with fn := { d.fn with readyAt := d.fn.readyAt.erase (4 * stable + which) } }
    if which = 0 then d.wr R.PRT5_FN_CTRL stable 0 else d

/-- DOE_OBJECT (R411): a data object of a protocol (0 Discovery, 1 CMA/SPDM, 2 Secured CMA/SPDM) is written to a stable's
mailbox. While the cores are halted the mailbox stays busy; while P130 is contained it reports an error. DESIGN CHOICE: log entry 60. -/
def execDoeObject (stable kind len : Nat) (s : State) : Host.Outcome State Fault Refusal := s.eff fun d =>
  if 64 ≤ stable ∨ (d.upPort stable).isNone ∨ 256 < len ∨ 3 ≤ kind ∨ d.fn.doe.contains stable then d
  else if d.portContained 130 then d.emit (.msg 2 255 [stable])
  else if d.fwRuns then d.doeAnswer stable kind
  else { d with fn := { d.fn with doe := d.fn.doe ++ [stable] } }

/-- DOE_ABORT (R411). -/
def execDoeAbort (stable : Nat) (s : State) : Host.Outcome State Fault Refusal := s.eff fun d =>
  if stable < 64 ∧ (d.upPort stable).isSome then d.doeAbort stable else d

/-- KEY_PROG (R413): the firmware writes key, initial IV and VALID of a key slot, of another member's port through the member select (R52), or
answers with an error status. DESIGN CHOICE: log entry 60. -/
def execKeyProg (stable index stream dir set sub : Nat) (words : List Word) (s : State) : Host.Outcome State Fault Refusal :=
  s.eff fun d =>
    if !d.fwRuns then d
    else
      let base := 0x800 + 0x40 * (12 * (stream % 2) + 6 * (dir % 2) + 3 * (set % 2) + sub % 3)
      let slot := (List.range 11).map (fun i => (base + 4 * i, words.getD i 0)) ++ [(base + 0x2c, 1)]
      match d.kmOk stable index with
      | some p => (slot.foldl (fun d e => d.wr ⟨0x203, e.1⟩ p e.2) d).kmAnswer 16 stable index true
      | none => match d.kmFar stable index with
        | (none, d) => d.kmAnswer 16 stable index false
        | (some (m, p), d) =>
          let d := d.carry (.core true) m 0x2030c0 (some (word p))
          (slot.foldl (fun d e => d.carry (.core true) m (0x203000 + e.1) (some e.2)) d).kmAnswer 16 stable index true

/-- K_SET_GO (R413): a key set of a stream and direction comes into use, on a link in flit mode (R98). DESIGN CHOICE: log entry 60. -/
def execKSetGo (stable index stream dir set : Nat) (s : State) : Host.Outcome State Fault Refusal := s.eff fun d =>
  if !d.fwRuns then d
  else match (d.kmOk stable index).filter fun p => d.rb R.PRT0_LINK_STATUS p 13 with
    | none =>
      let (far, d) := d.kmFar stable index
      d.kmAnswer 17 stable index far.isSome
    | some p =>
      let d := d.wf R.PRT3_IDE_STATUS p (stream % 2) (stream % 2) 1
      let d := d.wf R.PRT3_IDE_STATUS p (3 + dir % 2) (3 + dir % 2) (set % 2)
      let d := if d.isCxl p then (d.wf R.PRT3_IDE_STATUS p 2 2 1).wf R.CXP_PORT_CXL_STATUS (0x100 + p) 10 10 1 else d
      d.kmAnswer 17 stable index true

/-- K_SET_STOP (R413): the use of a key set ends. DESIGN CHOICE: log entry 60. -/
def execKSetStop (stable index stream dir set : Nat) (s : State) : Host.Outcome State Fault Refusal := s.eff fun d =>
  if !d.fwRuns then d
  else match d.kmOk stable index with
    | none =>
      let (far, d) := d.kmFar stable index
      d.kmAnswer 18 stable index far.isSome
    | some p =>
      let d := d.wf R.PRT3_IDE_STATUS p (stream % 2) (stream % 2) 0
      let d := (kmSlots (stream % 2) (dir % 2) (set % 2)).foldl (fun d k => d.wr ⟨0x203, 0x82c + 0x40 * k⟩ p 0) d
      let d := if d.rf R.PRT3_IDE_STATUS p 1 0 = 0 ∧ d.isCxl p then
          (d.wf R.PRT3_IDE_STATUS p 2 2 0).wf R.CXP_PORT_CXL_STATUS (0x100 + p) 10 10 0 else d
      d.kmAnswer 18 stable index true

/-- An MCTP packet or message is discarded and counted (R477). -/
def Dev.mctpErr (d : Dev) : Dev := (d.bump R.DEV_MCTP_CNT_ERR).raise 0x018

/-- Open SPDM sessions of the device. -/
def Dev.sessions (d : Dev) : Nat := d.fn.sess.foldl (fun n e => n + e.2) 0

/-- SPDM_MESSAGE (R412, R480): a request over SMBus (path 0), PCIe VDM (1) or the DOE mailbox of a stable (2); `open_` tells
whether it opens a session or ends one. Sessions over MCTP count for the device alone. DESIGN CHOICE: log entry 60. -/
def execSpdmMessage (path stable code : Nat) (opens ends : Bool) (s : State) : Host.Outcome State Fault Refusal := s.eff fun d =>
  if !d.fwRuns then (if path < 2 then d.mctpErr else d)
  else
    let key := if path = 2 then stable else 64
    let n := d.fn.sess.getD key 0
    let full := decide (64 ≤ d.sessions) || (decide (key < 64) && decide (4 ≤ n))
    let put (d : Dev) (n : Nat) : Dev := { d with fn := { d.fn with sess := Tbl.put d.fn.sess key 0 n } }
    if path = 2 ∧ (64 ≤ stable ∨ (d.upPort stable).isNone) then d
    else if opens ∧ full then d.emit (.msg path 5 [stable, code, 1])
    else
      let d := if opens then put d (n + 1) else if ends then put d (n - 1) else d
      d.emit (.msg path 5 [stable, code, 0])

end Sys2Proof.Machine
end

