-- ==== Sys2Proof/Machine/Events.lean ====
section
/-! DEFINITION. The event blocks and queues as accessors use them (R424–R433, R444), and the counters they set (R434, R440,
R441). -/

namespace Sys2Proof.Machine

/-! ### The event block of a page, and the words of the controller (R425, R444) -/

/-- The array that an accessor sees: its stable's copy, or the management array. -/
def Dev.evArr (d : Dev) (a : Acc) : Nat := (d.tenant a).getD 64

/-- The sources that the bits of an event register address: of a page's event block, or of word w of the controller. -/
def Dev.evBits (d : Dev) (a : Acc) (page off : Nat) : List (Nat × Nat) :=
  if page = 0x11 ∧ 0x100 ≤ off then
    let w := off % 0x100 / 4
    (List.range 32).filterMap fun b => (evSev (32 * w + b)).map fun _ => (b, 32 * w + b)
  else (List.range 32).filterMap fun b => (d.viewSrc page (d.sel (accIdx a) page) b).map fun n => (b, n)

/-- The mask bits of the sources that a register's bits address; those of undefined sources read 1 (R422). DEDUCED: log entry 47. -/
def Dev.evMaskWord (d : Dev) (a : Acc) (page off : Nat) : Word :=
  word (ofBits ((List.range 32).filter fun b =>
    match if page = 0x11 ∧ 0x100 ≤ off then some (32 * (off % 0x100 / 4) + b) else d.viewBit page (d.sel (accIdx a) page) b with
    | some n => !d.unmasked (d.evArr a) n
    | none => false))

/-- The word of an array over the sources that a register's bits address. -/
def Dev.evWord (d : Dev) (a : Acc) (page off : Nat) (p : Nat → Bool) : Word :=
  word (ofBits (((d.evBits a page off).filter fun e => p e.2).map (·.1)))

/-- A W1C write of cause bits (R424). -/
def Dev.evClear (d : Dev) (a : Acc) (page off : Nat) (w : Word) : Dev :=
  (d.evBits a page off).foldl (fun d e => if bit w e.1 then d.clearCause (d.evArr a) e.2 else d) d

/-- A write of mask bits. -/
def Dev.evMask (d : Dev) (a : Acc) (page off : Nat) (w : Word) : Dev :=
  (d.evBits a page off).foldl (fun d e => if bit w e.1 then d.maskSrc (d.evArr a) e.2 else d.unmaskSrc (d.evArr a) e.2) d

/-- A write of force bits (R426). -/
def Dev.evForce (d : Dev) (a : Acc) (page off : Nat) (w : Word) : Dev :=
  (d.evBits a page off).foldl (fun d e => if bit w e.1 then d.force e.2 (d.tenant a) else d) d

/-- The registers of each kind: cause, mask and force. -/
def isCauseReg (page off : Nat) : Bool := off == 0x40 || (page == 0x11 && decide (0x100 ≤ off) && decide (off < 0x200))
def isMaskReg (page off : Nat) : Bool := off == 0x44 || (page == 0x11 && decide (0x200 ≤ off) && decide (off < 0x300))
def isForceReg (page off : Nat) : Bool := off == 0x48 || (page == 0x11 && decide (0x300 ≤ off) && decide (off < 0x400))

/-- EV_FORCE_WRITE (R426): a write of EV_FORCE of a page, or of a FORCE word. -/
def execEvForceWrite (a : Acc) (page off : Nat) (data : Word) (s : State) : Host.Outcome State Fault Refusal := s.eff fun d =>
  if isForceReg page off then d.guardW a ⟨page, off⟩ fun _ d => d.evForce a page off data else d

/-- EV_CAUSE_CLEAR (R424): a write of EV_CAUSE of a page, or of a CAUSE word. -/
def execEvCauseClear (a : Acc) (page off : Nat) (data : Word) (s : State) : Host.Outcome State Fault Refusal := s.eff fun d =>
  if isCauseReg page off then d.guardW a ⟨page, off⟩ fun _ d => d.evClear a page off data else d

/-- STORM_QUIET_END (R432): the guard of a source in an array (64 the management array) ends; a source still pending is
delivered once. -/
def execStormQuietEnd (array source : Nat) (s : State) : Host.Outcome State Fault Refusal := s.eff fun d =>
  match d.ev.storm.find (evKey array source) with
  | none => d
  | some g =>
    if g.quietEnd = 0 ∨ 64 < array ∨ 2048 ≤ source then d
    else
      let d := d.advanceTo g.quietEnd
      let d := { d with ev := { d.ev with storm := d.ev.storm.erase (evKey array source) } }
      if d.evPending array source then
        let (d, follow) := d.deliver array source
        follow.foldl (fun d f => d.raiseWith f.1 f.2 []) d
      else d

/-! ### Queues (R433, R444, R478) -/

/-- Pop the FM queue; NOTIFY is not repeated after a pop. -/
def Dev.fmqPop (d : Dev) : Dev :=
  { d with ev := { d.ev with fmq := { d.ev.fmq with recs := d.ev.fmq.recs.drop 1 }, notifyAt := 0 } }

/-- Pop the Enruez queue; the core's interrupt stands while records are unread. -/
def Dev.enqPop (d : Dev) : Dev :=
  let l := d.ev.enq.recs.drop 1
  { d with ev := { d.ev with enq := { d.ev.enq with recs := l }, coreIrq := d.ev.coreIrq && !l.isEmpty } }

/-- FMQ_POP (R444). -/
def execFmqPop (a : Acc) (s : State) : Host.Outcome State Fault Refusal := s.eff fun d =>
  d.guardW a R.EVT_FMQ_POP fun _ d => d.fmqPop

/-- ENQ_POP (R444). DEDUCED: log entry 47. -/
def execEnqPop (a : Acc) (s : State) : Host.Outcome State Fault Refusal := s.eff fun d =>
  d.guardW a R.EVT_ENQ_POP fun _ d => d.enqPop

/-- NOTIFY_REPEAT (R478): NOTIFY_INT ms after the last NOTIFY, with records unread and none popped since. -/
def execNotifyRepeat (s : State) : Host.Outcome State Fault Refusal := s.eff fun d =>
  let ms := d.rf R.DEV_MCTP_NOTIFY 0 23 8
  if ms = 0 ∨ d.ev.fmq.recs.isEmpty ∨ d.ev.notifyAt = 0 ∨ d.rf R.DEV_MCTP_NOTIFY 0 7 0 = 0 then d
  else (d.advanceTo (d.ev.notifyAt - 1 + 1000000 * ms)).notify

/-! ### Counters (R434, R440, R441) -/

/-- Clear counters of a page. -/
def Dev.talClear (d : Dev) (page mask : Nat) : Dev :=
  { d with tally := { d.tally with page := (bitsOf 8 mask).foldl (fun t k => Tbl.erase t (8 * page + k)) d.tally.page } }

/-- A write of TAL_CTRL: CLR and FRZ. -/
def Dev.talCtrlW (d : Dev) (page : Nat) (w : Word) : Dev :=
  (d.talClear page (fld w 7 0)).wr (talCtrl page) 0 (word (256 * fld w 15 8))

/-- A write of TALn_EVSEL. -/
def Dev.talEvselW (d : Dev) (page n : Nat) (w : Word) : Dev :=
  (d.talClear page (2 ^ n)).wr (talEvsel page n) 0 (w &&& 0xffff03ff)

/-- TAL_CLR (R434). -/
def execTalClr (a : Acc) (page : Nat) (data : Word) (s : State) : Host.Outcome State Fault Refusal := s.eff fun d =>
  d.guardW a (talCtrl page) fun _ d => d.talCtrlW page data

/-- TAL_EVSEL_WRITE (R434). -/
def execTalEvselWrite (a : Acc) (page n : Nat) (data : Word) (s : State) : Host.Outcome State Fault Refusal := s.eff fun d =>
  if n < 8 then d.guardW a (talEvsel page n) fun _ d => d.talEvselW page n data else d

/-- A write of TS_UNIT or TS_SEL of a tally slot, by its select value: the value is cleared and the snapshot invalid. What a
tenant writes to TS_SEL counts its own stable only. -/
def Dev.tsWrite (d : Dev) (a : Acc) (inst : Nat) (sel : Bool) (w : Word) : Dev :=
  let d := { d with tally := { d.tally with ts := d.tally.ts.erase (inst - 0x100), tsSnap := d.tally.tsSnap.erase (inst - 0x100) } }
  if sel then
    let w := w &&& 0x1ffff
    let w := match d.tenant a with
      | some s => setFld (setFld w 15 10 s) 16 16 1
      | none => w
    d.wr R.TAL_TS_SEL inst w
  else d.wr R.TAL_TS_UNIT inst w

/-- TALLY_SLOT_WRITE (R440, R441): a write of TS_SEL, or else of TS_UNIT. -/
def execTallySlotWrite (a : Acc) (sel : Bool) (data : Word) (s : State) : Host.Outcome State Fault Refusal := s.eff fun d =>
  d.guardW a (if sel then R.TAL_TS_SEL else R.TAL_TS_UNIT) fun inst d => d.tsWrite a inst sel data

end Sys2Proof.Machine
end

