-- ==== Sys2Proof/Machine/Power.lean ====
section
/-! DEFINITION. Power states (R447–R465), the droop guard (R454) and the supplies (R494, R495, R504). -/

namespace Sys2Proof.Machine

/-! ### Performance levels (R449–R452, R493) -/

/-- A write of PL_CTRL. -/
def Dev.plCtrlW (d : Dev) (w : Word) : Dev := (d.wr R.PWR_PL_CTRL 0 (w &&& 0x3f)).plReq (fld w 1 0)

/-- PL_REQ (R450–R452): a write of PL_CTRL. -/
def execPlReq (a : Acc) (data : Word) (s : State) : Host.Outcome State Fault Refusal := s.eff fun d =>
  d.guardW a R.PWR_PL_CTRL fun _ d => d.plCtrlW data

/-- PL_CHANGE_START (R451): SYNC_DOM starts a cycle, and the change that waited for it starts. DEDUCED: log entry 62. -/
def execPlChangeStart (s : State) : Host.Outcome State Fault Refusal := s.eff fun d =>
  if d.pwr.step = .sync ∧ d.syncReached ∧ (d.pwr.entry = 0 ∨ d.entering) then
    (if d.pwr.target = d.plCur then { d with pwr := { d.pwr with step := .none } } else d.plStart d.pwr.target)
  else d

/-- PL_SETTLE_DONE (R451, R493): SETTLE µs have passed since the target was written; `ack` tells whether the regulator has
acknowledged the write by then. Without that the ramp goes on. -/
def execPlSettleDone (ack : Bool) (s : State) : Host.Outcome State Fault Refusal := s.eff fun d =>
  if !d.ramping then d
  else
    let d := d.advanceTo d.pwr.settleAt
    let d := { d with pwr := { d.pwr with avsAck := d.pwr.avsAck || ack } }
    if d.pwr.avsAck then d.rampDone else d

/-- AVS_RETRY (R493): 10 µs after an unacknowledged write of the target it is written again. -/
def execAvsRetry (ack : Bool) (s : State) : Host.Outcome State Fault Refusal := s.eff fun d =>
  if !d.ramping || d.pwr.avsAck then d
  else
    let d := (d.advanceTo (d.pwr.avsAt + 10000)).avsWrite
    let d := { d with pwr := { d.pwr with avsAck := ack } }
    if ack ∧ d.pwr.settleAt ≤ d.now then d.rampDone else d

/-- A write of USER_VPLn (R64, R449). -/
def Dev.vplUserW (d : Dev) (n : Nat) (w : Word) : Dev :=
  let d := d.wr (R.PWR_USER_VPL n) 0 w
  let e := effOf (d.rd (R.PWR_FACT_VPL n)) w (d.rd (R.PWR_LIM_VPL n))
  let was := d.rb (R.PWR_EFF_VPL n) 0 31
  let d := d.wr (R.PWR_EFF_VPL n) 0 e
  let d := if bit e 31 && !was then d.raise 0x026 else d
  if n = d.plCur ∧ d.pwr.step ≠ .rampUp ∧ d.pwr.step ≠ .rampDown then d.userRamp else d

/-- A write of STB_HINT (R453). -/
def Dev.stbHintW (d : Dev) (st : Nat) (w : Word) : Dev :=
  let old := d.rd R.PWR_STB_HINT st
  let d := d.wr R.PWR_STB_HINT st (w &&& 0x107)
  if d.rd R.PWR_STB_HINT st = old then d else (d.bump R.PWR_STB_HINT_CNT st).raise 0x021

/-- STB_HINT_WRITE (R453). -/
def execStbHintWrite (a : Acc) (data : Word) (s : State) : Host.Outcome State Fault Refusal := s.eff fun d =>
  d.guardW a R.PWR_STB_HINT fun st d => d.stbHintW st data

/-! ### The droop guard (R141, R454) -/

/-- DROOP_DETECT (R141, R454): a cluster's supply falls below the target minus its EFF_DRP_TH; the core clock is stretched. -/
def execDroopDetect (cl : Nat) (s : State) : Host.Outcome State Fault Refusal := s.eff fun d =>
  if 16 ≤ cl ∨ !d.clockRuns ∨ d.pwr.off ∨ d.rb R.PWR_DRP_STATUS 0 cl then d
  else
    let d := ((d.wf R.PWR_DRP_STATUS 0 cl cl 1).wf R.PWR_DRP_STATUS 0 16 16 1).bump (R.CAL_DRP_CNT cl)
    if d.pwr.stretchAt.isSome then d
    else { d with pwr := { d.pwr with stretchAt := some d.now, stretchLong := false } }

/-- STRETCH_END (R454): every cluster's supply has stayed above its threshold for DRP_HOLD ns. The bits of DRP_STATUS fall with the
stretch. DEDUCED: log entry 62. -/
def execStretchEnd (s : State) : Host.Outcome State Fault Refusal := s.eff fun d =>
  match d.pwr.stretchAt with
  | none => d
  | some t =>
    let d := (d.bumpBy R.PWR_CNT_STRETCH_NS 0 (d.now - t)).wr R.PWR_DRP_STATUS 0 0
    { d with pwr := { d.pwr with stretchAt := none, stretchLong := false } }

/-- STRETCH_LONG (R454): the stretch has lasted STRETCH_LIMIT µs. -/
def execStretchLong (s : State) : Host.Outcome State Fault Refusal := s.eff fun d =>
  let lim := d.rf R.PWR_DRP_CFG 0 31 16
  match d.pwr.stretchAt with
  | none => d
  | some t =>
    if lim = 0 ∨ d.pwr.stretchLong then d
    else
      let d := d.advanceTo (t + 1000 * lim)
      { d with pwr := { d.pwr with stretchLong := true } }.raise 0x025

/-! ### Sleep entry (R456, R457) -/

/-- The wake time, and whether the timer wakes. -/
def Dev.wakeTime (d : Dev) : Nat := d.rd64 R.PWR_WAKE_TIME_LO R.PWR_WAKE_TIME_HI
def Dev.wakeEn (d : Dev) (src : Nat) : Bool := d.rb R.PWR_SLEEP_CFG 0 (15 + src)

/-- A request for SL1 (1) or SL2 (2). -/
def Dev.reqSleep (d : Dev) (n : Nat) : Dev :=
  let refuse (code : Nat) : Dev := (d.wf R.PWR_SLEEP_STATUS 0 11 8 code).raise 0x024
  if d.pwr.entry ≠ 0 then d
  else if d.failsafe then refuse 6
  else if d.physPorts.any fun p => d.isFabric p && d.portEn p then refuse 5
  else
    let d := { d with pwr := { d.pwr with entry := n, entryAt := d.now } }.wf R.PWR_SLEEP_STATUS 0 2 0 1
    let d := d.physPorts.foldl (fun d p => d.procStop p 3) d
    if d.wakeEn 4 ∧ d.wakeTime ≠ 0 ∧ d.wakeTime ≤ d.now then d.sleepAbort 3 else d

/-- PAD_RELEASE in ACTIVE returns the pads to the matrix and ends the clamps (R462, R463). -/
def Dev.padRelease (d : Dev) : Dev :=
  if d.rf R.PWR_SLEEP_STATUS 0 2 0 ≠ 0 then d
  else
    let d := d.wf R.PWR_SLEEP_STATUS 0 4 3 0
    { d with pwr := { d.pwr with clamped := false }, mgt := { d.mgt with padsHeld := false } }

/-- A write of SLEEP_CTRL: CANCEL, the requests (both: SL2), PAD_RELEASE. -/
def Dev.sleepCtrlW (d : Dev) (w : Word) : Dev :=
  let d := if bit w 3 then d.padRelease else d
  let was := d.entering
  let d := if bit w 2 && was then d.sleepAbort 1 else d
  if was then d else if bit w 1 then d.reqSleep 2 else if bit w 0 then d.reqSleep 1 else d

/-- REQ_SL1 (R456). -/
def execReqSl1 (a : Acc) (s : State) : Host.Outcome State Fault Refusal := s.eff fun d =>
  d.guardW a R.PWR_SLEEP_CTRL fun _ d => d.sleepCtrlW 1

/-- REQ_SL2 (R456). -/
def execReqSl2 (a : Acc) (s : State) : Host.Outcome State Fault Refusal := s.eff fun d =>
  d.guardW a R.PWR_SLEEP_CTRL fun _ d => d.sleepCtrlW 2

/-- SLEEP_CANCEL (R457). -/
def execSleepCancel (a : Acc) (s : State) : Host.Outcome State Fault Refusal := s.eff fun d =>
  d.guardW a R.PWR_SLEEP_CTRL fun _ d => d.sleepCtrlW 4

/-- PAD_RELEASE (R462). -/
def execPadRelease (a : Acc) (s : State) : Host.Outcome State Fault Refusal := s.eff fun d =>
  d.guardW a R.PWR_SLEEP_CTRL fun _ d => d.sleepCtrlW 8

/-- The conditions of R457 but the idle interval. -/
def Dev.sleepReady (d : Dev) : Bool :=
  d.path.items.isEmpty && d.path.inbox.isEmpty && d.stall.miss.isEmpty && d.stall.fetch.isEmpty &&
  d.brg.lines.isEmpty && d.brg.reqs.isEmpty && d.brg.writes.isEmpty && d.cxp.m2s.isEmpty && d.cxp.tunnel.isEmpty && d.dma.tags.isEmpty &&
  (d.dma.chan.all fun e => e.2.live.isEmpty) && d.slice.traps.isEmpty && d.slice.trapWait.isEmpty &&
  d.pwr.step != .rampUp && d.pwr.step != .rampDown &&
  (d.pwr.entry == 2 || d.physPorts.all fun p => d.isFabric p || !d.dlUp p || d.lstate p == 7)

/-- The instant by which entry must complete. -/
def Dev.entryLimit (d : Dev) : Nat := d.pwr.entryAt + 1000000 * d.rf R.PWR_SLEEP_CFG 0 15 8

/-- The instant at which the idle interval ends; none is required where ENTRY_IDLE is 0. -/
def Dev.idleEnd (d : Dev) : Nat :=
  let us := d.rf R.PWR_SLEEP_CFG 0 7 0
  if us = 0 then d.now else d.pwr.lastRx + 1000 * us

/-- The count registers lose their values. -/
def Dev.countersLost (d : Dev) : Dev :=
  { d with regs := d.regs.filter fun e => !(countRegs (e.1 / 268435456)).contains (e.1 % 4096) }

/-- What SL2 loses (R459): the accessors' selects and cursors, the shed, the queues, the ledger, the bridge buffers, the
counters, the logs, the event arrays and queues, and the arbitration state. -/
def Dev.sl2Lose (d : Dev) : Dev :=
  let d := d.countersLost
  { d with
    aregs := []
    staging := { d.staging with staged := [], held := [] }
    ev := { d.ev with
      cause := [], count := [], info := [], storm := [], fmq := ⟨[], false⟩, enq := ⟨[], false⟩, pba := [], msixGap := []
      coreIrq := false, notifyAt := 0 }
    tally := ⟨[], [], [], [], [], 0, []⟩
    sched := ⟨[], [], d.sched.close, [], [], [], []⟩
    path := { d.path with replay := [], drops := [], mirCnt := [], ring := [] }
    logs := ⟨⟨[], false⟩, ⟨[], false⟩, ⟨[], false⟩, ⟨[], false⟩, ⟨[], false⟩⟩
    stall := { d.stall with evict := [], opBusy := [], opRes := [] }
    slice := { d.slice with ledger := [], filter := [], dirtyOut := [], syncWait := [] }
    brg := { d.brg with sems := [], seqs := [], pel := ⟨[], false⟩ }
    mgt := { d.mgt with remote := [], host := [] } }

/-- SL2 (R458, R459, R462, R481): the links go down, the pads are held, what is not retained is lost, and the core and SerDes
supplies are switched off. DEDUCED: log entry 63. -/
def Dev.sl2Enter (d : Dev) : Dev :=
  let d := d.physPorts.foldl (fun d p =>
    let d := if d.isFabric p then d else if d.dlUp p then d.dlDown p 0 false false else d.setLstate p 0
    d.setLanes (p / 8) (d.blockMask p) 0) d
  let d := (List.range 64).foldl (fun d s => if (d.upPort s).isSome then d.headless s false else d) d
  let d := (List.range 64).foldl (fun d c => d.chDropFetch c) d
  let d := d.padSync.wf R.PWR_SLEEP_STATUS 0 3 3 1
  let d := (d.wf R.DBG_DBG_STATUS 0 0 0 0).sl2Lose
  { d with pwr := { d.pwr with off := true, rails := d.pwr.rails % 2 }, mgt := { d.mgt with padsHeld := true } }.enables false false

/-- SLEEP_ENTRY_COMPLETE (R457, R458): the conditions hold, and the idle interval ends, within ENTRY_TO ms of the request. Where
the timer is to wake by then, it aborts the entry. -/
def execSleepEntryComplete (s : State) : Host.Outcome State Fault Refusal := s.eff fun d =>
  if !d.entering || !d.sleepReady || decide (d.entryLimit < max d.now d.idleEnd) then d
  else if d.wakeEn 4 ∧ d.wakeTime ≠ 0 ∧ d.wakeTime ≤ max d.now d.idleEnd then (d.advanceTo d.wakeTime).sleepAbort 3
  else
    let d := d.advanceTo d.idleEnd
    let d := (d.wr64 R.PWR_SLEEP_T_LO R.PWR_SLEEP_T_HI 0 d.now).raise 0x022
    let d := d.wf R.PWR_SLEEP_STATUS 0 31 16 (d.rf R.PWR_SLEEP_STATUS 0 31 16 + 1)
    let d := d.wf R.PWR_SLEEP_STATUS 0 2 0 2
    if d.pwr.entry = 2 then d.sl2Enter else d

/-- SLEEP_ENTRY_TIMEOUT (R457). -/
def execSleepEntryTimeout (s : State) : Host.Outcome State Fault Refusal := s.eff fun d =>
  if d.entering then (d.advanceTo d.entryLimit).sleepAbort 2 else d

/-! ### Wake and exit (R460, R461) -/

/-- A wake source fires: 1 WAKE_IN_N, 2 SMBus, 3 CYC, 4 TIMER, 5 LINK. -/
def Dev.wake (d : Dev) (src arg : Nat) : Dev :=
  let st := d.rf R.PWR_SLEEP_STATUS 0 2 0
  let fires := decide (1 ≤ src) && decide (src ≤ 5) && d.wakeEn src &&
    (src != 3 || (decide (arg < 8) && d.domOn arg && d.domCtl arg 2 1 == 1 && d.rb R.CYC_DOM_CTRL arg 28)) && (src != 4 || d.wakeTime != 0) &&
    (src != 5 || (!d.pwr.off && d.lstate arg == 7))
  if !fires ∨ (st ≠ 1 ∧ st ≠ 2) then d
  else
    let d := if src = 4 then d.advanceTo d.wakeTime else d
    if st = 1 then (if src = 5 then d.l1Leave arg else d).sleepAbort 3
    else
      let d := (d.wf R.PWR_SLEEP_STATUS 0 2 0 3).wf R.PWR_SLEEP_STATUS 0 7 5 src
      let d := if d.pwr.off then d.enables true true else d
      if src = 5 then d.l1Leave arg else d

/-- CYC_IN_EDGE (R67, R78, R460): an edge on a CYC_IN pin marks each domain that selects it, and wakes where the domain's WAKE is 1. -/
def execCycInEdge (pin : Nat) (rising : Bool) (t : Nat) (s : State) : Host.Outcome State Fault Refusal := s.eff fun d =>
  let d := d.advanceTo t
  let k := pin % 8
  let lv := (bitsOf 8 d.cyc.pins).filter (· != k)
  let d := { d with cyc := { d.cyc with pins := ofBits (if rising then k :: lv else lv) } }
  (List.range 8).foldl (fun d dom =>
    if d.domCtl dom 2 1 = 1 ∧ d.domCtl dom 5 3 = k ∧ d.domCtl dom 6 6 = b2n !rising then (d.mark dom t).wake 3 dom else d) d

/-- WAKE (R460): an enabled wake source fires; `arg` is the domain of CYC,
whose source is a pin, or the port of LINK. PERST_N has a command of its own. -/
def execWake (src arg : Nat) (s : State) : Host.Outcome State Fault Refusal := s.eff fun d => d.wake src arg

/-- L1_EXIT (R103, R460): a partner starts the exit from L1 on a link, or the port does. In sleep it is the wake source LINK. -/
def execL1Exit (port : Nat) (s : State) : Host.Outcome State Fault Refusal := s.eff fun d =>
  if d.entering || !d.clockRuns then (if d.wakeEn 5 then d.wake 5 port else if d.entering then d.l1Leave port else d)
  else d.l1Leave port

/-- The exit from SL2 before its end (R461): the retained tables are scrubbed, links train and the domains restart. DEDUCED: log entry 63.
-/
def Dev.sl2Exit (d : Dev) (seu single : List (Nat × Nat × Nat)) : Dev :=
  let d := { d with pwr := { d.pwr with off := false, rails := 7 } }
  let marks := seu.flatMap fun e =>
    (if e.2.2 = 1 ∨ e.2.2 = 3 then [(e.1, e.2.1, false)] else []) ++ (if e.2.2 = 2 ∨ e.2.2 = 3 then [(e.1, e.2.1, true)] else [])
  let d := (seu.filter fun e => e.2.2 == 0).foldl (fun d e => d.corrected e.1) d
  let d := { d with saf := { d.saf with bad := (d.saf.bad ++ marks).eraseDups } }.scrub fun _ => true
  let d := single.foldl (fun d e => d.cfgUe e.1 e.2.1 e.2.2) d
  let d := if single.isEmpty && marks.isEmpty then d else d.raise 0x027
  let d := d.loftFail
  let d := d.physPorts.foldl (fun d p => if d.portEn p && !d.isFabric p && !d.heldDisabled p then d.linkWords p 1 else d) d
  d.cycWake true

/-- SLEEP_EXIT (R461): the exit ends. `seu` and `single` are the storage errors that the scrub after SL2 meets, as in
SCRUB_PASS. -/
def execSleepExit (seu single : List (Nat × Nat × Nat)) (s : State) : Host.Outcome State Fault Refusal := s.eff fun d =>
  if d.rf R.PWR_SLEEP_STATUS 0 2 0 ≠ 3 then d
  else
    let d := if d.pwr.off then d.sl2Exit seu single else d.cycWake false
    let d := (d.wf R.PWR_SLEEP_STATUS 0 2 0 0).wr64 R.PWR_WAKE_T_LO R.PWR_WAKE_T_HI 0 d.now
    ({ d with pwr := { d.pwr with entry := 0 } }.raise 0x023).plHeld.doeResume

/-! ### Supplies (R494, R495, R504) -/

/-- RAIL_IN_RANGE (R494): supplies have been in range for 100 µs: 0 VDD_AON and VDD_IO, 1 VDD_CORE, 2 VDD_SDS and VDD_SDS_H.
The next regulator enable is driven. -/
def execRailInRange (rail : Nat) (s : State) : Host.Outcome State Fault Refusal := s.eff fun d =>
  let add (k : Nat) (d : Dev) : Dev :=
    { d with pwr := { d.pwr with rails := if d.pwr.rails.testBit k then d.pwr.rails else d.pwr.rails + 2 ^ k } }
  if rail = 0 then
    (if d.pwr.therm ∨ d.pwr.off then add 0 d else (add 0 d).enables true d.pwr.enSds)
  else if rail = 1 then (if d.pwr.enCore then (add 1 d).enables true true else d)
  else if rail = 2 then (if d.pwr.enSds then add 2 d else d)
  else d

/-- THERMAL_TRIP (R379, R504): a cluster's sensor reads 132 °C. -/
def execThermalTrip (cluster : Nat) (s : State) : Host.Outcome State Fault Refusal := s.eff fun d =>
  if 16 ≤ cluster then d
  else
    let d := d.tempRead cluster 1056
    let d := if d.pwr.therm then d else { d with pwr := { d.pwr with therm := true } }.emit (.pin .thermtripN true)
    (d.enables false false).fault 0x10 none none none (d.unitRef (.cluster cluster)) (word 1056)

/-- VOLTAGE_FAULT (R379, R463, R495, R502, R504): a supply leaves its operating range. The clamps are applied, and power-good
falls. THERMTRIP_N is released only as VDD_AON is removed. In SL2 the core and SerDes supplies are off by design. -/
def execVoltageFault (rail : Nat) (s : State) : Host.Outcome State Fault Refusal := s.eff fun d =>
  if 3 ≤ rail ∨ (d.pwr.off ∧ rail ≠ 0) then d
  else
    let d := if rail = 1 then d.wf R.SAF_MON_STATUS 0 2 2 0 else d.wf R.SAF_MON_STATUS 0 3 3 0
    let d := d.fault 0x0f none none none (d.unitRef .device) (word rail)
    let d := d.clampOn
    let d := if rail = 0 && d.pwr.therm then d.emit (.pin .thermtripN false) else d
    { d with pwr := { d.pwr with
        good := false, rails := if rail = 0 then 0 else d.pwr.rails % 2, therm := d.pwr.therm && rail != 0
        cold := d.pwr.cold || rail == 0 } }

end Sys2Proof.Machine
end

