-- ==== Sys2Proof/Machine/Boot.lean ====
section
/-! DEFINITION. Device reset and start-up (R466–R471, R494, R495), MCTP control and PLDM (R477, R479), the flash port, the
debug port (R481, R482, R499) and the sideband pins (R484–R486). -/

namespace Sys2Proof.Machine

/-! ### Device reset (R466, R494) -/

/-- The registers that show inputs of the device: they read on through a device reset. -/
def inputReg (page off : Nat) : Bool :=
  (page == 0x16 && (off == 0x180 || off == 0x184)) || (decide (0x100 ≤ page) && decide (page ≤ 0x10f) && off == 0x108)

/-- Everything but what lies outside the core: device time, the supplies and clamps, the pins, the fuses and the flash. -/
def Dev.deviceReset (d : Dev) : Dev :=
  { Dev.reset with
    regs := d.regs.filter fun e => inputReg (e.1 / 268435456) (e.1 % 4096)
    free := d.free
    now := d.now
    out := d.out
    ev := { Dev.reset.ev with faultPin := d.ev.faultPin }
    cyc := { Dev.reset.cyc with pins := d.cyc.pins }
    pwr := { Dev.reset.pwr with
      clamped := d.pwr.clamped, rails := d.pwr.rails, enCore := d.pwr.enCore, enSds := d.pwr.enSds, good := d.pwr.good
      perst := true, therm := d.pwr.therm, cold := d.pwr.cold }
    boot := { Dev.reset.boot with arb := d.boot.arb, resets := d.boot.resets + 1, chalN := d.boot.chalN }
    mgt := { Dev.reset.mgt with pads := d.mgt.pads, drive := d.mgt.drive, trst := d.mgt.trst, extest := d.mgt.extest } }

/-- PERST_ASSERT (R463, R466): the device is reset; every page lock ends, and so do the clamps. -/
def execPerstAssert (s : State) : Host.Outcome State Fault Refusal := State.eff { s with plock := [] } fun d =>
  let d := { d with pwr := { d.pwr with clamped := false } }.deviceReset
  if d.pwr.therm ∨ d.pwr.rails % 2 = 0 then d else d.enables true (d.pwr.enSds || d.pwr.rails.testBit 1)

/-- POWER_GOOD (R463, R494, R495): every rail is in range and SYSCLK runs. After a loss of power-good this is a power-up: the
device is reset, PERST_N counts as asserted until now, and clamps that are found applied are reported. -/
def execPowerGood (s : State) : Host.Outcome State Fault Refusal :=
  if s.dev.pwr.good ∨ s.dev.pwr.rails ≠ 7 ∨ s.dev.pwr.off then s.eff id
  else State.eff { s with plock := [] } fun d =>
    let d := d.deviceReset
    let d := { d with pwr := { d.pwr with good := true } }
    if d.pwr.clamped then (d.wf R.PWR_SLEEP_STATUS 0 4 4 1).raise 0x028 else d

/-- The mode strap: 0 FLASH, 1 SMB, 2 DEBUG_HOLD, 3 acts as SMB. -/
def Dev.bootMode (d : Dev) : Nat := d.rf R.BOOT_BOOT_STRAP 0 1 0

/-- A line of the boot log on the UART, unless the UART is disabled (R483, R487): 0 a slot tried and the check it fails, 1 the
outcome as in BOOT_STATUS, 2 a KCI record in error. DESIGN CHOICE: log entry 66. -/
def Dev.bootLog (d : Dev) (code : Nat) (args : List Nat) : Dev :=
  if d.rd R.DBG_UART_CFG 0 = 0 then d else d.emit (.bus 6 code args)

/-- PERST_DEASSERT (R7, R466, R468): with power-good the straps are latched, device time starts at 0 after power-on, and the
boot ROM runs; in SMB mode nothing is read from the flash. -/
def execPerstDeassert (straps : Nat) (s : State) : Host.Outcome State Fault Refusal := s.eff fun d =>
  if !d.pwr.perst || !d.pwr.good then d
  else
    let now := if d.pwr.cold then 0 else d.now
    let d := { d with now := now, pwr := { d.pwr with perst := false, cold := false } }
    let d := d.wn R.BOOT_BOOT_STRAP 0 (straps % 64)
    if straps % 2 = 1 then
      let d := d.wf R.BOOT_BOOT_STATUS 0 2 0 4
      { d with boot := { d.boot with phase := .smb } }.bootLog 1 [4]
    else d

/-! ### Firmware images (R469, R470) -/

/-- The first check of R470 that a slot fails: 1 magic and version, 2 lengths, 3 key, 4 SVN, 5 signature, 6 hash; 0 none. -/
def Dev.slotCheck (d : Dev) (h : FlashHdr) : Nat :=
  if h.magic ≠ 0x4d49484b ∨ h.hdrVer % 65536 ≠ 1 then 1
  else if h.fwLen = 0 ∨ 8388608 < h.fwLen + h.kciLen then 2
  else if !h.keyOk then 3
  else if h.svn % 256 < d.boot.arb then 4
  else if !h.sigOk then 5
  else if !h.hashOk then 6
  else 0

/-- The firmware starts at its entry point: BOOT_OK. In DEBUG_HOLD the cores are halted before it. -/
def Dev.fwStart (d : Dev) : Dev :=
  if d.bootMode = 2 then
    { d with boot := { d.boot with phase := .hold, halted := true } }.wf R.DBG_DBG_STATUS 0 3 3 1 |>.wf R.DBG_DBG_STATUS 0 1 1 1
  else ({ d with boot := { d.boot with phase := .firmware }, out := .core 0 :: d.out }.raise 0x000).doeResume

/-- The KCI is complete (R472, R475): the head's wait for the yard's members begins, and the firmware starts. -/
def Dev.kciComplete (d : Dev) : Dev :=
  let d := { d with boot := { d.boot with kciDone := some d.now } }.wf R.BOOT_BOOT_STATUS 0 2 0 1 |>.bootLog 1 [1]
  d.fwStart.formTry false

/-- IMAGE_VERIFY (R469, R470): the boot ROM verifies the slot to be tried next, `a` and `b` being the headers of the slots, and
chooses it, or reports it. With SPI_4B = 0 only slot A is tried. DEDUCED: log entry 64. -/
def execImageVerify (ha hb : FlashHdr) (s : State) : Host.Outcome State Fault Refusal := s.eff fun d =>
  if d.pwr.perst || d.pwr.off || d.boot.coresDown || d.boot.phase != .rom || d.bootMode == 1 || d.bootMode == 3 then d
  else
    let order := if !d.rb R.BOOT_BOOT_STRAP 0 5 then [0] else if ha.seq < hb.seq then [1, 0] else [0, 1]
    match order.filter fun k => !d.boot.tried.contains k with
    | [] => d
    | k :: rest =>
      let h := if k = 0 then ha else hb
      let c := d.slotCheck h
      let d := d.bootLog 0 [k, c]
      if c = 0 then
        let d := (d.wf R.BOOT_BOOT_STATUS 0 3 3 k).wf R.BOOT_BOOT_STATUS 0 11 4 h.svn
        let d := { d with boot := { d.boot with phase := .kci, nextRec := 0, crc := 4294967295 } }
        if h.kciLen = 0 then d.kciComplete else d
      else
        let d := { d with boot := { d.boot with tried := d.boot.tried ++ [k] } }.raiseWith 0x001 (word (k + 256 * c)) []
        if rest.isEmpty then
          ({ d with boot := { d.boot with phase := .smb } }.wf R.BOOT_BOOT_STATUS 0 2 0 2).raise 0x002 |>.bootLog 1 [2]
        else d

/-- A write of BOOT_CTRL: ARB_COMMIT raises ARB to the SVN of the running image (R471), once the firmware has started. DEDUCED: log entry
64. -/
def Dev.bootCtrlW (d : Dev) (w : Word) : Dev :=
  if bit w 0 ∧ d.boot.phase = .firmware then { d with boot := { d.boot with arb := max d.boot.arb (d.rf R.BOOT_BOOT_STATUS 0 11 4) } } else d

/-- ARB_COMMIT (R471). -/
def execArbCommit (a : Acc) (s : State) : Host.Outcome State Fault Refusal := s.eff fun d =>
  d.guardW a R.BOOT_BOOT_CTRL fun _ d => d.bootCtrlW 1

/-- A write of FLASH_CMD (R487): with GO the command is sent, with its address and data words; of a read, the words that the
flash answers stand in FLASH_DATA. -/
def Dev.flashCmdW (d : Dev) (w : Word) (answer : List Word) : Dev :=
  let d := d.wr R.BOOT_FLASH_CMD 0 (w &&& 0x702ff)
  if !bit w 8 then d
  else
    let n := fld w 18 16
    let ks := List.range n
    if bit w 9 then
      d.emit (.bus 4 (fld w 7 0) (d.rn R.BOOT_FLASH_ADDR :: ks.map fun k => d.rn (R.BOOT_FLASH_DATA k)))
    else
      ks.foldl (fun x k => x.wr (R.BOOT_FLASH_DATA k) 0 (answer.getD k 0)) (d.emit (.bus 4 (fld w 7 0) [d.rn R.BOOT_FLASH_ADDR]))

/-- FLASH_GO (R471, R487). -/
def execFlashGo (a : Acc) (data : Word) (answer : List Word) (s : State) : Host.Outcome State Fault Refusal := s.eff fun d =>
  d.guardW a R.BOOT_FLASH_CMD fun _ d => d.flashCmdW (data ||| 0x100) answer

/-! ### Yard membership (R474, R476) -/

/-- A write of YARD_CFG: HEAD is written, and the head may now run its first commit. -/
def Dev.yardCfgW (d : Dev) (w : Word) : Dev := ((d.wr R.DEV_YARD_CFG 0 w).raise 0x007).formTry false

/-- YARD_CFG_WRITE (R474, R476). DEDUCED: log entry 65. -/
def execYardCfgWrite (a : Acc) (data : Word) (s : State) : Host.Outcome State Fault Refusal := s.eff fun d =>
  d.guardW a R.DEV_YARD_CFG fun _ d => d.yardCfgW data

/-! ### MCTP (R477, R479) -/

/-- A management path is served: SMBus from the boot ROM on, but in SL1 where it is to wake the device (R460), PCIe VDMs while the fabric manager has an in-band function. -/
def Dev.pathUp (d : Dev) (path : Nat) : Bool :=
  !d.pwr.perst && !d.pwr.off && (if path = 0 then d.canAccess .smbus else path == 1 && d.fmStable.isSome)

/-- A control message that the hardware answers. -/
def Dev.mctpCtl (d : Dev) (path code : Nat) (args : List Nat) : Dev := if d.pathUp path then d.emit (.msg path code args) else d

/-- SET_ENDPOINT_ID (R477): each path holds its own endpoint ID. The IDs 0 and 0xFF cannot be assigned. DESIGN CHOICE: log entry 66. -/
def execSetEndpointId (path eid : Nat) (s : State) : Host.Outcome State Fault Refusal := s.eff fun d =>
  if !d.pathUp path then d
  else if eid = 0 ∨ 255 ≤ eid then d.emit (.msg path 1 [2, d.mgt.eid.getD path 0])
  else { d with mgt := { d.mgt with eid := Tbl.put d.mgt.eid path 0 eid } }.emit (.msg path 1 [0, eid])

/-- GET_ENDPOINT_ID (R477). -/
def execGetEndpointId (path : Nat) (s : State) : Host.Outcome State Fault Refusal := s.eff fun d =>
  d.mctpCtl path 2 [0, d.mgt.eid.getD path 0]

/-- GET_VERSION_SUPPORT (R477): the version numbers are the implementation's. DESIGN CHOICE: log entry 66. -/
def execGetVersionSupport (path type : Nat) (s : State) : Host.Outcome State Fault Refusal := s.eff fun d =>
  if !d.pathUp path then d
  else
    let (w, d) := d.fresh
    d.emit (.msg path 4 [type, w.toNat])

/-- The message types of a path (R477): type 0x7E is served on SMBus only. -/
def msgTypes (path : Nat) : List Nat := if path = 0 then [0x01, 0x05, 0x06, 0x07, 0x7e] else [0x01, 0x05, 0x06, 0x07]

/-- GET_MESSAGE_TYPE_SUPPORT (R477). -/
def execGetMessageTypeSupport (path : Nat) (s : State) : Host.Outcome State Fault Refusal := s.eff fun d =>
  d.mctpCtl path 5 (0 :: msgTypes path)

/-- GET_VENDOR_DEFINED_MESSAGE_SUPPORT (R477, R478): the vendor-defined messages of type 0x7E carry the Golbuent PCI Vendor
ID. -/
def execGetVendorDefinedMessageSupport (path : Nat) (s : State) : Host.Outcome State Fault Refusal := s.eff fun d =>
  d.mctpCtl path 6 (if path = 0 then [0, (Config.factory 0x205 0 0xff0).toNat % 65536] else [0])

/-- A PLDM numeric sensor (R479); its power estimate is no value the spec gives. DESIGN CHOICE: log entry 66. -/
def Dev.sensor (d : Dev) (id : Nat) : Nat × Dev :=
  if 1 ≤ id ∧ id ≤ 16 then (d.rf (R.CAL_CL_TEMP (id - 1)) 0 15 0, d)
  else if id = 17 then ((d.hottest % 65536).toNat, d)
  else if id = 18 then (d.rf R.PWR_AVS_TARGET 0 15 0, d)
  else if id = 20 then (d.plCur, d)
  else if id = 21 then (d.rf R.PWR_SLEEP_STATUS 0 2 0 + 8 * b2n d.failsafe, d)
  else (d.fresh.1.toNat, d.fresh.2)

/-- PLDM_MESSAGE (R479): a Type 0 or Type 2 message; a reading of a sensor is answered by the firmware. While no firmware runs
it is discarded and counted. -/
def execPldmMessage (path type sensor : Nat) (s : State) : Host.Outcome State Fault Refusal := s.eff fun d =>
  if !d.pathUp path then d
  else if !d.fwRuns then d.mctpErr
  else if type = 2 ∧ 1 ≤ sensor ∧ sensor ≤ 21 then (d.sensor sensor).2.emit (.msg path 9 [0, sensor, (d.sensor sensor).1])
  else d.emit (.msg path 9 [type])

/-- MCTP_PACKET_ERROR (R477): a packet with a wrong PEC, or a message that nothing serves. -/
def execMctpPacketError (s : State) : Host.Outcome State Fault Refusal := s.eff fun d => if d.pathUp 0 then d.mctpErr else d

/-! ### The debug port (R481, R482, R499) -/

/-- A new challenge, unless debug is fused off or a failure is less than 1 s old. -/
def Dev.challenge (d : Dev) : Dev :=
  if Config.debugFuseOff || d.boot.chalAt.any fun t => decide (d.now < t) then d
  else
    let n := d.boot.chalN
    let d := (List.range 12).foldl (fun d k => d.wr (R.DBG_DBG_CHAL k) 0 (Config.challengeWord n k)) d
    { d with boot := { d.boot with chalN := n + 1, chalOk := true, chalAt := none } }

/-- The signature in DBG_RESP is checked against the challenge, which is used up by that. DEDUCED: log entry 17. -/
def Dev.verify (d : Dev) (sigOk : Bool) : Dev :=
  let ok := sigOk && d.boot.chalOk && !Config.debugFuseOff
  let d := { d with boot := { d.boot with chalOk := false } }
  if ok then (d.wf R.DBG_DBG_STATUS 0 0 0 1).raise 0x019
  else { d with boot := { d.boot with chalAt := some (d.now + 1000000000) } }.raise 0x01a

/-- Both cores stop at the same instruction. -/
def Dev.halt (d : Dev) : Dev :=
  if !d.dbgAuth || d.boot.halted then d
  else ({ d with boot := { d.boot with halted := true }, out := .core 4 :: d.out }.wf R.DBG_DBG_STATUS 0 1 1 1).raise 0x01b

/-- The cores go on; in DEBUG_HOLD the firmware starts at its entry point. -/
def Dev.dbgResume (d : Dev) : Dev :=
  if !d.dbgAuth || !d.boot.halted then d
  else
    let d := { d with boot := { d.boot with halted := false }, out := .core 5 :: d.out }.wf R.DBG_DBG_STATUS 0 1 1 0
    if d.boot.phase = .hold then
      (({ d with boot := { d.boot with phase := .firmware }, out := .core 0 :: d.out }.wf R.DBG_DBG_STATUS 0 3 3 0).raise 0x000).doeResume
    else d.doeResume

/-- A write of DBG_CTRL. -/
def Dev.dbgCtrlW (d : Dev) (w : Word) (sigOk : Bool) : Dev :=
  let d := if bit w 0 then d.challenge else d
  let d := if bit w 1 then d.verify sigOk else d
  let d := if bit w 2 then d.wf R.DBG_DBG_STATUS 0 0 0 0 else d
  let d := if bit w 3 then d.halt else d
  if bit w 4 then d.dbgResume else d

/-- CHALLENGE (R481). -/
def execChallenge (a : Acc) (s : State) : Host.Outcome State Fault Refusal := s.eff fun d =>
  d.guardW a R.DBG_DBG_CTRL fun _ d => d.dbgCtrlW 1 false

/-- VERIFY (R481). -/
def execVerify (a : Acc) (sigOk : Bool) (s : State) : Host.Outcome State Fault Refusal := s.eff fun d =>
  d.guardW a R.DBG_DBG_CTRL fun _ d => d.dbgCtrlW 2 sigOk

/-- DEAUTH (R481). -/
def execDeauth (a : Acc) (s : State) : Host.Outcome State Fault Refusal := s.eff fun d =>
  d.guardW a R.DBG_DBG_CTRL fun _ d => d.dbgCtrlW 4 false

/-- HALT (R482). -/
def execHalt (a : Acc) (s : State) : Host.Outcome State Fault Refusal := s.eff fun d =>
  d.guardW a R.DBG_DBG_CTRL fun _ d => d.dbgCtrlW 8 false

/-- DBG_RESUME (R482). -/
def execDbgResume (a : Acc) (s : State) : Host.Outcome State Fault Refusal := s.eff fun d =>
  d.guardW a R.DBG_DBG_CTRL fun _ d => d.dbgCtrlW 16 false

/-- CHALLENGE_LOCKOUT_END (R481): 1 s after a failed verification. -/
def execChallengeLockoutEnd (s : State) : Host.Outcome State Fault Refusal := s.eff fun d =>
  match d.boot.chalAt with
  | some t => { d.advanceTo t with boot := { (d.advanceTo t).boot with chalAt := none } }
  | none => d

/-- BOUNDARY_SCAN (R481, R499): an instruction of IEEE 1149.1 or 1149.6 is loaded, unless TRST_N holds the test logic reset. DESIGN
CHOICE: log entry 66. -/
def execBoundaryScan (code : Nat) (s : State) : Host.Outcome State Fault Refusal := s.eff fun d =>
  if d.mgt.trst then d else { d with mgt := { d.mgt with extest := code } }.emit (.bus 5 code [])

/-- TEST_LOGIC_RESET (R499): TRST_N goes low or high. -/
def execTestLogicReset (low : Bool) (s : State) : Host.Outcome State Fault Refusal := s.eff fun d =>
  { d with mgt := { d.mgt with trst := low, extest := if low then 0 else d.mgt.extest } }

/-! ### The sideband pins (R484–R486) -/

/-- A write of SB_ROUTE of a pin. A tenant is denied an input pin or a port reset that its stable does not own. DESIGN CHOICE: log entry
67. -/
def Dev.sbRouteW (d : Dev) (a : Acc) (j : Nat) (w : Word) : Dev :=
  let src := fld w 7 0
  let own (s : Nat) : Bool :=
    if src < 0x40 then d.rb R.SBD_SB_OWN src 6 && d.rf R.SBD_SB_OWN src 5 0 == s
    else if 0x80 ≤ src then d.owner (src - 0x80) == some s
    else true
  if (d.tenant a).any fun s => !own s then d.denied a 0x16 R.SBD_SB_ROUTE.off true
  else
    let d := d.wr R.SBD_SB_ROUTE j (w &&& 0x3ff)
    if src ≤ 0x41 ∨ 0x80 ≤ src then d
    else
      let (v, d) := d.fresh
      let m := (bitsOf 64 d.mgt.padFree).filter (· != j)
      { d with mgt := { d.mgt with padFree := ofBits (if bit v 0 then m ++ [j] else m) } }

/-- SB_ROUTE_WRITE (R484, R486). -/
def execSbRouteWrite (a : Acc) (data : Word) (s : State) : Host.Outcome State Fault Refusal := s.eff fun d =>
  d.guardW a R.SBD_SB_ROUTE fun j d => d.sbRouteW a j data

/-- A write of SB_CLKREQ: one that names a port already named by another pin is ignored and reported (R487). -/
def Dev.sbClkreqW (d : Dev) (a : Acc) (j : Nat) (w : Word) : Dev :=
  let taken := bit w 8 && (List.range 64).any fun k =>
    k != j && d.rb R.SBD_SB_CLKREQ k 8 && d.rf R.SBD_SB_CLKREQ k 7 0 == fld w 7 0
  if taken then d.sticky (accIdx a) 0x16 1 else d.wr R.SBD_SB_CLKREQ j (w &&& 0x1ff)

/-- SB_CLKREQ_WRITE (R485, R487). -/
def execSbClkreqWrite (a : Acc) (data : Word) (s : State) : Host.Outcome State Fault Refusal := s.eff fun d =>
  d.guardW a R.SBD_SB_CLKREQ fun j d => d.sbClkreqW a j data

/-- SBIO_INPUT_CHANGE (R484): the level at a pin's input changes; the outputs that route it follow. -/
def execSbioInputChange (pin : Nat) (level : Bool) (s : State) : Host.Outcome State Fault Refusal := s.eff fun d =>
  if pin < 32 then d.wf R.SBD_SB_IN0 0 pin pin (b2n level)
  else if pin < 64 then d.wf R.SBD_SB_IN1 0 (pin - 32) (pin - 32) (b2n level)
  else d

end Sys2Proof.Machine
end

