-- ==== Sys2Proof/Machine/Header.lean ====
section
/-! DEFINITION. What the common part of a page reads as: the unit header (R40–R48, R509), the staging block (R38, R54–R63), the
select block (R49–R52), and the page counters (R45, R434, R443). -/

namespace Sys2Proof.Machine

/-! ### Unit headers -/

/-- A condition of LINK_DEGRADED holds on a link that is up (R115, R509). -/
def Dev.portDegraded (d : Dev) (p : Nat) : Bool :=
  let w := d.rd R.PRT0_LINK_STATUS p
  let reason := d.rf R.PRT0_TRAIN_ERR p 3 0
  decide (fld w 20 16 < d.tgtWidth p) || bit w 23 || (d.pst p).leftOut != 0 ||
  ((reason == 4 || reason == 6) && decide (d.curRate p < d.rf R.PRT0_PORT_CFG p 6 4)) ||
  (bitsOf 16 (d.blockMask p)).any (d.permParked p)

/-- STATE of a unit, its children aside (R44, R73, R509): 0 OFF, 1 UP, 2 DEGRADED, 3 CONTAINED, 4 FAILED. -/
def Dev.unitOwn (d : Dev) (u : Unit) : Nat :=
  let en := d.rb (unitCtrl u.place.1) u.place.2 0
  match u with
  | .lane n =>
    let st := d.laneState (n / 16) (n % 16)
    let perm := match d.blockPort (n / 16) (n % 16) with
      | some p => d.permParked p (n % 16) || d.rb R.MKL_LK_PARKED (lkInst p) (n % 16)
      | none => false
    if st = 6 then 2 else if st = 4 then (if perm then 2 else 1) else if st = 3 ∨ st = 7 then 1 else 0
  | .port p =>
    if 128 ≤ p then (if d.portContained p then 3 else 1)
    else if d.fenced p || d.portContained p then 3
    else if !en || d.tgtWidth p == 0 then 0
    else if d.isFabric p then
      (if d.lkState p = 3 then (if d.portDegraded p then 2 else 1) else if d.lkState p = 4 then 2 else 0)
    else if d.dlUp p then (if d.portDegraded p then 2 else 1) else 0
  | .bundle b => if en && !(d.bundlePorts b).isEmpty then 1 else 0
  | .device => if d.failsafe then 4 else if en then 1 else 0
  | .remoteDev _ => 0
  | .block page => if page = 0x20 ∧ d.cyc.doms.any fun c => c.loss then 2 else if en then 1 else 0
  | _ => if en then 1 else 0

/-- The sources that belong to a unit, those of its children aside. A block's are those of its event block. -/
def Dev.unitSrcs (d : Dev) (a : Acc) (u : Unit) : List Nat :=
  match u with
  | .lane n => [0x100 + n]
  | .port p => if 128 ≤ p then [] else (List.range 4).map fun e => 0x200 + 4 * p + e
  | .bundle b => (List.range 6).map fun e => 0x400 + 6 * b + e
  | .cluster c => (List.range 4).map fun e => 0x080 + 4 * c + e
  | .device => List.range 16
  | .block page => (List.range 32).filterMap fun b => d.viewSrc page (d.sel (accIdx a) page) b
  | _ => []

/-- The unit that a staged word belongs to: that of its header, the instance of its window, or the group or block of its page. -/
def stgUnit (x : Stg) : Unit :=
  let lan := decide (0x100 ≤ x.page) && decide (x.page ≤ 0x10f)
  if x.page = 0x1001 then .block x.via
  else if x.off < 0x100 then unitAt x.page x.inst
  else match winKind x.page x.off with
    | .lane => .lane (16 * (x.page - 0x100) + x.inst)
    | .port => if 0x200 ≤ x.page ∧ x.page ≤ 0x207 then .port x.inst else .block x.page
    | .bundle => .bundle x.inst
    | .link => .port (x.inst - 0x100)
    | _ => if lan then .cluster (x.page - 0x100) else .block x.page

/-- A staged word belongs to a unit. -/
def Dev.stgOf (u : Unit) (x : Stg) : Bool := stgUnit x == u

/-- An EFF_x value of a unit is saturated (R64). -/
def Dev.unitSat (d : Dev) (u : Unit) : Bool :=
  let drp (c : Nat) := d.rb (R.CAL_EFF_DRP_TH c) 0 31 || d.rb (R.CAL_EFF_DRP_ALM c) 0 31
  match u with
  | .lane n => (List.range 8).any fun q => d.rb (R.LAN_EFF (n / 16) q) (n % 16) 31
  | .cluster c => drp c
  | .block page =>
    if page = 0x40 then (List.range 16).any drp
    else if page = 0x13 then (List.range 4).any fun n => d.rb (R.PWR_EFF_VPL n) 0 31 else false
  | _ => false

/-- A pair of a unit disagrees (R62). -/
def Dev.unitHold (d : Dev) (u : Unit) : Bool :=
  d.staging.disagree.any fun e => match u with
    | .port p => e.1 == 0x200 && e.2.1 == p
    | .block page => page != 0x200 && e.1 == page
    | _ => false

/-- A commit is requested and not done on the RTE and ISO group, or on the device page for the yard. -/
def Dev.commitWaits (d : Dev) (u : Unit) : Bool :=
  match u with
  | .block page => (page == 0x500 || page == 0x600) &&
      (!d.staging.waiters.isEmpty || d.staging.held.any (fun h => setPage h.set != 0) || d.yard.accs.any fun e => e.2 != 0)
  | .device => d.staging.held.any (fun h => setPage h.set == 0) || d.yard.accs.any fun e => e.2 == 0
  | _ => false

/-- UNIT_STATUS of a unit (R44): its own state and flags with those of all units below it. Those of another member do not reach
this device in any message of the spec: they are free values (log entry 50). -/
def Dev.unitStatus (d : Dev) (a : Acc) (u : Unit) : Word × Dev :=
  let l := d.subtree u
  let arr := d.evArr a
  let st := l.foldl (fun m v => max m (d.unitOwn v)) 0
  let ev := l.any fun v => (d.unitSrcs a v).any (d.evPending arr)
  let stg := l.any fun v => d.staging.staged.any (Dev.stgOf v) || d.commitWaits v
  let far := l.any fun v => match v with | .remoteDev _ => true | _ => false
  let (x, d') : Word × Dev := if far then d.fresh else (0, d)
  let gen := match u with
    | .device | .yard => d.staging.topoGen.toNat
    | _ => 0
  (word (max st (min 4 (fld x 2 0)) + 16 * b2n (ev || bit x 4) + 32 * b2n (stg || bit x 5) + 64 * b2n (l.any d.unitSat || bit x 6) +
    128 * b2n (l.any d.unitHold || bit x 7) + 65536 * gen), d')

/-- UNIT_CAPS0 to UNIT_CAPS3 (R43, R48 and the register sections): the family parameters. -/
def unitCaps (u : Unit) (k : Nat) : Word :=
  let w (l : List Nat) : Word := word (l.getD k 0)
  match u with
  | .device | .remoteDev _ => w [256 + 65536 * 128 + 16777216 * 3 + 268435456 * 4, 64 + 256 * 48 + 65536 * 4096,
      196608 + 16777216 * 64, 64 + 256 + 4096 * 8 + 65536 * 2048]
  | .block page =>
    if page = 0x20 then w [1024 + 65536 * 8 + 1048576 * 8]
    else if page = 0x40 then w [16 + 256 * 8]
    else if page = 0x300 then w [16 + 256 * 8 + 4096 * 4 + 65536 * 128]
    else if page = 0x400 then w [64 + 256 * 19]
    else if page = 0x440 then w [196608, 64]
    else if page = 0x500 then w [8192 + 65536 * 1024]
    else if page = 0x600 then w [16384 + 65536 * 4]
    else if page = 0x700 then w [4096 + 65536 * 8 + 1048576 * 4, 262144, 256 + 2048 * 32]
    else if page = 0x780 then w [1024 + 2048 * 64 + 262144 * 64, 2048]
    else if page = 0x800 then w [128 + 256 * 8 + 65536 * 16 + 16777216 * 16]
    else if page = 0x900 then w [256 + 512 * 64 + 65536 * 64, 4096 + 65536 * 4096, 512 + 65536 * 1024]
    else if page = 0xa00 then w [64 + 256 * 2048]
    else if page = 0xb00 then w [1024 + 2048 * 64 + 262144 * 4 + 2097152 * 8]
    else if page = 0xc00 then w [26 + 256 * 32 + 65536 * 8]
    else if page = 0x11 then w [2048 + 4096 * 256]
    else if page = 0x12 then w [256 + 512 * 9]
    else if page = 0x13 then w [4 + 16 * 2 + 256 * 6]
    else if page = 0x16 then w [64]
    else 0
  | _ => 0

/-- The capability words of a unit. The yard unit reports the yard's stable limit and its member count (R48), and a sub-yard the
same of its own members: the limit in [15:0] and the count in [19:16] of word 0. DESIGN CHOICE: log entry 79. -/
def Dev.capsOf (d : Dev) (u : Unit) (k : Nat) : Word :=
  match u with
  | .yard => if k = 0 then word (256 + 65536 * d.members.length) else 0
  | .sub _ => if k = 0 then word (256 + 65536 * (d.children u).length) else 0
  | u => unitCaps u k

/-- Class and instance number of a unit (R41). -/
def Dev.unitClass (d : Dev) (u : Unit) : Nat × Nat :=
  match u with
  | .lane n => (1, n)
  | .port p => (2, p)
  | .bundle b => (3, b)
  | .cluster c => (4, c)
  | .device | .remoteDev _ => (5, 0)
  | .yard => (6, d.rf R.DEV_YARD_CFG 0 8 1)
  | .sub s => (6, 0x100 + s)
  | .block page => (0x10, page)

/-- UNIT_CHILD (R42): the reference of the child at the accessor's cursor. -/
def Dev.childAt (d : Dev) (u : Unit) (k : Nat) : Word :=
  match (d.children u)[k]? with
  | some v => d.unitRef v
  | none => nullRef

/-! ### Staged values -/

/-- What a read of an RWS register returns (R38): the accessor's staged value, else its held one, else the value in force. DESIGN CHOICE: log
entry 82. -/
def Dev.rwsRead (d : Dev) (acc page inst off : Nat) : Word :=
  let is (x : Stg) : Bool := x.page == page && x.inst == inst && x.off == off
  match (d.staging.staged.filter fun x => x.acc == acc && x.via == page && is x).getLast? with
  | some x => x.val
  | none =>
    match ((d.staging.held.filter fun h => h.acc == acc && h.cfg.isNone).flatMap fun h => h.set.filter is).getLast? with
    | some x => x.val
    | none => d.rd ⟨page, off⟩ inst

/-- A page of the commit group. -/
def inGroup (page : Nat) : Bool := page == 0x500 || page == 0x600

/-- STAGE_CTRL.COMMIT reads 1 for the accessor until its commit is done (R59). -/
def Dev.commitBusy (d : Dev) (acc page : Nat) : Bool :=
  (inGroup page && (d.staging.waiters.contains acc || d.staging.held.any (fun h => h.acc == acc && h.cfg.isNone) ||
    d.yard.accs.any fun e => e.1 == acc && inGroup e.2)) || d.yard.accs.contains (acc, page)

/-- STAGE_STATUS (R59). DESIGN CHOICE: log entry 80. -/
def Dev.stageStatus (d : Dev) (acc page : Nat) : Word :=
  word (b2n (!(d.stagedSet acc page).isEmpty) + 2 * b2n (!d.staging.disagree.any fun e => e.1 == page) +
    4 * b2n (inGroup page && d.staging.draining) +
    8 * b2n (inGroup page && d.staging.held.any fun h => h.acc == acc && h.cfg.isNone) +
    256 * (d.staging.lastErr.getD page 0 % 256) + 65536 * (d.staging.lastErr.getD page 0 / 256))

/-! ### Page counters -/

/-- A tenant reads page counter n only with TAL_USER_EN and for an instance that it owns (R443). -/
def Dev.talSees (d : Dev) (a : Acc) (page n : Nat) : Bool :=
  match d.tenant a with
  | none => true
  | some s =>
    d.rb (if s < 32 then R.TAL_TAL_USER_EN0 else R.TAL_TAL_USER_EN1) 0 (s % 32) &&
    d.ownLevel page (d.rf (talEvsel page n) 0 31 16) s == 2

/-- The counter n of a page as an accessor reads it. -/
def Dev.talVal (d : Dev) (a : Acc) (page n : Nat) : Nat := if d.talSees a page n then d.tally.page.getD (8 * page + n) 0 else 0

/-- A counter of a page as an accessor reads it, with what other members contribute. -/
def Dev.talNow (d : Dev) (a : Acc) (page n : Nat) : Nat × Dev :=
  if d.talSees a page n then d.farCount page (d.rf (talEvsel page n) 0 31 16) (d.talVal a page n) else (0, d)

/-- The high word of a counter pair (R45): the bits latched by the accessor's last read of the low word, else the live ones. DEDUCED: log
entry 22. -/
def Dev.hiWord (d : Dev) (acc : Nat) (r : Reg) (live : Nat) : Word :=
  let w := d.ard acc r
  if bit w 31 then word (fld w 15 0) else word (live / 4294967296 % 65536)

/-- The low word of a counter pair: bits [47:32] are latched for the accessor. -/
def Dev.loRead (d : Dev) (acc : Nat) (hi : Reg) (v : Nat) : Word × Dev :=
  (word v, d.awn acc hi (v / 4294967296 % 65536 + 2147483648))

/-- TAL_CTRL (R434): FRZ as written, and BAD. -/
def Dev.talCtrlWord (d : Dev) (page : Nat) : Word :=
  let bad := (List.range 8).filter fun n =>
    let w := d.rd (talEvsel page n)
    fld w 9 0 != 0 && d.srcBad page (fld w 31 16) (fld w 9 0)
  word (d.rf (talCtrl page) 0 15 8 * 256 + 65536 * ofBits bad)

/-- The common part of a page (R36), but for UNIT_CTRL and the event block. -/
def Dev.commonRead (d : Dev) (a : Acc) (page off inst : Nat) : Option (Word × Dev) :=
  let acc := accIdx a
  let u := unitAt page inst
  let pure (w : Word) : Option (Word × Dev) := some (w, d)
  if off = 0x000 then
    let c := d.unitClass u
    pure (word (c.1 * 16777216 + d.me * 2097152 + c.2))
  else if off = 0x004 then pure 0x00010100
  else if off < 0x018 then pure (d.capsOf u (off / 4 - 2))
  else if off = 0x018 then pure (match d.parent u with | some v => d.unitRef v | none => nullRef)
  else if off = 0x01c then pure (d.childAt u (d.arn acc (unitChild page)))
  else if off = 0x020 then pure (word (d.children u).length)
  else if off = 0x024 then some (d.unitStatus a u)
  else if off = 0x04c then pure (if (d.tenant a).isSome then 0 else d.rd (evRoute (routePage page)))
  else if off = 0x080 then pure (word (b2n (d.commitBusy acc page)))
  else if off = 0x084 then pure (d.stageStatus acc page)
  else if off = 0x088 then pure (if inGroup page then word d.staging.epoch.toNat else d.rd (stageEpoch page))
  else if off = 0x0c0 then pure (if page = 0 ∨ ninst page ≠ 0 then d.ard acc (selReg (selPage page)) else 0)
  else if off = 0x0c4 then pure (d.selStatusOf a page)
  else if 0xf00 ≤ off ∧ off < 0xf80 ∧ off % 16 = 0 then 
    let (v, d) := d.talNow a page (off / 16 % 16)
    some (d.loRead acc ⟨page, off + 4⟩ v)
  else if 0xf00 ≤ off ∧ off < 0xf80 ∧ off % 16 = 4 then 
    let (v, d) := d.talNow a page (off / 16 % 16)
    some (d.hiWord acc ⟨page, off⟩ v, d)
  else if off = 0xf80 then pure (d.talCtrlWord page)
  else none

end Sys2Proof.Machine
end

