-- ==== Sys2Proof/Machine/Views.lean ====
section
/-! DEFINITION. What the registers of each block read as where they show the state of the device and not a stored word: one
function for each page, `none` where the register reads its stored word. -/

namespace Sys2Proof.Machine

/-- The high or low word of a 64-bit number. -/
def lo32 (n : Nat) : Word := word n
def hi32 (n : Nat) : Word := word (n / 4294967296)

/-- Word k of a bitmap of ports, 32 ports a word. -/
def portMap (l : List Nat) (k : Nat) : Word := word (ofBits ((l.filter fun p => p / 32 == k).map (· % 32)))

/-- A log entry at a cursor, where the accessor may see it (R217, R244, R273, R330, R389). -/
def Dev.seen {α : Type} (d : Dev) (a : Acc) (l : Log α) (k : Nat) (stable : α → Option Nat) : Option α :=
  (l.entries[k]?).filter fun e => match d.tenant a with
    | some s => stable e == some s
    | none => true

/-! ### Log entries -/

def Drop.word (e : Drop) (k : Nat) : Word :=
  if k = 0 then Machine.word (e.fmtType + 256 * b2n e.unconf + 512 * b2n e.mc + 1024 * e.stable + 65536 * e.rid)
  else if k = 1 then lo32 (e.addr / 4 * 4)
  else if k = 2 then hi32 e.addr
  else if k = 3 then Machine.word (e.pasid.getD 0 % 1048576 + 1048576 * b2n e.pasid.isSome + 2097152 * (e.len % 1024))
  else if k = 4 then lo32 e.time
  else hi32 e.time

def RouteErr.word (e : RouteErr) (k : Nat) : Word :=
  if k = 0 then Machine.word (e.fmtType + 256 * e.port + 65536 * e.stable + 16777216 * e.reason)
  else if k = 1 then Machine.word (e.rid + 65536 * (e.len % 1024))
  else if k = 2 then lo32 e.addr
  else if k = 3 then hi32 e.addr
  else if k = 4 then lo32 e.time
  else hi32 e.time

def AccFault.word (e : AccFault) (k : Nat) : Word :=
  if k = 0 then Machine.word (e.fmtType + 256 * e.port + 65536 * e.stable.getD 0 + 4194304 * b2n e.priv + 8388608 * b2n e.xed +
    16777216 * e.reason + 268435456 * e.type + 2147483648 * b2n e.stable.isSome)
  else if k = 1 then Machine.word (e.rid + 65536 * (e.len % 1024))
  else if k = 2 then lo32 e.addr
  else if k = 3 then hi32 e.addr
  else if k = 4 then Machine.word (e.pasid.getD 0 % 1048576 + 1048576 * b2n e.pasid.isSome)
  else lo32 e.time

/-- The words that the posted-error log (R330) and the posted-loss log (R389) share. -/
def lossWord (k w0 rid bytes addr : Nat) (pasid : Option Nat) (time : Nat) (pos : Word) : Word :=
  if k = 0 then word (w0 + 524288 * b2n pasid.isSome)
  else if k = 1 then word (rid + 65536 * (bytes % 8192))
  else if k = 2 then lo32 addr
  else if k = 3 then hi32 addr
  else if k = 4 then word (pasid.getD 0 % 1048576)
  else if k = 5 then lo32 time
  else if k = 6 then hi32 time
  else pos

def PLoss.word (e : PLoss) (k : Nat) : Word :=
  lossWord k (e.egress + 256 * e.stable + 16384 * e.cause + 262144 * b2n e.mc + 1048576 * e.ingress) e.rid e.bytes e.addr e.pasid e.time e.pos

def PelEnt.word (e : PelEnt) (k : Nat) : Word :=
  lossWord k (e.win + 256 * e.stable + 16384 * e.cause + 262144 * b2n e.strict) e.rid e.bytes e.addr e.pasid e.time e.pos

def FaultEnt.word (e : FaultEnt) (k : Nat) : Word :=
  if k = 0 then Machine.word (e.cls + 256 * e.scope + 2048 * b2n e.escalated + 4096 * e.stable.getD 0 + 262144 * b2n e.stable.isSome +
    524288 * e.port.getD 255)
  else if k = 1 then e.unit
  else if k = 2 then e.detail
  else if k = 3 then lo32 e.time
  else hi32 e.time

def Trap.word (x : Trap) (k : Nat) : Word :=
  if k = 0 then Machine.word (x.id + 64 * b2n x.write + 128 * x.slice + 131072 * x.stable + 8388608 * (x.fbe % 16))
  else if k = 1 then Machine.word (x.rid + 65536 * (x.tag % 16384))
  else if k = 2 then Machine.word (x.target + 65536 * (x.reg / 4 * 4))
  else x.data

def EvRec.word (r : EvRec) (k : Nat) : Word :=
  if k = 0 then Machine.word (r.src + 2048 * r.sev + 8192 * b2n r.forced + 16384 * b2n r.stable.isSome + 32768 * r.stable.getD 0 +
    2097152 * r.reps)
  else if k = 1 then r.detail
  else if k = 2 then lo32 r.time
  else hi32 r.time

def EvQueue.status (q : EvQueue) : Word := Machine.word (q.recs.length + 2147483648 * b2n q.overflow)
def EvQueue.word (q : EvQueue) (k : Nat) : Word := match q.recs.head? with
  | some r => r.word k
  | none => 0

/-- Word k of an entry, 0 where there is none. -/
def orZero {α : Type} (e : Option α) (f : α → Word) : Word := match e with
  | some x => f x
  | none => 0

/-! ### Pages -/

/-- DEV (R487, R28). -/
def Dev.viewDev (d : Dev) (off : Nat) : Option Word :=
  if off = 0x10c then some (Config.deviceToken d.boot.resets)
  else if off = 0x114 then some (word (d.rn R.DEV_YARD_STATUS / 65536 * 65536 + d.rf R.DEV_YARD_STATUS 0 0 0 + 2 * b2n d.isHead + 4 * d.reach))
  else if off = 0x120 then (if d.isHead then none else some 0)
  else none

/-- EVT (R444): the words of the arrays are read through the event block. -/
def Dev.viewEvt (d : Dev) (acc off : Nat) : Option Word :=
  if off = 0x408 then
    let n := d.arn acc R.EVT_EVC_IDX % 2048
    some (match evSev n with
      | some sev =>
        let g := d.ev.storm.getD (evKey 64 n) ⟨0, 0, 0⟩
        word (d.ev.count.getD n 0 % 65536 + 65536 * sev + 262144 * b2n (g.quietEnd != 0 && decide (d.now < g.quietEnd)))
      | none => 0)
  else if off = 0x40c then some (word (b2n d.ev.faultPin + 2 * b2n (d.ev.faultPin && d.failsafe) + 4 * d.ev.faultSrc))
  else if off = 0x500 then some d.ev.fmq.status
  else if 0x504 ≤ off ∧ off < 0x514 then some (d.ev.fmq.word ((off - 0x504) / 4))
  else if off = 0x520 then some d.ev.enq.status
  else if 0x524 ≤ off ∧ off < 0x534 then some (d.ev.enq.word ((off - 0x524) / 4))
  else none

/-- A tenant reads the slot-class counters of a port (R443). -/
def Dev.slotSees (d : Dev) (a : Acc) (p : Nat) : Bool := match d.tenant a with
  | none => true
  | some s => d.rb (if s < 32 then R.TAL_TAL_USER_EN0 else R.TAL_TAL_USER_EN1) 0 (s % 32) && d.owner p == some s

/-- A field of a snapshot (R442): 0 where there is none. -/
def snapWord (s : Option TalSnapS) (f : TalSnapS → Word) : Word := orZero s f

/-- TAL (R445). -/
def Dev.viewTal (d : Dev) (a : Acc) (off inst : Nat) : Option (Word × Dev) :=
  let acc := accIdx a
  let pure (w : Word) : Option (Word × Dev) := some (w, d)
  let sees := d.slotSees a inst
  let snap := if sees then d.tally.slotSnap.find inst else none
  let k := inst - 0x100
  let ts := d.tally.tsSnap.find k
  if 0x200 ≤ off ∧ off < 0x248 then
    let v := if sees then d.tally.slot.getD (inst * 16 + (off - 0x200) / 8) 0 else 0
    if off % 8 = 0 then some (d.loRead acc ⟨0x12, off + 4⟩ v) else pure (d.hiWord acc ⟨0x12, off⟩ v)
  else if 0x280 ≤ off ∧ off < 0x2c8 then
    let v := match snap with | some s => s.vals.getD ((off - 0x280) / 8) 0 | none => 0
    pure (if off % 8 = 0 then lo32 v else hi32 v)
  else if off = 0x2d0 then pure (snapWord snap fun s => word (s.tag + 256))
  else if off = 0x2d4 then pure (snapWord snap fun s => lo32 s.time)
  else if off = 0x2d8 then pure (snapWord snap fun s => hi32 s.time)
  else if off = 0x2dc then pure (snapWord snap fun s => s.pos)
  else if off = 0x308 then pure (setFld (d.rd R.TAL_TS_SEL inst) 17 17 (b2n (d.tsBad k)))
  else if off = 0x30c then
    let (v, d) := d.tsNow k
    some (d.loRead acc ⟨0x12, 0x310⟩ v)
  else if off = 0x310 then
    let (v, d) := d.tsNow k
    some (d.hiWord acc ⟨0x12, 0x310⟩ v, d)
  else if off = 0x314 then pure (snapWord ts fun s => lo32 (s.vals.headD 0))
  else if off = 0x318 then pure (snapWord ts fun s => hi32 (s.vals.headD 0))
  else if off = 0x31c then pure (snapWord ts fun s => lo32 s.time)
  else if off = 0x320 then pure (snapWord ts fun s => hi32 s.time)
  else if off = 0x324 then pure (snapWord ts fun s => s.pos)
  else if off = 0x328 then pure (snapWord ts fun s => word (s.tag + 256))
  else none

/-- CYC (R85). DESIGN CHOICE: log entry 85. -/
def Dev.viewCyc (d : Dev) (off inst : Nat) : Option Word :=
  let c := d.cyc1 inst
  if off = 0x128 then
    let st := match c.state with | .off => 0 | .acquire => 1 | .locked => 2 | .holdover => 3 | .freerun => 4
    some (word (st + 8 * b2n c.loss + 16 * b2n c.pend.isSome + 32 * b2n c.running + 256 * min 15 c.intol + 4096 * min 15 c.outl))
  else if off = 0x12c then some (lo32 (c.p / 256))
  else if off = 0x130 then some (hi32 (c.p / 256))
  else if off = 0x1e0 then some (word d.cyc.pins)
  else none

/-- LAN (R111, R112, R119, R143). LANE_STATUS.PORT is the port whose block holds the lane, none while it is disabled or holds its lanes untrained (TGT_WIDTH 0, R93). ADAPT of an ACTIVE lane shows values that in-situ adaptation has chosen by then: free values; while that is frozen they stay. -/
def Dev.viewLan (d : Dev) (page off inst : Nat) : Option (Word × Dev) :=
  let c := page - 0x100
  let st := d.laneState c inst
  if off = 0x104 then some (word ((d.blocks c).length + 256 * (8 * c)), d)
  else if off = 0x200 then
    let own := match d.blockPort c inst with
      | some p => if d.portEn p && d.tgtWidth p != 0 then p else 255
      | none => 255
    some (setFld (d.lane c inst) 15 8 own, d)
  else if off = 0x20c then (if (st = 0 ∨ st = 5 ∨ st = 7) ∧ d.rb (unitCtrl page) inst 0 then none else some (0, d))
  else if off = 0x480 then
    let w := d.rd (R.LAN_LCAL_STATUS c) inst
    let trains : Bool := st == 2 && (d.blockPort c inst).any fun p => d.lstate p == 5
    let frozen : Bool := (st == 3 || trains) && fld w 2 0 == 0 && d.adaptFrozen c inst
    some (if frozen then setFld w 2 0 4 else w, d)
  else if off = 0x4a0 then
    (if st = 3 ∧ !d.adaptFrozen c inst then
      let d' := d.adaptLatch c inst
      some (d'.rd (R.LAN_ADAPT c) inst, d')
     else none)
  else none

/-- PRT page 0x0200 (R113, R381). -/
def Dev.viewPrt0 (d : Dev) (off inst : Nat) : Option Word :=
  if off = 0x110 ∧ d.isDown inst ∧ d.portContained inst ∧ !d.dlUp inst then some (setFld (d.rd R.PRT0_LINK_STATUS inst) 3 0 10) else none

/-- PRT page 0x0202 (R399). -/
def Dev.viewPrt2 (d : Dev) (a : Acc) (off inst : Nat) : Option Word :=
  if off = 0x108 then some (word (2 * d.rf R.PRT2_ERR_STATUS inst 5 5))
  else if 0x204 ≤ off ∧ off < 0x224 then
    some (orZero (d.seen a d.logs.ppl (d.arn (accIdx a) R.PRT2_PPL_IDX % 64) fun e => some e.stable) fun e => e.word ((off - 0x204) / 4))
  else if off = 0x224 then some d.logs.ppl.status
  else none

/-- PRT page 0x0203 (R421). -/
def Dev.viewPrt3 (d : Dev) (acc off : Nat) : Option Word :=
  let s := d.arn acc R.PRT3_DOE_IDX % 64
  if off = 0x204 ∨ off = 0x208 then some (d.rd ⟨0x203, off⟩ s)
  else if off = 0x20c then some (word (d.fn.sess.getD s 0 + 65536 * d.sessions))
  else none

/-- PRT page 0x0204 (R290). -/
def Dev.viewPrt4 (d : Dev) (off inst : Nat) : Option Word :=
  if off = 0x104 then some (word (d.slice.ledger.filter fun l => l.egress == inst).length)
  else if off = 0x180 then some (word 32768)
  else if off = 0x184 then some (word (32768 - d.slice.ledger.length))
  else none

/-- FN_STATUS of a stable (R402, R417, R420). -/
def Dev.fnStatus (d : Dev) (s : Nat) : Word :=
  let late (i : Nat) : Bool := decide (d.now + 1 < d.fn.readyAt.getD i 0)
  word (b2n ((d.upPort s).isSome && !d.fnBusy s 1) + 2 * b2n (late (4 * s + 1) || late (4 * s + 2)) + 4 * b2n (late (4 * s)) +
    8 * b2n ((d.slots s).length != (d.slotTable s).length) + 16 * b2n (d.isHeadless s) + d.rn R.PRT5_FN_STATUS s / 256 * 256)

/-- PRT page 0x0205 (R420): the registers of the stable at FN_IDX. -/
def Dev.viewPrt5 (d : Dev) (a : Acc) (off : Nat) : Option Word :=
  let acc := accIdx a
  let s := d.arn acc R.PRT5_FN_IDX % 64
  let k := d.arn acc R.PRT5_VSLOT_IDX % 256
  let own : Bool := match d.tenant a with | some t => t == s | none => true
  if off = 0x184 then some (d.rwsRead acc 0x205 s off)
  else if off = 0x188 then some (d.rd R.PRT5_FN_CTRL s)
  else if off = 0x18c then some (if own then d.fnStatus s else 0)
  else if off = 0x194 then some (if 248 ≤ k then 0 else d.rwsRead acc 0x205 (256 * s + k) off)
  else if off = 0x198 then some (if own then d.rd R.PRT5_CNT_RRS s else 0)
  else none

/-- PRT page 0x0206 (R198). -/
def Dev.viewPrt6 (d : Dev) (acc off inst : Nat) : Option Word :=
  let l := d.path.drops.getD inst ⟨[], false⟩
  if off = 0x104 then some l.status
  else if 0x10c ≤ off ∧ off < 0x124 then
    some (orZero (l.entries[d.arn (winAcc acc inst) R.PRT6_PD_IDX % 16]?) fun e => e.word ((off - 0x10c) / 4))
  else if off = 0x144 then
    some (setFld (d.rd R.PRT6_FLUSH_STATE inst) 2 2 (b2n ((List.range 64).any fun s => d.upPort s == some inst && d.isHeadless s)))
  else none

/-- CAL (R142). -/
def Dev.viewCal (d : Dev) (off inst : Nat) : Option Word :=
  if off = 0x10c then some (match d.winEnd inst with
    | some e => word ((e - d.now) / 1000)
    | none => 0)
  else if off = 0x108 ∧ d.isFabric inst ∧ d.lkState inst ≠ 3 then some (setFld (d.rd R.CAL_CAL_PSTATUS inst) 1 0 0)
  else none

/-- MKL (R166). -/
def Dev.viewMkl (d : Dev) (acc off inst : Nat) : Option Word :=
  let p := inst - 0x100
  if off = 0x104 then
    let l := d.bundlePorts inst
    let n (st : Nat) := (l.filter fun q => d.lkState q == st).length
    let partner := d.bundlePartner inst
    some (word (l.length + 16 * n 3 + 256 * n 4 + 4096 * partner.getD 0 + 32768 * b2n partner.isSome + 65536 * b2n ((d.bnd inst).orPhase != 0)))
  else if off = 0x10c then some (word ((d.bnd inst).pins.getD (d.arn (winAcc acc inst) R.MKL_BND_PIN_IDX % 256) 0))
  else if off = 0x110 then some (word (b2n ((d.bnd inst).orPhase != 0)))
  else if off = 0x214 then some (word (128 * ((d.block p).map (·.2)).getD 0))
  else if off = 0x228 then some (word ((d.lnk p).nextSeq + 65536 * (d.lnk p).expect))
  else if off = 0x22c then some (word (d.lnk p).replay.length)
  else none

/-- SWC (R184, R196). -/
def Dev.viewSwc (d : Dev) (off inst : Nat) : Option Word :=
  if 0x304 ≤ off ∧ off < 0x318 then
    let w := d.rd R.SWC_MC_CFG inst
    some (if bit w 0 then portMap (((d.mcDests (fld w 6 1) (inst - 0x100)).filter fun e => e.1 == d.me).map (·.2)) ((off - 0x304) / 4) else 0)
  else none

/-- SHD (R197). -/
def Dev.viewShd (d : Dev) (off inst : Nat) : Option Word :=
  if off = 0x104 then some (word d.poolS)
  else if off = 0x108 then some (word d.poolF)
  else if off = 0x10c then some (word d.cellsUsed)
  else if off = 0x110 then some (word d.rsvTotal)
  else if off = 0x114 then some (word d.mirUsed)
  else if off = 0x210 then some (word (d.shOf inst))
  else if off = 0x214 then some (word (d.rvOf inst 0 + 65536 * d.rvOf inst 1))
  else if off = 0x218 then some (word (d.rvOf inst 2))
  else if off = 0x21c then some (word (ofBits ((List.range 3).filter fun k => d.waiting inst k)))
  else if off = 0x304 then some (word (d.stOf (inst - 0x200)))
  else none

/-- YROUTE_STATUS of a member (R221, R222, R227): hops by the entry in use, from the last yard commit. -/
def Dev.yrouteStatus (d : Dev) (m : Nat) : Word :=
  let kind := d.pathKind m
  let alt := kind == 2
  word (d.yard.hops.getD (2 * m + b2n alt) 0 % 8 + 8 * b2n alt + 16 * b2n (d.rb R.RTE_YROUTE_STATUS (0x100 + m) 4))

/-- RTE (R227). -/
def Dev.viewRte (d : Dev) (a : Acc) (off inst : Nat) : Option Word :=
  if off = 0x118 then some (word d.winsOn.length)
  else if 0x13c ≤ off ∧ off < 0x154 then
    some (orZero (d.seen a d.logs.route (d.arn (accIdx a) R.RTE_ERR_IDX % 16) fun e => some e.stable) fun e => e.word ((off - 0x13c) / 4))
  else if off = 0x154 then some d.logs.route.status
  else if off = 0x304 then some (d.yrouteStatus (inst - 0x100))
  else none

/-- The TLPs of the previous epoch that still count on this member (R246). -/
def Dev.drainCount (d : Dev) : Nat :=
  (d.path.items.filter fun i => i.epoch != d.staging.epoch && i.drains).length

/-- ISO (R257). -/
def Dev.viewIso (d : Dev) (a : Acc) (off inst : Nat) : Option Word :=
  let acc := accIdx a
  if off = 0x118 then some (word d.rulesOn.length)
  else if off = 0x124 then
    let page := d.arn acc R.ISO_PERM_IDX % 8192
    some (if pagePopulated page then d.rd R.ISO_PERM_DATA page else 0)
  else if 0x12c ≤ off ∧ off < 0x144 then
    some (orZero (d.seen a d.logs.flt (d.arn acc R.ISO_FLT_IDX % 16) fun e => e.stable) fun e => e.word ((off - 0x12c) / 4))
  else if off = 0x144 then some d.logs.flt.status
  else if off = 0x14c then some (d.ard acc R.ISO_FLT_TIME_HI)
  else if off = 0x150 then some (word d.drainCount)
  else if off = 0x204 then some (word ((d.upPort inst).getD 255))
  else if 0x208 ≤ off ∧ off < 0x21c then some (portMap (d.ownedPorts inst) ((off - 0x208) / 4))
  else if 0x21c ≤ off ∧ off < 0x230 then some (portMap (d.sharedPorts inst) ((off - 0x21c) / 4))
  else none

/-- STL (R288). -/
def Dev.viewStl (d : Dev) (a : Acc) (off inst : Nat) : Option Word :=
  let acc := accIdx a
  if off = 0x114 then some (word d.stall.loft.length)
  else if off = 0x118 then some (word d.stall.ways.length)
  else if off = 0x11c then some (word d.stall.pinActive.length)
  else if off = 0x134 ∨ off = 0x138 then some (d.rwsRead acc 0x700 (d.arn acc R.STL_PIN_IDX % 2048) off)
  else if off = 0x148 then some (word (d.stall.opBusy.getD acc 0))
  else if off = 0x14c then some (d.stall.opRes.getD acc 0)
  else if off = 0x16c then some d.logs.rf.status
  else if off = 0x174 then some (d.ard acc R.STL_RF_TIME_HI)
  else if off = 0x204 then some (word (d.stall.miss.filter fun k => k.port == inst && !k.noEntry).length)
  else if off = 0x20c then
    let g := d.gen (domPort inst)
    some (word (g.g + 256 * b2n g.pend))
  else none

/-- SLICE_STATUS (R276). -/
def Dev.sliceStatus (d : Dev) (k : Nat) : Word :=
  let c := d.rd R.SLC_SLICE_CFG k
  let st := if d.slice.contained.contains k then 3 else if !bit c 0 then 0 else if fld c 16 15 = 1 then 2 else 1
  let g := d.gen (domSlice k)
  word (st + 4 * g.g + 1024 * b2n g.pend)

/-- SLC (R289). -/
def Dev.viewSlc (d : Dev) (off inst : Nat) : Option Word :=
  let unread := d.slice.traps.filter fun x => !x.read
  if off = 0x104 then some (word (d.slice.traps.length + 256 * unread.length))
  else if 0x108 ≤ off ∧ off < 0x118 then some (orZero unread.head? fun x => x.word ((off - 0x108) / 4))
  else if off = 0x210 then some (d.sliceStatus inst)
  else if off = 0x218 then some (word (d.slice.ledger.filter fun l => l.slice == some inst).length)
  else none

/-- CXP (R310). PRIVATE of an LD says that it is device-private (R302). DEDUCED: log entry 101. -/
def Dev.viewCxp (d : Dev) (off inst : Nat) : Option Word :=
  if off = 0x200 then
    let bi := (d.ownedDown inst).any fun p => d.rb R.CXP_PORT_CXL_STATUS (0x100 + p) 7
    let lds := (List.range 128).filter fun p => d.isMld p && d.ownMode p == 2 && (d.boundLd p inst).isSome
    some (word (((List.range 8).filter fun k => d.hdmOn inst k).length + 16 * b2n (d.cachePort inst).isSome + 32 * b2n bi + 256 * lds.length))
  else if 0x380 ≤ off ∧ off < 0x3c0 then
    let p := inst - 0x100
    let n := (off - 0x380) / 4
    let g := d.gen (domLd p n)
    let s := d.ldStable p n
    let priv := d.idecs.any fun k => d.idecPort k == p && d.idecLd k == some n
    some (word (b2n s.isSome + 2 * s.getD 0 + 256 * g.g + 65536 * b2n g.pend + 131072 * b2n priv))
  else none

/-- BRG (R331). -/
def Dev.viewBrg (d : Dev) (a : Acc) (off inst : Nat) : Option Word :=
  if off = 0x104 then some (word d.brg.lines.length)
  else if off = 0x108 then some (word d.rbufUsed)
  else if off = 0x10c then some (word d.brg.reqs.length)
  else if off = 0x110 then some (word (d.cxp.m2s.filter fun e => e.why.own).length)
  else if off = 0x114 then (match d.tenant a with
    | some s => if d.rf R.BRG_BRG_LAST 0 13 8 = s then none else some 0
    | none => none)
  else if 0x124 ≤ off ∧ off < 0x144 then
    some (orZero (d.seen a d.brg.pel (d.arn (accIdx a) R.BRG_PEL_IDX % 64) fun e => some e.stable) fun e => e.word ((off - 0x124) / 4))
  else if off = 0x144 then some d.brg.pel.status
  else if off = 0x214 then
    some (word (d.rf R.BRG_WIN_STATUS inst 1 0 + 4 * b2n (d.winUp inst) + 65536 * (d.brg.lines.filter fun l => l.win == inst).length))
  else none

/-- CH_STATUS (R348), with GEN and GEN_PEND of the channel's domain. -/
def Dev.chStatusWord (d : Dev) (c : Nat) : Word :=
  let g := d.gen (domChan c)
  word (d.rn R.DMA_CH_STATUS c % 256 + 256 * g.g + 65536 * b2n g.pend)

/-- DMA (R348). -/
def Dev.viewDma (d : Dev) (off inst : Nat) : Option Word :=
  if off = 0x100 then some (word (d.dma.tags.length + 65536 * ((List.range 64).filter fun c => d.chState c == 2).length))
  else if off = 0x22c then some (d.chStatusWord inst)
  else none

/-- SCH (R366). Through a stable's control function, the bytes of other stables read 0 in WFQ_W and GATE. -/
def Dev.viewSch (d : Dev) (a : Acc) (off inst : Nat) : Option Word :=
  let byteOf (first : Nat) : Option Word := match d.tenant a with
    | some s => some (if s / 4 = (off - first) / 4 then d.rd ⟨0xb00, off⟩ inst &&& word (255 * 256 ^ (s % 4)) else 0)
    | none => none
  if off = 0x108 then some (word ((List.range 1024).filter fun k => d.rb R.SCH_SH_CFG (0x1000 + k) 0).length)
  else if off = 0x214 then some (word (d.wfq inst).v.toNat)
  else if 0x240 ≤ off ∧ off < 0x280 then byteOf 0x240
  else if 0x280 ≤ off ∧ off < 0x2c0 then byteOf 0x280
  else if off = 0x424 then some (BitVec.ofInt 32 ((d.shaper (inst - 0x1000)).tokens.tdiv 125))
  else none

/-- SAF (R398). STATE shows CONTAINING while a containment is in force. -/
def Dev.viewSaf (d : Dev) (acc off : Nat) : Option Word :=
  if off = 0x108 then
    let w := d.rd R.SAF_SAF_STATE
    let any := (List.range 131).any d.portContained || !d.slice.contained.isEmpty || (List.range 64).any fun s => d.stbContained s
    some (if fld w 1 0 = 0 && any then setFld (setFld w 1 0 1) 2 2 (b2n (d.portContained 130)) else setFld w 2 2 (b2n (d.portContained 130)))
  else if off = 0x138 then some (word (b2n d.saf.inj.isSome))
  else if 0x144 ≤ off ∧ off < 0x1ac then
    let k := (off - 0x140) / 4
    some (setFld (d.rd ⟨0xc00, off⟩) 6 4 (d.effScope k))
  else if 0x1c4 ≤ off ∧ off < 0x1d8 then
    some (orZero (d.logs.flog.entries[d.arn acc R.SAF_FLOG_IDX % 32]?) fun e => e.word ((off - 0x1c4) / 4))
  else if off = 0x1d8 then some d.logs.flog.status
  else none

end Sys2Proof.Machine
end

