-- ==== Sys2Proof/Machine/RegRead.lean ====
section
/-! DEFINITION. What a read of a register returns, and what it does: an accessor's view of any offset of a page (R36–R39). -/

namespace Sys2Proof.Machine

/-! ### Windows that show nothing -/

/-- Registers that an internal port, or a port that is not SHARED, does not have: they read 0 and ignore writes (R113, R198,
R399, R420). -/
def Dev.windowZero (d : Dev) (page off inst : Nat) : Bool :=
  if page = 0x600 ∧ off = 0x300 then decide (128 ≤ inst - 0x100)
  else if page = 0x200 then decide (0x100 ≤ off) && decide (off < 0xf00) && decide (128 ≤ inst)
  else if winKind page off = .none then false
  else if page = 0x201 ∨ page = 0x206 then decide (128 ≤ inst)
  else if page = 0x202 then decide (128 ≤ inst) && off != 0x104 && off != 0x108
  else if page = 0x205 then d.ownMode inst != 2
  else false

/-- A count register of a unit that a tenant only shares reads 0 (R443). -/
def Dev.countHidden (d : Dev) (a : Acc) (page off : Nat) : Bool := match d.tenant a with
  | some s => winKind page off != .none && (countRegs page).contains off && d.ownLevel page (d.sel (accIdx a) page) s == 1
  | none => false

/-- The stable through whose control function an access comes, that of the fabric manager included. -/
def Dev.ctlStable (d : Dev) (a : Acc) : Option Nat := match a with
  | .ctl s => some s
  | _ => d.tenant a

/-- What page 0x0206 hides from a stable (R195): a drop of another stable, and the counters of a port that it does not own. -/
def Dev.dropHidden (d : Dev) (a : Acc) (page off inst : Nat) : Bool := match d.ctlStable a with
  | some s => page == 0x206 && (
    (decide (0x10c ≤ off) && decide (off < 0x124) &&
      ((d.path.drops.getD inst ⟨[], false⟩).entries[d.arn (winAcc (accIdx a) inst) R.PRT6_PD_IDX % 16]?).any fun e => e.stable != s) ||
    (decide (0x130 ≤ off) && decide (off < 0x144) && d.owner inst != some s))
  | none => false

/-! ### Entries read through a cursor -/

/-- A read of the first holding word of a table: the entry in force at the cursor is loaded into the accessor's holding words
(R213, R214, R236). DEDUCED: log entry 22. -/
def Dev.loadEntry (d : Dev) (acc : Nat) (idx : Reg) (size : Nat) (w : Nat → Reg) : Word × Dev :=
  let i := d.arn acc idx % size
  let d' := (List.range 4).foldl (fun x k => x.awr acc (w k) (d.rd (w k) i)) d
  (d.rd (w 0) i, d')

/-- A read of FLT_W0 latches the upper time bits of its entry (R244). -/
def Dev.fltRead (d : Dev) (a : Acc) : Word × Dev :=
  let acc := accIdx a
  let e := d.seen a d.logs.flt (d.arn acc R.ISO_FLT_IDX % 16) fun e => e.stable
  (orZero e fun e => e.word 0, d.awr acc R.ISO_FLT_TIME_HI (orZero e fun e => hi32 e.time))

/-- A read of LANE_TEST_ERR: what the checker has counted is a free value (log entry 4). -/
def Dev.testErrRead (d : Dev) (c k : Nat) : Word × Dev :=
  if d.rb (R.LAN_LANE_TEST c) k 1 then
    let (x, d) := d.fresh
    d.laneTestErr c k x.toNat
  else d.laneTestErr c k 0

/-! ### The pages -/

/-- The registers of a page that do not read as they are stored. -/
def Dev.pageRead (d : Dev) (a : Acc) (page off inst : Nat) : Option (Word × Dev) :=
  let acc := accIdx a
  let just (w : Option Word) : Option (Word × Dev) := w.map fun v => (v, d)
  if page = 0x0 then just (d.viewDev off)
  else if page = 0x11 then just (d.viewEvt acc off)
  else if page = 0x12 then d.viewTal a off inst
  else if page = 0x14 then (if off = 0x108 then some (word d.boot.arb, d) else none)
  else if page = 0x15 then
    (if off = 0x100 then some (setFld (d.rd R.DBG_DBG_STATUS) 2 2 (b2n Config.debugFuseOff), d) else none)
  else if page = 0x20 then
    (if off = 0x184 then some (d.rEntW0 a inst) else if off = R.CYC_POS_PHASE.off then some (d.rPosPhase a inst)
     else if 0x138 ≤ off ∧ off ≤ 0x140 then some (d.ard (winAcc acc inst) ⟨page, off⟩, d) else just (d.viewCyc off inst))
  else if page = 0x40 then just (d.viewCal off inst)
  else if 0x100 ≤ page ∧ page ≤ 0x10f then
    (if off = 0x210 then some (d.testErrRead (page - 0x100) inst) else d.viewLan page off inst)
  else if page = 0x200 then just (d.viewPrt0 off inst)
  else if page = 0x202 then just (d.viewPrt2 a off inst)
  else if page = 0x203 then just (d.viewPrt3 acc off)
  else if page = 0x204 then just (d.viewPrt4 off inst)
  else if page = 0x205 then just (d.viewPrt5 a off)
  else if page = 0x206 then just (d.viewPrt6 acc off inst)
  else if page = 0x300 then just (d.viewMkl acc off inst)
  else if page = 0x400 then just (d.viewSwc off inst)
  else if page = 0x440 then just (d.viewShd off inst)
  else if page = 0x500 then
    (if off = 0x108 then some (d.loadEntry acc R.RTE_WIN_IDX 8192 R.RTE_WIN_W)
     else if off = 0x124 then some (d.loadEntry acc R.RTE_XING_IDX 1024 R.RTE_XING_W)
     else just (d.viewRte a off inst))
  else if page = 0x600 then
    (if off = 0x108 then some (d.loadEntry acc R.ISO_RULE_IDX 16384 R.ISO_RULE_W)
     else if off = 0x12c then some (d.fltRead a)
     else just (d.viewIso a off inst))
  else if page = 0x700 then
    (if 0x154 ≤ off ∧ off < 0x16c then some (d.rRf a ((off - 0x154) / 4)) else just (d.viewStl a off inst))
  else if page = 0x780 then just (d.viewSlc off inst)
  else if page = 0x800 then just (d.viewCxp off inst)
  else if page = 0x900 then just (d.viewBrg a off inst)
  else if page = 0xa00 then just (d.viewDma off inst)
  else if page = 0xb00 then just (d.viewSch a off inst)
  else if page = 0xc00 then just (d.viewSaf acc off)
  else none

/-- A register that reads as its access code states (R38). -/
def Dev.plainRead (d : Dev) (acc page off inst : Nat) : Word :=
  match findReg page off with
  | none => 0
  | some r =>
    if r.acc = .wo then 0
    else (if r.perAcc then d.ard (accOf acc page off inst) ⟨page, off⟩ else if r.acc = .rws then d.rwsRead acc page inst off else d.rd ⟨page, off⟩ inst)
      &&& word r.mask

/-- A read of a register that the accessor may read. -/
def Dev.regRead (d : Dev) (lk : List Nat) (a : Acc) (page off inst : Nat) : Word × Dev :=
  let acc := accIdx a
  if d.windowZero page off inst || d.countHidden a page off || d.dropHidden a page off inst then (0, d)
  else if off = 0x28 then (setFld (d.rwsRead acc page inst 0x28) 31 31 (b2n (lk.contains page)), d)
  else if isCauseReg page off then (d.evWord a page off fun n => d.cause (d.evArr a) n, d)
  else if isMaskReg page off then (d.evMaskWord a page off, d)
  else if isForceReg page off then (0, d)
  else match d.commonRead a page off inst with
    | some r => r
    | none => match d.pageRead a page off inst with
      | some r => r
      | none => (d.plainRead acc page off inst, d)

end Sys2Proof.Machine
end

