-- ==== Sys2Proof/Machine/RegWrite.lean ====
section
/-! DEFINITION. What a write of a register does: an accessor's write at any offset of a page, by its access code (R38), by the
pairs that must agree (R62, R63) and by the registers whose write is an action. -/

namespace Sys2Proof.Machine

/-! ### Pairs that must agree (R62, R63) -/

/-- The registers of the pair that a register belongs to: R93, R356 and R363, R346. -/
def pairOf (page off : Nat) : List Nat :=
  if page = 0x200 ∧ (off = 0x104 ∨ off = 0x108) then [0x104, 0x108]
  else if page = 0xb00 ∧ 0x404 ≤ off ∧ off < 0x424 then [off - (off - 0x404) % 8, off - (off - 0x404) % 8 + 4]
  else if page = 0xb00 ∧ (off = 0x504 ∨ off = 0x508) then [0x504, 0x508]
  else if page = 0xa00 ∧ off = 0x20c then [0x20c]
  else []

/-- TGT_WIDTH and MASK agree, for a block of `w` lanes from lane `f` of its cluster (R93). -/
def linkPairOk (tgt mask : Nat) (blk : Option (Nat × Nat)) : Bool :=
  if tgt = 0 then mask == 0
  else match blk with
    | none => false
    | some (f, w) =>
      [1, 2, 4, 8, 16].contains tgt && decide (tgt ≤ w) &&
      (List.range 16).any fun i => mask == (2 ^ tgt - 1) * 2 ^ (tgt * i) && decide (f ≤ tgt * i) && decide (tgt * i + tgt ≤ f + w)

/-- RATE and BURST agree (R356). -/
def ratePairOk (rate burst : Nat) : Bool := (rate == 0 && burst == 0) || (decide (1 ≤ burst) && decide (rate ≤ burst * 8000))

/-- The pair that a register belongs to agrees, by the values last written. -/
def Dev.pairOk (d : Dev) (page inst off : Nat) : Bool :=
  let l := pairOf page off
  let v (k : Nat) : Nat := (d.rd ⟨page, l.getD k 0⟩ inst).toNat
  if page = 0x200 then linkPairOk (v 0) (v 1) (d.block inst)
  else if page = 0xb00 then ratePairOk (v 0) (v 1)
  else decide (v 0 / 65536 ≤ v 0 % 65536 + 1)

/-- A pair is adopted: a link that is down shows the lanes of the new pair. -/
def Dev.pairAdopt (d : Dev) (page inst : Nat) : Dev :=
  if page ≠ 0x200 ∨ d.dlUp inst ∨ d.inTraining inst ∨ (d.isFabric inst ∧ d.lkState inst ≠ 0) then d
  else d.linkWords inst (d.lstate inst)

/-- A write of a register of a pair: the pair is checked; while it disagrees the last consistent values are acted on, and the
hold interval of the page says since when. DEDUCED: log entry 21. -/
def Dev.pairWrite (d : Dev) (page inst off : Nat) (w : Word) : Dev :=
  let l := pairOf page off
  let mine (e : Nat × Nat × Nat) : Bool := e.1 == page && e.2.1 == inst && l.contains e.2.2
  let was := d.staging.disagree.any mine
  let n := d.wr ⟨page, off⟩ inst w
  let ok := n.pairOk page inst off
  if ok then
    let n := { n with staging := { n.staging with
      disagree := n.staging.disagree.filter fun e => !mine e
      adopted := l.foldl (fun t o => Tbl.erase t (regKey page inst o)) n.staging.adopted } }
    let n := if was ∧ (n.rd (hlgReg page)).toNat / 65536 = inst ∧ l.contains (n.rf (hlgReg page) 0 11 0) then
        n.wr64 (hlgEndLo page) (hlgEndHi page) 0 n.now else n
    n.pairAdopt page inst
  else if was then n
  else
    let n := { n with staging := { n.staging with
      disagree := n.staging.disagree ++ l.map fun o => (page, inst, o)
      adopted := l.foldl (fun t o => Tbl.insert t (regKey page inst o) (d.rd ⟨page, o⟩ inst)) n.staging.adopted } }
    ((n.wn (hlgReg page) 0 (off + 65536 * inst)).wr64 (hlgStartLo page) (hlgStartHi page) 0 n.now).wr64 (hlgEndLo page) (hlgEndHi page) 0 0

/-! ### The common part of a page -/

/-- A write of SEL (R49, R52): on the head, INST of page 0 is also carried to the selected member. -/
def Dev.selWrite (d : Dev) (a : Acc) (page : Nat) (w : Word) : Dev :=
  if page = 0 then
    let d := d.awr (accIdx a) (selReg 0) (w &&& 0xfffff)
    match d.carriedTo a with
    | some m => d.carry a m 0xc0 (some (w &&& 0xffff))
    | none => d
  else if ninst page = 0 then d
  else d.awr (accIdx a) (selReg (selPage page)) (w &&& 0xffff)

/-- The units that take a control write to a unit: itself, and the children of every group, down to ports and lanes (R22, R46,
R60). DEDUCED: log entry 20. -/
def Dev.fanUnits (d : Dev) (u : Unit) : List Unit :=
  let kids (u : Unit) : List Unit := match u with
    | .lane _ | .port _ | .block _ | .remoteDev _ => []
    | u => d.children u
  let l1 := kids u
  let l2 := l1.flatMap kids
  let l3 := l2.flatMap kids
  let l4 := l3.flatMap kids
  u :: (l1 ++ l2 ++ l3 ++ l4)

/-- A control write to a yard or sub-yard is carried to another member, which stages it for the group's commit. DESIGN CHOICE: log
entry 9. -/
def Dev.carryFan (d : Dev) (acc m : Nat) (v : Word) : Dev :=
  let d := if d.yard.far.contains acc then d else { d with yard := { d.yard with far := d.yard.far ++ [acc] } }
  if d.isLost m then d.remoteFail acc false else d.ctlSend m [2, 3, acc, v.toNat]

/-- Stage a control value in each of the units that take it, for the commit of one page; on another member of the yard in its device
unit (R60). -/
def Dev.fanStage (d : Dev) (acc via : Nat) (units : List Unit) (v : Word) : Dev :=
  units.foldl (fun d u => match u with
    | .remoteDev m => d.carryFan acc m v
    | _ => d.stage ⟨acc, via, u.place.1, u.place.2, 0x28, v⟩) d

/-- A write of UNIT_CTRL, its PLOCK aside: staged for the unit and, of a group, for every child (R60). Bits [15:8] are defined by
no block, so they read as 0 (R37, R46). DEDUCED: log entry 20. DEDUCED: log entry 57. -/
def Dev.ctrlWrite (d : Dev) (a : Acc) (page inst : Nat) (w : Word) : Dev :=
  d.fanStage (accIdx a) page (d.fanUnits (unitAt page inst)) (w &&& 0xf)

/-- A write in the common part of a page (R36), PLOCK aside. -/
def Dev.commonWrite (d : Dev) (a : Acc) (page off inst : Nat) (w : Word) : Dev :=
  let acc := accIdx a
  if off = 0x01c then d.awr acc (unitChild page) w
  else if off = 0x028 then d.ctrlWrite a page inst w
  else if off = 0x040 then d.evClear a page off w
  else if off = 0x044 then d.evMask a page off w
  else if off = 0x048 then d.evForce a page off w
  else if off = 0x04c then (if (d.tenant a).isSome then d else d.wr (evRoute (routePage page)) 0 (w &&& 0xffff))
  else if off = 0x080 then d.stageCtrl acc page w
  else if off = 0x0c0 then d.selWrite a page w
  else if off = 0x0c4 then d.awr acc (selStatus page) (d.ard acc (selStatus page) &&& ~~~(w &&& 0x1e))
  else if 0xf00 ≤ off ∧ off < 0xf80 ∧ off % 16 = 8 then d.talEvselW page (off / 16 % 16) w
  else if off = 0xf80 then d.talCtrlW page w
  else d

/-! ### Registers whose write is an action -/

/-- Stage the words of an entry at a cursor, and increment the cursor (R213). -/
def Dev.stageEntry (d : Dev) (acc : Nat) (idx : Reg) (size : Nat) (vals : List (Nat × Word)) : Dev :=
  let i := d.arn acc idx % size
  let d := vals.foldl (fun d e => d.stage ⟨acc, idx.page, idx.page, i, e.1, e.2⟩) d
  d.awn acc idx ((i + 1) % size)

/-- A write of WIN_W3 (R213), of XING_W3 (R214) and of RULE_W3 (R236). -/
def Dev.winEntryW (d : Dev) (acc : Nat) (w : Word) : Dev :=
  let h (k : Nat) : Word := d.ard acc (R.RTE_WIN_W k)
  (d.awr acc (R.RTE_WIN_W 3) (w &&& 0x3ff7ffff)).stageEntry acc R.RTE_WIN_IDX 8192
    [(0x108, h 0 &&& 0xfffff000), (0x10c, h 1), (0x110, h 2), (0x114, w &&& 0x3ff7ffff)]
def Dev.xingEntryW (d : Dev) (acc : Nat) (_ : Word) : Dev :=
  let h (k : Nat) : Word := d.ard acc (R.RTE_XING_W k)
  (d.awr acc (R.RTE_XING_W 3) 0).stageEntry acc R.RTE_XING_IDX 1024
    [(0x124, h 0 &&& 0xfffff000), (0x128, h 1), (0x12c, h 2 &&& 0x000f3f3f), (0x130, 0)]
def Dev.ruleEntryW (d : Dev) (acc : Nat) (w : Word) : Dev :=
  let h (k : Nat) : Word := d.ard acc (R.ISO_RULE_W k)
  (d.awr acc (R.ISO_RULE_W 3) (w &&& 0x00ffffff)).stageEntry acc R.ISO_RULE_IDX 16384
    [(0x108, h 0 &&& 0xfffff03f), (0x10c, h 1), (0x110, h 2), (0x114, w &&& 0x00ffffff)]

/-- A write of PIN_W1 (R266). -/
def Dev.pinEntryW (d : Dev) (acc : Nat) (w : Word) : Dev :=
  d.stageEntry acc R.STL_PIN_IDX 2048 [(0x134, d.ard acc R.STL_PIN_W0), (0x138, w)]

/-- A write of VSLOT_DATA for the stable at FN_IDX (R402, R420): slots 248 to 255 are not there, and the cursor of slot 247
returns to 0. -/
def Dev.vslotW (d : Dev) (acc : Nat) (w : Word) : Dev :=
  let s := d.arn acc R.PRT5_FN_IDX % 64
  let k := d.arn acc R.PRT5_VSLOT_IDX % 256
  if 248 ≤ k then d
  else (d.stage ⟨acc, 0x205, 0x205, 256 * s + k, 0x194, w &&& 0xfff⟩).awn acc R.PRT5_VSLOT_IDX ((k + 1) % 248)

/-- A write of PERM_DATA (R250, R257): the cursor increments whatever becomes of it. -/
def Dev.permW (d : Dev) (lk : List Nat) (acc : Nat) (w : Word) : Dev :=
  let page := d.arn acc R.ISO_PERM_IDX % 8192
  let d := d.awn acc R.ISO_PERM_IDX ((page + 1) % 8192)
  if lk.contains 0x600 then d.sticky acc 0x600 3
  else if !pagePopulated page || (page == 0x600 && !(bit w 3 && bit w 5)) then d
  else d.wr R.ISO_PERM_DATA page (w &&& 0x3ff)

/-- CLEAR of the logs of R217, R244 and R198; WM_RESET (R197). -/
def Dev.routeLogClear (d : Dev) : Dev := { d with logs := { d.logs with route := d.logs.route.clear } }
def Dev.fltLogClear (d : Dev) : Dev := { d with logs := { d.logs with flt := d.logs.flt.clear } }
def Dev.dropLogClear (d : Dev) (p : Nat) : Dev := { d with path := { d.path with drops := Tbl.erase d.path.drops p } }
def Dev.wmReset (d : Dev) : Dev :=
  (List.range 64).foldl (fun d s => d.wn R.SHD_STABLE_PEAK (0x200 + s) (d.stOf s)) (d.wn R.SHD_FREE_MIN 0 d.poolF)

/-- The new LED_TO applies at once to every entry held (R282). -/
def Dev.ledToW (d : Dev) (w : Word) : Dev :=
  let d := d.wr R.PRT4_LED_TO 0 (w &&& 0xffff)
  let lim := d.rf R.PRT4_LED_TO 0 15 0 * 1000000
  let old := d.slice.ledger.filter fun l => decide (l.time + lim < d.now)
  if lim = 0 then d
  else old.foldl (fun d l =>
    ((d.setLedger (d.slice.ledger.erase l)).bump R.PRT4_LED_CNT_TIMEOUT).raiseFor 0x5c6 l.stable.toList) d

/-- A write of GATEk: every changed mask is set, without close times (R358). DEDUCED: log entry 56. -/
def Dev.gateW (d : Dev) (p k : Nat) (w : Word) : Dev :=
  (List.range 4).foldl (fun d i => d.gateWrite (4 * k + i) p (fld w (8 * i + 7) (8 * i))) d

/-- A write of CH_CTRL (R345–R347): each bit acts, in bit order. -/
def Dev.chCtrlW (d : Dev) (c : Nat) (w : Word) : Dev :=
  let d := if bit w 0 then d.chStart c else d
  let d := if bit w 1 then d.chStop c else d
  let d := if bit w 2 then d.chAbort c else d
  let d := if bit w 3 then d.chKick c else d
  let d := if bit w 4 then d.chArm c true else d
  if bit w 5 then d.chArm c false else d

/-- A write of ERR_CTRL (R381, R386, R388): a port written both CONTAIN and RELEASE is contained. -/
def Dev.errCtrlW (d : Dev) (p : Nat) (w : Word) : Dev :=
  let d := if bit w 2 ∧ p < 128 then d.portUntaint p else d
  if bit w 0 then d.portContainReq p else if bit w 1 then d.portReleaseReq p else d

/-- A write of a USER_x register: EFF_x follows (R64). -/
def Dev.userW (d : Dev) (page off inst : Nat) (w : Word) : Dev :=
  (d.wr ⟨page, off⟩ inst w).wr ⟨page, off + 4⟩ inst (effOf (d.rd ⟨page, off - 4⟩ inst) w (d.rd ⟨page, off + 8⟩ inst))

/-- Key slots of a port's IDE streams (R421): what is written is never read. -/
def keySlotMask (off : Nat) : Word :=
  let o := off % 64
  if off < 0x800 ∨ 0xe00 ≤ off then 0 else if o < 0x2c then 0xffffffff else if o = 0x2c then 1 else 0

/-- A write that its access code alone describes (R38). -/
def Dev.plainWrite (d : Dev) (lk : List Nat) (a : Acc) (page off inst : Nat) (w : Word) : Dev :=
  let acc := accIdx a
  match findReg page off with
  | none => d
  | some r =>
    let v := w &&& word r.wmask
    let keep (old : Word) : Word := old &&& ~~~(word r.wmask) ||| v
    match r.acc with
    | .rw => if r.perAcc then d.awr (accOf acc page off inst) ⟨page, off⟩ v else d.wr ⟨page, off⟩ inst (keep (d.rd ⟨page, off⟩ inst))
    | .rwl => d.rwl lk a page fun d => d.wr ⟨page, off⟩ inst (keep (d.rd ⟨page, off⟩ inst))
    | .rws => if r.perAcc then d.awr (accOf acc page off inst) ⟨page, off⟩ v else d.stage ⟨acc, page, page, inst, off, v⟩
    | .w1c => d.wr ⟨page, off⟩ inst (d.rd ⟨page, off⟩ inst &&& ~~~v)
    | .wo => d.wr ⟨page, off⟩ inst v
    | .ro | .rof | .w1s | .rc => d

/-- The writes of the system pages: device, events, tallies, power, boot, debug and sideband. DEDUCED: log entry 25. -/
def Dev.systemWrite (d : Dev) (a : Acc) (page off inst : Nat) (w : Word) (x : Ext) : Option Dev :=
  let acc := accIdx a
  if page = 0x0 then
    (if off = 0x110 then some (d.yardCfgW w) else if off = 0x120 ∧ !d.isHead then some d else none)
  else if page = 0x11 then
    (if isCauseReg page off then some (d.evClear a page off w)
     else if isMaskReg page off then some (d.evMask a page off w)
     else if isForceReg page off then some (d.evForce a page off w)
     else if off = 0x500 then
      some (if bit w 31 then { d with ev := { d.ev with fmq := { d.ev.fmq with overflow := false } } } else d)
     else if off = 0x514 then some (if bit w 0 then d.fmqPop else d)
     else if off = 0x520 then
      some (if bit w 31 then { d with ev := { d.ev with enq := { d.ev.enq with overflow := false } } } else d)
     else if off = 0x534 then some (if bit w 0 then d.enqPop else d)
     else none)
  else if page = 0x12 then
    (if off = 0x304 then some (d.tsWrite a inst false w) else if off = 0x308 then some (d.tsWrite a inst true w) else none)
  else if page = 0x13 then
    (if off = 0x100 then some (d.plCtrlW w)
     else if off = 0x10c then some (d.sleepCtrlW w)
     else if 0x140 ≤ off ∧ off < 0x180 ∧ off % 16 = 4 then some (d.vplUserW ((off - 0x140) / 16) w)
     else if off = 0x200 then some (d.stbHintW inst w)
     else none)
  else if page = 0x14 then
    (if off = 0x10c then some (d.bootCtrlW w) else if off = 0x114 then some (d.flashCmdW w x.flash) else none)
  else if page = 0x15 then (if off = 0x104 then some (d.dbgCtrlW w x.sigOk) else none)
  else if page = 0x16 then
    (if off = 0x100 then some (d.sbRouteW a inst w) else if off = 0x108 then some (d.sbClkreqW a inst w) else none)
  else if page = 0x20 then (if off = 0x190 then some (d.wEntW3 a inst) else none)
  else if page = 0x600 then
    (if off = 0x114 then some (d.ruleEntryW acc w) else if off = 0x148 then some (if bit w 0 then d.fltLogClear else d) else none)
  else if page = 0xc00 then
    (if off = 0x104 then some (if bit w 0 then d.forceFailsafe else d)
     else if off = 0x138 then some (if bit w 0 then d.inject else d)
     else if off = 0x1dc then some (if bit w 0 then d.flogClear else d)
     else if off = 0x204 then some (if bit w 0 then d.containStable inst 0 else if bit w 1 then d.stableRelease inst else d)
     else none)
  else none

/-- The writes of the port and link pages. -/
def Dev.portWrite (d : Dev) (a : Acc) (page off inst : Nat) (w : Word) : Option Dev :=
  let acc := accIdx a
  if page = 0x40 then
    (if off = 0x120 then some (d.calReq inst w)
     else if off = 0x200 then
      let d := if bit w 1 then d else (List.range 16).foldl (fun d c => d.adaptStop c (List.range 16)) d
      some (d.wr R.CAL_CAL_CTRL 0 (w &&& 0xff03))
     else if 0x400 ≤ off ∧ off < 0x600 ∧ off % 16 = 4 then some (d.userW page off inst w)
     else none)
  else if 0x100 ≤ page ∧ page ≤ 0x10f then
    (if off = 0x20c then
        let (n, d) := if d.rb (R.LAN_LANE_TEST (page - 0x100)) inst 1 then d.fresh else (0, d)
        some (d.laneTest (page - 0x100) inst n.toNat w)
     else if 0x400 ≤ off ∧ off < 0x480 ∧ off % 16 = 4 then some (d.userW page off inst w)
     else none)
  else if page = 0x200 then
    (if off = 0x104 then some (d.pairWrite page inst off (w &&& 0x1f))
     else if off = 0x108 then some (d.pairWrite page inst off (w &&& 0xffff))
     else if off = 0x10c then
      (let d := d.wf R.PRT0_LINK_CTRL inst 5 1 (fld w 5 1)
       some (if bit w 0 then d.retrain inst else d))
     else none)
  else if page = 0x202 then
    (if off = 0x108 then some (d.errCtrlW inst w) else if off = 0x228 then some (if bit w 0 then d.pplClear else d) else none)
  else if page = 0x203 then (if 0x800 ≤ off then some (d.wr ⟨page, off⟩ inst (w &&& keySlotMask off)) else none)
  else if page = 0x204 then (if off = 0x188 then some (d.ledToW w) else none)
  else if page = 0x205 then
    (if off = 0x184 then some (d.stage ⟨acc, page, page, d.arn acc R.PRT5_FN_IDX % 64, off, w &&& 0x3f⟩)
     else if off = 0x188 then some (if bit w 0 then d.vhReset (d.arn acc R.PRT5_FN_IDX % 64) false else d)
     else if off = 0x194 then some (d.vslotW acc w)
     else none)
  else if page = 0x206 then (if off = 0x100 then some (if bit w 0 then d.dropLogClear inst else d) else none)
  else if page = 0x300 then
    (if off = 0x10c then some (d.pinWrite a inst w)
     else if off = 0x110 then some (if bit w 0 then d.orderResetWrite inst else d)
     else none)
  else none

/-- The writes of the pages of the core: routing, stalls, slices, memory, DMA and scheduling. -/
def Dev.coreWrite (d : Dev) (a : Acc) (page off inst : Nat) (w : Word) : Option Dev :=
  let acc := accIdx a
  if page = 0x440 then
    (if off = 0x11c then some (if bit w 0 then d.wmReset else d)
     else if off = 0x120 then some ((d.wr R.SHD_SHD_LOW_TH 0 (w &&& 0xffffff)).poolChanged)
     else none)
  else if page = 0x500 then
    (if off = 0x114 then some (d.winEntryW acc w)
     else if off = 0x130 then some (d.xingEntryW acc w)
     else if off = 0x158 then some (if bit w 0 then d.routeLogClear else d)
     else none)
  else if page = 0x700 then
    (if off = 0x110 then some (if bit w 0 then d.loftInit else d)
     else if off = 0x138 then some (d.pinEntryW acc w)
     else if off = 0x148 then some (d.ctxOp a (fld w 2 0))
     else if off = 0x170 then some (if bit w 0 then d.rfClear else d)
     else if off = 0x210 then some (if bit w 0 then d.portGenAdv inst else d)
     else none)
  else if page = 0x780 then
    (if off = 0x118 then some (if bit w 0 then d.trapPop else d)
     else if off = 0x128 then some (if bit w 0 then d.trapGo a else d)
     else if off = 0x214 then some (d.sliceCtrl inst w)
     else if off = 0x30c then some (d.dlgSize inst w)
     else if off = 0x31c then
      (let d := if bit w 0 then d.dlgFilterClear inst else d
       some (if bit w 1 then d.dlgSync inst else d))
     else none)
  else if page = 0x800 then (if off = 0x418 then some (if bit w 0 then d.idecRecommit (inst - 0x200) else d) else none)
  else if page = 0x900 then
    (if off = 0x148 then some (if bit w 0 then d.pelClear else d)
     else if off = 0x218 then
      (let d := if bit w 0 then d.winUntaint inst else d
       some (if bit w 1 then d.winFlush inst else d))
     else none)
  else if page = 0xa00 then
    (if off = 0x208 then
      (let d := d.wr R.DMA_CH_CFG inst (w &&& 0x13f07)
       some ((if bit w 16 then d else d.chPace inst false).chRun inst))
     else if off = 0x20c then some (d.pairWrite page inst off w)
     else if off = 0x210 ∨ off = 0x214 then
      some (if d.chState inst = 0 then d.wr ⟨page, off⟩ inst (if off = 0x210 then w &&& 0xffffffe0 else w) else d)
     else if off = 0x218 then some (d.chRingSize inst w.toNat)
     else if off = 0x21c then some (d.chTail inst w.toNat)
     else if off = 0x228 then some (d.chCtrlW inst w)
     else if off = 0x22c then some (if bit w 5 then d.wf R.DMA_CH_STATUS inst 5 5 0 else d)
     else none)
  else if page = 0xb00 then
    (if 0x280 ≤ off ∧ off < 0x2c0 then some (d.gateW inst ((off - 0x280) / 4) w)
     else if 0x404 ≤ off ∧ off < 0x424 then
      some (d.pairWrite page inst off (w &&& if (off - 0x404) % 8 = 0 then 0x1fffff else 0xfff))
     else if off = 0x504 then some (d.pairWrite page inst off (w &&& 0x1fffff))
     else if off = 0x508 then some (d.pairWrite page inst off (w &&& 0xfff))
     else none)
  else none

/-- A write of a register that the accessor may write, with the pages whose PLOCK is set. -/
def Dev.regWrite (d : Dev) (lk : List Nat) (a : Acc) (page off inst : Nat) (w : Word) (x : Ext) : List Nat × Dev :=
  if d.windowZero page off inst then (lk, d)
  else if page = 0x600 ∧ off = 0x124 then (lk, d.permW lk (accIdx a) w)
  else if off < 0x100 ∨ 0xf00 ≤ off then
    (if off = 0x28 ∧ bit w 31 ∧ !lk.contains page then lk ++ [page] else lk, d.commonWrite a page off inst w)
  else
    (lk, ((d.systemWrite a page off inst w x) <|> (d.portWrite a page off inst w) <|> (d.coreWrite a page off inst w)).getD
      (d.plainWrite lk a page off inst w))

end Sys2Proof.Machine
end

