-- ==== Sys2Proof/Machine/Mgmt.lean ====
section
/-! DEFINITION. Accesses to the management space (R31–R34, R52, R249–R256, R377): single words and blocks, by every accessor, and
the commands that make them. -/

namespace Sys2Proof.Machine

/-- The state after a command that may set page locks. -/
def State.effL (s : State) (f : List Nat → Dev → List Nat × Dev) : Host.Outcome State Fault Refusal :=
  let r := f s.plock s.dev
  State.eff { s with plock := r.1 } fun _ => r.2

/-- No hardware fault, no signature and no flash answer with an access. -/
def Ext.none : Ext := ⟨false, false, []⟩

/-! ### One word -/

/-- The decision on the first word of a block access, by PERM and ownership (R256). DEDUCED: log entry 18. -/
def Dev.blockGrant (d : Dev) (a : Acc) (page off : Nat) (wr : Bool) : Bool :=
  let c := d.accClass a
  if !pagePopulated page then true
  else if sealedReg page off || !hasReg page off then
    d.perm c page wr && (c != 4 || d.dbgAuth || page == 0x15 || (page == 0 && !wr))
  else d.accessDec a page off wr != .deny

/-- What becomes of a word: of a single access, or of a block access with the decision of its first word; sealing holds for
every word. -/
def Dev.wordDec (d : Dev) (a : Acc) (page off : Nat) (wr : Bool) (block : Option Bool) : Dec :=
  match block with
  | none => d.accessDec a page off wr
  | some g =>
    if pagePopulated page && sealedReg page off then d.accessDec a page off wr
    else if !pagePopulated page || !hasReg page off then .void
    else if !g then .deny
    else if winKind page off ≠ .none then
      (if d.selInvalid a page then .invalid else if winKind page off ≠ selKind page (d.sel (accIdx a) page) then .void else .ok)
    else if off = 0x028 ∧ wr ∧ (page = 0 ∨ (0x100 ≤ page ∧ page ≤ 0x10f) ∨ page = 0x200 ∨ page = 0x300) ∧ d.selInvalid a page then .invalid
    else .ok

/-- A partial or misaligned access (R32). -/
def partialAcc (addr be : Nat) : Bool := addr % 4 != 0 || be % 16 != 15

/-- An access of an accessor that is carried out elsewhere (R52): all but those to the SEL register of page 0. -/
def Dev.elsewhere (d : Dev) (a : Acc) (addr : Nat) : Option Nat := if addr = 0xc0 then none else d.carriedTo a

/-- Write one word. DEDUCED: log entry 18. -/
def Dev.writeWord (d : Dev) (lk : List Nat) (a : Acc) (addr be : Nat) (w : Word) (x : Ext) (block : Option Bool) : List Nat × Dev :=
  let page := addr / 4096
  let off := addr % 4096
  if partialAcc addr be then (lk, if pagePopulated page then d.sticky (accIdx a) page 2 else d)
  else match d.elsewhere a addr with
    | some m => (lk, d.carry a m addr (some w))
    | none =>
      if x.disagree && pagePopulated page then (lk, d.disagreed a page)
      else match d.bothDecide fun d => d.wordDec a page off true block with
        | none => (lk, d.disagreed a page)
        | some .deny => (lk, d.denied a page off true)
        | some .void | some .invalid => (lk, d)
        | some .ok => d.regWrite lk a page off (d.instOf a page off) w x

/-- Read one word of this device. DEDUCED: log entry 18. -/
def Dev.readWord (d : Dev) (lk : List Nat) (a : Acc) (addr be : Nat) (x : Ext) (block : Option Bool) : Word × Dev :=
  let page := addr / 4096
  let off := addr % 4096
  if partialAcc addr be then (0, if pagePopulated page then d.sticky (accIdx a) page 2 else d)
  else if x.disagree && pagePopulated page then (0, d.disagreed a page)
  else match d.bothDecide fun d => d.wordDec a page off false block with
    | none => (0, d.disagreed a page)
    | some .deny => (0, d.denied a page off false)
    | some .void | some .invalid => (0, d)
    | some .ok => d.regRead lk a page off (d.instOf a page off)

/-! ### Accesses of one or more words (R256) -/

/-- An access of n words is a block access: the privileged core and the debug port alone issue them. -/
def Dev.isBlock (d : Dev) (a : Acc) (n : Nat) : Bool := decide (2 ≤ n) && (d.accClass a == 2 || d.accClass a == 4)

/-- The decision that the words of a block share, and the count of page crossings. DEDUCED: log entry 18. -/
def Dev.blockStart (d : Dev) (a : Acc) (addr n : Nat) (wr : Bool) : Option Bool × Dev :=
  if d.isBlock a n && (d.carriedTo a).isNone then
    (some (d.blockGrant a (addr / 4096) (addr % 4096) wr),
      if addr / 4096 ≠ (addr + 4 * n - 4) / 4096 then d.bump R.ISO_XPAGE_CNT else d)
  else (none, d)

/-- An accessor makes an access of n words. -/
def Dev.accessible (d : Dev) (a : Acc) (n : Nat) : Bool := d.canAccess a && n != 0 && (!d.isBlock a n || decide (n ≤ 64))

/-- Write words at ascending addresses. DEDUCED: log entry 18. -/
def Dev.accWrite (d : Dev) (lk : List Nat) (a : Acc) (addr be : Nat) (data : List Word) (x : Ext) : List Nat × Dev :=
  if !d.accessible a data.length then (lk, d)
  else
    let (blk, d) := d.blockStart a addr data.length true
    (data.zipIdx).foldl (fun (r : List Nat × Dev) e => r.2.writeWord r.1 a (addr + 4 * e.2) be e.1 x blk) (lk, d)

/-- Read words of this device at ascending addresses. DEDUCED: log entry 18. -/
def Dev.accRead (d : Dev) (lk : List Nat) (a : Acc) (addr be n : Nat) (x : Ext) : List Word × Dev :=
  let (blk, d) := d.blockStart a addr n false
  (List.range n).foldl (fun (r : List Word × Dev) k =>
    let (v, d) := r.2.readWord lk a (addr + 4 * k) be x blk
    (r.1 ++ [v], d)) ([], d)

/-- A load of words: answered now, or, one word at a time, when the member that they are read on answers. -/
def Dev.accLoad (d : Dev) (lk : List Nat) (a : Acc) (addr be n : Nat) (x : Ext) : Dev :=
  if !d.accessible a n then d
  else match d.elsewhere a addr with
    | some m =>
      if partialAcc addr be then (d.sticky (accIdx a) (addr / 4096) 2).emit (.reply (accIdx a) (List.replicate n 0))
      else (List.range n).foldl (fun d k => d.carry a m (addr + 4 * k) none) d
    | none =>
      let (l, d) := d.accRead lk a addr be n x
      d.emit (.reply (accIdx a) l)

/-- REGISTER_WRITE (R31–R34, R38, R62, R251, R256): a write of one or more words with byte enables `be`; with `load` an access of
the same form that reads (the loads of the Enruez core have no row of their own). -/
def execRegisterWrite (a : Acc) (load : Bool) (addr be : Nat) (data : List Word) (x : Ext) (s : State) : Host.Outcome State Fault Refusal :=
  s.effL fun lk d => if load then (lk, d.accLoad lk a addr be data.length x) else d.accWrite lk a addr be data x

/-! ### Registers with a row of their own -/

/-- A write of one word by an accessor to a register. -/
def State.poke (s : State) (a : Acc) (addr : Nat) (w : Word) : Host.Outcome State Fault Refusal :=
  s.effL fun lk d => d.accWrite lk a addr 15 [w] Ext.none

/-- A read of one word by an accessor. -/
def State.peek (s : State) (a : Acc) (addr : Nat) : Host.Outcome State Fault Refusal :=
  s.effL fun lk d => (lk, d.accLoad lk a addr 15 1 Ext.none)

/-- SEL_WRITE (R49–R52): a write of SEL of a page. -/
def execSelWrite (a : Acc) (page : Nat) (data : Word) (s : State) : Host.Outcome State Fault Refusal := s.poke a (4096 * page + 0xc0) data

/-- UNIT_CHILD_WRITE (R42): a write of the child cursor of a page. -/
def execUnitChildWrite (a : Acc) (page : Nat) (data : Word) (s : State) : Host.Outcome State Fault Refusal :=
  s.poke a (4096 * page + 0x1c) data

/-- TAL_LO_READ (R45): a read of TALn_LO of a page. -/
def execTalLoRead (a : Acc) (page n : Nat) (s : State) : Host.Outcome State Fault Refusal :=
  if n < 8 then s.peek a (4096 * page + 0xf00 + 16 * n) else s.eff id

/-- PLOCK_SET (R46, R47): a write of UNIT_CTRL with PLOCK set. -/
def execPlockSet (a : Acc) (page : Nat) (data : Word) (s : State) : Host.Outcome State Fault Refusal :=
  s.poke a (4096 * page + 0x28) (data ||| 0x80000000)

/-- PD_CLEAR (R198): a write of PD_CTRL.CLEAR of the selected port. -/
def execPdClear (a : Acc) (s : State) : Host.Outcome State Fault Refusal := s.poke a 0x206100 1

/-- WM_RESET (R197): a write of SHD_CTRL.WM_RESET. -/
def execWmReset (a : Acc) (s : State) : Host.Outcome State Fault Refusal := s.poke a 0x44011c 1

/-- WIN_ENTRY_WRITE (R213): a write of WIN_W3. -/
def execWinEntryWrite (a : Acc) (data : Word) (s : State) : Host.Outcome State Fault Refusal := s.poke a 0x500114 data

/-- WIN_ENTRY_READ (R213): a read of WIN_W0. -/
def execWinEntryRead (a : Acc) (s : State) : Host.Outcome State Fault Refusal := s.peek a 0x500108

/-- XING_ENTRY_WRITE (R214): a write of XING_W3. -/
def execXingEntryWrite (a : Acc) (data : Word) (s : State) : Host.Outcome State Fault Refusal := s.poke a 0x500130 data

/-- RULE_ENTRY_WRITE (R236): a write of RULE_W3. -/
def execRuleEntryWrite (a : Acc) (data : Word) (s : State) : Host.Outcome State Fault Refusal := s.poke a 0x600114 data

/-- PERM_DATA_WRITE (R250, R257): a write of PERM_DATA. -/
def execPermDataWrite (a : Acc) (data : Word) (s : State) : Host.Outcome State Fault Refusal := s.poke a 0x600124 data

/-- ERR_LOG_CLEAR (R217): a write of ERR_CTRL.CLEAR on RTE. -/
def execErrLogClear (a : Acc) (s : State) : Host.Outcome State Fault Refusal := s.poke a 0x500158 1

/-- FLT_CLEAR (R244): a write of FLT_CTRL.CLEAR. -/
def execFltClear (a : Acc) (s : State) : Host.Outcome State Fault Refusal := s.poke a 0x600148 1

/-- FLT_W0_READ (R244): a read of FLT_W0. -/
def execFltW0Read (a : Acc) (s : State) : Host.Outcome State Fault Refusal := s.peek a 0x60012c

/-- PIN_ENTRY_WRITE (R266): a write of PIN_W1. -/
def execPinEntryWrite (a : Acc) (data : Word) (s : State) : Host.Outcome State Fault Refusal := s.poke a 0x700138 data

/-- VSLOT_DATA_WRITE (R402, R420): a write of VSLOT_DATA. -/
def execVslotDataWrite (a : Acc) (data : Word) (s : State) : Host.Outcome State Fault Refusal := s.poke a 0x205194 data

/-! ### Remote accesses (R52) -/

/-- REMOTE_ACCESS (R52): an access of an accessor whose SEL of page 0 names another member, on the head. -/
def execRemoteAccess (a : Acc) (load : Bool) (addr be : Nat) (data : Word) (s : State) : Host.Outcome State Fault Refusal :=
  s.effL fun lk d =>
    if (d.elsewhere a addr).isNone then (lk, d)
    else if load then (lk, d.accLoad lk a addr be 1 Ext.none)
    else d.accWrite lk a addr be [data] Ext.none

/-- REMOTE_ANSWER (R52): a member answers the oldest remote read of an accessor. -/
def execRemoteAnswer (member acc : Nat) (data status : Word) (s : State) : Host.Outcome State Fault Refusal := s.eff fun d =>
  match d.mgt.remote.find? fun e => e.1 == acc with
  | some e => if e.2.1 = member then d.remoteEnd acc data status else d
  | none => d

/-- REG_ACCESS (R52, R60, R225): a control message with a remote access, its answer, the call of a member for a yard commit that
carries its configuration write, or a group's values: staged, about to be committed, discarded. The message's words are the model's (log entry 9). DESIGN CHOICE: log entry 36. -/
def execRegAccess (src : Nat) (msg : List Nat) (x : Ext) (s : State) : Host.Outcome State Fault Refusal := s.effL fun lk d =>
  let v (k : Nat) : Nat := msg.getD k 0
  if !d.yardEn || msg.headD 0 ≠ 2 then (lk, d)
  else if v 1 = 0 then
    let a := Acc.remote (v 4) (v 5)
    if src ≠ d.headNo || !d.canAccess a then (lk, d)
    else if v 3 = 1 then d.accWrite lk a (v 6) 15 [word (v 7)] x
    else
      let (w, d) := d.readWord lk a (v 6) 15 x none
      (lk, d.ctlSend src [2, 1, v 2, w.toNat, (d.selStatusOf a (v 6 / 4096)).toNat])
  else if v 1 = 1 then
    (lk, match d.mgt.remote.find? fun e => e.1 == v 2 with
      | some e => if e.2.1 = src then d.remoteEnd (v 2) (word (v 3)) (word (v 4)) else d
      | none => d)
  else if v 1 = 2 then (lk, d.cfgCarried)
  else if src ≠ d.headNo || d.isHead then (lk, d)
  else if v 1 = 3 then (lk, d.fanStage 67 (fanVia (v 2)) (d.fanUnits .device) (word (v 3)))
  else if v 1 = 4 then (lk, { d with yard := { d.yard with group := some (v 2, v 3 == 1, msg.drop 4) } })
  else if v 1 = 5 then (lk, d.fanDrop 67 (v 2))
  else (lk, d)

/-! ### Golbuent messages (R478) -/

/-- A message of type 0x7E reaches the hardware on a path: served on the SMBus, discarded and counted on PCIe (R477). DESIGN CHOICE: log
entry 66. -/
def Dev.golbuent (d : Dev) (lk : List Nat) (path : Nat) (ok : Bool) (code : Nat) (none : List Nat)
    (f : Dev → List Nat × Dev) : List Nat × Dev :=
  if !d.pathUp path then (lk, d)
  else if path ≠ 0 then (lk, d.mctpErr)
  else if !ok then (lk, d.emit (.msg 0 code (1 :: none)))
  else if d.mgt.remote.any fun e => e.1 == 65 then (lk, d.emit (.msg 0 code (2 :: none)))
  else f d

/-- READ (R478): the Golbuent READ command; `ok` false of a malformed one. A remote read is answered when its member answers. -/
def execRead (path : Nat) (ok : Bool) (addr : Nat) (x : Ext) (s : State) : Host.Outcome State Fault Refusal := s.effL fun lk d =>
  d.golbuent lk path ok 0x7e01 [0, 0] fun d =>
    match (if partialAcc addr 15 then none else d.elsewhere .smbus addr) with
    | some m => (lk, d.carry .smbus m addr none)
    | none =>
      let (w, d) := d.readWord lk .smbus addr 15 x none
      (lk, d.emit (.msg 0 0x7e01 [0, w.toNat, (d.selStatusOf .smbus (addr / 4096)).toNat]))

/-- WRITE (R478): the Golbuent WRITE command. -/
def execWrite (path : Nat) (ok : Bool) (addr : Nat) (data : Word) (x : Ext) (s : State) : Host.Outcome State Fault Refusal :=
  s.effL fun lk d =>
    d.golbuent lk path ok 0x7e02 [0] fun d =>
      let (lk, d) := d.accWrite lk .smbus addr 15 [data] x
      (lk, d.emit (.msg 0 0x7e02 [0, (d.selStatusOf .smbus (addr / 4096)).toNat]))

/-- DBG_ACCESS (R481, R255, R256): the JTAG instruction that reads or writes words as accessor 66. -/
def execDbgAccess (load : Bool) (addr : Nat) (data : List Word) (x : Ext) (s : State) : Host.Outcome State Fault Refusal :=
  s.effL fun lk d => if load then (lk, d.accLoad lk .debug addr 15 data.length x) else d.accWrite lk .debug addr 15 data x

end Sys2Proof.Machine
end

