-- ==== Sys2Proof/Machine/Kci.lean ====
section
/-! DEFINITION. The Kolholt configuration image (R472, R473): its records, as the boot ROM applies them. -/

namespace Sys2Proof.Machine

/-- The CRC-32C register after a word of a record, low byte first. -/
def crcWord (c w : Nat) : Nat :=
  (List.range 4).foldl (fun c i => (List.range 8).foldl (fun c _ => crcStep c) (c ^^^ (w / 256 ^ i % 256))) c

/-- Application stops at record `i` (R473): the firmware starts. -/
def Dev.kciFail (d : Dev) (i : Nat) : Dev :=
  let d := { d with boot := { d.boot with comWait := none, waitEnd := none } }
  (((d.wf R.BOOT_BOOT_STATUS 0 2 0 3).wf R.BOOT_BOOT_STATUS 0 31 16 (i % 65536)).raise 0x003).bootLog 2 [i] |>.bootLog 1 [3] |>.fwStart

/-- The outcome of the COMMIT record in progress, once it is done: `none` while it is not. -/
def Dev.kciCommitted (d : Dev) : Option Bool := match d.boot.comWait with
  | none => some true
  | some page => if d.commitBusy 64 page then none else some (d.staging.lastErr.getD page 0 % 256 == 0)

/-- A record of the KCI: the next one in order, while the boot ROM applies the image and no earlier record is in progress. `words`
are the header word and the payload; `f` is the action, which tells whether the record succeeds. DEDUCED: log entry 64. -/
def Dev.kciRec (d : Dev) (lk : List Nat) (poll : Bool) (words : List Nat) (f : Dev → List Nat × Dev × Bool) : List Nat × Dev :=
  if d.boot.phase != .kci || d.pwr.perst || d.pwr.off || d.boot.coresDown || (d.boot.waitEnd.isSome && !poll) then (lk, d)
  else match d.kciCommitted with
    | none => (lk, d)
    | some false => (lk, d.kciFail (d.boot.nextRec - 1))
    | some true =>
      let d := { d with boot := { d.boot with comWait := none } }
      let (lk', d', ok) := f d
      if d'.boot.waitEnd.isSome then (lk', d')
      else if ok then
        (lk', { d' with boot := { d'.boot with nextRec := d.boot.nextRec + 1, crc := words.foldl crcWord d.boot.crc } })
      else (lk', d'.kciFail d.boot.nextRec)

/-- A register write and a register read of the ROM. -/
def Dev.romWrite (d : Dev) (lk : List Nat) (addr : Nat) (w : Word) : List Nat × Dev := d.accWrite lk (.core true) addr 15 [w] Ext.none
def Dev.romRead (d : Dev) (lk : List Nat) (addr : Nat) : Word × Dev := d.readWord lk (.core true) addr 15 Ext.none none

/-- KCI_WRITE (R472). -/
def execKciWrite (addr : Nat) (data : Word) (s : State) : Host.Outcome State Fault Refusal := s.effL fun lk d =>
  d.kciRec lk false [0x00020001, addr, data.toNat] fun d =>
    let (lk, d) := d.romWrite lk addr data
    (lk, d, true)

/-- KCI_RMW (R472). -/
def execKciRmw (addr : Nat) (mask data : Word) (s : State) : Host.Outcome State Fault Refusal := s.effL fun lk d =>
  d.kciRec lk false [0x00030002, addr, mask.toNat, data.toNat] fun d =>
    let (old, d) := d.romRead lk addr
    let (lk, d) := d.romWrite lk addr (old &&& ~~~mask ||| data &&& mask)
    (lk, d, true)

/-- KCI_SEL_WRITE (R472). -/
def execKciSelWrite (addr : Nat) (sel data : Word) (s : State) : Host.Outcome State Fault Refusal := s.effL fun lk d =>
  d.kciRec lk false [0x00030003, addr, sel.toNat, data.toNat] fun d =>
    let (lk, d) := d.romWrite lk (addr / 4096 * 4096 + 0xc0) sel
    let (lk, d) := d.romWrite lk addr data
    (lk, d, true)

/-- KCI_COMMIT (R472): the next record waits until the commit is done. On a yard member, RTE and ISO values stay staged. -/
def execKciCommit (page : Nat) (s : State) : Host.Outcome State Fault Refusal := s.effL fun lk d =>
  d.kciRec lk false [0x00010004, page] fun d =>
    if inGroup page ∧ d.yardEn then (lk, d, true)
    else
      let (lk, d) := d.romWrite lk (4096 * page + 0x80) 1
      if d.commitBusy 64 page then (lk, { d with boot := { d.boot with comWait := some page } }, true)
      else (lk, d, d.staging.lastErr.getD page 0 % 256 == 0)

/-- KCI_WAIT (R472): one poll; `expired` is the last one, at the end of TIMEOUT_US. -/
def execKciWait (addr : Nat) (mask value : Word) (timeoutUs : Nat) (expired : Bool) (s : State) : Host.Outcome State Fault Refusal :=
  s.effL fun lk d =>
    d.kciRec lk true [0x00040005, addr, mask.toNat, value.toNat, timeoutUs] fun d =>
      let ends := d.boot.waitEnd.getD (d.now + 1000 * timeoutUs)
      let d := if expired then d.advanceTo ends else d
      let (w, d) := d.romRead lk addr
      let stop (d : Dev) : Dev := { d with boot := { d.boot with waitEnd := none } }
      if w &&& mask = value then (lk, stop d, true)
      else if timeoutUs = 0 ∨ ends ≤ d.now then (lk, stop d, false)
      else (lk, { d with boot := { d.boot with waitEnd := some ends } }, true)

/-- KCI_DELAY (R472). -/
def execKciDelay (us : Nat) (s : State) : Host.Outcome State Fault Refusal := s.effL fun lk d =>
  d.kciRec lk false [0x00010006, us] fun d => (lk, d.advanceTo (d.now + 1000 * us), true)

/-- KCI_YARD (R472, R474). -/
def execKciYard (cfg : Word) (s : State) : Host.Outcome State Fault Refusal := s.effL fun lk d =>
  d.kciRec lk false [0x00010007, cfg.toNat] fun d =>
    let (lk, d) := d.romWrite lk 0x110 cfg
    (lk, d, true)

/-- KCI_END (R472, R473): END with a right CRC completes the KCI. `bad`: the next record is none of R472, its LEN does not match,
or KCI_LEN ends without END. -/
def execKciEnd (crc : Nat) (bad : Bool) (s : State) : Host.Outcome State Fault Refusal := s.effL fun lk d =>
  d.kciRec lk false [0x000100ff, crc] fun d =>
    if bad ∨ crc ≠ d.boot.crc ^^^ 0xffffffff then (lk, d, false) else (lk, d.kciComplete, true)

end Sys2Proof.Machine
end

