-- ==== Sys2Proof/Machine/Timers.lean ====
section
/-! DEFINITION. Periodic work of the scheduler and the shed (R199, R357, R367), and the loss of a link that its port engine
reports (R191). -/

namespace Sys2Proof.Machine

/-- CELL_CENSUS (R199): at the next whole millisecond of device time the shed counts its cells; `mismatch` is a fault of the
hardware, found by the count. DEDUCED: log entry 56. -/
def execCellCensus (mismatch : Bool) (s : State) : Host.Outcome State Fault Refusal := s.eff fun d =>
  let d := d.advanceTo ((d.now / 1000000 + 1) * 1000000)
  if mismatch then (d.raise 0x482).fault 0x13 none none none (d.unitRef (.block 0x440)) 0 else d

/-- SHAPER_REFILL (R357): at the next multiple of 64 ns every enabled shaper is refilled. -/
def execShaperRefill (s : State) : Host.Outcome State Fault Refusal := s.eff fun d =>
  let d := d.advanceTo ((d.now / 64 + 1) * 64)
  ((d.listed R.SCH_SH_CFG).filter fun e => bit e.2 0).foldl (fun d e => d.shRefill (e.1 - 0x1000)) d

/-- QUEUE_STALL (R367): STALL_US µs have passed since a stable with a TLP queued at a port was last selected there, or queued its
first; raised once until the next selection. DEDUCED: log entry 56. -/
def execQueueStall (port stable : Nat) (s : State) : Host.Outcome State Fault Refusal := s.eff fun d =>
  let us := d.rf R.SCH_SCH_CTRL 0 15 0
  let since := d.sched.lastSel.getD (port * 128 + stable) 0
  let done := d.sched.stalled.getD port 0
  match (d.queueOf port).find? fun i => i.flow == stable with
  | none => d
  | some i =>
    if us = 0 ∨ 64 ≤ stable ∨ since = 0 ∨ done.testBit stable then d
    else
      let d := d.advanceTo (since - 1 + 1000 * us)
      let d := { d with sched := { d.sched with stalled := Tbl.put d.sched.stalled port 0 (done + 2 ^ stable) } }
      d.schEvent 3 port stable i.tlp.tc 0

/-- DL_DOWN (R191): the port engine of a PCIe or CXL port reports DL_Down; `surprise` where neither end asked for it, and `acked`
of the oldest TLPs in the replay buffer have been acknowledged. -/
def execDlDown (port : Nat) (surprise : Bool) (acked : Nat) (s : State) : Host.Outcome State Fault Refusal := s.eff fun d =>
  if 128 ≤ port ∨ d.isFabric port ∨ !d.dlUp port then d
  else
    let rep := (d.path.replay.getD port []).drop acked
    ({ d with path := { d.path with replay := Tbl.put d.path.replay port [] rep } }).dlDownAt port 1 surprise true

end Sys2Proof.Machine
end

