-- ==== Sys2Proof/Machine/ConfigOps.lean ====
section
/-! DEFINITION. Configuration requests to the functions of a virtual hierarchy (R202, R203, R401–R405, R417), and the host's HDM
decoders (R298). -/

namespace Sys2Proof.Machine

/-! ### Configuration requests -/

def isCfg (t : Tlp) : Bool := t.kind == .cfgRd || t.kind == .cfgWr

/-- The oldest configuration request handed to P130. -/
def Dev.cfgHead (d : Dev) : Option Item :=
  if d.failsafe then none else d.path.inbox.find? fun i => i.prim.dest == .func && isCfg i.tlp

/-- The word that a write carries. -/
def dataWord (l : List Byte) : Word := word (numOf (l.take 4))

/-- Serve a configuration request of stable s that P130 has taken up (R401): UR where nothing is populated, retry while the
function is not ready, a read's data, or a write's effect; the completion of a write to a routing field waits for its commit. -/
def Dev.cfgServe (d : Dev) (i : Item) (s : Nat) : Dev :=
  let t := i.tlp
  let answer (d : Dev) (status : Nat) : Dev := d.completeStatus t (some s) i.ingress 130 .mgmt status
  match d.cfgFn s t with
  | none => answer d 1
  | some fn =>
    let dw := t.reg / 4
    if d.fnBusy s fn then (answer d 2).bump R.PRT5_CNT_RRS s (some s)
    else if t.kind = .cfgRd then
      d.completeData t (some s) i.ingress 130 .mgmt t.addr (bytesOf 4 (d.cfgRead s fn dw s).toNat)
    else if t.ep then answer d 1
    else if isRouting fn dw t.fbe then
      let c : CfgWait := ⟨s, t.rid, t.tag⟩
      let x := d.cfgStg s fn dw t.fbe (dataWord t.data)
      ({ d with fn := { d.fn with cfgWait := d.fn.cfgWait ++ [(c, t, i.ingress)] } }).commitCfg x c
    else answer (d.cfgPlain s fn dw t.fbe (dataWord t.data)) 0

/-- Take the oldest configuration request if the predicate selects it, match it against its ledger entry, and serve it. -/
def Dev.cfgTake (d : Dev) (p : Dev → Item → Nat → Bool) : Dev :=
  match d.cfgHead with
  | none => d
  | some i =>
    match i.stb with
    | none => d
    | some s =>
      if !p d i s then d
      else
        let d := { d with path := { d.path with inbox := d.path.inbox.erase i } }
        let (d, ok) := d.ledgerAnswer i 130
        if ok then d.cfgServe i s else d

/-- The request is a write of a routing field that is carried out. -/
def Dev.routingWrite (d : Dev) (i : Item) (s : Nat) : Bool :=
  i.tlp.kind == .cfgWr && match d.cfgFn s i.tlp with
    | some fn => isRouting fn (i.tlp.reg / 4) i.tlp.fbe && !d.fnBusy s fn
    | none => false

/-- CONFIG_REQUEST (R401, R417): the oldest configuration request handed to P130 is served. PRESUMED: log entry 28. DEDUCED: log entry 59.
-/
def execConfigRequest (s : State) : Host.Outcome State Fault Refusal := s.eff fun d => d.cfgTake fun _ _ _ => true

/-- ROUTING_FIELD_WRITE (R202): a host's write of a routing field is adopted as a commit of the group, at the head of a yard as
a yard commit, before its completion is returned. -/
def execRoutingFieldWrite (s : State) : Host.Outcome State Fault Refusal := s.eff fun d =>
  d.cfgTake fun d i st => (!d.yardEn || d.isHead) && d.routingWrite i st

/-- ROUTING_FIELD_FORWARD (R203): on a member that is not the head the write is carried to the head; it completes with UR while
the head is lost. -/
def execRoutingFieldForward (s : State) : Host.Outcome State Fault Refusal := s.eff fun d =>
  d.cfgTake fun d i st => d.yardEn && !d.isHead && d.routingWrite i st

/-! ### HDM decoders of a host (R298) -/

/-- A decoder of a vCS whose commit waits to be adopted. -/
def Dev.hdmWaits (d : Dev) (s k : Nat) : Bool :=
  let mine (x : Stg) : Bool := x.page == 0x1000 && x.inst == hdmInst s k && x.off == 16 && bit x.val 10
  d.staging.held.any (fun h => h.set.any mine) || d.yard.forwarded.any (fun e => mine e.2) || d.yard.snapshot.any mine

/-- A decoder in force, or on its way. -/
def Dev.hdmTaken (d : Dev) (s k : Nat) : Bool := d.hdmOn s k || d.hdmWaits s k

/-- The conditions under which a commit sets Error Not Committed; `ctl` the control value written. DEDUCED: log entry 26. -/
def Dev.hdmBad (d : Dev) (s k : Nat) (ctl : Word) : Bool :=
  let base := d.hdmBase s k
  let size := d.hdmSize s k
  let others := (List.range 8).filter fun j => j != k && d.hdmTaken s j
  let ways := 2 ^ fld ctl 7 4
  base % 268435456 != 0 || size % 268435456 != 0 || decide (3 < fld ctl 7 4) || decide (6 < fld ctl 3 0) ||
  (others.any fun j => decide (base < d.hdmBase s j + d.hdmSize s j) && decide (d.hdmBase s j < base + size)) ||
  (others.any fun j => decide (base < d.hdmBase s j)) ||
  (List.range (min ways 8)).any fun i => !d.isVppb s (d.hdmTarget s k i)

/-- A write of a decoder's control register. Commit = 1 is adopted as a commit of the group on behalf of the host, or sets Error
Not Committed; Commit = 0 ends a decoder that is not locked. DEDUCED: log entry 26. -/
def Dev.hdmCtl (d : Dev) (s k : Nat) (w : Word) : Dev :=
  let i := hdmInst s k
  let old := d.rd hdmAttr i
  let ctl := word (w.toNat % 1024)
  if d.hdmWaits s k then d
  else if d.hdmOn s k then
    (if bit ctl 9 ∨ bit old 8 then d else d.commitFields s [⟨s, 0x500, 0x1000, i, 16, ctl⟩])
  else if !bit ctl 9 then d.wr hdmAttr i ctl
  else if d.hdmBad s k ctl then (d.wr hdmAttr i (ctl ||| 0x800)).cxpEvent 3 ((d.upPort s).getD 0) 0 0 [s]
  else (d.wr hdmAttr i ctl).commitFields s [⟨s, 0x500, 0x1000, i, 16, ctl ||| 0x400⟩]

/-- A write of another register of a decoder: ignored while it is committed. DEDUCED: log entry 26. -/
def Dev.hdmField (d : Dev) (s k off : Nat) (w : Word) : Dev :=
  if d.hdmTaken s k then d else d.wr ⟨0x1000, off⟩ (hdmInst s k) w

/-- HDM_DECODER_COMMIT (R298): the host of a stable writes the control register of a decoder of its vCS with Commit set. DEDUCED: log
entry 26. -/
def execHdmDecoderCommit (stable dec : Nat) (control : Word) (s : State) : Host.Outcome State Fault Refusal := s.eff fun d =>
  if 64 ≤ stable ∨ 8 ≤ dec ∨ d.barSize stable 0 4 = 0 then d else d.hdmCtl stable dec (control ||| 0x200)

end Sys2Proof.Machine
end

