-- ==== Sys2Proof/Machine/Select.lean ====
section
/-! DEFINITION. The selection of a TLP at an egress port (R352, R13), and the memory requests to function BARs that P130 serves
once selected: the management space (R32, R406), the MSI-X table (R407) and the CXL component registers (R298). -/

namespace Sys2Proof.Machine

/-- The byte enables of DW k of a request. -/
def dwBe (t : Tlp) (k : Nat) : Nat :=
  if k = 0 then t.fbe else if k + 1 = dwLen t then t.lbe else 15

/-- DW k of a write's data. -/
def dwData (t : Tlp) (k : Nat) : Word := word (numOf ((t.data.drop (4 * k)).take 4))

/-- A word with the bytes that a write's enables select replaced. -/
def mergeBe (old w : Word) (be : Nat) : Word :=
  let m := beMask be
  word ((old.toNat - (old.toNat &&& m)) + (w.toNat &&& m))

/-! ### BAR0/1 of the control function: the management space (R32, R33, R406) -/

/-- A write, one access per DW in ascending order. -/
def Dev.bar0Write (d : Dev) (lk : List Nat) (s off : Nat) (t : Tlp) (x : Ext) : List Nat × Dev :=
  (List.range (dwLen t)).foldl (fun (r : List Nat × Dev) k =>
    if r.2.accessible (.ctl s) 1 then r.2.writeWord r.1 (.ctl s) (off + 4 * k) (dwBe t k) (dwData t k) x none else r) (lk, d)

/-- The words of a read that this device answers; `none` where another member does. -/
def Dev.bar0Words (d : Dev) (lk : List Nat) (s off : Nat) (t : Tlp) (x : Ext) : List (Option Word) × Dev :=
  (List.range (dwLen t)).foldl (fun (r : List (Option Word) × Dev) k =>
    let a := off + 4 * k
    if !r.2.accessible (.ctl s) 1 then (r.1 ++ [some 0], r.2)
    else if (r.2.elsewhere (.ctl s) a).isSome && !partialAcc a (dwBe t k) then (r.1 ++ [none], r.2)
    else
      let (v, d) := r.2.readWord lk (.ctl s) a (dwBe t k) x none
      (r.1 ++ [some v], d)) ([], d)

/-- A read. Where words come from another member, its completion waits for them (R52). -/
def Dev.bar0Read (d : Dev) (lk : List Nat) (s off : Nat) (i : Item) (x : Ext) : Dev :=
  let (l, d) := d.bar0Words lk s off i.tlp x
  match d.carriedTo (.ctl s) with
  | some m =>
    if l.any Option.isNone then
      let d := { d with mgt := { d.mgt with host := d.mgt.host ++ [⟨s, i.tlp, i.ingress, l⟩] } }
      (l.zipIdx).foldl (fun d e => if e.1.isNone then d.carry (.ctl s) m (off + 4 * e.2) none else d) d
    else d.completeData i.tlp (some s) i.ingress 130 .mgmt (tlo i.tlp) (l.flatMap fun w => bytesOf 4 ((w.getD 0).toNat))
  | none => d.completeData i.tlp (some s) i.ingress 130 .mgmt (tlo i.tlp) (l.flatMap fun w => bytesOf 4 ((w.getD 0).toNat))

/-! ### BAR2/3 of the control function: the MSI-X table and PBA (R406, R407) -/

def Dev.msixRead (d : Dev) (s off : Nat) : Word :=
  let top := d.msixTop s
  if off < 8192 then (if off / 16 ≤ top then d.msixDw s (off / 4) else 0)
  else word (ofBits ((List.range 32).filter fun j =>
    let v := (off - 8192) * 8 + j
    decide (v ≤ top) && d.ev.pba.contains (s, v)))

/-- A write; unmasking a pending vector issues its message. -/
def Dev.msixWrite (d : Dev) (s off be : Nat) (w : Word) : Dev :=
  if 8192 ≤ off ∨ d.msixTop s < off / 16 then d
  else
    let k := off / 4
    let new := mergeBe (d.msixDw s k) w be
    (d.setMsixDw s k (if k % 4 = 0 then word (new.toNat / 4 * 4) else if k % 4 = 3 then word (new.toNat % 2) else new)).msixIssue s (off / 16)

/-! ### BAR0/1 of an upstream switch port with CXL: component registers (R298; layout: log entry 7) -/

/-- The decoder and register offset of an HDM decoder register. -/
def hdmAt (off : Nat) : Option (Nat × Nat) :=
  if 0x1210 ≤ off ∧ off < 0x1310 ∧ (off - 0x1210) % 32 < 28 then some ((off - 0x1210) / 32, (off - 0x1210) % 32) else none

/-- The word of the CXL RAS capability at a register offset (R394). -/
def rasAt (off : Nat) : Option Nat := if 0x1100 ≤ off ∧ off < 0x1158 then some ((off - 0x1100) / 4) else none

/-- A write of a CXL RAS register: the two status registers clear with a 1, the masks and the severity are written. -/
def Dev.rasWrite (d : Dev) (s k be : Nat) (w : Word) : Dev :=
  let old := d.cfg s 3 k
  let m := word ((if k = 1 ∨ k = 2 then 0x1cfff else if k = 4 then 0x7f else 0) &&& beMask be)
  if k = 0 ∨ k = 3 then d.setCfg s 3 k (old &&& ~~~(w &&& word (beMask be)))
  else d.setCfg s 3 k (old &&& ~~~m ||| w &&& m)

def Dev.cxlRegRead (d : Dev) (s off : Nat) : Word :=
  match hdmAt off with
  | some (k, r) => d.rd ⟨0x1000, r⟩ (hdmInst s k)
  | none =>
    if off = 0x1000 then 0x02110001
    else if off = 0x1004 then 0x10020002
    else if off = 0x1008 then 0x20010005
    else if off = 0x1200 then 0x00000184
    else match rasAt off with
      | some k => d.cfg s 3 k
      | none => 0

def Dev.cxlRegWrite (d : Dev) (s off be : Nat) (w : Word) : Dev :=
  match hdmAt off with
  | some (k, r) =>
    let new := mergeBe (d.rd ⟨0x1000, r⟩ (hdmInst s k)) w be
    if r = 16 then d.hdmCtl s k new else d.hdmField s k r new
  | none => (match rasAt off with
    | some k => d.rasWrite s k be w
    | none => d)

/-! ### Requests at P130 -/

/-- Serve a memory request of stable s to a function BAR. Only memory reads and writes have an effect there; a poisoned write is
discarded. PRESUMED: log entry 28. -/
def Dev.barServe (d : Dev) (lk : List Nat) (i : Item) (s : Nat) (x : Ext) : List Nat × Dev :=
  let t := i.tlp
  let n := dwLen t
  let (d, ok) := d.ledgerAnswer i 130
  let fail (d : Dev) : Dev := if tcls t = 1 ∧ ok then d.completeStatus t (some s) i.ingress 130 .mgmt 1 else d
  let words (d : Dev) (f : Nat → Word) : Dev :=
    if ok then d.completeData t (some s) i.ingress 130 .mgmt (tlo t) ((List.range n).flatMap fun k => bytesOf 4 (f (4 * k)).toNat) else d
  let each (d : Dev) (f : Dev → Nat → Nat → Word → Dev) : Dev :=
    (List.range n).foldl (fun d k => f d (4 * k) (dwBe t k) (dwData t k)) d
  match d.funcBar s (tlo t) with
  | none => (lk, fail d)
  | some (fn, bar, off) =>
    if t.kind = .memWr then
      (if t.ep then (lk, d)
       else if fn = 1 ∧ bar = 4 then d.bar0Write lk s off t x
       else if fn = 1 then (lk, each d fun d o be w => d.msixWrite s (off + o) be w)
       else (lk, each d fun d o be w => d.cxlRegWrite s (off + o) be w))
    else if t.kind = .memRd then
      (if fn = 1 ∧ bar = 4 then (lk, if ok then d.bar0Read lk s off i x else d)
       else if fn = 1 then (lk, words d fun o => d.msixRead s (off + o))
       else (lk, words d fun o => d.cxlRegRead s (off + o)))
    else (lk, fail d)

/-- The requests to function BARs handed to P130, oldest first. -/
def Dev.barItems (d : Dev) : List Item := d.path.inbox.filter fun i => i.prim.dest == .func && !isCfg i.tlp

def Dev.barServeAll (d : Dev) (lk : List Nat) (x : Ext) : List Nat × Dev :=
  d.barItems.foldl (fun (r : List Nat × Dev) i =>
    let d := { r.2 with path := { r.2.path with inbox := r.2.path.inbox.erase i } }
    match i.stb with
    | some s => d.barServe r.1 i s x
    | none => (r.1, d)) (lk, d)

/-- EGRESS_SELECTION (R352, R13): the scheduler of a port selects. `credits` are the classes that the partner grants credit
for (bit 0 posted, 1 non-posted, 2 completions), `flt` the fault that stage 8 meets at the TLP (0 none), `x` what an access that
P130 carries out for it meets. A link in L1 leaves it; a link in recovery sends nothing. DEDUCED: log entry 29. -/
def execEgressSelection (port credits flt : Nat) (x : Ext) (s : State) : Host.Outcome State Fault Refusal := s.effL fun lk d =>
  if 131 ≤ port ∨ d.failsafe then (lk, d)
  else
    let d := d.l1Leave port
    let d := if port < 128 ∧ !d.isFabric port then
        { d with sched := { d.sched with noCred := Tbl.put d.sched.noCred port 0 (7 - credits % 8) } } else d
    let d := if d.lstate port = 5 then d else d.egress port flt
    if port = 130 then d.barServeAll lk x else (lk, d)

end Sys2Proof.Machine
end

