-- ==== Sys2Proof/Machine/FmApi.lean ====
section
/-! DEFINITION. The CXL fabric-manager API (R308, R309, R419). The return codes and the contents of answers are the standard's
(log entry 10). -/

namespace Sys2Proof.Machine

/-! ### Commands and their answers (R308) -/

/-- The opcodes of the supported commands. -/
def fmOpcodes : List Nat :=
  [0x0001, 0x0002, 0x0003, 0x0004, 0x5100, 0x5101, 0x5102, 0x5103, 0x5200, 0x5201, 0x5202, 0x5203, 0x5300, 0x5301, 0x5302,
   0x5600, 0x5601, 0x5602, 0x5603, 0x5604, 0x5605]

/-- The management path of a source of FM API messages: accessor 65 over SMBus, or the control function of FM_STABLE over
PCIe VDM. -/
def Dev.fmPath (d : Dev) (a : Acc) : Option Nat :=
  match a with
  | .smbus => some 0
  | .ctl s => if d.fmStable = some s then some 1 else none
  | _ => none

/-- The answer to a command: its code is kept in FMAPI_LAST, and a code other than Success raises FMAPI_ERR. PRESUMED: log entry 10. -/
def Dev.fmEnd (d : Dev) (path op code : Nat) (payload : List Nat) : Dev :=
  let d := d.wn R.CXP_FMAPI_LAST 0 (op % 65536 + 65536 * (code % 65536))
  let d := if code = 0 then d else d.cxpEvent 9 0 0 0 []
  d.emit (.msg path 7 (op :: code :: payload))

/-- A message of the API. One of a refused source is discarded and counted; one that finds no firmware is discarded and counted
by MCTP (R477); one that finds a command in progress returns Busy, unless it is that command's end (`resume`). -/
def Dev.fmApi (d : Dev) (a : Acc) (op : Nat) (resume : Bool) (f : Dev → Nat → Dev) : Dev :=
  match d.fmPath a with
  | none => d.bump R.CXP_FMAPI_CNT_REJ
  | some p =>
    if !d.pathUp p then d
    else if !d.fwRuns then d.mctpErr
    else match d.cxp.fmBusy with
      | none => f d p
      | some b => if resume && b == (p, op) then f d p else d.fmEnd p op 6 []

/-- A command that is answered at once: its code and payload, and the device after it. -/
def Dev.fmNow (d : Dev) (a : Acc) (op : Nat) (f : Dev → Nat × List Nat × Dev) : Dev :=
  d.fmApi a op false fun d p =>
    let (code, l, d) := f d
    d.fmEnd p op code l

/-- A command that is forwarded to the device at a port where `ok` holds; `answer` is what the device answers, `none` while it
has not: the command then stays in progress, and the same command with an answer ends it. `after` is what an answer with
Success brings about. PRESUMED: log entry 10. -/
def Dev.fmForward (d : Dev) (a : Acc) (op port : Nat) (ok : Dev → Bool) (args : List Nat) (answer : Option (Nat × List Nat))
    (after : Dev → Dev) : Dev :=
  d.fmApi a op answer.isSome fun d p =>
    if d.cxp.fmBusy.isNone && !ok d then d.fmEnd p op 2 []
    else
      let d := if d.cxp.fmBusy.isNone then
          (d.setCxp { d.cxp with fmBusy := some (p, op), tunnel := d.cxp.tunnel ++ [(port, op)] }).emit (.engine port 8 args)
        else d
      match answer with
      | none => d
      | some (code, l) =>
        let d := (d.setCxp { d.cxp with fmBusy := none, tunnel := [] }).fmEnd p op code l
        if code = 0 then after d else d

/-! ### Generic commands -/

/-- IDENTIFY (0001h): a switch, its Vendor and Device ID. -/
def execIdentify (a : Acc) (s : State) : Host.Outcome State Fault Refusal := s.eff fun d =>
  d.fmNow a 0x0001 fun d => (0, [(Config.factory 0x205 0 0xff0).toNat % 65536, 0x9250, 0], d)

/-- BACKGROUND_OPERATION_STATUS (0002h): the device runs no command in the background. -/
def execBackgroundOperationStatus (a : Acc) (s : State) : Host.Outcome State Fault Refusal := s.eff fun d =>
  d.fmNow a 0x0002 fun d => (0, [0], d)

/-- GET_RESPONSE_MESSAGE_LIMIT (0003h): the limit, as its exponent. -/
def execGetResponseMessageLimit (a : Acc) (s : State) : Host.Outcome State Fault Refusal := s.eff fun d =>
  d.fmNow a 0x0003 fun d => (0, [d.cxp.msgLimit], d)

/-- SET_RESPONSE_MESSAGE_LIMIT (0004h): an exponent of 8 to 20. -/
def execSetResponseMessageLimit (a : Acc) (limit : Nat) (s : State) : Host.Outcome State Fault Refusal := s.eff fun d =>
  d.fmNow a 0x0004 fun d =>
    if 8 ≤ limit ∧ limit ≤ 20 then (0, [limit], d.setCxp { d.cxp with msgLimit := limit }) else (2, [], d)

/-! ### Physical switch commands -/

/-- The vPPBs of a stable's vCS: its upstream port and the ports of its downstream functions (R295). -/
def Dev.vppbs (d : Dev) (s : Nat) : List Nat :=
  (d.upPort s).toList ++ ((d.slots s).filter fun e => e.2.1 == d.me).map fun e => e.2.2

/-- A downstream vPPB of a vCS is bound: whole on an OWNED port, through an LD on a SHARED MLD port. -/
def Dev.vppbBound (d : Dev) (s p : Nat) : Bool := if d.isMld p ∧ d.ownMode p = 2 then (d.boundLd p s).isSome else true

/-- IDENTIFY_SWITCH_DEVICE (5100h): ports, vCSs, active ports and vCSs, vPPBs, bound vPPBs, HDM decoders. -/
def execIdentifySwitchDevice (a : Acc) (s : State) : Host.Outcome State Fault Refusal := s.eff fun d =>
  d.fmNow a 0x5100 fun d =>
    let on := d.physPorts.filter d.portEn
    let vcs := (List.range 64).filter d.stbEn
    let v := vcs.flatMap fun st => (d.vppbs st).map fun p => (st, p)
    (0, [128, 64, ofBits on, ofBits vcs, v.length, (v.filter fun e => d.vppbBound e.1 e.2).length, 8], d)

/-- The state of a physical port: number, configuration state (0 disabled, 3 downstream, 4 upstream, 5 fabric), device type,
LDs, width, rate, link state. -/
def Dev.fmPort (d : Dev) (p : Nat) : List Nat :=
  let cxl := d.rd R.CXP_PORT_CXL_STATUS (0x100 + p)
  [p, if !d.portEn p then 0 else if d.isFabric p then 5 else if d.isUp p then 4 else 3, fld cxl 1 0, fld cxl 6 2, d.curWidth p,
   d.curRate p, d.lstate p]

/-- GET_PHYSICAL_PORT_STATE (5101h). -/
def execGetPhysicalPortState (a : Acc) (ports : List Nat) (s : State) : Host.Outcome State Fault Refusal := s.eff fun d =>
  d.fmNow a 0x5101 fun d => if ports.any fun p => decide (128 ≤ p) then (2, [], d) else (0, ports.flatMap d.fmPort, d)

/-- PHYSICAL_PORT_CONTROL (5102h, R309): operation 0 asserts and 1 deasserts PERST# of the port's slot, 2 resets its link. It
acts only while the port is UNASSIGNED. -/
def execPhysicalPortControl (a : Acc) (port op : Nat) (s : State) : Host.Outcome State Fault Refusal := s.eff fun d =>
  d.fmNow a 0x5102 fun d =>
    if 128 ≤ port ∨ d.ownMode port ≠ 0 ∨ d.isFabric port ∨ 3 ≤ op then (2, [], d)
    else
      let reset (d : Dev) (on : Bool) : Dev := match d.portSlot port with
        | some k => (d.setSlot k { d.slot k with resetOn := on }).emit (.pin (.slotReset port) on)
        | none => d
      let down (d : Dev) : Dev := if d.dlUp port then d.dlDown port 1 false true else d
      (0, [], if op = 0 then down (reset d true) else if op = 1 then reset d false else down (d.emit (.engine port 4 [2])))

/-- SEND_PPB_CXL_IO_CONFIGURATION_REQUEST (5103h): a configuration access to the bridge of an unbound or an MLD port. -/
def execSendPpbCxlIoConfigurationRequest (a : Acc) (port reg be : Nat) (write : Bool) (data : Word) (s : State) :
    Host.Outcome State Fault Refusal := s.eff fun d =>
  d.fmNow a 0x5103 fun d =>
    let dw := reg / 4 % 1024
    if 128 ≤ port ∨ d.isFabric port ∨ d.isUp port ∨ (d.ownMode port ≠ 0 && !d.isMld port) then (2, [], d)
    else if write then (0, [], d.setCfg 64 (8 + port) dw (d.cfgMerge 64 (8 + port) dw be data))
    else (0, [(d.portWord 64 (8 + port) port dw (d.cfg 64 (8 + port) dw)).toNat], d)

/-! ### Virtual switch commands -/

/-- What GET_VIRTUAL_CXL_SWITCH_INFO tells of a vCS: its ID, state, upstream port, vPPBs, and of each its ID, binding status
(0 unbound, 2 bound to a port, 3 bound to an LD) and LD. -/
def Dev.fmVcs (d : Dev) (st : Nat) : List Nat :=
  let v := d.vppbs st
  [st, b2n (d.stbEn st), (d.upPort st).getD 255, v.length] ++ v.flatMap fun p =>
    let ld := if d.ownMode p = 2 then d.boundLd p st else none
    [p, if !d.vppbBound st p then 0 else if ld.isSome then 3 else 2, ld.getD 65535]

/-- GET_VIRTUAL_CXL_SWITCH_INFO (5200h). -/
def execGetVirtualCxlSwitchInfo (a : Acc) (vcs : List Nat) (s : State) : Host.Outcome State Fault Refusal := s.eff fun d =>
  d.fmNow a 0x5200 fun d => if vcs.any fun st => decide (64 ≤ st) then (2, [], d) else (0, vcs.flatMap d.fmVcs, d)

/-- Stage LD_BIND of an LD for accessor 65 and commit it: Success, or Invalid Input where the commit is rejected (R309). -/
def Dev.fmBind (d : Dev) (port ld : Nat) (w : Word) : Nat × List Nat × Dev :=
  let d := (d.stage ⟨65, 0x800, 0x800, 0x100 + port, 0x340 + 4 * ld, w⟩).commitReq 65 0x800
  (if d.staging.lastErr.getD 0x800 0 % 256 = 0 then 0 else 2, [], d)

/-- BIND_VPPB (5201h, R309): bind an LD of an MLD port to the vPPB of the port in a vCS. -/
def execBindVppb (a : Acc) (vcs vppb port ld : Nat) (s : State) : Host.Outcome State Fault Refusal := s.effL fun lk d =>
  (lk, d.fmNow a 0x5201 fun d =>
    if 128 ≤ port ∨ !d.isMld port ∨ vppb ≠ port ∨ 64 ≤ vcs ∨ 16 ≤ ld ∨ lk.contains 0x800 then (2, [], d)
    else d.fmBind port ld (word (1 + 2 * vcs)))

/-- UNBIND_VPPB (5202h, R309): remove the binding of the vPPB. -/
def execUnbindVppb (a : Acc) (vcs vppb : Nat) (s : State) : Host.Outcome State Fault Refusal := s.effL fun lk d =>
  (lk, d.fmNow a 0x5202 fun d =>
    if 128 ≤ vppb ∨ !d.isMld vppb ∨ 64 ≤ vcs ∨ lk.contains 0x800 then (2, [], d)
    else match d.boundLd vppb vcs with
      | some ld => d.fmBind vppb ld 0
      | none => (2, [], d))

/-- GENERATE_AER_EVENT (5203h, R309, R392): an AER error is reported in the upstream switch port function of a vCS; bits 0–31 are
uncorrectable errors, 32–63 correctable ones. -/
def execGenerateAerEvent (a : Acc) (vcs bitNo : Nat) (s : State) : Host.Outcome State Fault Refusal := s.eff fun d =>
  d.fmNow a 0x5203 fun d =>
    if 64 ≤ vcs ∨ (d.upPort vcs).isNone ∨ 64 ≤ bitNo then (2, [], d) else (0, [], d.aer vcs 0 bitNo none)

/-! ### MLD port commands -/

/-- A device behind a port takes forwarded commands: a Type 3 device of a downstream CXL port whose link is up. -/
def Dev.fmDevice (d : Dev) (p : Nat) : Bool :=
  let t := d.rf R.CXP_PORT_CXL_STATUS (0x100 + p) 1 0
  decide (p < 128) && !d.isUp p && d.isCxl p && d.dlUp p && !d.portContained p && (t == 1 || t == 2)

/-- An LD of an MLD that takes requests of the fabric manager. -/
def Dev.fmLd (d : Dev) (p ld : Nat) : Bool :=
  d.fmDevice p && d.isMld p && decide (ld < d.rf R.CXP_PORT_CXL_STATUS (0x100 + p) 6 2)

/-- SEND_LD_CXL_IO_CONFIGURATION_REQUEST (5301h): a configuration access to an LD. -/
def execSendLdCxlIoConfigurationRequest (a : Acc) (port ld reg be : Nat) (write : Bool) (data : Word)
    (answer : Option (Nat × List Nat)) (s : State) : Host.Outcome State Fault Refusal := s.eff fun d =>
  d.fmForward a 0x5301 port (fun d => d.fmLd port ld) [0x5301, ld, reg, be, b2n write, data.toNat] answer id

/-- SEND_LD_CXL_IO_MEMORY_REQUEST (5302h): a memory access to an LD. -/
def execSendLdCxlIoMemoryRequest (a : Acc) (port ld addr len : Nat) (write : Bool) (data : List Nat)
    (answer : Option (Nat × List Nat)) (s : State) : Host.Outcome State Fault Refusal := s.eff fun d =>
  d.fmForward a 0x5302 port (fun d => d.fmLd port ld) ([0x5302, ld, addr, len, b2n write] ++ data) answer id

/-! ### DCD management (R309) -/

/-- A DCD management command: Unsupported outside a tunnel, forwarded to the DCD of the tunnel's port inside one. -/
def Dev.fmDcd (d : Dev) (a : Acc) (inner : Nat) (tunnel : Option Nat) (args : List Nat) (answer : Option (Nat × List Nat))
    (after : Nat → Dev → Dev) : Dev :=
  match tunnel with
  | none => d.fmNow a inner fun d => (3, [], d)
  | some port =>
    d.fmForward a 0x5300 port (fun d => d.fmDevice port && d.rb R.CXP_PORT_CXL_STATUS (0x100 + port) 9) (0x5300 :: inner :: args)
      answer (after port)

/-- The IDECs of a device whose memory an extent of it holds, while they are UP. -/
def Dev.idecsUnder (d : Dev) (port ld dpa len : Nat) : List Nat :=
  d.idecs.filter fun k =>
    let b := d.rf R.CXP_IDEC_DPA (0x200 + k) 11 0 * 268435456
    d.idecPort k == port && d.idecState k == 2 && (match d.idecLd k with
      | some l => l == ld
      | none => true) && decide (b < dpa + len) && decide (dpa < b + d.idecSize k)

/-- Extents of an LD are released: one under an UP IDEC makes it FAILED (R309). -/
def Dev.dcReleased (d : Dev) (port ld : Nat) (extents : List (Nat × Nat)) : Dev :=
  extents.foldl (fun d e => (d.idecsUnder port ld e.1 e.2).foldl (fun d k => d.idecFail k 7) d) d

/-- The extents that a list of addresses and lengths names. -/
def extentsOf : List Nat → List (Nat × Nat)
  | a :: n :: l => (a, n) :: extentsOf l
  | _ => []

/-- TUNNEL_MANAGEMENT_COMMAND (5300h): an enclosed command is forwarded to the device of an MLD or SLD port, a DCD management
command to a DCD alone, as by the row of that command. -/
def execTunnelManagementCommand (a : Acc) (port inner : Nat) (args : List Nat) (answer : Option (Nat × List Nat)) (s : State) :
    Host.Outcome State Fault Refusal := s.eff fun d =>
  if 0x5600 ≤ inner ∧ inner ≤ 0x5605 then
    d.fmDcd a inner (some port) args answer fun port d =>
      if inner = 0x5605 then d.dcReleased port (args.headD 0) (extentsOf (args.drop 1)) else d
  else d.fmForward a 0x5300 port (fun d => d.fmDevice port) (0x5300 :: inner :: args) answer id

/-- GET_DCD_INFO (5600h). -/
def execGetDcdInfo (a : Acc) (tunnel : Option Nat) (answer : Option (Nat × List Nat)) (s : State) : Host.Outcome State Fault Refusal :=
  s.eff fun d => d.fmDcd a 0x5600 tunnel [] answer fun _ d => d

/-- GET_HOST_DC_REGION_CONFIGURATION (5601h). -/
def execGetHostDcRegionConfiguration (a : Acc) (tunnel : Option Nat) (args : List Nat) (answer : Option (Nat × List Nat)) (s : State) :
    Host.Outcome State Fault Refusal := s.eff fun d => d.fmDcd a 0x5601 tunnel args answer fun _ d => d

/-- SET_DC_REGION_CONFIGURATION (5602h). -/
def execSetDcRegionConfiguration (a : Acc) (tunnel : Option Nat) (args : List Nat) (answer : Option (Nat × List Nat)) (s : State) :
    Host.Outcome State Fault Refusal := s.eff fun d => d.fmDcd a 0x5602 tunnel args answer fun _ d => d

/-- GET_DC_REGION_EXTENT_LISTS (5603h). -/
def execGetDcRegionExtentLists (a : Acc) (tunnel : Option Nat) (args : List Nat) (answer : Option (Nat × List Nat)) (s : State) :
    Host.Outcome State Fault Refusal := s.eff fun d => d.fmDcd a 0x5603 tunnel args answer fun _ d => d

/-- INITIATE_DC_ADD (5604h): the device is asked to offer extents, each a device address and a length, to the host of an LD. -/
def execInitiateDcAdd (a : Acc) (tunnel : Option Nat) (ld : Nat) (extents : List (Nat × Nat)) (answer : Option (Nat × List Nat))
    (s : State) : Host.Outcome State Fault Refusal := s.eff fun d =>
  d.fmDcd a 0x5604 tunnel (ld :: extents.flatMap fun e => [e.1, e.2]) answer fun _ d => d

/-- INITIATE_DC_RELEASE (5605h): the device is asked to release extents of an LD's host. An extent released from under an UP IDEC
makes it FAILED. -/
def execInitiateDcRelease (a : Acc) (tunnel : Option Nat) (ld : Nat) (extents : List (Nat × Nat)) (answer : Option (Nat × List Nat))
    (s : State) : Host.Outcome State Fault Refusal := s.eff fun d =>
  d.fmDcd a 0x5605 tunnel (ld :: extents.flatMap fun e => [e.1, e.2]) answer fun port d =>
    d.dcReleased port ld extents

/-- FMAPI_UNSUPPORTED (R308): a message with an opcode that is none of the supported commands'. -/
def execFmapiUnsupported (a : Acc) (op : Nat) (s : State) : Host.Outcome State Fault Refusal := s.eff fun d =>
  if fmOpcodes.contains op ∨ 65536 ≤ op then d else d.fmNow a op fun d => (3, [], d)

end Sys2Proof.Machine
end

