-- ==== Sys2Proof/Machine/Dispatch.lean ====
section
/-! DEFINITION. One arm for each command: a direct call of its meaning, or a refusal by name. -/

namespace Sys2Proof.Machine

def exec (i : Instr) (s : State) : Host.Outcome State Fault Refusal :=
  match i with
  | .registerWrite a load addr be data x => Sys2Proof.Machine.execRegisterWrite a load addr be data x s
  | .selWrite a page data => Sys2Proof.Machine.execSelWrite a page data s
  | .unitChildWrite a page data => Sys2Proof.Machine.execUnitChildWrite a page data s
  | .remoteAccess a load addr be data => Sys2Proof.Machine.execRemoteAccess a load addr be data s
  | .remoteAnswer member acc data status => Sys2Proof.Machine.execRemoteAnswer member acc data status s
  | .talLoRead a page n => Sys2Proof.Machine.execTalLoRead a page n s
  | .plockSet a page data => Sys2Proof.Machine.execPlockSet a page data s
  | .stageCommit a page => Sys2Proof.Machine.execStageCommit a page s
  | .stageAbort a page commit => Sys2Proof.Machine.execStageAbort a page commit s
  | .drainEnd => Sys2Proof.Machine.execDrainEnd s
  | .cycInEdge pin rising t => Sys2Proof.Machine.execCycInEdge pin rising t s
  | .cycleMarkVdm port t time => Sys2Proof.Machine.execCycleMarkVdm port t time s
  | .ptmMark dom master t => Sys2Proof.Machine.execPtmMark dom master t s
  | .markLossTimeout dom => Sys2Proof.Machine.execMarkLossTimeout dom s
  | .syntheticMark dom => Sys2Proof.Machine.execSyntheticMark dom s
  | .cycleSaturate dom => Sys2Proof.Machine.execCycleSaturate dom s
  | .nop dom idx => Sys2Proof.Machine.execNop dom idx s
  | .gate dom idx => Sys2Proof.Machine.execGate dom idx s
  | .calWin dom idx => Sys2Proof.Machine.execCalWin dom idx s
  | .talSnap dom idx => Sys2Proof.Machine.execTalSnap dom idx s
  | .shaperProfile dom idx => Sys2Proof.Machine.execShaperProfile dom idx s
  | .dmaArm dom idx => Sys2Proof.Machine.execDmaArm dom idx s
  | .calWinEnd port => Sys2Proof.Machine.execCalWinEnd port s
  | .entryWrite a _data => Sys2Proof.Machine.execEntryWrite a _data s
  | .entryRead a => Sys2Proof.Machine.execEntryRead a s
  | .posPhaseRead a => Sys2Proof.Machine.execPosPhaseRead a s
  | .linkTrainingStart port stage lanes => Sys2Proof.Machine.execLinkTrainingStart port stage lanes s
  | .linkUp port info => Sys2Proof.Machine.execLinkUp port info s
  | .trainingFailure port reason rate lanes => Sys2Proof.Machine.execTrainingFailure port reason rate lanes s
  | .laneLockLoss port lane => Sys2Proof.Machine.execLaneLockLoss port lane s
  | .retrain a => Sys2Proof.Machine.execRetrain a s
  | .l0pPartnerRequest port width => Sys2Proof.Machine.execL0pPartnerRequest port width s
  | .l1Entry port => Sys2Proof.Machine.execL1Entry port s
  | .l1Exit port => Sys2Proof.Machine.execL1Exit port s
  | .refclkLoss cl present freqOk freq => Sys2Proof.Machine.execRefclkLoss cl present freqOk freq s
  | .refclkRestore cl freq => Sys2Proof.Machine.execRefclkRestore cl freq s
  | .laneTestWrite cl a data errs => Sys2Proof.Machine.execLaneTestWrite cl a data errs s
  | .laneTestErrRead cl a errs => Sys2Proof.Machine.execLaneTestErrRead cl a errs s
  | .presenceChange slot present => Sys2Proof.Machine.execPresenceChange slot present s
  | .slotPowerOn port => Sys2Proof.Machine.execSlotPowerOn port s
  | .slotPowerOff port => Sys2Proof.Machine.execSlotPowerOff port s
  | .pwrDelayEnd port => Sys2Proof.Machine.execPwrDelayEnd port s
  | .expanderPoll inputs => Sys2Proof.Machine.execExpanderPoll inputs s
  | .hpInt inputs => Sys2Proof.Machine.execHpInt inputs s
  | .expanderWriteAck expander => Sys2Proof.Machine.execExpanderWriteAck expander s
  | .expanderWriteNak expander => Sys2Proof.Machine.execExpanderWriteNak expander s
  | .indicatorBlink slot => Sys2Proof.Machine.execIndicatorBlink slot s
  | .marginEval temps eyes => Sys2Proof.Machine.execMarginEval temps eyes s
  | .calReq a data => Sys2Proof.Machine.execCalReq a data s
  | .rotationDue port lane => Sys2Proof.Machine.execRotationDue port lane s
  | .calFailRetry port lane => Sys2Proof.Machine.execCalFailRetry port lane s
  | .calStarved port => Sys2Proof.Machine.execCalStarved port s
  | .rotateStart port => Sys2Proof.Machine.execRotateStart port s
  | .rotateEnd port => Sys2Proof.Machine.execRotateEnd port s
  | .halfStart port => Sys2Proof.Machine.execHalfStart port s
  | .halfEnd port eyes => Sys2Proof.Machine.execHalfEnd port eyes s
  | .calLaneCommand port lane cmd => Sys2Proof.Machine.execCalLaneCommand port lane cmd s
  | .reeqStart port => Sys2Proof.Machine.execReeqStart port s
  | .reeqDone port => Sys2Proof.Machine.execReeqDone port s
  | .droopDetect cl => Sys2Proof.Machine.execDroopDetect cl s
  | .droopAlarm cl measuring => Sys2Proof.Machine.execDroopAlarm cl measuring s
  | .stretchEnd => Sys2Proof.Machine.execStretchEnd s
  | .stretchLong => Sys2Proof.Machine.execStretchLong s
  | .frameReceived port frame ce ue => Sys2Proof.Machine.execFrameReceived port frame ce ue s
  | .packetReceived port pk => Sys2Proof.Machine.execPacketReceived port pk s
  | .ack port seq => Sys2Proof.Machine.execAck port seq s
  | .nak port seq => Sys2Proof.Machine.execNak port seq s
  | .credit port p n c => Sys2Proof.Machine.execCredit port p n c s
  | .censusMark port num => Sys2Proof.Machine.execCensusMark port num s
  | .censusRsp port num p n c => Sys2Proof.Machine.execCensusRsp port num p n c s
  | .parkReq port lane perm => Sys2Proof.Machine.execParkReq port lane perm s
  | .parkAck port lane => Sys2Proof.Machine.execParkAck port lane s
  | .parkRefuse port lane reason => Sys2Proof.Machine.execParkRefuse port lane reason s
  | .joinReq port lane aligned => Sys2Proof.Machine.execJoinReq port lane aligned s
  | .joinAck port lane => Sys2Proof.Machine.execJoinAck port lane s
  | .joinTimeout port => Sys2Proof.Machine.execJoinTimeout port s
  | .laneLost port lane => Sys2Proof.Machine.execLaneLost port lane s
  | .mirkelLaneLoss port lane => Sys2Proof.Machine.execMirkelLaneLoss port lane s
  | .mirkelLockLoss port => Sys2Proof.Machine.execMirkelLockLoss port s
  | .lanesAligned port lanes => Sys2Proof.Machine.execLanesAligned port lanes s
  | .ident port member yard epoch pport token => Sys2Proof.Machine.execIdent port member yard epoch pport token s
  | .resume port seq => Sys2Proof.Machine.execResume port seq s
  | .holdTimeout port => Sys2Proof.Machine.execHoldTimeout port s
  | .orderResetSend bundle => Sys2Proof.Machine.execOrderResetSend bundle s
  | .orderReset port => Sys2Proof.Machine.execOrderReset port s
  | .orderResetAck bundle => Sys2Proof.Machine.execOrderResetAck bundle s
  | .bndOrderReset a => Sys2Proof.Machine.execBndOrderReset a s
  | .bndPinDataWrite a data => Sys2Proof.Machine.execBndPinDataWrite a data s
  | .ackTimer port => Sys2Proof.Machine.execAckTimer port s
  | .replayTimeout port => Sys2Proof.Machine.execReplayTimeout port s
  | .creditReturnTimer port => Sys2Proof.Machine.execCreditReturnTimer port s
  | .censusTimer port => Sys2Proof.Machine.execCensusTimer port s
  | .calStep port lane cursor up => Sys2Proof.Machine.execCalStep port lane cursor up s
  | .topo member neighbours fresh => Sys2Proof.Machine.execTopo member neighbours fresh s
  | .regAccess src msg x => Sys2Proof.Machine.execRegAccess src msg x s
  | .prepare member epoch id => Sys2Proof.Machine.execPrepare member epoch id s
  | .ready member id vector => Sys2Proof.Machine.execReady member id vector s
  | .refuse member id err index => Sys2Proof.Machine.execRefuse member id err index s
  | .adopt id => Sys2Proof.Machine.execAdopt id s
  | .adopted member id => Sys2Proof.Machine.execAdopted member id s
  | .drained member id => Sys2Proof.Machine.execDrained member id s
  | .cancel id => Sys2Proof.Machine.execCancel id s
  | .yardCommitTimeout member => Sys2Proof.Machine.execYardCommitTimeout member s
  | .tlpReceive port t ideBad => Sys2Proof.Machine.execTlpReceive port t ideBad s
  | .unlock port rid => Sys2Proof.Machine.execUnlock port rid s
  | .contextArrival key => Sys2Proof.Machine.execContextArrival key s
  | .shedGrant id => Sys2Proof.Machine.execShedGrant id s
  | .egressSelection port credits flt x => Sys2Proof.Machine.execEgressSelection port credits flt x s
  | .transmitComplete port t bad acked => Sys2Proof.Machine.execTransmitComplete port t bad acked s
  | .ctUnderrun port => Sys2Proof.Machine.execCtUnderrun port s
  | .cellCensus mismatch => Sys2Proof.Machine.execCellCensus mismatch s
  | .dlDown port surprise acked => Sys2Proof.Machine.execDlDown port surprise acked s
  | .portFlushEnd port => Sys2Proof.Machine.execPortFlushEnd port s
  | .pdClear a => Sys2Proof.Machine.execPdClear a s
  | .wmReset a => Sys2Proof.Machine.execWmReset a s
  | .routingFieldWrite => Sys2Proof.Machine.execRoutingFieldWrite s
  | .routingFieldForward => Sys2Proof.Machine.execRoutingFieldForward s
  | .configRequest => Sys2Proof.Machine.execConfigRequest s
  | .winEntryWrite a data => Sys2Proof.Machine.execWinEntryWrite a data s
  | .winEntryRead a => Sys2Proof.Machine.execWinEntryRead a s
  | .xingEntryWrite a data => Sys2Proof.Machine.execXingEntryWrite a data s
  | .ruleEntryWrite a data => Sys2Proof.Machine.execRuleEntryWrite a data s
  | .permDataWrite a data => Sys2Proof.Machine.execPermDataWrite a data s
  | .errLogClear a => Sys2Proof.Machine.execErrLogClear a s
  | .fltClear a => Sys2Proof.Machine.execFltClear a s
  | .fltW0Read a => Sys2Proof.Machine.execFltW0Read a s
  | .loftSetReadDone key ok bad => Sys2Proof.Machine.execLoftSetReadDone key ok bad s
  | .loftContextReadDone key ok poison data => Sys2Proof.Machine.execLoftContextReadDone key ok poison data s
  | .writebackDone key => Sys2Proof.Machine.execWritebackDone key s
  | .loftInit a => Sys2Proof.Machine.execLoftInit a s
  | .loftInitDone ok => Sys2Proof.Machine.execLoftInitDone ok s
  | .ctxLookup a => Sys2Proof.Machine.execCtxLookup a s
  | .ctxInvalidate a => Sys2Proof.Machine.execCtxInvalidate a s
  | .ctxCreate a => Sys2Proof.Machine.execCtxCreate a s
  | .pinEntryWrite a data => Sys2Proof.Machine.execPinEntryWrite a data s
  | .portGenAdv a => Sys2Proof.Machine.execPortGenAdv a s
  | .genAdvanceRelease dom => Sys2Proof.Machine.execGenAdvanceRelease dom s
  | .sliceGenAdv a => Sys2Proof.Machine.execSliceGenAdv a s
  | .sliceContain a => Sys2Proof.Machine.execSliceContain a s
  | .sliceRelease a => Sys2Proof.Machine.execSliceRelease a s
  | .ledgerTimeout egress rid tag => Sys2Proof.Machine.execLedgerTimeout egress rid tag s
  | .dlgSizeWrite a data => Sys2Proof.Machine.execDlgSizeWrite a data s
  | .filterClear a => Sys2Proof.Machine.execFilterClear a s
  | .sync a => Sys2Proof.Machine.execSync a s
  | .trapPop a => Sys2Proof.Machine.execTrapPop a s
  | .trapCplGo a => Sys2Proof.Machine.execTrapCplGo a s
  | .trapTimeout id => Sys2Proof.Machine.execTrapTimeout id s
  | .rfClear a => Sys2Proof.Machine.execRfClear a s
  | .rfW0Read a => Sys2Proof.Machine.execRfW0Read a s
  | .m2sRequest port write hpa tag mask data poison => Sys2Proof.Machine.execM2sRequest port write hpa tag mask data poison s
  | .s2mResponse port kind tag ld data poison => Sys2Proof.Machine.execS2mResponse port kind tag ld data poison s
  | .biMessage port cache tag data => Sys2Proof.Machine.execBiMessage port cache tag data s
  | .hdmDecoderCommit stable dec control => Sys2Proof.Machine.execHdmDecoderCommit stable dec control s
  | .idecProgram idec => Sys2Proof.Machine.execIdecProgram idec s
  | .idecCommitted idec => Sys2Proof.Machine.execIdecCommitted idec s
  | .idecNotCommitted idec timeout => Sys2Proof.Machine.execIdecNotCommitted idec timeout s
  | .recommit a => Sys2Proof.Machine.execRecommit a s
  | .healthPoll bad => Sys2Proof.Machine.execHealthPoll bad s
  | .viralReceived port => Sys2Proof.Machine.execViralReceived port s
  | .dcExtentOffer port ld => Sys2Proof.Machine.execDcExtentOffer port ld s
  | .identify a => Sys2Proof.Machine.execIdentify a s
  | .backgroundOperationStatus a => Sys2Proof.Machine.execBackgroundOperationStatus a s
  | .getResponseMessageLimit a => Sys2Proof.Machine.execGetResponseMessageLimit a s
  | .setResponseMessageLimit a limit => Sys2Proof.Machine.execSetResponseMessageLimit a limit s
  | .identifySwitchDevice a => Sys2Proof.Machine.execIdentifySwitchDevice a s
  | .getPhysicalPortState a ports => Sys2Proof.Machine.execGetPhysicalPortState a ports s
  | .physicalPortControl a port op => Sys2Proof.Machine.execPhysicalPortControl a port op s
  | .sendPpbCxlIoConfigurationRequest a port reg be write data => Sys2Proof.Machine.execSendPpbCxlIoConfigurationRequest a port reg be write data s
  | .getVirtualCxlSwitchInfo a vcs => Sys2Proof.Machine.execGetVirtualCxlSwitchInfo a vcs s
  | .bindVppb a vcs vppb port ld => Sys2Proof.Machine.execBindVppb a vcs vppb port ld s
  | .unbindVppb a vcs vppb => Sys2Proof.Machine.execUnbindVppb a vcs vppb s
  | .generateAerEvent a vcs bitNo => Sys2Proof.Machine.execGenerateAerEvent a vcs bitNo s
  | .tunnelManagementCommand a port inner args answer => Sys2Proof.Machine.execTunnelManagementCommand a port inner args answer s
  | .sendLdCxlIoConfigurationRequest a port ld reg be write data answer => Sys2Proof.Machine.execSendLdCxlIoConfigurationRequest a port ld reg be write data answer s
  | .sendLdCxlIoMemoryRequest a port ld addr len write data answer => Sys2Proof.Machine.execSendLdCxlIoMemoryRequest a port ld addr len write data answer s
  | .getDcdInfo a tunnel answer => Sys2Proof.Machine.execGetDcdInfo a tunnel answer s
  | .getHostDcRegionConfiguration a tunnel args answer => Sys2Proof.Machine.execGetHostDcRegionConfiguration a tunnel args answer s
  | .setDcRegionConfiguration a tunnel args answer => Sys2Proof.Machine.execSetDcRegionConfiguration a tunnel args answer s
  | .getDcRegionExtentLists a tunnel args answer => Sys2Proof.Machine.execGetDcRegionExtentLists a tunnel args answer s
  | .initiateDcAdd a tunnel ld extents answer => Sys2Proof.Machine.execInitiateDcAdd a tunnel ld extents answer s
  | .initiateDcRelease a tunnel ld extents answer => Sys2Proof.Machine.execInitiateDcRelease a tunnel ld extents answer s
  | .fmapiUnsupported a op => Sys2Proof.Machine.execFmapiUnsupported a op s
  | .bridgeWrite => Sys2Proof.Machine.execBridgeWrite s
  | .bridgeRead => Sys2Proof.Machine.execBridgeRead s
  | .bridgeFlushRead => Sys2Proof.Machine.execBridgeFlushRead s
  | .bridgeAtomicop => Sys2Proof.Machine.execBridgeAtomicop s
  | .mrdlk => Sys2Proof.Machine.execMrdlk s
  | .lineIssue line ecc => Sys2Proof.Machine.execLineIssue line ecc s
  | .ndr port tag => Sys2Proof.Machine.execNdr port tag s
  | .drs port tag data poison => Sys2Proof.Machine.execDrs port tag data poison s
  | .lockTimeout stable => Sys2Proof.Machine.execLockTimeout stable s
  | .winUntaint a => Sys2Proof.Machine.execWinUntaint a s
  | .winFlush a => Sys2Proof.Machine.execWinFlush a s
  | .pelClear a => Sys2Proof.Machine.execPelClear a s
  | .chTailWrite a data => Sys2Proof.Machine.execChTailWrite a data s
  | .chRingSizeWrite a data => Sys2Proof.Machine.execChRingSizeWrite a data s
  | .chStart a => Sys2Proof.Machine.execChStart a s
  | .chStop a => Sys2Proof.Machine.execChStop a s
  | .chAbort a => Sys2Proof.Machine.execChAbort a s
  | .kick a => Sys2Proof.Machine.execKick a s
  | .arm a => Sys2Proof.Machine.execArm a s
  | .disarm a => Sys2Proof.Machine.execDisarm a s
  | .descriptorFetchDone ch => Sys2Proof.Machine.execDescriptorFetchDone ch s
  | .copy ch => Sys2Proof.Machine.execCopy ch s
  | .fill ch => Sys2Proof.Machine.execFill ch s
  | .flushRead ch => Sys2Proof.Machine.execFlushRead ch s
  | .dmaReadCompletion ch => Sys2Proof.Machine.execDmaReadCompletion ch s
  | .descriptorReport ch => Sys2Proof.Machine.execDescriptorReport ch s
  | .shaperRefill => Sys2Proof.Machine.execShaperRefill s
  | .policerRelease key => Sys2Proof.Machine.execPolicerRelease key s
  | .queueStall port stable => Sys2Proof.Machine.execQueueStall port stable s
  | .scrubPass seu single => Sys2Proof.Machine.execScrubPass seu single s
  | .targetedScrub => Sys2Proof.Machine.execTargetedScrub s
  | .selfTestPass silent => Sys2Proof.Machine.execSelfTestPass silent s
  | .go a => Sys2Proof.Machine.execGo a s
  | .forceFailsafe a => Sys2Proof.Machine.execForceFailsafe a s
  | .stableContain a => Sys2Proof.Machine.execStableContain a s
  | .stableRelease a => Sys2Proof.Machine.execStableRelease a s
  | .portContain a => Sys2Proof.Machine.execPortContain a s
  | .portRelease a => Sys2Proof.Machine.execPortRelease a s
  | .portUntaint a => Sys2Proof.Machine.execPortUntaint a s
  | .dpcRelease stable port => Sys2Proof.Machine.execDpcRelease stable port s
  | .dpcSoftwareTrigger stable port => Sys2Proof.Machine.execDpcSoftwareTrigger stable port s
  | .pplClear a => Sys2Proof.Machine.execPplClear a s
  | .flogClear a => Sys2Proof.Machine.execFlogClear a s
  | .lockstepMismatch => Sys2Proof.Machine.execLockstepMismatch s
  | .coreClockLoss deviceTime => Sys2Proof.Machine.execCoreClockLoss deviceTime s
  | .voltageFault rail => Sys2Proof.Machine.execVoltageFault rail s
  | .tempThreshold cluster temp => Sys2Proof.Machine.execTempThreshold cluster temp s
  | .thermalTrip cluster => Sys2Proof.Machine.execThermalTrip cluster s
  | .completionTimeout who id => Sys2Proof.Machine.execCompletionTimeout who id s
  | .tagRelease code => Sys2Proof.Machine.execTagRelease code s
  | .functionLevelReset stable fn => Sys2Proof.Machine.execFunctionLevelReset stable fn s
  | .busMasterEnableClear stable fn => Sys2Proof.Machine.execBusMasterEnableClear stable fn s
  | .secondaryBusReset stable fn on => Sys2Proof.Machine.execSecondaryBusReset stable fn on s
  | .linkDisable stable fn on => Sys2Proof.Machine.execLinkDisable stable fn on s
  | .hotResetReceived port => Sys2Proof.Machine.execHotResetReceived port s
  | .vhReset a => Sys2Proof.Machine.execVhReset a s
  | .functionReady stable which => Sys2Proof.Machine.execFunctionReady stable which s
  | .vslotDataWrite a data => Sys2Proof.Machine.execVslotDataWrite a data s
  | .msixMessage stable vector => Sys2Proof.Machine.execMsixMessage stable vector s
  | .msixGapEnd stable vector => Sys2Proof.Machine.execMsixGapEnd stable vector s
  | .intxAssert stable => Sys2Proof.Machine.execIntxAssert stable s
  | .doeObject stable kind len => Sys2Proof.Machine.execDoeObject stable kind len s
  | .doeAbort stable => Sys2Proof.Machine.execDoeAbort stable s
  | .keyProg stable index stream dir set sub words => Sys2Proof.Machine.execKeyProg stable index stream dir set sub words s
  | .kSetGo stable index stream dir set => Sys2Proof.Machine.execKSetGo stable index stream dir set s
  | .kSetStop stable index stream dir set => Sys2Proof.Machine.execKSetStop stable index stream dir set s
  | .spdmMessage path stable code opens ends => Sys2Proof.Machine.execSpdmMessage path stable code opens ends s
  | .evForceWrite a page off data => Sys2Proof.Machine.execEvForceWrite a page off data s
  | .evCauseClear a page off data => Sys2Proof.Machine.execEvCauseClear a page off data s
  | .stormQuietEnd array source => Sys2Proof.Machine.execStormQuietEnd array source s
  | .fmqPop a => Sys2Proof.Machine.execFmqPop a s
  | .enqPop a => Sys2Proof.Machine.execEnqPop a s
  | .talClr a page data => Sys2Proof.Machine.execTalClr a page data s
  | .talEvselWrite a page n data => Sys2Proof.Machine.execTalEvselWrite a page n data s
  | .tallySlotWrite a sel data => Sys2Proof.Machine.execTallySlotWrite a sel data s
  | .notifyRepeat => Sys2Proof.Machine.execNotifyRepeat s
  | .plReq a data => Sys2Proof.Machine.execPlReq a data s
  | .plChangeStart => Sys2Proof.Machine.execPlChangeStart s
  | .plSettleDone ack => Sys2Proof.Machine.execPlSettleDone ack s
  | .avsRetry ack => Sys2Proof.Machine.execAvsRetry ack s
  | .stbHintWrite a data => Sys2Proof.Machine.execStbHintWrite a data s
  | .reqSl1 a => Sys2Proof.Machine.execReqSl1 a s
  | .reqSl2 a => Sys2Proof.Machine.execReqSl2 a s
  | .sleepCancel a => Sys2Proof.Machine.execSleepCancel a s
  | .padRelease a => Sys2Proof.Machine.execPadRelease a s
  | .sleepEntryComplete => Sys2Proof.Machine.execSleepEntryComplete s
  | .sleepEntryTimeout => Sys2Proof.Machine.execSleepEntryTimeout s
  | .wake src arg => Sys2Proof.Machine.execWake src arg s
  | .sleepExit seu single => Sys2Proof.Machine.execSleepExit seu single s
  | .railInRange rail => Sys2Proof.Machine.execRailInRange rail s
  | .powerGood => Sys2Proof.Machine.execPowerGood s
  | .perstAssert => Sys2Proof.Machine.execPerstAssert s
  | .perstDeassert straps => Sys2Proof.Machine.execPerstDeassert straps s
  | .imageVerify ha hb => Sys2Proof.Machine.execImageVerify ha hb s
  | .kciWrite addr data => Sys2Proof.Machine.execKciWrite addr data s
  | .kciRmw addr mask data => Sys2Proof.Machine.execKciRmw addr mask data s
  | .kciSelWrite addr sel data => Sys2Proof.Machine.execKciSelWrite addr sel data s
  | .kciCommit page => Sys2Proof.Machine.execKciCommit page s
  | .kciWait addr mask value timeoutUs expired => Sys2Proof.Machine.execKciWait addr mask value timeoutUs expired s
  | .kciDelay us => Sys2Proof.Machine.execKciDelay us s
  | .kciYard cfg => Sys2Proof.Machine.execKciYard cfg s
  | .kciEnd crc bad => Sys2Proof.Machine.execKciEnd crc bad s
  | .arbCommit a => Sys2Proof.Machine.execArbCommit a s
  | .flashGo a data answer => Sys2Proof.Machine.execFlashGo a data answer s
  | .yardCfgWrite a data => Sys2Proof.Machine.execYardCfgWrite a data s
  | .yardFormTimeout => Sys2Proof.Machine.execYardFormTimeout s
  | .setEndpointId path eid => Sys2Proof.Machine.execSetEndpointId path eid s
  | .getEndpointId path => Sys2Proof.Machine.execGetEndpointId path s
  | .getVersionSupport path type => Sys2Proof.Machine.execGetVersionSupport path type s
  | .getMessageTypeSupport path => Sys2Proof.Machine.execGetMessageTypeSupport path s
  | .getVendorDefinedMessageSupport path => Sys2Proof.Machine.execGetVendorDefinedMessageSupport path s
  | .pldmMessage path type sensor => Sys2Proof.Machine.execPldmMessage path type sensor s
  | .read path ok addr x => Sys2Proof.Machine.execRead path ok addr x s
  | .write path ok addr data x => Sys2Proof.Machine.execWrite path ok addr data x s
  | .mctpPacketError => Sys2Proof.Machine.execMctpPacketError s
  | .challenge a => Sys2Proof.Machine.execChallenge a s
  | .verify a sigOk => Sys2Proof.Machine.execVerify a sigOk s
  | .deauth a => Sys2Proof.Machine.execDeauth a s
  | .halt a => Sys2Proof.Machine.execHalt a s
  | .dbgResume a => Sys2Proof.Machine.execDbgResume a s
  | .challengeLockoutEnd => Sys2Proof.Machine.execChallengeLockoutEnd s
  | .dbgAccess load addr data x => Sys2Proof.Machine.execDbgAccess load addr data x s
  | .boundaryScan code => Sys2Proof.Machine.execBoundaryScan code s
  | .sbRouteWrite a data => Sys2Proof.Machine.execSbRouteWrite a data s
  | .sbioInputChange pin level => Sys2Proof.Machine.execSbioInputChange pin level s
  | .sbClkreqWrite a data => Sys2Proof.Machine.execSbClkreqWrite a data s
  | .linkEntersRecovery port => Sys2Proof.Machine.execLinkEntersRecovery port s
  | .recoveryEnd port failed => Sys2Proof.Machine.execRecoveryEnd port failed s
  | .l0pPartnerAcknowledge port => Sys2Proof.Machine.execL0pPartnerAcknowledge port s
  | .loopbackStageDone port => Sys2Proof.Machine.execLoopbackStageDone port s
  | .eyeHeightMeasured port eye => Sys2Proof.Machine.execEyeHeightMeasured port eye s
  | .laneMarginingCommand port lane offset => Sys2Proof.Machine.execLaneMarginingCommand port lane offset s
  | .expanderWriteRetry expander => Sys2Proof.Machine.execExpanderWriteRetry expander s
  | .testLogicReset low => Sys2Proof.Machine.execTestLogicReset low s

end Sys2Proof.Machine
end

