-- ==== Sys2Proof/Safety.lean ====
section
/-! DEFINITION. What a safe run is, and the words in which the statements speak of states: an access that is made, a device in
which nothing is left to follow, and the conditions that hold at the end of every command. -/

namespace Sys2Proof.Machine

/-- A step is safe where it answers a next state: it neither stops with a fault nor meets a command without a meaning. -/
def Safe (s : State) : Prop := ∃ t, step s = .next t

/-- An accessor's access at an offset of a page is made on this device (R31, R51, R52, R249–R256): the accessor can make accesses,
they are carried out here, and the checks pass in both logics (R377). -/
def Dev.may (d : Dev) (a : Acc) (r : Reg) (wr : Bool) : Bool :=
  d.canAccess a && (d.carriedTo a).isNone && d.accessDec a r.page r.off wr == .ok &&
    d.chkView.accessDec a r.page r.off wr == .ok

/-- FAULT_N is driven as its condition says (R385, R428). -/
def Dev.pinHolds (d : Dev) : Prop := d.ev.faultPin = d.faultCond

/-- Nothing follows from the state of the device: no request waits at the stalls, the loft has nothing to do, no memory request was removed unanswered, no fault,
DPC trigger or denial is noted, no port is to be fenced for a taint, no TLP is marked, the device stands alone, no DMA channel has
been used, and no injected error waits. -/
def Dev.still (d : Dev) : Prop :=
  d.stall.miss = [] ∧ d.stall.fetch = [] ∧ d.cxp.lost = [] ∧ d.saf.dpc = [] ∧ d.saf.due = [] ∧ d.saf.afTimes = [] ∧ (d.path.items.filter fun i => i.marked) = [] ∧
  (d.physPorts.filter fun p => d.isDown p && d.rb R.PRT2_ERR_STATUS p 4 && d.rb R.PRT2_ERR_CFG p 1 && !d.portContained p) = [] ∧
  d.yardEn = false ∧ d.dma.chan = [] ∧ d.saf.inj = none

/-- A still device whose pins are driven as their conditions say. -/
def Dev.quiet (d : Dev) : Prop := d.still ∧ d.padSync = d ∧ d.pinHolds

end Sys2Proof.Machine
end

