-- ==== Sys2Proof/Certificates/Slice0/Obligations.lean ====
section
/-! DEFINITION. The statements about the model, rule by rule. In each, `exec c s` or `step s` answers a next state: `s.settled d` is
the state `s` with the device `d`, after what follows of itself from `d` has followed (a request that can leave its queue leaves it, a
noted fault is reacted to, a removed request is answered) and the driven pins stand as their conditions say; `s.pinned d` is the same
where nothing but the pins can follow. Both leave the queue and the page locks of `s` (the statement that a quiet device settles to
itself says that nothing else happens in them). -/

open Sys2Proof Sys2Proof.Machine

/-! ### The step -/

/-- A step takes the command at the front of the queue and answers what it does to the state with the rest of the queue. -/
def Obligations.StepRunsTheFrontCommand : Prop :=
  ∀ (s : State) (c : Instr) (rest : List Instr), s.pending = c :: rest → step s = exec c { s with pending := rest }

/-- On an empty queue one nanosecond of device time passes (the model's choice: log entry 2; R7 gives device time in ns). -/
def Obligations.EmptyQueueLetsOneNanosecondPass : Prop :=
  ∀ s : State, s.pending = [] →
    step s = .next (s.pinned (s.dev.advanceTo (s.dev.now + 1))) ∧ (s.dev.advanceTo (s.dev.now + 1)).now = s.dev.now + 1

/-- Every step answers a next state: no command stops the machine. -/
def Obligations.EveryStepIsSafe : Prop := ∀ s : State, Safe s

/-- A command leaves the queue as it stands: the block's own work is no command. -/
def Obligations.CommandsLeaveTheQueueAlone : Prop :=
  ∀ (c : Instr) (s t : State), exec c s = .next t → t.pending = s.pending

/-- After every step, from any state, FAULT_N stands as its condition says (R385, R428), and the driven sideband outputs stand as the
matrix gives them, unless they are held (R462, R484, R485): driving them once more changes nothing. -/
def Obligations.PinsFollowTheirConditionsAfterEveryStep : Prop :=
  ∀ s t : State, step s = .next t → t.dev.pinHolds ∧ t.dev.padSync = t.dev

/-- The state after reset satisfies what every step keeps. -/
def Obligations.PinsFollowTheirConditionsAtReset : Prop := State.reset.dev.pinHolds ∧ State.reset.dev.padSync = State.reset.dev

/-- A page lock once set stands until the device is reset (R47): no command but PERST_ASSERT and the power-up of POWER_GOOD clears
one. Setting it is not staged and waits for nothing: whatever drains, is staged or held, a write of PLOCK = 1 that is made locks the page,
whichever accessor makes it, and, on every page but 0 (from which a value may go on to other members), changes no register. A read of
UNIT_CTRL that is made returns the lock in bit 31, and in the other bits what the accessor has staged there, or the value in force. -/
def Obligations.PageLocksStandUntilDeviceReset : Prop :=
  (∀ (c : Instr) (s t : State), c ≠ .perstAssert → c ≠ .powerGood →
    exec c s = .next t → ∀ page ∈ s.plock, page ∈ t.plock) ∧
  (∀ (s : State) (a : Acc) (page : Nat) (w : Word), s.dev.may a (unitCtrl page) true = true →
    ∃ d : Dev, exec (.plockSet a page w) s =
      .next (State.settled { s with plock := if page ∈ s.plock then s.plock else s.plock ++ [page] } d) ∧
      (page ≠ 0 → d.regs = s.dev.regs)) ∧
  (∀ (d : Dev) (locks : List Nat) (a : Acc) (page : Nat) (x : Ext), x.disagree = false → d.accessDec a page 0x28 false = .ok →
    d.chkView.accessDec a page 0x28 false = .ok →
    let v := (d.readWord locks a (4096 * page + 0x28) 15 x none).1
    (bit v 31 = true ↔ page ∈ locks) ∧
    ∀ k < 31, bit v k = bit (d.rwsRead (accIdx a) page (d.instOf a page 0x28) 0x28) k)

/-- Nothing follows in a quiet device: it settles to itself. -/
def Obligations.QuietDeviceSettlesToItself : Prop :=
  ∀ (s : State) (d : Dev), d.quiet → s.settled d = { s with dev := d } ∧ s.pinned d = { s with dev := d }

/-! ### The cycle timebase (R67–R86) -/

/-- The commands that carry marks (R67, R68, R69, R73, R77, R78) complete. An edge sets the pin's level, and marks, and may wake, each domain that
takes its marks from that edge of that pin. A Vendor_Defined Type 1 message that the port engine of a port whose link carries TLPs takes
marks the domain that its byte 13 names, where it is formed as R68 says and arrives on the upstream port that is the source of that
domain while the domain is enabled; one whose byte 12 is 0xC1 but that fails this is counted and reported in that domain, and one with
another byte 12 does nothing; either way the credits of the message return. A PTM mark needs a valid PTM relationship (log entry 69) and a
master time that is PTM_BASE plus a whole multiple of NOM_PERIOD. A domain in ACQUIRE or LOCKED without a mark for 1.5 × P enters HOLDOVER
with LOSS at that instant, with a synthetic mark; HOLDOVER and FREERUN go on one period after each cycle start; a running cycle saturates
after one period, once the entries due have executed. -/
def Obligations.MarkCommandsComplete : Prop :=
  ∀ s : State,
  (∀ (pin : Nat) (rising : Bool) (t : Nat), pin < 8 →
    exec (.cycInEdge pin rising t) s = .next (s.settled (
      let d := s.dev.advanceTo t
      let levels := (bitsOf 8 d.cyc.pins).filter (· != pin)
      (List.range 8).foldl (fun d dom =>
        if d.rf R.CYC_DOM_CTRL dom 2 1 = 1 ∧ d.rf R.CYC_DOM_CTRL dom 5 3 = pin ∧ d.rf R.CYC_DOM_CTRL dom 6 6 = (if rising then 0 else 1)
        then (d.mark dom t).wake 3 dom else d)
      { d with cyc := { d.cyc with pins := ofBits (if rising then pin :: levels else levels) } }))) ∧
  (∀ (port time : Nat) (t : Tlp), s.dev.linkLive port = true → s.dev.discards port = false → isCycleVdm t = true →
    let d := { s.dev with pwr := { s.dev.pwr with lastRx := max s.dev.now time } }.advanceTo time
    let b13 := t.vdw / 256 % 256
    (t.vdw % 256 ≠ 0xc1 → exec (.cycleMarkVdm port t time) s = .next (s.settled (
      { s.dev with pwr := { s.dev.pwr with lastRx := max s.dev.now time } }.advanceTo time |>.creditBack port t))) ∧
    (t.vdw % 256 = 0xc1 →
      (t.rtype = 4 ∧ t.vid = vendorId ∧ t.data = [] ∧ b13 < 8 ∧ t.vdw / 65536 = 0 ∧ d.isUp port = true ∧
        d.rf R.CYC_DOM_CTRL b13 2 1 = 2 ∧ d.rf R.CYC_DOM_CTRL b13 15 8 = port ∧ d.rb R.CYC_DOM_CTRL b13 0 = true →
        exec (.cycleMarkVdm port t time) s = .next (s.settled ((d.mark b13 time).creditBack port t))) ∧
      ((t.rtype ≠ 4 ∨ t.vid ≠ vendorId ∨ t.data ≠ [] ∨ 8 ≤ b13 ∨ t.vdw / 65536 ≠ 0 ∨ d.isUp port = false ∨
        d.rf R.CYC_DOM_CTRL (b13 % 8) 2 1 ≠ 2 ∨ d.rf R.CYC_DOM_CTRL (b13 % 8) 15 8 ≠ port ∨ d.rb R.CYC_DOM_CTRL (b13 % 8) 0 = false) →
        exec (.cycleMarkVdm port t time) s = .next (s.settled
          (((d.bump R.CYC_CNT_DISCARD (b13 % 8)).raise (0x047 + 8 * (b13 % 8))).creditBack port t))))) ∧
  (∀ dom master t : Nat, dom < 8 →
    exec (.ptmMark dom master t) s = .next (s.pinned (
      if s.dev.rf R.CYC_DOM_CTRL dom 2 1 = 3 ∧ s.dev.ptmValid (s.dev.rf R.CYC_DOM_CTRL dom 15 8) ∧
          ((master : Int) - (s.dev.rd64 R.CYC_PTM_BASE_LO R.CYC_PTM_BASE_HI dom : Int)) %
            (s.dev.rd64 R.CYC_NOM_PERIOD_LO R.CYC_NOM_PERIOD_HI dom : Int) = 0
      then s.dev.mark dom t else s.dev))) ∧
  (∀ dom t0 : Nat, dom < 8 → ((s.dev.cyc1 dom).state = .acquire ∨ (s.dev.cyc1 dom).state = .locked) →
    (s.dev.cyc1 dom).lastReal = some t0 →
    exec (.markLossTimeout dom) s = .next (s.pinned (
      let t := t0 + cdiv (3 * (s.dev.cyc1 dom).p) 512
      let d := s.dev.advanceTo t
      ((d.setCyc dom { d.cyc1 dom with state := .holdover, loss := true, synth := 0 }).raise (0x041 + 8 * dom)).synthetic dom t))) ∧
  (∀ dom : Nat, dom < 8 → ((s.dev.cyc1 dom).state = .holdover ∨ (s.dev.cyc1 dom).state = .freerun) →
    exec (.syntheticMark dom) s = .next (s.pinned (
      let t := (s.dev.cyc1 dom).tStart + cdiv (s.dev.cycP dom) 256
      (s.dev.advanceTo t).synthetic dom t))) ∧
  (∀ dom : Nat, dom < 8 → (s.dev.cyc1 dom).running = true →
    ((s.dev.cyc1 dom).state = .acquire ∨ (s.dev.cyc1 dom).state = .locked) →
    exec (.cycleSaturate dom) s = .next (s.pinned (
      let d := (s.dev.advanceTo ((s.dev.cyc1 dom).tStart + cdiv (s.dev.cyc1 dom).p 256)).entDue dom
      d.setCyc dom { d.cyc1 dom with saturated := true })))

/-- R69: a mark less than 1,000 ns after the previous accepted mark of its domain is discarded: with `e` the device at the instant of the mark,
after the schedule entries due by then, the mark is counted in CNT_DISCARD, wrapping at 2^32, it raises the domain's DISCARD event, and
neither a domain nor any other register changes. -/
def Obligations.MarkTooSoonIsDiscarded : Prop :=
  ∀ (d : Dev) (dom t t0 : Nat),
    let e := (d.runDue t dom).advanceTo t
    e.domOn dom = true → (e.cyc1 dom).lastReal = some t0 → t - e.rf R.CYC_MARK_DELAY dom 15 0 < t0 + 1000 →
    d.mark dom t = (e.bump R.CYC_CNT_DISCARD dom).raise (0x047 + 8 * dom) ∧
    (d.mark dom t).rn R.CYC_CNT_DISCARD dom = (e.rn R.CYC_CNT_DISCARD dom + 1) % 4294967296 ∧
    (d.mark dom t).cyc = e.cyc ∧
    ∀ (r : Reg) (i : Nat), regKey r.page i r.off ≠ regKey 0x20 dom R.CYC_CNT_DISCARD.off → (d.mark dom t).rd r i = e.rd r i

/-- R70: the estimate at an interval of i ns. In tolerance, P moves by the difference shifted right by GAIN, outliers go to 0 and the
in-tolerance count rises to at most 15; else outliers rise by 1, P and the state stand and the in-tolerance count goes to 0, unless
OUTLIER_LIMIT outliers have followed one another: then P is the interval, and the domain is in ACQUIRE and raises OUTLIER_RESET. -/
def Obligations.EstimateFollowsTheInterval : Prop :=
  ∀ (d : Dev) (dom i : Nat), dom < 8 → dom < d.cyc.doms.length →
    let c := d.cyc1 dom
    let e := (d.estimate dom i).cyc1 dom
    let lim := d.rf R.CYC_DOM_CTRL dom 27 24
    let diff : Int := 256 * (i : Int) - (c.p : Int)
    (diff.natAbs * 65536 ≤ c.p * d.rf R.CYC_TOL dom 15 0 →
      (e.p : Int) = ((c.p : Int) + Int.fdiv diff (2 ^ d.rf R.CYC_DOM_CTRL dom 19 16)).toNat ∧ e.outl = 0 ∧
      e.intol = min (c.intol + 1) 15 ∧ e.state = c.state) ∧
    (c.p * d.rf R.CYC_TOL dom 15 0 < diff.natAbs * 65536 → (lim = 0 ∨ c.outl + 1 < lim) →
      e.p = c.p ∧ e.outl = c.outl + 1 ∧ e.intol = 0 ∧ e.state = c.state) ∧
    (c.p * d.rf R.CYC_TOL dom 15 0 < diff.natAbs * 65536 → lim ≠ 0 → lim ≤ c.outl + 1 →
      e.p = 256 * i ∧ e.outl = 0 ∧ e.intol = 0 ∧ e.state = .acquire ∧
      (d.estimate dom i).ev.count.getD (0x045 + 8 * dom) 0 = (d.ev.count.getD (0x045 + 8 * dom) 0 + 1) % 65536)

/-- The commands of schedule entries (R75, R82, R442) complete: while entries execute, an entry of the range in force that has not executed in
this cycle, with the action of the command, falls due, and the entries due by then are taken in their order (log entry 83). Each entry that
executes is done for this cycle, and: NOP does nothing more; GATE loads the stable's mask at the port named, or at all; CAL_WIN
opens a window of the domain on a port that is there, up to the phase at which it ends; TAL_SNAP copies the value of every tally slot whose
unit it names with time, position and tag, and of a port of this device its nine slot-class counters (of a unit with other members below
it, what they contribute is a free value); SHAPER_PROFILE selects the profile; DMA_ARM arms or disarms the channel. A GATE, CAL_WIN,
SHAPER_PROFILE or DMA_ARM for a stable that is not bound to the domain, or has not joined its cycle, is skipped: it adds to CNT_SKIP and raises
SKIP. -/
def Obligations.ScheduleEntriesExecute : Prop :=
  (∀ (s : State) (dom idx : Nat), dom < 8 → (s.dev.cyc1 dom).running = true → s.dev.execRuns = true →
    (s.dev.entLeft dom).contains idx = true →
    let due := s.dev.runDue (max s.dev.now (s.dev.entDueAt dom idx)) dom
    (fld (s.dev.ent dom idx 0) 19 16 = 0 → exec (.nop dom idx) s = .next (s.pinned due)) ∧
    (fld (s.dev.ent dom idx 0) 19 16 = 1 → exec (.gate dom idx) s = .next (s.pinned due)) ∧
    (fld (s.dev.ent dom idx 0) 19 16 = 2 → exec (.calWin dom idx) s = .next (s.pinned due)) ∧
    (fld (s.dev.ent dom idx 0) 19 16 = 3 → exec (.talSnap dom idx) s = .next (s.pinned due)) ∧
    (fld (s.dev.ent dom idx 0) 19 16 = 4 → exec (.shaperProfile dom idx) s = .next (s.pinned due)) ∧
    (fld (s.dev.ent dom idx 0) 19 16 = 5 → exec (.dmaArm dom idx) s = .next (s.pinned due))) ∧
  (∀ (d0 : Dev) (dom i : Nat) (atMark : Bool),
    let d := d0.setCyc dom { d0.cyc1 dom with done := (d0.cyc1 dom).done ++ [i] }
    let target := d.ent dom i 1
    let arg := d.ent dom i 2
    let skipped := (d.bump R.CYC_CNT_SKIP dom).raise (0x046 + 8 * dom)
    let mine (s : Nat) : Prop := d.domOf s = dom ∧ s ∉ d.cyc.unjoined
    (fld (d0.ent dom i 0) 19 16 = 0 → d0.entRun dom i atMark = d) ∧
    (fld (d0.ent dom i 0) 19 16 = 1 → ¬ mine (fld target 5 0) → d0.entRun dom i atMark = skipped) ∧
    (fld (d0.ent dom i 0) 19 16 = 1 → mine (fld target 5 0) → ∀ p < 131, (fld target 15 8 = p ∨ fld target 15 8 = 255) →
      (d0.entRun dom i atMark).rf (R.SCH_GATE (fld target 5 0 / 4)) p (8 * (fld target 5 0 % 4) + 7)
        (8 * (fld target 5 0 % 4)) = fld arg 7 0) ∧
    (fld (d0.ent dom i 0) 19 16 = 2 → (∃ s, d.owner (fld target 7 0) = some s ∧ ¬ mine s) → d0.entRun dom i atMark = skipped) ∧
    (fld (d0.ent dom i 0) 19 16 = 2 → (∀ s, d.owner (fld target 7 0) = some s → mine s) → fld arg 15 0 ≠ 0 →
      (d.block (fld target 7 0)).isSome = true →
      ((d0.entRun dom i atMark).pst (fld target 7 0)).wins =
        (d.pst (fld target 7 0)).wins ++ [(dom, fld (d.ent dom i 0) 15 0 + fld arg 15 0)]) ∧
    (fld (d0.ent dom i 0) 19 16 = 3 →
      let pos := word (d.phase dom + 65536 * ((d.cyc1 dom).cycle % 65536))
      (∀ k < 256, d.rd R.TAL_TS_UNIT (0x100 + k) = target → ∃ v,
        (d0.entRun dom i atMark).tally.tsSnap.find k = some ⟨[v], d.now, pos, fld arg 7 0⟩ ∧
        (d.farUnit (fld target 28 16) (fld target 15 0) = false → v = d.tally.ts.getD k 0)) ∧
      (fld target 28 16 = 0x200 → fld target 31 29 = d.me → fld target 15 0 < 128 →
        (d0.entRun dom i atMark).tally.slotSnap.find (fld target 15 0) =
          some ⟨(List.range 9).map fun c => d.tally.slot.getD (fld target 15 0 * 16 + c) 0, d.now, pos, fld arg 7 0⟩)) ∧
    (fld (d0.ent dom i 0) 19 16 = 4 → mine (fld target 5 0) →
      (d0.entRun dom i atMark).rf R.SCH_STB_PROFILE (0x100 + fld target 5 0) 1 0 = fld arg 1 0) ∧
    (fld (d0.ent dom i 0) 19 16 = 4 → ¬ mine (fld target 5 0) → d0.entRun dom i atMark = skipped) ∧
    (fld (d0.ent dom i 0) 19 16 = 5 → (∀ s, d.chOwner (fld target 5 0) = some s → mine s) →
      d0.entRun dom i atMark = d.chArm (fld target 5 0) (bit arg 0)) ∧
    (fld (d0.ent dom i 0) 19 16 = 5 → (∃ s, d.chOwner (fld target 5 0) = some s ∧ ¬ mine s) → d0.entRun dom i atMark = skipped))

/-- The entry cursor and the position (R79, R81, R85), and the end of a calibration window (R82, R101), complete. An accessor has one cursor, and
one set of held words and of latches, for each domain. A write of ENT_W3 that is made writes the accessor's held words 0 to 2 to the entry
at its cursor and moves the cursor on, wrapping, or, for an entry of the range in force or pending, sets IN_USE alone; a read of ENT_W0 that
is made loads the entry at the cursor and answers its word 0; a read of POS_PHASE that is made answers the phase and latches the cycle
number and the device time; the windows of a port close when the last of them ends, and a width that the partner asked for meanwhile is
taken up, unless a procedure runs. -/
def Obligations.CycleRegistersComplete : Prop :=
  (∀ (s : State) (a : Acc) (data : Word), s.dev.may a (R.CYC_ENT_W 3) true = true →
    let dom := s.dev.instOf a 0x20 (R.CYC_ENT_W 3).off
    let acc := winAcc (accIdx a) dom
    let i := s.dev.arn acc R.CYC_ENT_IDX % 1024
    let c := s.dev.cyc1 dom
    let held (b n : Nat) : Prop := b ≤ i ∧ i < b + n
    exec (.entryWrite a data) s = .next (s.pinned (s.dev.wEntW3 a dom)) ∧
    ((held c.base c.count ∨ ∃ b n, c.pend = some (b, n) ∧ held b n) → s.dev.wEntW3 a dom = s.dev.wr R.CYC_ENT_STATUS dom 1) ∧
    (¬ held c.base c.count → (∀ b n, c.pend = some (b, n) → ¬ held b n) →
      (∀ k < 3, (s.dev.wEntW3 a dom).rd (R.CYC_ENT_W k) (1024 * dom + i) = s.dev.ard acc (R.CYC_ENT_W k)) ∧
      (s.dev.wEntW3 a dom).arn acc R.CYC_ENT_IDX = (i + 1) % 1024)) ∧
  (∀ (s : State) (a : Acc), s.dev.may a (R.CYC_ENT_W 0) false = true →
    let dom := s.dev.instOf a 0x20 (R.CYC_ENT_W 0).off
    let acc := winAcc (accIdx a) dom
    let i := 1024 * dom + s.dev.arn acc R.CYC_ENT_IDX % 1024
    ∃ d : Dev, exec (.entryRead a) s = .next (s.pinned (d.emit (.reply (accIdx a) [s.dev.rd (R.CYC_ENT_W 0) i]))) ∧
      (∀ k < 4, d.ard acc (R.CYC_ENT_W k) = s.dev.rd (R.CYC_ENT_W k) i) ∧ d = { s.dev with aregs := d.aregs }) ∧
  (∀ (s : State) (a : Acc), s.dev.may a R.CYC_POS_PHASE false = true →
    let dom := s.dev.instOf a 0x20 R.CYC_POS_PHASE.off
    let acc := winAcc (accIdx a) dom
    ∃ d : Dev, exec (.posPhaseRead a) s = .next (s.pinned (d.emit (.reply (accIdx a) [word (s.dev.phase dom)]))) ∧
      d.ard acc R.CYC_POS_CYCLE = word (s.dev.cyc1 dom).cycle ∧ d.ard acc R.CYC_POS_TIME_LO = word s.dev.now ∧
      d.ard acc R.CYC_POS_TIME_HI = word (s.dev.now / 4294967296) ∧ d = { s.dev with aregs := d.aregs }) ∧
  (∀ (s : State) (port e : Nat), s.dev.winEnd port = some e →
    let d := s.dev.advanceTo e
    let closed := (d.setPst port { d.pst port with wins := [] }).wf R.CAL_CAL_PSTATUS port 3 3 0
    ((d.pst port).l0pReq = none ∨ (d.pst port).proc ≠ none → exec (.calWinEnd port) s = .next (s.pinned closed)) ∧
    (∀ w, (d.pst port).l0pReq = some w → (d.pst port).proc = none →
      exec (.calWinEnd port) s = .next (s.pinned (closed.l0pWiden port w))))

/-! ### The register model and the accesses to it (R31–R66, R249–R258) -/

/-- R38: what an aligned write of one word to a register does, by its access code, where the access is made and the register has no action of
its own. Of a register that is one for all accessors, RW: the implemented bits take the value, the others stand. RWL: the same, unless
the page is locked: then it is ignored and SEL_STATUS.LOCKED is set for the accessor. RWS: the value is staged for the accessor and the
register in force stands. W1C: the bits written 1 clear. WO: the value is taken. RO, ROF and RC: ignored. Of a RW or RWS register that each
accessor has its own of, the accessor's own takes the implemented bits. A register that an internal port, or a port that is not SHARED,
does not have ignores the write (R113, R198, R399, R420). -/
def Obligations.AccessCodeDecidesWhatAWriteDoes : Prop :=
  ∀ (s : State) (a : Acc) (page off : Nat) (w : Word) (x : Ext) (r : RegDesc), off < 4096 → off % 4 = 0 → x.disagree = false →
    findReg page off = some r → s.dev.may a ⟨page, off⟩ true = true →
    let inst := s.dev.instOf a page off
    (s.dev.windowZero page off inst = true →
      exec (.registerWrite a false (4096 * page + off) 15 [w] x) s = .next (s.settled s.dev)) ∧
    (s.dev.windowZero page off inst = false → 0x100 ≤ off → off < 0xf00 → (page, off) ≠ (0x600, 0x124) →
    s.dev.systemWrite a page off inst w x = none → s.dev.portWrite a page off inst w = none →
    s.dev.coreWrite a page off inst w = none →
    let old := s.dev.rd ⟨page, off⟩ inst
    let merged := old &&& ~~~(word r.wmask) ||| w &&& word r.wmask
    let c := Instr.registerWrite a false (4096 * page + off) 15 [w] x
    (r.perAcc = true → r.acc = .rw ∨ r.acc = .rws →
      exec c s = .next (s.settled (s.dev.awr (accOf (accIdx a) page off inst) ⟨page, off⟩ (w &&& word r.wmask)))) ∧
    (r.perAcc = false →
    (r.acc = .rw → exec c s = .next (s.settled (s.dev.wr ⟨page, off⟩ inst merged))) ∧
    (r.acc = .rwl → page ∉ s.plock → exec c s = .next (s.settled (s.dev.wr ⟨page, off⟩ inst merged))) ∧
    (r.acc = .rwl → page ∈ s.plock → exec c s = .next (s.settled (s.dev.sticky (accIdx a) page 3))) ∧
    (r.acc = .rws → ∃ d : Dev, exec c s = .next (s.settled d) ∧ d.rd ⟨page, off⟩ inst = old ∧
      d.rwsRead (accIdx a) page inst off = w &&& word r.wmask) ∧
    (r.acc = .w1c → exec c s = .next (s.settled (s.dev.wr ⟨page, off⟩ inst (old &&& ~~~(w &&& word r.wmask))))) ∧
    (r.acc = .wo → exec c s = .next (s.settled (s.dev.wr ⟨page, off⟩ inst (w &&& word r.wmask)))) ∧
    (r.acc = .ro ∨ r.acc = .rof ∨ r.acc = .rc → exec c s = .next (s.settled s.dev))))

/-- The commands of the common page layout complete where the access is made (R42, R45, R47, R49, R52). SEL of page 0 takes the instance and
the member select, and the instance goes on to the member that it names; SEL of another page with instances takes the instance, for the
accessor alone, and nothing else changes; UNIT_CHILD sets the accessor's cursor; a read of TALn_LO answers the low word of counter n (of
a unit with other members below it, what they contribute is a free value) and latches bits [47:32], which TALn_HI then reads whatever the
counter has become; setting PLOCK locks the page and leaves the other locks. -/
def Obligations.CommonPageCommandsComplete : Prop :=
  ∀ (s : State) (a : Acc) (page : Nat),
  (∀ w : Word, s.dev.may a (selReg page) true = true → page ≠ 0 → ninst page ≠ 0 →
    exec (.selWrite a page w) s = .next (s.settled (s.dev.awr (accIdx a) (selReg (selPage page)) (w &&& 0xffff)))) ∧
  (∀ w : Word, s.dev.may a (selReg page) true = true → page ≠ 0 → ninst page = 0 → exec (.selWrite a page w) s = .next (s.settled s.dev)) ∧
  (∀ w : Word, s.dev.canAccess a = true → s.dev.accessDec a 0 0xc0 true = .ok → s.dev.chkView.accessDec a 0 0xc0 true = .ok →
    let d := s.dev.awr (accIdx a) (selReg 0) (w &&& 0xfffff)
    (d.carriedTo a = none → exec (.selWrite a 0 w) s = .next (s.settled d)) ∧
    (∀ m, d.carriedTo a = some m → exec (.selWrite a 0 w) s = .next (s.settled (d.carry a m 0xc0 (some (w &&& 0xffff)))))) ∧
  (∀ w : Word, s.dev.may a (unitChild page) true = true →
    exec (.unitChildWrite a page w) s = .next (s.settled (s.dev.awr (accIdx a) (unitChild page) w))) ∧
  (∀ n : Nat, n < 8 → s.dev.may a ⟨page, 0xf00 + 16 * n⟩ false = true →
    let hi : Reg := ⟨page, 0xf04 + 16 * n⟩
    ∃ (v : Nat) (d : Dev), exec (.talLoRead a page n) s = .next (s.settled (d.emit (.reply (accIdx a) [word v]))) ∧
      (s.dev.farUnit page (s.dev.rf (talEvsel page n) 0 31 16) = false → v = s.dev.talVal a page n) ∧
      (∀ live, d.hiWord (accIdx a) hi live = word (v / 4294967296 % 65536)) ∧ d = { s.dev with aregs := d.aregs, free := d.free }) ∧
  (∀ w : Word, s.dev.may a (unitCtrl page) true = true →
    ∃ t : State, exec (.plockSet a page w) s = .next t ∧ page ∈ t.plock ∧ ∀ p, p ≠ page → (p ∈ t.plock ↔ p ∈ s.plock))

/-- The commands that stage a table entry at a cursor complete where the access is made (R213, R214, R236, R266, R402): the accessor's held words with the word
written are staged for the entry at its cursor, no register in force changes, and the cursor moves on, wrapping at the end of the table
(VSLOT_DATA has no entries 248 to 255: at these a write does nothing); a write of PERM_DATA sets the permission word of the page at the
cursor at once, and moves the cursor on whether it sets it or not: it does not while page ISO is locked, for a page that is not
populated, and for page ISO itself without bits 3 and 5 (R250, R257). -/
def Obligations.EntryWritesStageTheEntry : Prop :=
  ∀ (s : State) (a : Acc) (w : Word),
  let acc := accIdx a
  (s.dev.may a (R.RTE_WIN_W 3) true = true →
    let i := s.dev.arn acc R.RTE_WIN_IDX % 8192
    ∃ d : Dev, exec (.winEntryWrite a w) s = .next (s.settled d) ∧ d.arn acc R.RTE_WIN_IDX = (i + 1) % 8192 ∧
      d.rwsRead acc 0x500 i 0x108 = s.dev.ard acc (R.RTE_WIN_W 0) &&& 0xfffff000 ∧
      d.rwsRead acc 0x500 i 0x10c = s.dev.ard acc (R.RTE_WIN_W 1) ∧ d.rwsRead acc 0x500 i 0x110 = s.dev.ard acc (R.RTE_WIN_W 2) ∧
      d.rwsRead acc 0x500 i 0x114 = w &&& 0x3ff7ffff ∧ d.regs = s.dev.regs) ∧
  (s.dev.may a (R.RTE_XING_W 3) true = true →
    let i := s.dev.arn acc R.RTE_XING_IDX % 1024
    ∃ d : Dev, exec (.xingEntryWrite a w) s = .next (s.settled d) ∧ d.arn acc R.RTE_XING_IDX = (i + 1) % 1024 ∧
      d.rwsRead acc 0x500 i 0x124 = s.dev.ard acc (R.RTE_XING_W 0) &&& 0xfffff000 ∧
      d.rwsRead acc 0x500 i 0x128 = s.dev.ard acc (R.RTE_XING_W 1) ∧
      d.rwsRead acc 0x500 i 0x12c = s.dev.ard acc (R.RTE_XING_W 2) &&& 0x000f3f3f ∧ d.regs = s.dev.regs) ∧
  (s.dev.may a (R.ISO_RULE_W 3) true = true →
    let i := s.dev.arn acc R.ISO_RULE_IDX % 16384
    ∃ d : Dev, exec (.ruleEntryWrite a w) s = .next (s.settled d) ∧ d.arn acc R.ISO_RULE_IDX = (i + 1) % 16384 ∧
      d.rwsRead acc 0x600 i 0x108 = s.dev.ard acc (R.ISO_RULE_W 0) &&& 0xfffff03f ∧
      d.rwsRead acc 0x600 i 0x10c = s.dev.ard acc (R.ISO_RULE_W 1) ∧ d.rwsRead acc 0x600 i 0x110 = s.dev.ard acc (R.ISO_RULE_W 2) ∧
      d.rwsRead acc 0x600 i 0x114 = w &&& 0x00ffffff ∧ d.regs = s.dev.regs) ∧
  (s.dev.may a R.STL_PIN_W1 true = true →
    let i := s.dev.arn acc R.STL_PIN_IDX % 2048
    ∃ d : Dev, exec (.pinEntryWrite a w) s = .next (s.settled d) ∧ d.arn acc R.STL_PIN_IDX = (i + 1) % 2048 ∧
      d.rwsRead acc 0x700 i 0x134 = s.dev.ard acc R.STL_PIN_W0 ∧ d.rwsRead acc 0x700 i 0x138 = w ∧ d.regs = s.dev.regs) ∧
  (s.dev.may a ⟨0x205, 0x194⟩ true = true → s.dev.arn acc R.PRT5_VSLOT_IDX % 256 < 248 →
    let st := s.dev.arn acc R.PRT5_FN_IDX % 64
    let k := s.dev.arn acc R.PRT5_VSLOT_IDX % 256
    ∃ d : Dev, exec (.vslotDataWrite a w) s = .next (s.settled d) ∧ d.arn acc R.PRT5_VSLOT_IDX = (k + 1) % 248 ∧
      d.rwsRead acc 0x205 (256 * st + k) 0x194 = w &&& 0xfff ∧ d.regs = s.dev.regs) ∧
  (s.dev.may a ⟨0x205, 0x194⟩ true = true → 248 ≤ s.dev.arn acc R.PRT5_VSLOT_IDX % 256 →
    exec (.vslotDataWrite a w) s = .next (s.settled s.dev)) ∧
  (s.dev.may a R.ISO_PERM_DATA true = true →
    let page := s.dev.arn acc R.ISO_PERM_IDX % 8192
    ∃ d : Dev, exec (.permDataWrite a w) s = .next (s.settled d) ∧ d.arn acc R.ISO_PERM_IDX = (page + 1) % 8192 ∧
      (0x600 ∉ s.plock → pagePopulated page = true → (page ≠ 0x600 ∨ (bit w 3 = true ∧ bit w 5 = true)) →
        d.rd R.ISO_PERM_DATA page = w &&& 0x3ff) ∧
      (pagePopulated page = false ∨ (page = 0x600 ∧ (bit w 3 = false ∨ bit w 5 = false)) → d.regs = s.dev.regs) ∧
      (0x600 ∈ s.plock → d.regs = s.dev.regs ∧ bit (d.ard acc (selStatus 0x600)) 3 = true))

/-- The commands that read a table entry at a cursor or empty a log complete where the access is made (R197, R198, R213, R217, R244). A read of
WIN_W0 loads the entry in force at the cursor and answers its word 0; a read of FLT_W0 answers word 0 of the log entry at the cursor, as
far as the accessor sees it, and latches the entry's upper time bits; the CLEARs empty the route log, the access-fault log and, of a
physical port, its drop log; WM_RESET sets the pool's low-water mark to the free cells, and the high-water mark of each stable to the
cells that it holds. -/
def Obligations.EntryReadsAndLogClearsComplete : Prop :=
  ∀ (s : State) (a : Acc),
  let acc := accIdx a
  (s.dev.may a (R.RTE_WIN_W 0) false = true →
    let i := s.dev.arn acc R.RTE_WIN_IDX % 8192
    ∃ d : Dev, exec (.winEntryRead a) s = .next (s.settled (d.emit (.reply acc [s.dev.rd (R.RTE_WIN_W 0) i]))) ∧
      (∀ k < 4, d.ard acc (R.RTE_WIN_W k) = s.dev.rd (R.RTE_WIN_W k) i) ∧ d = { s.dev with aregs := d.aregs }) ∧
  (s.dev.may a ⟨0x600, 0x12c⟩ false = true → ∀ e, s.dev.seen a s.dev.logs.flt (s.dev.arn acc R.ISO_FLT_IDX % 16) (fun e => e.stable) = some e →
    ∃ d : Dev, exec (.fltW0Read a) s = .next (s.settled (d.emit (.reply acc [e.word 0]))) ∧
      d.ard acc R.ISO_FLT_TIME_HI = hi32 e.time ∧ d = { s.dev with aregs := d.aregs }) ∧
  (s.dev.may a ⟨0x500, 0x158⟩ true = true →
    exec (.errLogClear a) s = .next (s.settled { s.dev with logs := { s.dev.logs with route := ⟨[], false⟩ } })) ∧
  (s.dev.may a ⟨0x600, 0x148⟩ true = true →
    exec (.fltClear a) s = .next (s.settled { s.dev with logs := { s.dev.logs with flt := ⟨[], false⟩ } })) ∧
  (s.dev.may a ⟨0x206, 0x100⟩ true = true → s.dev.instOf a 0x206 0x100 < 128 →
    ∃ d : Dev, exec (.pdClear a) s = .next (s.settled d) ∧
      Tbl.find d.path.drops (s.dev.instOf a 0x206 0x100) = none ∧
      d = { s.dev with path := { s.dev.path with drops := d.path.drops } }) ∧
  (s.dev.may a ⟨0x206, 0x100⟩ true = true → 128 ≤ s.dev.instOf a 0x206 0x100 → exec (.pdClear a) s = .next (s.settled s.dev)) ∧
  (s.dev.may a ⟨0x440, 0x11c⟩ true = true →
    ∃ d : Dev, exec (.wmReset a) s = .next (s.settled d) ∧ d.rd R.SHD_FREE_MIN = word s.dev.poolF ∧
      ∀ k < 64, d.rd R.SHD_STABLE_PEAK (0x200 + k) = word (s.dev.stOf k))

/-- What the protection of the register space does with an aligned access of one word that is not made (R32, R250, R251, R377): a write
that the checks refuse sets SEL_STATUS.DENIED of the accessor, counts in the DENY counter of its class, names itself in REG_DENY_LAST and,
of a tenant, raises REG_DENY of its stable, and no other register changes; where the two evaluations disagree, or a hardware fault makes
them, the access is not made, DENIED is set and the disagreement is noted for the safety unit; a partial or misaligned access sets SEL_STATUS.ALIGN alone; where no register stands, or under an invalid select, nothing happens. -/
def Obligations.RefusedWritesChangeNoOtherRegister : Prop :=
  ∀ (s : State) (a : Acc) (page off : Nat) (w : Word) (x : Ext), off < 4096 → s.dev.canAccess a = true → s.dev.carriedTo a = none →
    (off % 4 = 0 → x.disagree = false → s.dev.accessDec a page off true = .deny → s.dev.chkView.accessDec a page off true = .deny →
      ∃ d : Dev, exec (.registerWrite a false (4096 * page + off) 15 [w] x) s = .next (s.settled d) ∧
        bit (d.ard (accIdx a) (selStatus page)) 1 = true ∧
        d.rn (R.ISO_REG_DENY_CNT (s.dev.accClass a)) = (s.dev.rn (R.ISO_REG_DENY_CNT (s.dev.accClass a)) + 1) % 4294967296 ∧
        d.rn R.ISO_REG_DENY_LAST = (accIdx a + 128 + 256 * page + 2097152 * (off / 4)) % 4294967296 ∧
        (∀ t, s.dev.tenant a = some t → d.ev.count.getD (0x541 + 2 * t) 0 = (s.dev.ev.count.getD (0x541 + 2 * t) 0 + 1) % 65536) ∧
        ∀ (q : Reg) (i : Nat), regKey q.page i q.off ≠ regKey 0x600 0 (R.ISO_REG_DENY_CNT (s.dev.accClass a)).off →
          regKey q.page i q.off ≠ regKey 0x600 0 R.ISO_REG_DENY_LAST.off → d.rd q i = s.dev.rd q i) ∧
    (off % 4 = 0 → pagePopulated page = true →
      (x.disagree = true ∨ s.dev.accessDec a page off true ≠ s.dev.chkView.accessDec a page off true) →
      exec (.registerWrite a false (4096 * page + off) 15 [w] x) s = .next (s.settled
        ((s.dev.sticky (accIdx a) page 1).faultDue 0x14 (s.dev.tenant a) none 0))) ∧
    (off % 4 = 0 → x.disagree = false → (s.dev.accessDec a page off true = .void ∨ s.dev.accessDec a page off true = .invalid) →
      s.dev.chkView.accessDec a page off true = s.dev.accessDec a page off true →
      exec (.registerWrite a false (4096 * page + off) 15 [w] x) s = .next (s.settled s.dev)) ∧
    (∀ be, pagePopulated page = true → (off % 4 ≠ 0 ∨ be % 16 ≠ 15) →
      exec (.registerWrite a false (4096 * page + off) be [w] x) s = .next (s.settled (s.dev.sticky (accIdx a) page 2)))

/-- Accesses that reach the registers by another way complete (R52, R478, R481). A READ or WRITE message that is well formed, on the SMBus
while that path is served and no earlier read of accessor 65 waits for a member, is carried out as an access of accessor 65 and answered with
its SEL_STATUS, a READ that another member serves when that member answers; a malformed one is answered 1 and one that finds an earlier
read waiting 2; on PCIe, while that path is served, either is counted as an error and raises the error's event. The debug port's instruction
reads or writes its words in ascending order as accessor 66. An aligned access of an accessor whose select names another member that is not lost is sent
there with the accessor's class and stable, in a message of the model's form (log entry 9), and a read then waits; for a lost member
REMOTE_FAIL is set, a write is discarded and a read returns 0. The member's answer to the oldest read of an accessor goes to the
accessor: as a word, as the answer to READ, or into the read of a host that waits for it. On the member, an access that the head sends is
carried out in the accessor's class, and a read is answered. -/
def Obligations.CarriedAccessesComplete : Prop :=
  ∀ s : State,
  (∀ (ok : Bool) (addr : Nat) (data : Word) (x : Ext), s.dev.pathUp 0 = true →
    let busy := s.dev.mgt.remote.any fun e => e.1 == 65
    (ok = false → exec (.read 0 ok addr x) s = .next (s.settled (s.dev.emit (.msg 0 0x7e01 [1, 0, 0]))) ∧
      exec (.write 0 ok addr data x) s = .next (s.settled (s.dev.emit (.msg 0 0x7e02 [1, 0])))) ∧
    (ok = true → busy = true → exec (.read 0 ok addr x) s = .next (s.settled (s.dev.emit (.msg 0 0x7e01 [2, 0, 0]))) ∧
      exec (.write 0 ok addr data x) s = .next (s.settled (s.dev.emit (.msg 0 0x7e02 [2, 0])))) ∧
    (ok = true → busy = false → (addr % 4 ≠ 0 ∨ s.dev.elsewhere .smbus addr = none) →
      let r := s.dev.readWord s.plock .smbus addr 15 x none
      exec (.read 0 ok addr x) s = .next (s.settled (r.2.emit
        (.msg 0 0x7e01 [0, r.1.toNat, (r.2.selStatusOf .smbus (addr / 4096)).toNat])))) ∧
    (∀ m, ok = true → busy = false → addr % 4 = 0 → s.dev.elsewhere .smbus addr = some m →
      exec (.read 0 ok addr x) s = .next (s.settled (s.dev.carry .smbus m addr none))) ∧
    (ok = true → busy = false →
      let r := s.dev.accWrite s.plock .smbus addr 15 [data] x
      exec (.write 0 ok addr data x) s = .next (State.settled { s with plock := r.1 } (r.2.emit
        (.msg 0 0x7e02 [0, (r.2.selStatusOf .smbus (addr / 4096)).toNat]))))) ∧
  (∀ (ok : Bool) (addr : Nat) (data : Word) (x : Ext), s.dev.pathUp 1 = true →
    exec (.read 1 ok addr x) s = .next (s.settled ((s.dev.bump R.DEV_MCTP_CNT_ERR).raise 0x018)) ∧
    exec (.write 1 ok addr data x) s = .next (s.settled ((s.dev.bump R.DEV_MCTP_CNT_ERR).raise 0x018))) ∧
  (∀ (addr : Nat) (data : List Word) (x : Ext),
    exec (.dbgAccess true addr data x) s = .next (s.settled (s.dev.accLoad s.plock .debug addr 15 data.length x)) ∧
    (let r := s.dev.accWrite s.plock .debug addr 15 data x
     exec (.dbgAccess false addr data x) s = .next (State.settled { s with plock := r.1 } r.2))) ∧
  (∀ (a : Acc) (m addr : Nat) (data : Word), s.dev.canAccess a = true → s.dev.carriedTo a = some m → addr ≠ 0xc0 → addr % 4 = 0 →
    let c := s.dev.accMark a
    let waits := { s.dev with mgt := { s.dev.mgt with remote := s.dev.mgt.remote ++ [(accIdx a, m, addr)] } }
    (s.dev.isLost m = false →
      exec (.remoteAccess a true addr 15 data) s = .next (s.settled (waits.ctlSend m [2, 0, accIdx a, 0, c.1, c.2, addr, 0])) ∧
      ∃ d : Dev, exec (.remoteAccess a false addr 15 data) s = .next (s.settled d) ∧ d.regs = s.dev.regs ∧
        d.mkl.ctl = s.dev.mkl.ctl ++ [⟨m, none, s.dev.me, 0, s.dev.staging.epoch.toNat % 2,
          [2, 0, accIdx a, 1, c.1, c.2, addr, data.toNat]⟩]) ∧
    (s.dev.isLost m = true →
      exec (.remoteAccess a true addr 15 data) s = .next (s.settled
        ((waits.sticky (accIdx a) 0 4).remoteEnd (accIdx a) 0 ((waits.sticky (accIdx a) 0 4).selStatusOf .smbus 0))) ∧
      ∃ d : Dev, exec (.remoteAccess a false addr 15 data) s = .next (s.settled d) ∧ bit (d.ard (accIdx a) (selStatus 0)) 4 = true ∧
        d.regs = s.dev.regs ∧ d.mkl = s.dev.mkl)) ∧
  (∀ (m acc addr : Nat) (data status : Word), (s.dev.mgt.remote.find? fun e => e.1 == acc) = some (acc, m, addr) →
    let d := { s.dev with mgt := { s.dev.mgt with remote := s.dev.mgt.remote.erase (acc, m, addr) } }
    let mine := s.dev.mgt.host.find? fun h => h.acc == acc && h.words.any Option.isNone
    (mine = none → acc ≠ 65 → exec (.remoteAnswer m acc data status) s = .next (s.settled (d.emit (.reply acc [data])))) ∧
    (mine = none → acc = 65 →
      exec (.remoteAnswer m acc data status) s = .next (s.settled (d.emit (.msg 0 0x7e01 [0, data.toNat, status.toNat])))) ∧
    (∀ h, mine = some h →
      let h' := { h with words := h.words.set (h.words.findIdx Option.isNone) (some data) }
      (h'.words.any Option.isNone = true → exec (.remoteAnswer m acc data status) s =
        .next (s.settled { d with mgt := { d.mgt with host := d.mgt.host.replace h h' } })) ∧
      (h'.words.any Option.isNone = false → exec (.remoteAnswer m acc data status) s =
        .next (s.settled (({ d with mgt := { d.mgt with host := d.mgt.host.erase h } }).completeData h.tlp (some acc) h.ing 130 .mgmt
          (tlo h.tlp) (h'.words.flatMap fun (w : Option Word) => bytesOf 4 ((w.getD 0).toNat))))))) ∧
  (∀ (acc cls stb addr : Nat) (w : Word) (x : Ext), s.dev.yardEn = true → s.dev.canAccess (.remote cls stb) = true →
    (let r := s.dev.accWrite s.plock (.remote cls stb) addr 15 [w] x
     exec (.regAccess s.dev.headNo [2, 0, acc, 1, cls, stb, addr, w.toNat] x) s = .next (State.settled { s with plock := r.1 } r.2)) ∧
    (let r := s.dev.readWord s.plock (.remote cls stb) addr 15 x none
     exec (.regAccess s.dev.headNo [2, 0, acc, 0, cls, stb, addr, 0] x) s = .next (s.settled
      (r.2.ctlSend s.dev.headNo [2, 1, acc, r.1.toNat, (r.2.selStatusOf (.remote cls stb) (addr / 4096)).toNat]))))

/-! ### Lanes, ports, links and slots (R87–R115) -/

/-- Training and Recovery complete (R94–R98, R140). Training starts at receiver detection, on a fabric port under MKL, and of a port in
training goes on to Polling, Configuration, the L0 at 2.5 GT/s in which the data link comes up, and the Recoveries that raise the rate, or,
where the partner directs it, to Loopback or Compliance, each with lanes that allow a width; a fabric port's lanes go on to TRAINING. It
ends with the link in L0, at the width that both ends, the target and the lanes that locked allow, which LINK_UP and, below the target,
LINK_DEGRADED report. A step that fails shows its reason
and rate in TRAIN_ERR and, for reasons 1 to 3, returns the port to detection. RETRAIN, where the write is made, takes a link that is up and
that trained on all lanes of MASK through Recovery, another that is up down, to train from Detect, and starts the training of one that is down
and may train; an ACTIVE fabric link goes to HOLD. A lane that loses lock, and a link that its partner takes there, enter Recovery with
LSTATE 5. Recovery (but the one of a re-equalisation) without a failed lane ends in L0 or L0p at the width asked for, or, for a
RETRAIN, at the width that the lanes allow; a failure on lanes is counted for each of them, and a lane with a third failure in a row is
FAILED and reported, while the link renegotiates its width over the others. -/
def Obligations.TrainingAndRecoveryComplete : Prop :=
  ∀ (s : State) (p : Nat),
  (∀ lanes : Nat, s.dev.mayTrain p = true → s.dev.dlUp p = false → s.dev.isFabric p = false →
    exec (.linkTrainingStart p 0 lanes) s = .next (s.settled (s.dev.linkWords p 1))) ∧
  (∀ lanes : Nat, s.dev.mayTrain p = true → s.dev.dlUp p = false → s.dev.isFabric p = true →
    (s.dev.lkState p = 0 ∨ s.dev.lkState p = 5 ∨ s.dev.lkState p = 6) →
    exec (.linkTrainingStart p 0 lanes) s = .next (s.settled (((s.dev.linkWords p 1).setLstate p 11).setLkState p 1))) ∧
  (∀ lanes : Nat, s.dev.inTraining p = true →
    let w := widthOf (min (s.dev.tgtWidth p) ((s.dev.trainLanes p).filter fun k => lanes.testBit k).length)
    w ≠ 0 →
    (s.dev.isFabric p = true → exec (.linkTrainingStart p 1 lanes) s = .next (s.settled (s.dev.stepLanes p lanes 0))) ∧
    (s.dev.isFabric p = false → s.dev.lstate p = 1 → ∃ d : Dev, exec (.linkTrainingStart p 1 lanes) s = .next (s.settled d) ∧
      d.lstate p = 2 ∧ (s.dev.portSlot p = none → d.rb R.PRT0_LINK_STATUS p 22 = true)) ∧
    (s.dev.isFabric p = false → s.dev.lstate p = 2 →
      exec (.linkTrainingStart p 2 lanes) s = .next (s.settled ((s.dev.stepLanes p lanes 1).setLstate p 3))) ∧
    (s.dev.isFabric p = false → s.dev.lstate p = 3 → ∃ d : Dev, exec (.linkTrainingStart p 3 lanes) s = .next (s.settled d) ∧
      d.lstate p = 4 ∧ d.rf R.PRT0_LINK_STATUS p 20 16 = w ∧ d.curRate p = 0 ∧ d.rb R.PRT0_LINK_STATUS p 12 = true) ∧
    (s.dev.isFabric p = false → s.dev.lstate p = 4 →
      exec (.linkTrainingStart p 4 lanes) s = .next (s.settled (s.dev.setLstate p 5))) ∧
    (s.dev.isFabric p = false → s.dev.lstate p = 5 →
      exec (.linkTrainingStart p 3 lanes) s = .next (s.settled (s.dev.setLstate p 4))) ∧
    (s.dev.isFabric p = false → (s.dev.lstate p = 2 ∨ s.dev.lstate p = 3) →
      exec (.linkTrainingStart p 5 lanes) s = .next (s.settled ((s.dev.stepLanes p lanes 1).setLstate p 9)))) ∧
  (∀ i : LinkInfo, s.dev.inTraining p = true → s.dev.isFabric p = false → s.dev.lstate p ≠ 9 →
    let w := widthOf (min (min (s.dev.tgtWidth p) i.width) ((s.dev.trainLanes p).filter fun k => !i.unlocked.testBit k).length)
    w ≠ 0 → ∃ (d : Dev) (degraded : Bool), exec (.linkUp p i) s = .next (s.settled (
        let e := (d.raise (0x200 + 4 * p)).dpcCor p 23
        let e := if degraded then e.linkDegraded p else e
        match e.owner p with
        | some st => if e.isUp p then e.upReturns st else e
        | none => e)) ∧
      d.lstate p = 4 ∧ d.rf R.PRT0_LINK_STATUS p 11 7 = w ∧ d.rf R.PRT0_LINK_STATUS p 20 16 = w ∧
      d.rb R.PRT0_LINK_STATUS p 12 = true ∧ (w < s.dev.tgtWidth p → degraded = true)) ∧
  (∀ reason rate lanes : Nat, s.dev.inTraining p = true → 1 ≤ reason → reason ≤ 6 → rate < 8 →
    ∃ d : Dev, exec (.trainingFailure p reason rate lanes) s = .next (s.settled d) ∧ d.rn R.PRT0_TRAIN_ERR p = reason + 16 * rate ∧
      (reason ≤ 3 → d.lstate p = if s.dev.isFabric p then 11 else 1)) ∧
  (∀ a : Acc, s.dev.may a R.PRT0_LINK_CTRL true = true → ∃ d : Dev, exec (.retrain a) s = .next (s.settled d) ∧
    let q := s.dev.instOf a 0x200 R.PRT0_LINK_CTRL.off
    let on := s.dev.wf R.PRT0_LINK_CTRL q 0 0 1
    let m := s.dev.laneMask q
    (s.dev.isFabric q = true → d = if s.dev.lkState q = 3 then on.mklHold q true else s.dev) ∧
    (s.dev.isFabric q = false → s.dev.dlUp q = true → m ≠ 0 → m &&& (s.dev.pst q).detLanes = m → d.lstate q = 5 ∧
      d = (on.enterRecovery q).report q (min (widthOf (min (s.dev.tgtWidth q) (s.dev.recLanes q).length)) ((on.enterRecovery q).repWidth q))) ∧
    (s.dev.isFabric q = false → s.dev.dlUp q = true → (m = 0 ∨ m &&& (s.dev.pst q).detLanes ≠ m) →
      d = if (on.dlDown q 1 false true).inTraining q then on.dlDown q 1 false true
        else (on.dlDown q 1 false true).wf R.PRT0_LINK_CTRL q 0 0 0) ∧
    (s.dev.isFabric q = false → s.dev.dlUp q = false → d = if s.dev.mayTrain q then on.trainStart q else s.dev)) ∧
  (s.dev.isFabric p = false → s.dev.dlUp p = true → (s.dev.lstate p = 4 ∨ s.dev.lstate p = 6) →
    (∃ d : Dev, exec (.linkEntersRecovery p) s = .next (s.settled d) ∧ d.lstate p = 5 ∧ (d.pst p).proc = none) ∧
    (∀ k, s.dev.laneState (p / 8) k = 3 → (s.dev.linkLanes p).contains k = true →
      ∃ d : Dev, exec (.laneLockLoss p k) s = .next (s.settled d) ∧ d.lstate p = 5 ∧ bit (d.lane (p / 8) k) 3 = false)) ∧
  (∀ failed : Nat, s.dev.isFabric p = false → s.dev.dlUp p = true → s.dev.lstate p = 5 →
    let d := s.dev.procAbort p 3
    let bad := (d.linkLanes p).filter fun k => failed.testBit k
    ((s.dev.pst p).proc = none ∨ (∃ pr, (s.dev.pst p).proc = some pr ∧ pr.kind ≠ .reeq) → bad = [] →
      let e := (d.setPst p { d.pst p with recFail := [] }).speedSync p
      (e.rb R.PRT0_LINK_CTRL p 0 = true → exec (.recoveryEnd p failed) s = .next (s.settled (e.reconfigure p (e.recLanes p)))) ∧
      (e.rb R.PRT0_LINK_CTRL p 0 = false →
        let w := ((e.pst p).l0pReq).getD (e.curWidth p)
        let f := (e.linkLanes p).foldl (fun d k => d.wf (R.LAN_LANE_STATUS (p / 8)) k 3 3 1) e
        exec (.recoveryEnd p failed) s = .next (s.settled
          ((f.setLstate p (if w < f.rf R.PRT0_LINK_STATUS p 20 16 then 6 else 4)).l0pWiden p w)))) ∧
    (bad ≠ [] →
      let t := bad.map fun k => (k, (d.pst p).recFail.getD k 0 + 1)
      let e := d.setPst p { d.pst p with recFail := t.foldl (fun l x => Tbl.put l x.1 0 x.2) [] }
      let out := (t.filter fun x => 3 ≤ x.2).map (·.1)
      (∀ k ∈ bad, (e.pst p).recFail.getD k 0 = (d.pst p).recFail.getD k 0 + 1) ∧
      (∀ k, k ∉ bad → (e.pst p).recFail.getD k 0 = 0) ∧
      (out = [] → exec (.recoveryEnd p failed) s = .next (s.settled e)) ∧
      (out ≠ [] →
        let f := (out.foldl (fun d k => (d.setLane (p / 8) k 6).wf (R.LAN_LANE_STATUS (p / 8)) k 3 3 0) e).laneFaults p (ofBits out)
        let g := f.reconfigure p (f.recLanes p)
        exec (.recoveryEnd p failed) s = .next (s.settled (if g.dlUp p ∧ g.curWidth p = g.tgtWidth p then g.linkDegraded p else g)))))

/-- Link power, reference clocks, lane tests and margining complete (R99, R101–R105, R111, R112, R119, R133, R134). A partner's request for a
width that a flit-mode link with L0p allows is followed: narrowing at once, widening at once but while a calibration window is open or a
HALF procedure runs, when it waits, and a running HALF procedure returns to that width; its acknowledgement of a HALF procedure narrows the link and engages the
loopback. A link that may enter L1, with nothing queued or sent, enters it, and a procedure on it aborts. The loss of a reference clock
shows in CL_REFCLK; where the clock was good, it is a fault of its ports, and takes their links down, but an ACTIVE fabric link to HOLD; its return
shows there. Generator and checker run on lanes in service that are OFF, EXCLUDED or TEST, and a lane on which neither runs any longer leaves TEST;
other lanes ignore the write; errors that the checker counted are read once, saturating. Margining commands find a lane ready only with LM_EN
= 1 and while it is not parked; an offset freezes its adaptation until the normal point returns. -/
def Obligations.LinkPowerAndLaneTestsComplete : Prop :=
  ∀ (s : State) (p : Nat),
  (∀ w : Nat, s.dev.isFabric p = false → s.dev.dlUp p = true → (s.dev.lstate p = 4 ∨ s.dev.lstate p = 6) →
    s.dev.rb R.PRT0_LINK_STATUS p 13 = true → s.dev.rb R.PRT0_LINK_STATUS p 21 = true → s.dev.rb R.PRT0_LINK_CTRL p 1 = true →
    w ≠ 0 → widthOf w = w → w ≤ s.dev.rf R.PRT0_LINK_STATUS p 20 16 →
    let half := (s.dev.pst p).proc.filter fun pr => pr.kind == .half
    let d := match half with
      | some pr => s.dev.setPst p { s.dev.pst p with proc := some { pr with ret := w } }
      | none => s.dev
    (w < s.dev.curWidth p → exec (.l0pPartnerRequest p w) s = .next (s.settled ((d.setPst p { d.pst p with l0pReq := none }).l0pNarrow p w))) ∧
    (s.dev.curWidth p < w → half = none → (s.dev.pst p).wins = [] → exec (.l0pPartnerRequest p w) s = .next (s.settled (d.l0pWiden p w))) ∧
    (s.dev.curWidth p < w → (half ≠ none ∨ (s.dev.pst p).wins ≠ []) → exec (.l0pPartnerRequest p w) s = .next (s.settled
      (d.setPst p { d.pst p with l0pReq := some w })))) ∧
  (∀ pr : Proc, (s.dev.pst p).proc = some pr → pr.kind = .half → pr.step = .starting → s.dev.dlUp p = true →
    exec (.l0pPartnerAcknowledge p) s = .next (s.settled (
      let d := s.dev.l0pNarrow p (min (s.dev.rf R.PRT0_LINK_STATUS p 20 16 / 2) (s.dev.curWidth p))
      (d.setPst p { d.pst p with proc := some { pr with step := .parked } }).emit (.engine p 2 [pr.lanes])))) ∧
  (s.dev.isFabric p = false → s.dev.dlUp p = true → (s.dev.lstate p = 4 ∨ s.dev.lstate p = 6) → s.dev.l1Allowed p = true →
    s.dev.queueOf p = [] → s.dev.busyAt p = false →
    ∃ d : Dev, exec (.l1Entry p) s = .next (s.settled (d.emit (.engine p 9 [b2n (s.dev.l1Sub p 3), b2n (s.dev.l1Sub p 4)]))) ∧
      d = ({ s.dev with path := { s.dev.path with replay := s.dev.path.replay.erase p } }.procAbort p 3).setLstate p 7 ∧
      d.lstate p = 7) ∧
  (∀ (cl freq : Nat) (present freqOk : Bool), cl < 16 → (present && freqOk) = false → s.dev.refOk cl = false →
    exec (.refclkLoss cl present freqOk freq) s = .next (s.settled
      (s.dev.wn (R.LAN_CL_REFCLK cl) 0 (b2n present + 2 * b2n freqOk + 65536 * (freq % 65536))))) ∧
  (∀ (cl freq : Nat) (present freqOk : Bool), cl < 16 → (present && freqOk) = false → s.dev.refOk cl = true →
    exec (.refclkLoss cl present freqOk freq) s = .next (s.settled (
      let d := s.dev.wn (R.LAN_CL_REFCLK cl) 0 (b2n present + 2 * b2n freqOk + 65536 * (freq % 65536))
      let ps := d.clusterPorts cl
      let d := d.react 0x0d (ps.flatMap d.portStables).eraseDups ps (ps.flatMap fun p => (d.portSlices p).map (·.1))
        (d.unitRef (.cluster cl)) 0
      ps.foldl (fun d p =>
        if d.isFabric p then (if d.lkState p = 3 then d.mklHold p false else if d.lkState p = 4 then d
          else (d.linkWords p (d.lstate p)).setLkState p 0)
        else if d.dlUp p then d.dlDown p 1 false true
        else d.linkWords p (d.lstate p)) d))) ∧
  (∀ cl freq : Nat, cl < 16 →
    exec (.refclkRestore cl freq) s = .next (s.settled (s.dev.wn (R.LAN_CL_REFCLK cl) 0 (3 + 65536 * (freq % 65536))))) ∧
  (∀ (cl errs : Nat) (a : Acc) (w : Word), cl < 16 → s.dev.may a (R.LAN_LANE_TEST cl) true = true →
    let k := s.dev.instOf a (0x100 + cl) (R.LAN_LANE_TEST cl).off
    let st := s.dev.laneState cl k
    let d := (s.dev.chkCount cl k errs).wn (R.LAN_LANE_TEST cl) k (w.toNat % 128)
    ((st ≠ 0 ∧ st ≠ 5 ∧ st ≠ 7) ∨ s.dev.rb (unitCtrl (0x100 + cl)) k 0 = false →
      exec (.laneTestWrite cl a w errs) s = .next (s.settled s.dev)) ∧
    ((st = 0 ∨ st = 5 ∨ st = 7) → s.dev.rb (unitCtrl (0x100 + cl)) k 0 = true →
      (w.toNat % 4 ≠ 0 → exec (.laneTestWrite cl a w errs) s = .next (s.settled (d.setLane cl k 7))) ∧
      (w.toNat % 4 = 0 → st ≠ 7 → exec (.laneTestWrite cl a w errs) s = .next (s.settled d)) ∧
      (w.toNat % 4 = 0 → st = 7 → ∃ x, (x = 0 ∨ x = 5) ∧ exec (.laneTestWrite cl a w errs) s = .next (s.settled (d.setLane cl k x))))) ∧
  (∀ (cl errs : Nat) (a : Acc), cl < 16 → s.dev.may a (R.LAN_LANE_TEST_ERR cl) false = true →
    let k := s.dev.instOf a (0x100 + cl) (R.LAN_LANE_TEST_ERR cl).off
    let n := s.dev.rn (R.LAN_LANE_TEST_ERR cl) k + (if s.dev.rb (R.LAN_LANE_TEST cl) k 1 then errs else 0)
    ∃ d : Dev, exec (.laneTestErrRead cl a errs) s = .next (s.settled (d.emit (.reply (accIdx a) [word (min n 4294967295)]))) ∧
      d.rd (R.LAN_LANE_TEST_ERR cl) k = 0 ∧ d = { s.dev with regs := d.regs }) ∧
  (∀ k offset : Nat, s.dev.isFabric p = false → s.dev.dlUp p = true → (s.dev.linkLanes p).contains k = true →
    let rest := (s.dev.pst p).lmLanes.filter (· != k)
    (s.dev.rb R.PRT0_LINK_CTRL p 5 = false ∨ s.dev.laneState (p / 8) k = 4 →
      exec (.laneMarginingCommand p k offset) s = .next (s.settled (s.dev.emit (.engine p 3 [k, 0])))) ∧
    (s.dev.rb R.PRT0_LINK_CTRL p 5 = true → s.dev.laneState (p / 8) k ≠ 4 → offset = 0 →
      exec (.laneMarginingCommand p k offset) s = .next (s.settled
        ((s.dev.setPst p { s.dev.pst p with lmLanes := rest }).emit (.engine p 3 [k, 1, offset])))) ∧
    (s.dev.rb R.PRT0_LINK_CTRL p 5 = true → s.dev.laneState (p / 8) k ≠ 4 → offset ≠ 0 →
      exec (.laneMarginingCommand p k offset) s = .next (s.settled (
        let d := s.dev.adaptStop (p / 8) [k]
        (d.setPst p { d.pst p with lmLanes := rest ++ [k] }).emit (.engine p 3 [k, 1, offset])))))

/-- Hot-plug slots (R106–R109) complete: a change of presence shows in SLOT_STATE, LINK_STATUS and Slot Status of the slot's port and raises SLOT,
and a loss takes the link down; power, which is off with the reset output asserted until it is on, and the indicators are written to the slot's expander, behind its
writes that wait; an acknowledgement ends the oldest write, and that of a power-on starts PWR_DELAY, at whose end, or at once where it is 0,
the reset output is deasserted; a write that is not acknowledged is marked in HP_ERR and reported, and sent again at the next poll or, with polling off,
when EXPANDER_WRITE_RETRY asks for it; the inputs of the expanders are read at each poll and on HP_INT. -/
def Obligations.HotPlugCommandsComplete : Prop :=
  ∀ s : State,
  (∀ (k p : Nat) (present : Bool), k < 32 → (s.dev.slot k).present ≠ present → s.dev.slotPort k = some p →
    exec (.presenceChange k present) s = .next (s.settled (
      let d := s.dev.setSlot k { s.dev.slot k with present := present }
      let d := (d.wf R.PRT1_SLOT_STATE p 0 0 (b2n present)).wf R.PRT0_LINK_STATUS p 22 22 (b2n present)
      let d := (d.slotStatus p 8).raise (0x200 + 4 * p + 3)
      if present then d else if d.dlUp p then d.dlDown p 1 true true else d.linkWords p (d.lstate p)))) ∧
  (∀ (k : Nat) (present : Bool), k < 32 → (s.dev.slot k).present ≠ present → s.dev.slotPort k = none →
    exec (.presenceChange k present) s = .next (s.settled (s.dev.setSlot k { s.dev.slot k with present := present }))) ∧
  (∀ (d : Dev) (k : Nat) (cmd : Bool), ∃ w < 65536, (d.expWrite k cmd).ports.expQ.getD (k / 4) [] =
    d.ports.expQ.getD (k / 4) [] ++ [w + 65536 * 2 ^ (k % 4) + 1048576 * b2n cmd]) ∧
  (∀ (p k : Nat), s.dev.portSlot p = some k → s.dev.slotCtl k = true → (s.dev.slot k).power = false →
    exec (.slotPowerOn p) s = .next (s.settled
      (((s.dev.setSlot k { s.dev.slot k with power := true, cmdDone := false, resetOn := true }).emit (.pin (.slotReset p) true)).expWrite k true))) ∧
  (∀ (p k : Nat), s.dev.portSlot p = some k → s.dev.slotCtl k = true → (s.dev.slot k).power = true →
    exec (.slotPowerOff p) s = .next (s.settled (
      let d := if s.dev.dlUp p then s.dev.dlDown p 1 false true else s.dev
      let d := (d.setSlot k { d.slot k with resetOn := true }).emit (.pin (.slotReset p) true)
      (d.setSlot k { d.slot k with power := false, powered := false, delayAt := none, cmdDone := false }).expWrite k true))) ∧
  (∀ (e w : Nat) (rest : List Nat), s.dev.ports.expQ.getD e [] = w :: rest →
    (∃ d : Dev, exec (.expanderWriteAck e) s = .next (s.settled d) ∧ d.ports.expQ.getD e [] = rest ∧
      ∀ j < 4, (w / 65536).testBit j = true →
        (d.slot (4 * e + j)).powered = (w / 16 ^ j).testBit 0 ∧
        ((w / 16 ^ j).testBit 0 = true → (s.dev.slot (4 * e + j)).powered = false →
          ∀ q, s.dev.slotPort (4 * e + j) = some q →
            let ms := s.dev.rf R.PRT1_SLOT_CFG q 15 8
            (ms ≠ 0 → (d.slot (4 * e + j)).delayAt = some (s.dev.now + 1000000 * ms)) ∧
            (ms = 0 → (d.slot (4 * e + j)).resetOn = false))) ∧
    exec (.expanderWriteNak e) s = .next (s.settled
      ((bitsOf 4 (w / 65536)).foldl (fun d j => d.slotEvent (4 * e + j)) (s.dev.wf R.PRT1_HP_ERR 0 e e 1))) ∧
    (s.dev.rf R.PRT1_HP_POLL 0 7 0 = 0 → exec (.expanderWriteRetry e) s = .next (s.settled
      (s.dev.emit (.bus 1 (s.dev.rf (R.PRT1_HP_EXP e) 0 6 0) [s.dev.rf (R.PRT1_HP_EXP e) 0 23 16, w % 65536]))))) ∧
  (∀ inputs : List Nat, s.dev.rf R.PRT1_HP_POLL 0 7 0 ≠ 0 →
    exec (.expanderPoll inputs) s = .next (s.settled ((List.range 8).foldl (fun d e => d.expRetry e)
      ((s.dev.advanceTo (s.dev.nextPeriod (s.dev.rf R.PRT1_HP_POLL 0 7 0))).expRead inputs)))) ∧
  (∀ inputs : List Nat, exec (.hpInt inputs) s = .next (s.settled (s.dev.expRead inputs))) ∧
  (∀ k : Nat, k < 32 → s.dev.slotCtl k = true → ((s.dev.slot k).attn = 2 ∨ (s.dev.slot k).pwrInd = 2) →
    exec (.indicatorBlink k) s = .next (s.settled
      ((s.dev.setSlot k { s.dev.slot k with blinkOn := !(s.dev.slot k).blinkOn }).expWrite k false))) ∧
  (∀ (p k t : Nat), s.dev.portSlot p = some k → (s.dev.slot k).delayAt = some t →
    exec (.pwrDelayEnd p) s = .next (s.settled (
      let d := s.dev.advanceTo t
      let d' := d.setSlot k { d.slot k with delayAt := none, resetOn := false }
      match d'.slotPort k with
      | some q => d'.emit (.pin (.slotReset q) false)
      | none => d')))

/-! ### Calibration under live traffic (R116–R144) -/

/-- The triggers of calibration complete (R120, R123, R124, R129, R132): margin evaluation takes the clusters' temperatures at the next
period; a write of CAL_REQ that is made, on a port whose link runs, makes the named lanes that a procedure can calibrate due with trigger
manual; rotation makes such a lane, not yet due, due ROT_PERIOD after its last calibration or at its staggered instant; a failed lane is due again at its retry
instant; the unit that has been due longest, of those that wait and are not yet reported, sets STARVED and raises CAL_STARVED after its
limit, and is marked as reported. -/
def Obligations.CalibrationTriggersComplete : Prop :=
  ∀ s : State,
  (∀ (temps : List Nat) (eyes : List (Nat × Nat)), s.dev.rf R.CAL_CAL_CTRL 0 15 8 ≠ 0 →
    ∃ d : Dev, exec (.marginEval temps eyes) s = .next (s.settled d) ∧
      d.now = (s.dev.advanceTo (s.dev.nextPeriod (s.dev.rf R.CAL_CAL_CTRL 0 15 8))).now ∧
      ∀ c < 16, ∀ t, temps[c]? = some t → d.rn (R.CAL_CL_TEMP c) = t % 65536) ∧
  (∀ (a : Acc) (w : Word), s.dev.may a R.CAL_CAL_REQ true = true →
    let p := s.dev.instOf a 0x40 R.CAL_CAL_REQ.off
    (s.dev.calLive p = true → exec (.calReq a w) s = .next (s.settled ((bitsOf 16 w.toNat).foldl (fun d k =>
      if d.unitOf p k = [] then d else (d.makeDue p k 3).wf R.CAL_CAL_REQ p k k 1) s.dev))) ∧
    (s.dev.calLive p = false → exec (.calReq a w) s = .next (s.settled s.dev))) ∧
  (∀ p k : Nat, s.dev.rf R.CAL_CAL_ROT p 15 0 ≠ 0 → s.dev.calLive p = true → (s.dev.calLane p k).due = none → s.dev.unitOf p k ≠ [] →
    exec (.rotationDue p k) s = .next (s.settled (
      let d := s.dev.advanceTo ((s.dev.calLane p k).rotAt.getD (s.dev.rd64 (R.LAN_LCAL_TIME_LO (p / 8)) (R.LAN_LCAL_TIME_HI (p / 8)) k +
        1000000 * s.dev.rf R.CAL_CAL_ROT p 15 0))
      (d.setCalLane p k { d.calLane p k with rotAt := none }).makeDue p k 0))) ∧
  (∀ p k t : Nat, (s.dev.calLane p k).retryAt = some t →
    exec (.calFailRetry p k) s = .next (s.settled (
      let d := s.dev.advanceTo t
      let d := d.setCalLane p k { d.calLane p k with retryAt := none }
      if d.unitOf p k = [] then d else d.makeDue p k 2))) ∧
  (∀ (p : Nat) (e : Nat × Nat × Nat) (l : List (Nat × Nat × Nat)),
    sortBy (fun e : Nat × Nat × Nat => e.2.2) (s.dev.waitingLanes p) = e :: l →
    exec (.calStarved p) s = .next (s.settled (
      let ms := s.dev.rf R.CAL_CAL_ROT p 15 0
      let d := s.dev.advanceTo (e.2.2 + 1000000 * (if ms = 0 then 4000 else 2 * ms) + 1)
      let d := (d.unitOf p e.1).foldl (fun d k => d.setCalLane p k { d.calLane p k with starved := true }) d
      (d.wf R.CAL_CAL_PSTATUS p 4 4 1).raise 0x0c0)))

/-- The procedures start (R125–R128, R130, R133, R136): ROTATE on the fabric port that its cluster's engine takes, which reports the width
without the lane and asks for its park, unless the lane is parked; HALF on a PCIe or CXL port, which reports half the width and asks for
narrowing, to return to the trained width; re-equalisation, where nothing forbids a procedure on the port (the model's choice: log entry 90), in an open window with enough time left, which reports width 0 and takes the link to Recovery. -/
def Obligations.CalibrationProceduresStart : Prop :=
  ∀ (s : State) (p : Nat),
  (∀ k trig : Nat, s.dev.calNext p = some (k, trig) → s.dev.isFabric p = true → s.dev.calPick (p / 8) = some p →
    let w := popCount 16 (s.dev.actMask p)
    ((s.dev.actMask p).testBit k = true → exec (.rotateStart p) s = .next (s.settled (
      let d := (s.dev.procStart p .rotate .starting [k] k trig w w).report p (w - 1)
      let d := (d.setLnk p { d.lnk p with park := some (k, false) }).wf R.MKL_LK_STATE (lkInst p) 8 8 1
      d.sym p 6 [d.logOf p k, 0]))) ∧
    ((s.dev.actMask p).testBit k = false →
      exec (.rotateStart p) s = .next (s.settled (s.dev.procStart p .rotate .parked [k] k trig (w + 1) (w + 1))))) ∧
  (∀ k trig : Nat, s.dev.calNext p = some (k, trig) → s.dev.isFabric p = false → s.dev.calPick (p / 8) = some p →
    let half := s.dev.rf R.PRT0_LINK_STATUS p 20 16 / 2
    let up := s.dev.upperHalf p
    exec (.halfStart p) s = .next (s.settled (
      let d := (s.dev.procStart p .half .starting up (up.headD 0) trig (s.dev.curWidth p) (s.dev.rf R.PRT0_LINK_STATUS p 20 16)).report p (min half (s.dev.curWidth p))
      (d.setLstate p 6).emit (.engine p 1 [half])))) ∧
  ((s.dev.pst p).reeqDue = true → s.dev.isFabric p = false → s.dev.dlUp p = true → (s.dev.lstate p = 4 ∨ s.dev.lstate p = 6) →
    s.dev.calFree p = true → s.dev.winLeft p (max 2000 (s.dev.rf R.CAL_CAL_POL p 31 16)) = true →
    ∃ d : Dev, exec (.reeqStart p) s = .next (s.settled (d.emit (.engine p 4 []))) ∧ d.lstate p = 5 ∧
      (∃ pr, (d.pst p).proc = some pr ∧ pr.kind = .reeq ∧ pr.start = s.dev.now ∧ pr.width = s.dev.curWidth p) ∧
      d.rb R.CAL_CAL_PSTATUS p 2 = true)

/-- The procedures run and end (R121, R130–R133, R135, R136, R140, R141). A command for a lane that is parked under the procedure, or under one
of the partner, is carried out: given to the lane, or, for a step of a cursor of the partner, sent as CAL_STEP on a link that runs (the
model's form: log entry 91); for any other lane it is ignored, the procedure ends with FAULT and the fault is reported. A measured lane asks to join; a released loopback asks
for the return width; an end closes the procedure and counts it in CNT_DONE, and of ROTATE clears FAILS, or, of a lane below its threshold,
counts it there and in CNT_FAIL. A droop alarm is counted and raised; the second one during the measurements of a procedure ends it DISTURBED. -/
def Obligations.CalibrationProceduresEnd : Prop :=
  ∀ s : State,
  (∀ p k cmd : Nat, s.dev.laneState (p / 8) k = 4 →
    ((s.dev.lnk p).guest = some k ∨ ∃ pr : Proc, (s.dev.pst p).proc = some pr ∧ pr.kind ≠ .reeq ∧ pr.lanes.testBit k = true) →
    (cmd < 256 → exec (.calLaneCommand p k cmd) s = .next (s.settled (s.dev.emit (.engine p 5 [k, cmd])))) ∧
    (∀ b, 256 ≤ cmd → s.dev.bundleOf p = some b → s.dev.lkState p = 3 → exec (.calLaneCommand p k cmd) s =
      .next (s.settled (s.dev.ctlNear b [3, s.dev.logOf p k, cmd / 2 % 2, cmd % 2]))) ∧
    (256 ≤ cmd → (s.dev.bundleOf p = none ∨ s.dev.lkState p ≠ 3) → exec (.calLaneCommand p k cmd) s = .next (s.settled s.dev))) ∧
  (∀ (p : Nat) (pr : Proc), (s.dev.pst p).proc = some pr →
    (∀ k cmd : Nat, (s.dev.lnk p).guest ≠ some k ∨ s.dev.laneState (p / 8) k ≠ 4 →
      (pr.kind = .reeq ∨ pr.lanes.testBit k = false ∨ s.dev.laneState (p / 8) k ≠ 4) →
        exec (.calLaneCommand p k cmd) s = .next (s.settled (
          let d := s.dev.procStop p 7
          d.fault 0x12 none (some p) none (d.unitRef (.block 0x40)) (d.rd R.CAL_CAL_LAST p)))) ∧
    (∀ eye : Nat, pr.kind = .rotate → pr.step = .parked → s.dev.lkState p = 3 →
      exec (.eyeHeightMeasured p eye) s = .next (s.settled (
        let d := s.dev.setPst p { s.dev.pst p with proc := some { pr with step := .measured, eye := eye % 256 } }
        let d := (d.setLnk p { d.lnk p with join := some pr.first, joinAt := d.now }).wf R.MKL_LK_STATE (lkInst p) 8 8 1
        d.sym p 9 [d.logOf p pr.first]))) ∧
    (pr.kind = .half → pr.step = .parked →
      exec (.loopbackStageDone p) s = .next (s.settled
        ((s.dev.setPst p { s.dev.pst p with proc := some { pr with step := .measured } }).emit (.engine p 6 [pr.ret])))) ∧
    (pr.kind = .rotate → pr.step = .measured → (s.dev.lnk p).join = none → (s.dev.actMask p).testBit pr.first = true →
      ∃ d : Dev, exec (.rotateEnd p) s = .next (s.settled d) ∧ (d.pst p).proc = none ∧
        d.rn R.CAL_CAL_CNT_DONE p = (s.dev.rn R.CAL_CAL_CNT_DONE p + 1) % 4294967296 ∧
        (pr.th.getD pr.first 0 ≤ pr.eye → d.rf (R.LAN_LCAL_STATUS (p / 8)) pr.first 7 4 = 0) ∧
        (pr.eye < pr.th.getD pr.first 0 →
          d.rf (R.LAN_LCAL_STATUS (p / 8)) pr.first 7 4 = min 15 (s.dev.rf (R.LAN_LCAL_STATUS (p / 8)) pr.first 7 4 + 1) ∧
          d.rn R.CAL_CAL_CNT_FAIL p = (s.dev.rn R.CAL_CAL_CNT_FAIL p + 1) % 4294967296)) ∧
    (∀ eyes : List (Nat × Nat), pr.kind = .half → pr.step = .measured →
      ∃ d : Dev, exec (.halfEnd p eyes) s = .next (s.settled d) ∧ (d.pst p).proc = none ∧
        d.rn R.CAL_CAL_CNT_DONE p = (s.dev.rn R.CAL_CAL_CNT_DONE p + 1) % 4294967296) ∧
    (pr.kind = .reeq → s.dev.dlUp p = true →
      ∃ d : Dev, exec (.reeqDone p) s = .next (s.settled d) ∧ (d.pst p).proc = none ∧ (d.pst p).reeqDue = false ∧
        d.rn R.CAL_CAL_CNT_DONE p = (s.dev.rn R.CAL_CAL_CNT_DONE p + 1) % 4294967296)) ∧
  (∀ (cl : Nat) (measuring : Bool), cl < 16 →
    let d := (s.dev.bump (R.CAL_DRP_ALM_CNT cl)).raise (0x080 + 4 * cl + 2)
    let d := { d with ports := { d.ports with alarmAt := Tbl.put d.ports.alarmAt cl 0 (d.now + 1) } }
    (((d.clusterPorts cl).find? fun q => (d.pst q).proc.isSome) = none →
      exec (.droopAlarm cl measuring) s = .next (s.settled d)) ∧
    (∀ (p : Nat) (pr : Proc), ((d.clusterPorts cl).find? fun q => (d.pst q).proc.isSome) = some p → (d.pst p).proc = some pr →
      (measuring = false ∨ pr.kind = .reeq → exec (.droopAlarm cl measuring) s = .next (s.settled d)) ∧
      (measuring = true → pr.kind ≠ .reeq →
        (pr.alarms = 0 → exec (.droopAlarm cl measuring) s = .next (s.settled
          (d.setPst p { d.pst p with proc := some { pr with alarms := 1 } }))) ∧
        (pr.alarms ≠ 0 → exec (.droopAlarm cl measuring) s = .next (s.settled (d.procStop p 4))))))

/-! ### The Mirkel fabric link (R145–R167) -/

/-- Frames, parks, joins and lost lanes of a link complete (R111, R146, R149, R158, R162, R163, R130, R131). A frame of a fabric link, or a
flit of a PCIe or CXL link in flit mode, adds its corrections to LANE_FEC_CE of the link's lanes. A good frame leaves the slots that a packet goes
on with, completes with END_MAP the park or join that has been agreed on, and is a protocol error with a control symbol of a reserved type;
one that fails adds 1 to LANE_FEC_UE of each lane with an error, on a CXL upstream port is logged in the CXL RAS registers, and an active lane among them is a fault of its lane. A park that the
partner asks for is agreed on and acknowledged, or refused: 1 while a join or another agreed change is under way, 2 for a lane that is not active, 3 for the last
lane; when both ends have asked, the lower member's request stands. An agreed park reports the narrower width and is carried out, as an agreed join is, at END_MAP; a
park acknowledged is agreed on, and so is a join that either end asks for, once the lane has aligned; a park refused, a join timed out and a join whose lane does not align
end the request. A lost lane is parked, the last one holds the link, and with no lane locked the link holds. CAL_STEP steps a cursor of a lane that
is parked, but not permanently. -/
def Obligations.FramesAndLanesOfALinkComplete : Prop :=
  ∀ (s : State) (p : Nat),
  (∀ (frame : List Byte) (ce : List (Nat × Nat)) (ue : Nat),
    let d := (ce.filter fun e => (s.dev.linkLanes p).contains e.1).foldl (fun d e => d.bumpBy (R.LAN_LANE_FEC_CE (p / 8)) e.1 e.2) s.dev
    let failed (d : Dev) : Dev :=
      let bad := (d.linkLanes p).filter fun k => ue.testBit k
      let d := bad.foldl (fun d k => d.bump (R.LAN_LANE_FEC_UE (p / 8)) k) d
      let d := match (d.owner p).filter fun _ => d.isUp p && d.isCxl p with
        | some st => d.setCfg st 3 3 (d.cfg st 3 3 ||| 0x40)
        | none => d
      d.laneFaults p (ofBits (bad.filter fun k => d.laneState (p / 8) k == 3))
    (s.dev.isFabric p = true → 2 ≤ s.dev.lkState p → s.dev.lkState p ≠ 5 →
      (frameOk frame = true → exec (.frameReceived p frame ce ue) s = .next (s.settled (
        let w := slotWalk (frameSlots frame) (d.lnk p).left false
        let d := d.setLnk p { d.lnk p with left := w.1 }
        let d := if endMap frame then d.mapEnd p else d
        if w.2 then d.mklProtocol p else d))) ∧
      (frameOk frame = false → exec (.frameReceived p frame ce ue) s = .next (s.settled
        (failed (d.setLnk p { d.lnk p with left := (d.lnk p).left - 15 }))))) ∧
    (s.dev.isFabric p = false → s.dev.dlUp p = true → s.dev.rb R.PRT0_LINK_STATUS p 13 = true →
      (ue = 0 → exec (.frameReceived p frame ce ue) s = .next (s.settled d)) ∧
      (ue ≠ 0 → exec (.frameReceived p frame ce ue) s = .next (s.settled (failed d))))) ∧
  (∀ (d : Dev) (k how : Nat), (d.lnk p).swap = some (k, how) →
    let e := (d.setLnk p { d.lnk p with swap := none }).wf R.MKL_LK_STATE (lkInst p) 8 8 0
    (how ≠ 2 → ((e.mklPark p k (how == 1)).pst p).proc = none → d.mapEnd p = e.mklPark p k (how == 1)) ∧
    (∀ pr : Proc, how ≠ 2 → ((e.mklPark p k (how == 1)).pst p).proc = some pr → pr.kind = .rotate → pr.step = .starting → pr.first = k →
      d.mapEnd p = (e.mklPark p k (how == 1)).setPst p { (e.mklPark p k (how == 1)).pst p with proc := some { pr with step := .parked } }) ∧
    (how = 2 → (d.lnk p).guest ≠ some k → d.mapEnd p =
      if ((e.mklJoin p k).pst p).proc.isSome then e.mklJoin p k else (e.mklJoin p k).report p (popCount 16 ((e.mklJoin p k).actMask p))) ∧
    (how = 2 → (d.lnk p).guest = some k →
      let f := (e.mklJoin p k).setLnk p { (e.mklJoin p k).lnk p with guest := none }
      let f := ((((f.calRecord p k).bump (R.LAN_LCAL_CNT (p / 8)) k).clearDue p k).adaptLatch (p / 8) k).procDone p
      d.mapEnd p = f.report p (popCount 16 (f.actMask p)))) ∧
  (s.dev.isFabric p = true → s.dev.lkState p = 3 →
    (∀ (lane k : Nat) (perm : Bool), s.dev.logLane p lane = some k →
      let withdrawn := s.dev.parkWithdraw p
      let d := if (s.dev.lnk p).park = none then s.dev else withdrawn
      ((s.dev.lnk p).park ≠ none → s.dev.me < s.dev.rf R.MKL_LK_PARTNER (lkInst p) 2 0 →
        exec (.parkReq p lane perm) s = .next (s.settled s.dev)) ∧
      ((s.dev.lnk p).park = none ∨ s.dev.rf R.MKL_LK_PARTNER (lkInst p) 2 0 ≤ s.dev.me →
        ((d.lnk p).join ≠ none ∨ (d.lnk p).swap ≠ none → exec (.parkReq p lane perm) s = .next (s.settled (d.sym p 8 [lane, 1]))) ∧
        ((d.lnk p).join = none → (d.lnk p).swap = none → (d.actMask p).testBit k = false →
          exec (.parkReq p lane perm) s = .next (s.settled (d.sym p 8 [lane, 2]))) ∧
        ((d.lnk p).join = none → (d.lnk p).swap = none → (d.actMask p).testBit k = true → popCount 16 (d.actMask p) ≤ 1 →
          exec (.parkReq p lane perm) s = .next (s.settled (d.sym p 8 [lane, 3]))) ∧
        ((d.lnk p).join = none → (d.lnk p).swap = none → (d.actMask p).testBit k = true → 1 < popCount 16 (d.actMask p) →
          let e := (d.mapAgree p k (b2n perm)).sym p 7 [lane]
          exec (.parkReq p lane perm) s = .next (s.settled
            (if perm then e.raiseCal p 1 else e.setLnk p { e.lnk p with guest := some k }))))) ∧
    (∀ (lane k : Nat) (perm : Bool), (s.dev.lnk p).park = some (k, perm) → s.dev.logOf p k = lane →
      exec (.parkAck p lane) s = .next (s.settled ((s.dev.setLnk p { s.dev.lnk p with park := none }).mapAgree p k (b2n perm)))) ∧
    (∀ (lane k : Nat), s.dev.logLane p lane = some k → (s.dev.actMask p).testBit k = false → s.dev.permParked p k = false →
      (s.dev.lnk p).swap = none →
      exec (.joinReq p lane true) s = .next (s.settled
        (((s.dev.setLnk p { s.dev.lnk p with guest := some k }).mapAgree p k 2).sym p 10 [lane])) ∧
      exec (.joinReq p lane false) s = .next (s.settled s.dev)) ∧
    (∀ (lane k : Nat), (s.dev.lnk p).join = some k → s.dev.logOf p k = lane →
      exec (.joinAck p lane) s = .next (s.settled ((s.dev.setLnk p { s.dev.lnk p with join := none }).mapAgree p k 2))) ∧
    (∀ k : Nat, (s.dev.actMask p).testBit k = true →
      let lost := s.dev.wf (R.LAN_LANE_STATUS (p / 8)) k 3 3 0
      (popCount 16 (s.dev.actMask p) ≤ 1 → s.dev.laneGone p k = lost.mklHold p false) ∧
      (1 < popCount 16 (s.dev.actMask p) → s.dev.laneGone p k = (
        let d := if (lost.lnk p).swap.any fun e => e.1 == k then
            (lost.setLnk p { lost.lnk p with swap := none }).wf R.MKL_LK_STATE (lkInst p) 8 8 0
          else lost
        let d := d.mklPark p k false
        (d.mklEvent p (d.logOf p k) 3).makeDue p k 2)) ∧
      exec (.mirkelLaneLoss p k) s = .next (s.settled ((s.dev.sym p 11 [s.dev.logOf p k]).laneGone p k)) ∧
      ∀ lane, s.dev.logLane p lane = some k → exec (.laneLost p lane) s = .next (s.settled (s.dev.laneGone p k))) ∧
    exec (.mirkelLockLoss p) s = .next (s.settled
      (((bitsOf 16 (s.dev.actMask p)).foldl (fun d k => d.wf (R.LAN_LANE_STATUS (p / 8)) k 3 3 0) s.dev).mklHold p false)) ∧
    (∀ (lane k cursor : Nat) (up : Bool), s.dev.logLane p lane = some k → s.dev.laneState (p / 8) k = 4 → s.dev.permParked p k = false →
      cursor ≤ 1 → exec (.calStep p lane cursor up) s = .next (s.settled (s.dev.emit (.engine p 7 [k, cursor, b2n up]))))) ∧
  (∀ (lane reason k : Nat) (perm : Bool), (s.dev.lnk p).park = some (k, perm) → s.dev.logOf p k = lane → reason ≠ 0 →
    exec (.parkRefuse p lane reason) s = .next (s.settled (s.dev.parkWithdraw p))) ∧
  (∀ k : Nat, (s.dev.lnk p).join = some k →
    let d := s.dev.advanceTo ((s.dev.lnk p).joinAt + 10000)
    let d := (d.setLnk p { d.lnk p with join := none }).wf R.MKL_LK_STATE (lkInst p) 8 8 0
    ((d.pst p).proc = none → exec (.joinTimeout p) s = .next (s.settled d)) ∧
    (∀ pr : Proc, (d.pst p).proc = some pr → pr.kind = .rotate → pr.step = .measured →
      exec (.joinTimeout p) s = .next (s.settled (d.rotateFinish p pr false))))

/-- Packets, acknowledgement, replay, credits and the census complete on an ACTIVE link (R150–R157). A packet of the expected number is
accepted, and acknowledged at once at the ACK_COUNTth; one up to 16,383 ahead is discarded and, once per gap, answered with NAK; a duplicate
is counted and acknowledged; any other number is a protocol error and holds the link. ACK_NS after the first unacknowledged packet an ACK
goes. ACK and NAK release the packets up to the one named, NAK and the replay timer replay the rest, and REPLAY_LIMIT expiries hold the link.
CREDIT raises the limits and charges and sends what they allow; the receiver returns credit at its times; the census sends the charged totals,
is answered with what was freed and held, what was held since before the accounting left out (log entry 92), unless a gap is pending, and its
answer is taken class by class. -/
def Obligations.PacketsCreditsAndCensusComplete : Prop :=
  ∀ (s : State) (p : Nat), s.dev.isFabric p = true → s.dev.lkState p = 3 →
  let l := s.dev.lnk p
  let n := lkInst p
  (∀ pk : Packet, let dist := (pk.seq % 65536 + 65536 - l.expect) % 65536
    (dist = 0 → exec (.packetReceived p pk) s = .next (s.settled (
        let d := s.dev.setLnk p { l with expect := (l.expect + 1) % 65536, gap := false, sinceAck := l.sinceAck + 1
                                         firstAt := if l.firstAt = 0 then s.dev.now + 1 else l.firstAt, rx := l.rx ++ [pk] }
        let d := if pk.ctl then d else { d with pwr := { d.pwr with lastRx := d.now } }
        let k := d.rf R.MKL_LK_CFG n 25 18
        (if k ≠ 0 ∧ k ≤ l.sinceAck + 1 then d.ackSend p else d).rxDrain p))) ∧
    (1 ≤ dist → dist ≤ 16383 → exec (.packetReceived p pk) s = .next (s.settled (
      if l.gap then s.dev else (s.dev.setLnk p { l with gap := true }).sym p 2 [(l.expect + 65535) % 65536]))) ∧
    (49153 ≤ dist → exec (.packetReceived p pk) s = .next (s.settled (
      let d := s.dev.bump R.MKL_LK_CNT_DUP n
      if d.rf R.MKL_LK_TIMING n 7 0 = 0 then d.ackSend p
      else d.setLnk p { l with firstAt := if l.firstAt = 0 then d.now + 1 else l.firstAt }))) ∧
    (16384 ≤ dist → dist ≤ 49152 → exec (.packetReceived p pk) s = .next (s.settled ((s.dev.mklProtocol p).mklHold p false)))) ∧
  (l.firstAt ≠ 0 → s.dev.rf R.MKL_LK_TIMING n 7 0 ≠ 0 →
    exec (.ackTimer p) s = .next (s.settled ((s.dev.advanceTo (l.firstAt - 1 + 10 * s.dev.rf R.MKL_LK_TIMING n 7 0)).ackSend p))) ∧
  (∀ k : Nat, exec (.ack p k) s = .next (s.settled (s.dev.ackTo p k)) ∧
    ((s.dev.ackTo p k).lnk p).replay = (l.replay.dropWhile fun e => decide ((k % 65536 + 65536 - e.pk.seq) % 65536 < 16384)) ∧
    exec (.nak p k) s = .next (s.settled (((s.dev.bump R.MKL_LK_CNT_NAK n).ackTo p k).replayAll p))) ∧
  (l.replay ≠ [] →
    let d := s.dev.advanceTo (l.timerAt - 1 + 100 * s.dev.rf R.MKL_LK_CFG n 14 5)
    let d := (d.setLnk p { l with expiries := l.expiries + 1, timerAt := d.now + 1 }).bump R.MKL_LK_CNT_TIMEOUT n
    exec (.replayTimeout p) s = .next (s.settled
      (if d.rf R.MKL_LK_CFG n 17 15 ≤ l.expiries + 1 then d.mklHold p false else d.replayAll p))) ∧
  (∀ x y z : Nat,
    let up (cur x : Nat) : Nat :=
      let dlt := (x % 16777216 + 16777216 - cur % 16777216) % 16777216
      if dlt < 8388608 then cur + dlt else cur
    let lim : Trio := ⟨up l.limit.p x, up l.limit.n y, up l.limit.c z⟩
    let r := chargeFit l.replay l.charged lim
    exec (.credit p x y z) s = .next (s.settled
      ((s.dev.setLnk p { l with limit := lim, replay := r.1, charged := r.2.2 }).resendPkts p r.2.1))) ∧
  exec (.creditReturnTimer p) s = .next (s.settled
    ((s.dev.advanceTo (if l.unsent = 0 then l.creditAt + 1000 else min (l.freedAt - 1 + 50) (l.creditAt + 1000))).creditSend p)) ∧
  (∀ ms : Nat, s.dev.rf R.MKL_LK_TIMING n 23 16 = ms → ms ≠ 0 →
    let d := s.dev.advanceTo ((s.dev.now / (1000000 * ms) + 1) * (1000000 * ms))
    let l := d.lnk p
    exec (.censusTimer p) s = .next (s.settled ((d.setLnk p { l with census := (l.census + 1) % 256, marked := l.charged }).sym p 4
      [(l.census + 1) % 256, l.charged.p % 16777216, l.charged.n % 16777216, l.charged.c % 16777216]))) ∧
  (∀ k : Nat, (l.gap = false → exec (.censusMark p k) s = .next (s.settled (s.dev.sym p 5 [k % 256,
        (l.freed.p + (s.dev.rxHeld p 0 - l.old.p)) % 16777216, (l.freed.n + (s.dev.rxHeld p 1 - l.old.n)) % 16777216,
        (l.freed.c + (s.dev.rxHeld p 2 - l.old.c)) % 16777216]))) ∧
    (l.gap = true → exec (.censusMark p k) s = .next (s.settled s.dev))) ∧
  (∀ x y z : Nat, exec (.censusRsp p l.census x y z) s = .next (s.settled
    (((s.dev.censusClass p 0 x).censusClass p 1 y).censusClass p 2 z)))

/-- Alignment, resume, flush and order resets complete (R105, R114, R158–R160, R164–R166). With its reference clock good, a link that trains
from Detect and aligns shows its width and sends IDENT, one that holds does so with the lanes that aligned, and lanes that do not align are faults; RESUME of
the same partner releases what it accepted, makes the link ACTIVE and, in a bundle, starts an order reset; HOLD_TIME after HOLD the link
flushes. ORDER_RESET goes on every ACTIVE link once all is acknowledged; when it has come on all
of them, what waits is released, the counts clear and it is acknowledged; the acknowledgement loads the pin table; BND_CTRL starts one, where
the bundle has a link; a write of BND_PIN_DATA sets the next pin and moves the cursor on. -/
def Obligations.HoldResumeAndOrderResetsComplete : Prop :=
  ∀ (s : State) (p : Nat),
  (∀ lanes : Nat, s.dev.isFabric p = true → (s.dev.lkState p = 1 ∨ (s.dev.lkState p = 4 ∧ (s.dev.lnk p).full = true)) →
    s.dev.mayTrain p = true → s.dev.refOk (p / 8) = true →
    let on := ((s.dev.trainLanes p).filter fun k => lanes.testBit k).take (s.dev.tgtWidth p)
    on ≠ [] → exec (.lanesAligned p lanes) s = .next (s.settled (
      let d := s.dev.laneFaults p (ofBits ((s.dev.trainLanes p).filter fun k => !lanes.testBit k))
      let d := (bitsOf 16 (d.rf R.MKL_LK_PARKED (lkInst p) 15 0)).foldl (fun d k => d.wf (R.LAN_LCAL_STATUS (p / 8)) k 2 0 0) d
      let d := (d.wr R.MKL_LK_PARKED (lkInst p) 0).setPst p { d.pst p with detLanes := ofBits on, leftOut := 0, recFail := [] }
      let d := d.wr R.PRT0_LINK_STATUS p (word (11 + 16 * 7 + 65536 * on.length + 4194304 * fld (d.rd R.PRT0_LINK_STATUS p) 31 22))
      let d := if (d.portSlot p).isSome then d else d.wf R.PRT0_LINK_STATUS p 22 22 1
      let d := ((d.setActMask p (ofBits on)).runLanes p 7 0).wn R.PRT0_TRAIN_ERR p 0
      (if s.dev.lkState p = 1 then d.setLkState p 2 else d).identSend p))) ∧
  (∀ lanes : Nat, s.dev.isFabric p = true → s.dev.lkState p = 4 → (s.dev.lnk p).full = false → s.dev.refOk (p / 8) = true →
    let mine := (s.dev.linkLanes p).filter fun k => !s.dev.permParked p k
    let on := mine.filter fun k => lanes.testBit k
    on ≠ [] → exec (.lanesAligned p lanes) s = .next (s.settled (((mine.foldl (fun d k =>
        if lanes.testBit k then
          ((d.setLane (p / 8) k 3).wf (R.LAN_LANE_STATUS (p / 8)) k 3 3 1).wf R.MKL_LK_PARKED (lkInst p) (16 + k) (16 + k) 0
        else ((d.setLane (p / 8) k 4).wf R.MKL_LK_PARKED (lkInst p) (16 + k) (16 + k) 1).makeDue p k 2)
        (s.dev.laneFaults p (ofBits (mine.filter fun k => !lanes.testBit k)))).setActMask p (ofBits on)).identSend p))) ∧
  (∀ seq : Nat, s.dev.isFabric p = true → s.dev.lkState p = 4 → (s.dev.lnk p).same = true →
    exec (.resume p seq) s = .next (s.settled (
      let d := (s.dev.ackTo p seq).setLkState p 3
      let d := (d.setLnk p { d.lnk p with same := false, full := false, expiries := 0, gap := false, timerAt := d.now + 1 }).acctStart p
      let d := d.wn R.MKL_LK_HOLD_LAST (lkInst p) (min 65535 ((d.now - (s.dev.lnk p).holdAt) / 1000))
      let w := popCount 16 (d.actMask p)
      let d := if (s.dev.lnk p).full then
          let d := ((d.mklMethod p w).calTrained p).wf R.PRT0_LINK_CTRL p 0 0 0
          if w < d.tgtWidth p then d.linkDegraded p else d
        else d
      let d := (d.mklEvent p 0 1).wf R.PRT0_LINK_STATUS p 11 7 (popCount 16 (d.actMask p))
      let d := match d.bundleOf p with
        | some b => (d.pinsSpread b).orStart b
        | none => d
      (d.report p (popCount 16 (d.actMask p))).rxDrain p))) ∧
  (s.dev.isFabric p = true → s.dev.lkState p = 4 → exec (.holdTimeout p) s = .next (s.settled
    (((s.dev.advanceTo ((s.dev.lnk p).holdAt + 10000 * s.dev.rf R.MKL_LK_TIMING (lkInst p) 15 8)).mklFlush p).rxDrain p))) ∧
  (∀ b : Nat, (s.dev.bnd b).orPhase = 1 → (∀ q ∈ s.dev.bundlePorts b, (s.dev.lnk q).replay = []) →
    (s.dev.activeLinks b ≠ [] → exec (.orderResetSend b) s = .next (s.settled
      ((s.dev.activeLinks b).foldl (fun d q => d.sym q 14 []) (s.dev.setBnd b { s.dev.bnd b with orPhase := 2 })))) ∧
    (s.dev.activeLinks b = [] → s.dev.bundleLive b = false → exec (.orderResetSend b) s = .next (s.settled (s.dev.orEnd b)))) ∧
  (∀ b : Nat, s.dev.bundleOf p = some b → s.dev.lkState p = 3 →
    let got := if (s.dev.bnd b).orGot.contains p then (s.dev.bnd b).orGot else (s.dev.bnd b).orGot ++ [p]
    ((∀ q ∈ s.dev.activeLinks b, q ∈ got) → exec (.orderReset p) s = .next (s.settled (
      let d := (s.dev.bundlePorts b).foldl (fun d q => d.rxForce q) s.dev
      (d.setBnd b { d.bnd b with relMain := [], relOff := [], orGot := [] }).ctlNear b [5]))) ∧
    (¬ (∀ q ∈ s.dev.activeLinks b, q ∈ got) → exec (.orderReset p) s = .next (s.settled (s.dev.setBnd b { s.dev.bnd b with orGot := got })))) ∧
  (∀ b : Nat, (s.dev.bnd b).orPhase = 2 → exec (.orderResetAck b) s = .next (s.settled (s.dev.orEnd b))) ∧
  (∀ a : Acc, s.dev.may a R.MKL_BND_CTRL true = true →
    let b := s.dev.instOf a R.MKL_BND_CTRL.page R.MKL_BND_CTRL.off
    s.dev.bundlePorts b ≠ [] → exec (.bndOrderReset a) s = .next (s.settled ((s.dev.wf R.MKL_BND_CTRL b 0 0 1).orStart b))) ∧
  (∀ (a : Acc) (w : Word), s.dev.may a R.MKL_BND_PIN_DATA true = true →
    let b := s.dev.instOf a R.MKL_BND_PIN_DATA.page R.MKL_BND_PIN_DATA.off
    let acc := winAcc (accIdx a) b
    let k := s.dev.arn acc R.MKL_BND_PIN_IDX % 256
    exec (.bndPinDataWrite a w) s = .next (s.settled
      ((s.dev.setBnd b { s.dev.bnd b with pinsNew := Tbl.put (s.dev.bnd b).pinsNew k 0 (fld w 2 0) }).awn acc R.MKL_BND_PIN_IDX
        ((k + 1) % 256))))

/-! ### Commits and yard commits (R53–R60, R161, R225, R226, R474–R476) -/

/-- Commits and aborts complete (R54–R59). STAGE_CTRL.COMMIT of a page outside the RTE and ISO group: an empty set sets LAST_ERR to NONE; a
failed check adopts nothing, leaves the values staged and shows the first failure; a set that passes is adopted and no longer staged. Of
the group, in a device of no yard: held while the device drains, else checked and adopted under a new epoch. On a yard the head carries the
commit to every member, and another member keeps its values staged, or, while its head is lost, shows NO_HEAD. ABORT discards the accessor's values
of the page alone, of the device page at the head also those it fanned out to members; with COMMIT it sets LAST_ERR to 6. When no TLP of
the previous epoch remains the drain ends: a member answers DRAINED, the head counts its own, and commits that were held are taken up. -/
def Obligations.CommitsAndAbortsComplete : Prop :=
  ∀ (s : State) (a : Acc) (page : Nat),
  let acc := accIdx a
  let set := s.dev.stagedSet acc page
  let own : Prop := page ≠ 0x500 ∧ page ≠ 0x600 ∧ ¬ (page = 0 ∧ s.dev.yardEn = true ∧ fansYard set = true)
  let wait (d : Dev) : Dev := if d.staging.draining then
    { d with staging := { d.staging with waiters := (d.staging.waiters ++ [acc]).eraseDups } } else d
  (s.dev.may a (stageReg page) true = true →
    (own → set = [] → exec (.stageCommit a page) s = .next (s.settled (s.dev.setErr page 0 0))) ∧
    (own → set ≠ [] → ∀ b : Nat × Nat, checkPage s.dev (s.dev.putSet set) page set = some b →
      exec (.stageCommit a page) s = .next (s.settled (s.dev.rejected (s.dev.putSet set) page b))) ∧
    (own → set ≠ [] → checkPage s.dev (s.dev.putSet set) page set = none →
      exec (.stageCommit a page) s = .next (s.settled ((s.dev.unstage acc page).adoptPage page set))) ∧
    (¬ own → s.dev.yardEn = false → set ≠ [] →
      let d := s.dev.unstage acc page
      (d.staging.draining = true → exec (.stageCommit a page) s = .next (s.settled
        { d with staging := { d.staging with held := d.staging.held ++ [⟨acc, set, none⟩] } })) ∧
      (∀ b : Nat × Nat, d.staging.draining = false → checkGroup d (d.putSet set) set = some b →
        exec (.stageCommit a page) s = .next (s.settled ((d.restage set).setErr 0x500 b.1 (b.2 / 4)))) ∧
      (d.staging.draining = false → checkGroup d (d.putSet set) set = none →
        exec (.stageCommit a page) s = .next (s.settled ((d.setErr 0x500 0 0).adoptGroup set [acc])))) ∧
    (¬ own → set = [] → (s.dev.yardEn = false ∨ s.dev.isHead = false ∨ acc ∉ s.dev.yard.far) →
      exec (.stageCommit a page) s = .next (s.settled (wait (s.dev.setErr 0x500 0 0)))) ∧
    (¬ own → s.dev.yardEn = true →
      (s.dev.isHead = true → (set ≠ [] ∨ acc ∈ s.dev.yard.far) →
        exec (.stageCommit a page) s = .next (s.settled ((s.dev.unstage acc page).ycRequest acc set none))) ∧
      (s.dev.isHead = false → s.dev.isLost s.dev.headNo = true → set ≠ [] →
        exec (.stageCommit a page) s = .next (s.settled (s.dev.setErr page 7 0))) ∧
      (s.dev.isHead = false → s.dev.isLost s.dev.headNo = false → set ≠ [] →
        exec (.stageCommit a page) s = .next (s.settled s.dev))) ∧
    (∀ commit : Bool,
      let d := { s.dev with staging := { s.dev.staging with staged := s.dev.staging.staged.filter fun x => !(x.acc == acc && x.via == page) } }
      let d := if page = 0 then d.fanForget acc else d
      exec (.stageAbort a page commit) s = .next (s.settled (if commit then d.setErr page 6 0 else d)))) ∧
  (s.dev.staging.draining = true → s.dev.drained = true →
    let d := { s.dev with staging := { s.dev.staging with draining := false, waiters := [] } }
    (s.dev.yardEn = false → exec .drainEnd s = .next (s.settled d.adoptHeld)) ∧
    (s.dev.yardEn = true → s.dev.isHead = true → s.dev.yard.phase = .adopting →
      exec .drainEnd s = .next (s.settled (Dev.ycDone { s.dev with yard := { s.dev.yard with headDrained := true } }))) ∧
    (s.dev.yardEn = true → s.dev.isHead = true → s.dev.yard.phase ≠ .adopting → exec .drainEnd s = .next (s.settled d.ycHeld)) ∧
    (s.dev.yardEn = true → s.dev.isHead = false → s.dev.yard.phase = .adopted →
      exec .drainEnd s = .next (s.settled (((d.ycSend d.headNo 6 0 []).wf R.RTE_YC_STATUS 0 3 1 6).ycIdle))) ∧
    (s.dev.yardEn = true → s.dev.isHead = false → s.dev.yard.phase ≠ .adopted → exec .drainEnd s = .next (s.settled d))) ∧
  (s.dev.staging.draining = false → s.dev.isHead = true → s.dev.yard.phase = .idle →
    exec .drainEnd s = .next (s.settled s.dev.ycHeld.autoJoin))

/-- An abort (R55): the accessor's values staged on the page are gone, every other staged value stands, and so do the values in force and
every commit that was requested before. Written together with COMMIT it is an abort all the same, and LAST_ERR of the page is then 6. -/
def Obligations.AbortDiscardsTheStagedValuesOfThePage : Prop :=
  ∀ (s : State) (a : Acc) (page : Nat) (commit : Bool), s.dev.may a (stageReg page) true = true →
    ∃ d : Dev, exec (.stageAbort a page commit) s = .next (s.settled d) ∧
      (∀ x ∈ d.staging.staged, x.acc ≠ accIdx a ∨ x.via ≠ page) ∧
      (∀ x ∈ s.dev.staging.staged, x.acc ≠ accIdx a ∨ x.via ≠ page → x ∈ d.staging.staged) ∧
      (∀ x ∈ d.staging.staged, x ∈ s.dev.staging.staged) ∧
      d.regs = s.dev.regs ∧ d.staging.held = s.dev.staging.held ∧ d.yard = s.dev.yard ∧
      (commit = true → d.staging.lastErr.getD page 0 % 256 = 6) ∧
      (commit = false → d.staging.lastErr = s.dev.staging.lastErr)

/-- The messages of a yard commit complete (R60, R225, R226, R475). PREPARE of the head takes the snapshot of what is staged for the commit (the
values of accessor 67 and the forwarded configuration writes, the values of the groups that the head named for this commit, or of
accessor 64 at epoch 0) and is answered with READY and the next-hop vector, or REFUSE and the failure, of another member with REFUSE 7; READY is
recorded, and of the last member lets the head adopt, or cancel with 5 where a member is beyond the hop limit; REFUSE and, with 4, a timeout
cancel; ADOPT adopts the snapshot, unstages it, is relayed and answered; ADOPTED is recorded, and of a member at epoch
0 counts it as joined; DRAINED is recorded, and of the last member ends the commit; CANCEL discards the snapshot. -/
def Obligations.YardCommitMessagesComplete : Prop :=
  ∀ (s : State) (m id : Nat),
  let y := s.dev.yard
  (∀ epoch : Nat, s.dev.yardEn = true → s.dev.isHead = false →
    let answer (d : Dev) (phase err : Nat) (data : List Nat) : Dev :=
      (d.ctlSend m ([1, phase, d.me, err, epoch, id] ++ data)).wf R.RTE_YC_STATUS 0 3 1 phase
    (m ≠ s.dev.headNo → exec (.prepare m epoch id) s = .next (s.settled (answer s.dev 3 7 [0]))) ∧
    (m = s.dev.headNo →
      let d := s.dev.found [m]
      let mark : Bool × List Nat := match y.group with
        | some (i, plain, groups) => if i = id then (plain, groups) else (true, [])
        | none => (true, [])
      let set := (if mark.1 then d.stagedSet (if d.staging.epoch = 0 then 64 else 67) 0x500 ++ y.forwarded.map (·.2) else []) ++
        mark.2.flatMap fun a => d.stagedSet 67 (fanVia a)
      (∀ b : Nat × Nat, checkGroup d (d.putSet set) set = some b →
        exec (.prepare m epoch id) s = .next (s.settled (answer d 3 b.1 [b.2 / 4]))) ∧
      (checkGroup d (d.putSet set) set = none → exec (.prepare m epoch id) s = .next (s.settled (
        let d' := { d with yard := { d.yard with
          phase := .prepared, id := id, epoch := epoch, snapshot := set
          cfgs := if mark.1 then y.forwarded.map fun e : CfgWait × Stg => e.1 else [], since := d.now } }
        answer (d'.wf R.RTE_YC_STATUS 0 31 16 id) 2 0 [(d.putSet set).hopVector]))))) ∧
  (y.phase = .preparing → y.parts.contains m = true →
    (∀ v : Nat, id = y.id →
      let d := { s.dev with yard := { y with ready := (y.ready ++ [m]).eraseDups, nexthops := Tbl.put y.nexthops m 0 v } }
      let vecs := Tbl.put d.yard.nexthops d.me 0 (d.putSet y.snapshot).hopVector
      ((∃ q ∈ y.parts, q ∉ d.yard.ready) → exec (.ready m id v) s = .next (s.settled d)) ∧
      ((∀ q ∈ y.parts, q ∈ d.yard.ready) →
        (beyond vecs (d.me :: y.parts) = none → exec (.ready m id v) s = .next (s.settled d.ycAdopt)) ∧
        (∀ q, beyond vecs (d.me :: y.parts) = some q →
          exec (.ready m id v) s = .next (s.settled (d.ycCancel q fun d => d.ycErr 5 q))))) ∧
    (∀ err index : Nat, id = y.id → exec (.refuse m id err index) s = .next (s.settled
      (s.dev.ycCancel m fun d => d.ycRefused (d.yardChild m) err index).ycHeld)) ∧
    (y.ready.contains m = false → exec (.yardCommitTimeout m) s = .next (s.settled
      ((s.dev.advanceTo (y.since + 1000 * s.dev.rf R.RTE_YARD_CFG 0 15 0)).ycCancel m fun d => d.ycErr 4 m).ycHeld))) ∧
  (y.phase = .prepared → id = y.id →
    exec (.adopt id) s = .next (s.settled (
      let d := { s.dev with staging := { s.dev.staging with staged := s.dev.staging.staged.filter fun x => !(y.snapshot.any fun z => z == x) } }
      let d := d.found (d.yard.lost.filter fun m => d.reachSet.contains m)
      let d := ((d.ycAdoptSet y.snapshot y.epoch [] .adopted).wf R.DEV_YARD_STATUS 0 0 0 1).ycFarHops
      let d := { d with yard := { d.yard with forwarded := d.yard.forwarded.filter fun e : CfgWait × Stg => !y.cfgs.contains e.1, cfgs := [] } }
      let d := (y.cfgs.foldl (fun d c => d.cfgDone (some c) 0) d).ycRelay y.epoch id
      (d.ycSend d.headNo 5 0 []).wf R.RTE_YC_STATUS 0 3 1 5)) ∧
    exec (.cancel id) s = .next (s.settled (
      let d := { s.dev with yard := { y with
        phase := .idle, snapshot := [], cfgs := [], forwarded := y.forwarded.filter fun e : CfgWait × Stg => !y.cfgs.contains e.1 } }
      (y.cfgs.foldl (fun d c => d.cfgDone (some c) 1) d).rxDrainAll))) ∧
  (y.phase = .adopting → y.parts.contains m = true → id = y.id →
    (y.fresh.contains m = true → exec (.adopted m id) s = .next (s.settled (
      let d := { s.dev with yard := { y with adopted := (y.adopted ++ [m]).eraseDups, fresh := y.fresh.filter (· != m) } }
      (d.wf R.DEV_YARD_STATUS 0 31 16 (d.rf R.DEV_YARD_STATUS 0 31 16 + 1)).raise 0x005))) ∧
    (y.fresh.contains m = false → ∃ d : Dev, exec (.adopted m id) s = .next (s.settled d) ∧ m ∈ d.yard.adopted ∧ d.regs = s.dev.regs) ∧
    exec (.drained m id) s = .next (s.settled (Dev.ycDone { s.dev with yard := { y with drained := (y.drained ++ [m]).eraseDups } })))

/-- A yard forms (R159, R161, R474, R475): IDENT of a member that the configuration admits brings the link into service and may start the
first commit or an automatic join, of another takes the link to REFUSED with its event; on a held link IDENT of the same partner at the same
epoch within HOLD_TIME is answered with RESUME, of any other flushes the link; TOPO records the neighbours of a member at the head; at
FORM_TO the head forms the yard with the members that it reaches. -/
def Obligations.YardFormationComplete : Prop :=
  ∀ s : State,
  (∀ p m yard epoch pport token : Nat, s.dev.isFabric p = true →
    (s.dev.lkState p = 2 → s.dev.admits p m yard = true →
      exec (.ident p m yard epoch pport token) s = .next (s.settled (
        let d := s.dev.fabricUp p m yard pport token
        let d := if d.isHead then d.freshSet m (epoch == 0) else d
        (d.headCheck).rxDrain p))) ∧
    (s.dev.lkState p = 2 → s.dev.admits p m yard = false →
      exec (.ident p m yard epoch pport token) s = .next (s.settled
        ((((s.dev.setLkState p 6).report p 0).mklProtocol p).raise 0x006))) ∧
    (s.dev.lkState p = 4 →
      let l := s.dev.lnk p
      let same : Prop := l.lastPartner = some (m + 8 * pport) ∧ l.lastTok = token ∧ epoch = s.dev.staging.epoch.toNat ∧
        s.dev.now ≤ l.holdAt + 10000 * s.dev.rf R.MKL_LK_TIMING (lkInst p) 15 8
      (same → exec (.ident p m yard epoch pport token) s = .next (s.settled
        ((s.dev.setLnk p { l with same := true }).sym p 13 [(l.expect + 65535) % 65536]))) ∧
      (¬ same → exec (.ident p m yard epoch pport token) s = .next (s.settled ((s.dev.mklFlush p).rxDrain p))))) ∧
  (∀ (m : Nat) (near : List Nat) (fresh : Bool), s.dev.isHead = true → m ≠ s.dev.me →
    exec (.topo m near fresh) s = .next (s.settled (
      let d := { s.dev with yard := { s.dev.yard with links := (s.dev.yard.links.filter fun e : Nat × Nat => e.1 != m) ++ near.map fun n => (m, n) } }
      (d.freshSet m fresh).headCheck))) ∧
  (∀ t : Nat, s.dev.boot.kciDone = some t → s.dev.isHead = true → s.dev.rb R.DEV_YARD_STATUS 0 0 = false →
    exec .yardFormTimeout s = .next (s.settled
      ((s.dev.advanceTo (t + 10000000 * s.dev.rf R.DEV_YARD_CFG 0 31 24)).formTry true)))

/-! ### The TLP path (R11–R13, R172, R176, R177, R191, R199, R267, R352, R357, R363, R367) -/

/-- The commands at the front of the path complete (R11, R68, R179, R191, R267, R323, R363, R364, R392). A TLP on a link that carries TLPs is dropped and
reported where its IDE check fails; else it is received, as is an Unlock message on an upstream port, and a reception counts for the sleep rules: at a port that
is fenced, contained or unassigned it is discarded and counted; a cycle mark, and on an upstream port a PTM ResponseD, which makes its PTM
relationship valid, end at the port; any other is counted where it is poisoned and queued for its context with the generation of its domain.
Credits of what ends there return at once. The arrival of a context lets the requests that wait for it go, or, where it has been evicted since,
be looked up again; so does a refill release a held request, at the instant at which its policer is positive. A DL_Down takes the link down, with
the TLPs off the replay buffer that the partner acknowledged. -/
def Obligations.ReceptionAndContextsComplete : Prop :=
  ∀ s : State,
  (∀ (p : Nat) (t : Tlp), s.dev.linkLive p = true → isMem t = false →
    exec (.tlpReceive p t true) s = .next (s.settled (((s.dev.bump R.PRT3_IDE_CNT_FAIL p).aerPort p 28 (some t)).creditBack p t)) ∧
    exec (.tlpReceive p t false) s = .next (s.settled (s.dev.receive p t))) ∧
  (∀ p rid : Nat, s.dev.linkLive p = true → s.dev.isUp p = true →
    exec (.unlock p rid) s = .next (s.settled (s.dev.receive p { Tlp.blank with fmtType := 0x33, rtype := 3, code := 0, rid := rid }))) ∧
  (∀ (p : Nat) (t : Tlp),
    let d := { s.dev with pwr := { s.dev.pwr with lastRx := s.dev.now } }
    (s.dev.discards p = true → s.dev.receive p t = (d.bump R.PRT6_PD_CNT_FENCE p).creditBack p t) ∧
    (s.dev.discards p = false → isCycleVdm t = true → s.dev.receive p t = (d.cycleVdm p t d.now).creditBack p t) ∧
    (s.dev.discards p = false → isCycleVdm t = false → isPtmTime t = true → s.dev.isUp p = true →
      s.dev.receive p t = (d.setPst p { d.pst p with ptm := true }).creditBack p t) ∧
    (s.dev.discards p = false → isCycleVdm t = false → (isPtmTime t = false ∨ s.dev.isUp p = false) → s.dev.receive p t = (
      let (sl, st) := d.srcOf p t
      let d := if t.ep then (d.bump R.PRT2_CNT_POISON p).aerIn st p 12 t else d
      (d.setStall { d.stall with miss := d.stall.miss ++
        [{ tlp := t, port := p, key := d.ctxKey p t, since := d.now, held := false, noEntry := true, waits := false, shared := false
           refuse := none, gen := d.genOf (d.domOfReq p sl t), dom := d.domOfReq p sl t, ready := false }] }).pump none))) ∧
  (∀ key : Nat,
    ((s.dev.onDie key).isSome = true → exec (.contextArrival key) s = .next (s.settled (s.dev.pump (some key)))) ∧
    (s.dev.onDie key = none → exec (.contextArrival key) s = .next (s.settled (if s.dev.stranded key then s.dev.lookAgain key else s.dev)))) ∧
  (∀ (key i : Nat) (k : Parked) (c : Ctx), (s.dev.stall.miss.findIdx? fun k : Parked => k.held && k.key == key) = some i →
    s.dev.onDie key = some c →
    let rate := fld (s.dev.pairVal R.SCH_PP_RATE (0x2000 + c.polProfile)) 20 0
    let d := if s.dev.polHolds key = true ∧ rate ≠ 0 ∧ s.dev.polCap c.polProfile ≠ 0 then
      s.dev.advanceTo (c.lastRefill + 64 * cdiv (1 - c.tokens).toNat rate) else s.dev
    d.stall.miss[i]? = some k → d.polHolds key = false →
    exec (.policerRelease key) s = .next (s.settled ((d.proceed i k).1.pump (some key)))) ∧
  (∀ key i : Nat, (s.dev.stall.miss.findIdx? fun k : Parked => k.held && k.key == key) = some i → s.dev.onDie key = none →
    exec (.policerRelease key) s = .next (s.settled (if s.dev.stranded key then s.dev.lookAgain key else s.dev))) ∧
  (∀ (p acked : Nat) (surprise : Bool), p < 128 → s.dev.isFabric p = false → s.dev.dlUp p = true →
    let rep := (s.dev.path.replay.getD p []).drop acked
    exec (.dlDown p surprise acked) s = .next (s.settled
      (Dev.dlDownAt { s.dev with path := { s.dev.path with replay := Tbl.put s.dev.path.replay p [] rep } } p 1 surprise true)))

/-- The commands behind the shed complete (R12, R13, R172, R173, R176, R177, R352, R353) but in fail-safe. A TLP whose turn it is at the shed is tried
there; the selection of a port takes the link out of L1, takes the credits that the partner grants, and makes stage 8's try of what the scheduler
selects, but not in Recovery, and at P130 the accesses handed over are served; the end of a transmission counts, at the port scheduled, a gate that
closed before it, takes what the partner acknowledged off the replay buffer, holds the TLP there until it is acknowledged, and ends it, one of several copies
alone once all have ended; a bad carriage code nullifies it but on a fabric link; an underrun ends a cut-through TLP as nullified, and it is sent again whole. -/
def Obligations.ShedAndEgressComplete : Prop :=
  ∀ s : State,
  (∀ (id : Nat) (i : Item), s.dev.item id = some i → i.stage = .store → s.dev.firstWaiting i = true → s.dev.failsafe = false →
    exec (.shedGrant id) s = .next (s.settled (s.dev.tryGrant i))) ∧
  (∀ (p credits flt : Nat) (x : Ext), p < 131 → s.dev.failsafe = false →
    let d := s.dev.l1Leave p
    let d := if p < 128 ∧ d.isFabric p = false then
      { d with sched := { d.sched with noCred := Tbl.put d.sched.noCred p 0 (7 - credits % 8) } } else d
    let d := if d.lstate p = 5 then d else d.egress p flt
    (p ≠ 130 → exec (.egressSelection p credits flt x) s = .next (s.settled d)) ∧
    (p = 130 → exec (.egressSelection p credits flt x) s = .next
      (State.settled { s with plock := (d.barServeAll s.plock x).1 } (d.barServeAll s.plock x).2))) ∧
  (∀ (p t acked : Nat) (bad : Bool) (i : Item), s.dev.sendingItem p = some i →
    let d := s.dev.advanceTo t
    let e := ((d.bundleOf p).bind d.bundleLead).getD p
    let d := if (∃ c, i.gateClose = some c ∧ c < d.now) then
      (d.bump R.SCH_CNT_OVERRUN e i.schedStb).schEvent 0 e (i.schedStb.getD 0) i.tlp.tc 0 else d
    let rep := (d.path.replay.getD p []).drop acked
    let d := { d with path := { d.path with replay := Tbl.put d.path.replay p [] rep } }
    (bad = true ∨ i.ccrc ≠ carriageCrc i.tlp → d.isFabric p = false → exec (.transmitComplete p t bad acked) s = .next (s.settled (d.nullify p i))) ∧
    ((bad = false ∧ i.ccrc = carriageCrc i.tlp) ∨ d.isFabric p = true →
      let kept := rep ++ [⟨i.tlp, i.stb, i.ingress, i.src, !i.copies.isEmpty⟩]
      let d := if d.isFabric p then d else { d with path := { d.path with replay := Tbl.put d.path.replay p [] kept } }
      (i.copies = [] → exec (.transmitComplete p t bad acked) s = .next (s.settled (d.dropItem i))) ∧
      (i.copies ≠ [] →
        let d := d.updItem i.id fun j => { j with copies := j.copies.map fun c =>
          if c.port = p ∧ c.st = .sending then { c with st := .sent } else c }
        ∀ j, d.item i.id = some j → exec (.transmitComplete p t bad acked) s = .next (s.settled
          (if (j.copies.all fun c => c.st == .sent || c.st == .discarded) then d.dropItem j else d))))) ∧
  (∀ (p : Nat) (i : Item), s.dev.sendingItem p = some i → i.cut = true →
    exec (.ctUnderrun p) s = .next (s.settled
      (((((s.dev.emit (.nullified p i.tlp)).updItem i.id fun i => { i with stage := .resend, cut := false }).bump R.SWC_CT_UNDERRUN p
        i.stb).raise 0x487).schedHead p i.flow)))

/-- The periodic work of the scheduler and the shed completes (R199, R357, R367): the cell count at each whole millisecond, which raises its
event and a fault of the shed where it does not agree; the refill of every enabled shaper at each multiple of 64 ns; and the stall of a
stable whose queue at a port was not selected for STALL_US µs, raised once. -/
def Obligations.PeriodicSchedulerWorkCompletes : Prop :=
  ∀ s : State,
  (∀ d : Dev, d = s.dev.advanceTo ((s.dev.now / 1000000 + 1) * 1000000) →
    exec (.cellCensus false) s = .next (s.settled d) ∧
    exec (.cellCensus true) s = .next (s.settled ((d.raise 0x482).fault 0x13 none none none (d.unitRef (.block 0x440)) 0))) ∧
  exec .shaperRefill s = .next (s.settled (
    let d := s.dev.advanceTo ((s.dev.now / 64 + 1) * 64)
    ((d.listed R.SCH_SH_CFG).filter fun e => bit e.2 0).foldl (fun d e => d.shRefill (e.1 - 0x1000)) d)) ∧
  (∀ (p st since : Nat) (i : Item), (s.dev.queueOf p).find? (fun i => i.flow == st) = some i → s.dev.rf R.SCH_SCH_CTRL 0 15 0 ≠ 0 →
    st < 64 → s.dev.sched.lastSel.getD (p * 128 + st) 0 = since → since ≠ 0 → (s.dev.sched.stalled.getD p 0).testBit st = false →
    exec (.queueStall p st) s = .next (s.settled (
      let d := s.dev.advanceTo (since - 1 + 1000 * s.dev.rf R.SCH_SCH_CTRL 0 15 0)
      let said := s.dev.sched.stalled.getD p 0 + 2 ^ st
      Dev.schEvent { d with sched := { d.sched with stalled := Tbl.put d.sched.stalled p 0 said } } 3 p st i.tlp.tc 0)))

/-! ### Stalls, the loft and slices (R259–R291) -/

/-- The loft's reads and writes complete (R264, R265, R270, R271, R274, R390), of an operation whose requests have left the device, while the loft serves and but in
fail-safe. The first read of a key's set: a way that arrives bad is a bad copy; the present key's way is read next for a request or a pin, or answered to
a lookup or a creation; an absent key is answered 0 to a lookup, made for a creation, a pin or where contexts are made by themselves, and for a
request refused with LOFT_ERR or NO_CTX otherwise; a read in error fails the loft. The second read finds a bad copy, or fills a good one: on die, refused for
want of a way, or held back. The write of a victim ends its stay in the eviction buffer. An answer that no operation waits for is counted
while its tag is held. INIT, when none runs, advances LOFT_GEN, and with the memory reached runs, the loft failed meanwhile (the model's reading: log entry 98),
until its writes are done, or fails; otherwise it fails at once. -/
def Obligations.LoftReadsAndWritesComplete : Prop :=
  ∀ s : State,
  (∀ (key : Nat) (f : Fetch) (bad : List Nat), s.dev.opFor key (fun f => f.step == 1 && s.dev.loftBack f) = some f → s.dev.failsafe = false →
    s.dev.loftOk = true → f.key = key →
    exec (.loftSetReadDone key false bad) s = .next (s.settled s.dev.loftFail) ∧
    (∀ id, s.dev.loftWay key = some id → bad.contains (id % 8) = true →
      exec (.loftSetReadDone key true bad) s = .next (s.settled (s.dev.ctxBad f))) ∧
    (∀ id c a, s.dev.loftWay key = some id → bad.contains (id % 8) = false → s.dev.stall.loft.find id = some c →
      (f.why = .lookup a ∨ f.why = .create a) →
      exec (.loftSetReadDone key true bad) s = .next (s.settled (((s.dev.rmOp f).opEnd a (foundWord c false)).runInvalidations))) ∧
    (∀ id, s.dev.loftWay key = some id → bad.contains (id % 8) = false → (f.why = .request ∨ f.why = .pin) →
      exec (.loftSetReadDone key true bad) s = .next (s.settled (s.dev.setStall { s.dev.stall with fetch := s.dev.stall.fetch.map fun g =>
        if g == f then { g with step := 2, way := id % 8, since := s.dev.now, cto := s.dev.ctoNs, sent := false } else g }))) ∧
    (s.dev.loftWay key = none →
      let d := s.dev.errRunEnd
      (∀ a, f.why = .lookup a → exec (.loftSetReadDone key true bad) s = .next (s.settled ((d.rmOp f).opEnd a 0).runInvalidations)) ∧
      ((f.why = .pin ∨ ∃ a, f.why = .create a) → exec (.loftSetReadDone key true bad) s = .next (s.settled (d.createLoft f))) ∧
      (f.why = .request →
        (d.stall.ctxErr.contains key = true →
          exec (.loftSetReadDone key true bad) s = .next (s.settled ((d.rmOp f).opRefused f 3).runInvalidations)) ∧
        (d.stall.ctxErr.contains key = false → d.ctxAuto key = true →
          exec (.loftSetReadDone key true bad) s = .next (s.settled (d.createLoft f))) ∧
        (d.stall.ctxErr.contains key = false → d.ctxAuto key = false →
          exec (.loftSetReadDone key true bad) s = .next (s.settled ((d.rmOp f).opRefused f 4).runInvalidations))))) ∧
  (∀ (key : Nat) (f : Fetch) (poison : Bool) (data : List Byte), s.dev.opFor key (fun f => f.step == 2 && s.dev.loftBack f) = some f →
    s.dev.failsafe = false → s.dev.loftOk = true → f.key = key →
    exec (.loftContextReadDone key false poison data) s = .next (s.settled s.dev.loftFail) ∧
    (poison = true ∨ s.dev.copyGood key (8 * f.set + f.way) data = false →
      exec (.loftContextReadDone key true poison data) s = .next (s.settled (s.dev.ctxBad f))) ∧
    (poison = false → s.dev.copyGood key (8 * f.set + f.way) data = true →
      let d := s.dev.errRunEnd
      let c := d.refill (ctxOfBytes data)
      let r := (d.rmOp f).place { c with ctxId := 8 * f.set + f.way, cntMiss := c.cntMiss + d.missesOf key, lastUse := d.now } (f.port / 8)
      (∀ d', r = .ok d' → exec (.loftContextReadDone key true poison data) s = .next (s.settled
        ((d'.setStall { d'.stall with ctxErr := d'.stall.ctxErr.erase key }).readyParked key).runInvalidations)) ∧
      (r = .error true → exec (.loftContextReadDone key true poison data) s = .next (s.settled d)) ∧
      (r = .error false → exec (.loftContextReadDone key true poison data) s = .next (s.settled ((d.rmOp f).opRefused f 1).runInvalidations)))) ∧
  (∀ (key : Nat) (f : Fetch) (n id : Nat) (c : Ctx), s.dev.opFor key (fun f => f.why == .writeback && s.dev.loftBack f) = some f →
    s.dev.stall.evict.find? (fun e => e.2.key == key) = some (n, c) → s.dev.failsafe = false → s.dev.loftOk = true →
    (s.dev.loftWay key = some id ∨ (s.dev.loftWay key = none ∧ s.dev.loftFree (s.dev.loftSetOf key) = some id)) →
    exec (.writebackDone key) s = .next (s.settled (
      let d := s.dev.setStall { s.dev.stall with
        evict := dropFirst (fun e => e.2.key == key) s.dev.stall.evict, ctxErr := s.dev.stall.ctxErr.erase key }
      ((d.rmOp f).putLoft id { c with pinned := false }).runInvalidations))) ∧
  (∀ (key : Nat) (ok poison : Bool) (bad : List Nat) (data : List Byte),
    let late := if s.dev.saf.tagsHeld.any fun e => e.1 == 8192 + key then s.dev.bump R.SAF_CNT_CTO else s.dev
    (s.dev.opFor key (fun f => f.step == 1 && s.dev.loftBack f) = none →
      exec (.loftSetReadDone key ok bad) s = .next (s.settled late)) ∧
    (s.dev.opFor key (fun f => f.step == 2 && s.dev.loftBack f) = none →
      exec (.loftContextReadDone key ok poison data) s = .next (s.settled late)) ∧
    (s.dev.opFor key (fun f => f.why == .writeback && s.dev.loftBack f) = none →
      exec (.writebackDone key) s = .next (s.settled late))) ∧
  (∀ a : Acc, s.dev.may a R.STL_LOFT_CTRL true = true → s.dev.rb R.STL_LOFT_STATUS 0 2 = false →
    let d := s.dev.wf R.STL_LOFT_STATUS 0 31 16 (s.dev.loftGen + 1)
    (d.loftOn = true → d.loftReach = true → d.failsafe = false → exec (.loftInit a) s = .next (s.settled (
      let e := ((((d.wf R.STL_LOFT_STATUS 0 2 0 6).wf R.STL_LOFT_STATUS 0 3 3 0).wr R.STL_LOFT_CTRL 0 1).loftEndOps)
      if d.rb R.STL_LOFT_STATUS 0 1 then e else e.raise 0x5c2))) ∧
    ((d.loftOn = false ∨ d.loftReach = false ∨ d.failsafe = true) → exec (.loftInit a) s = .next (s.settled
      (((d.wf R.STL_LOFT_STATUS 0 0 0 0).wf R.STL_LOFT_STATUS 0 3 3 1).loftFail)))) ∧
  (s.dev.rb R.STL_LOFT_STATUS 0 2 = true →
    exec (.loftInitDone false) s = .next (s.settled s.dev.loftFail) ∧
    exec (.loftInitDone true) s = .next (s.settled (
      let d := (s.dev.wf R.STL_LOFT_STATUS 0 2 0 1).wr R.STL_LOFT_CTRL 0 0
      d.setStall { d.stall with loft := [], ctxErr := [], errRun := 0 })))

/-- Context operations, generations and slices complete (R276, R279, R282, R288). CTX_OP, while none of the accessor runs: a tenant's key of a port that
its stable does not own is refused; an invalidation of a pinned key is refused, else it waits for the key's requests; a lookup or creation
of a key on die, or in an eviction buffer, is answered at once; of another key a lookup with no loft to ask finds nothing, a creation without a slice for the key
or without room is refused, with the loft off it is made and answered, and what is left goes to the loft. ADV advances the generation of an OWNED downstream port, GEN_ADV that of a slice, and a held advance takes effect when
the last TLP of the generation before is gone; CONTAIN contains an active slice, with an Internal Error of its stable; RELEASE makes a contained one active under a new
generation; an entry of the ledger that is older than LED_TO is freed, counted and reported. -/
def Obligations.ContextOperationsAndSlicesComplete : Prop :=
  ∀ (s : State) (a : Acc),
  let acc := accIdx a
  let key := s.dev.ctxKeyOf acc
  let foreign : Bool := match s.dev.tenant a with
    | some st => !(s.dev.ownMode (keyPort key) == 1 && s.dev.owner (keyPort key) == some st)
    | none => false
  let busy (op : Nat) : Dev := s.dev.setStall { s.dev.stall with opBusy := s.dev.stall.opBusy.insert acc op }
  (s.dev.may a R.STL_CTX_OP true = true → s.dev.stall.opBusy.getD acc 0 = 0 →
    (foreign = true →
      exec (.ctxLookup a) s = .next (s.settled (s.dev.opEnd acc 0x80000000)) ∧
      exec (.ctxInvalidate a) s = .next (s.settled (s.dev.opEnd acc 0x80000000)) ∧
      exec (.ctxCreate a) s = .next (s.settled (s.dev.opEnd acc 0x80000000))) ∧
    (foreign = false →
      let pinned : Bool := (s.dev.onDie key).any (·.pinned) || s.dev.pinKeys.contains key
      let d := s.dev.recall key
      (pinned = true → exec (.ctxInvalidate a) s = .next (s.settled (s.dev.opEnd acc 0x80000000))) ∧
      (pinned = false → exec (.ctxInvalidate a) s = .next (s.settled ((busy 2).addOp key (.invalidate acc) 0).runInvalidations)) ∧
      let near := (d.onDie key) <|> (d.stall.evict.find? fun e => e.2.key == key).map (·.2)
      (∀ c, near = some c →
        exec (.ctxLookup a) s = .next (s.settled (d.opEnd acc (foundWord c true))) ∧
        exec (.ctxCreate a) s = .next (s.settled (d.opEnd acc (foundWord c true)))) ∧
      (near = none → d.sliceless key = true → exec (.ctxCreate a) s = .next (s.settled (d.opEnd acc 0x80000000))) ∧
      (near = none → d.loftOk = false → exec (.ctxLookup a) s = .next (s.settled (d.opEnd acc 0))) ∧
      (near = none → d.loftOk = true → exec (.ctxLookup a) s = .next (s.settled
        ((d.setStall { d.stall with opBusy := d.stall.opBusy.insert acc 1 }).addOp key (.lookup acc) 1))) ∧
      (∀ d' r, near = none → d.sliceless key = false → d.absent key true = (d', some r) →
        exec (.ctxCreate a) s = .next (s.settled ((if r = 1 then d'.raise 0x5c1 else d').opEnd acc 0x80000000))) ∧
      (∀ d', near = none → d.sliceless key = false → d.absent key true = (d', none) → d'.loftOn = true →
        exec (.ctxCreate a) s = .next (s.settled
          ((d'.setStall { d'.stall with opBusy := d'.stall.opBusy.insert acc 4 }).addOp key (.create acc) 1))) ∧
      (∀ d' c, near = none → d.sliceless key = false → d.absent key true = (d', none) → d'.loftOn = false → d'.onDie key = some c →
        exec (.ctxCreate a) s = .next (s.settled (d'.opEnd acc (foundWord c true)))))) ∧
  (s.dev.may a R.STL_PORT_GEN_CTRL true = true →
    let p := s.dev.instOf a 0x700 R.STL_PORT_GEN_CTRL.off
    p < 128 → s.dev.ownMode p = 1 → s.dev.isDown p = true →
    exec (.portGenAdv a) s = .next (s.settled (s.dev.advanceDom (domPort p)))) ∧
  (∀ dom : Nat, let g := s.dev.gen dom
    g.pend = true → s.dev.genInUse dom ((g.g + 255) % 256) = false →
    exec (.genAdvanceRelease dom) s = .next (s.settled ((s.dev.setGen dom ⟨(g.g + 1) % 256, false⟩).markGen dom))) ∧
  (s.dev.may a R.SLC_SLICE_CTRL true = true →
    let k := s.dev.instOf a 0x780 R.SLC_SLICE_CTRL.off
    exec (.sliceGenAdv a) s = .next (s.settled (s.dev.advanceDom (domSlice k))) ∧
    exec (.sliceContain a) s = .next (s.settled
      (if s.dev.slice.contained.contains k then s.dev else (s.dev.sliceContain k).internalErr [s.dev.sliceStable k])) ∧
    (s.dev.slice.contained.contains k = true →
      let d := { s.dev with slice := { s.dev.slice with contained := s.dev.slice.contained.filter (· != k) } }
      exec (.sliceRelease a) s = .next (s.settled ((d.headFree (256 + k)).advanceDom (domSlice k)))) ∧
    (s.dev.slice.contained.contains k = false → exec (.sliceRelease a) s = .next (s.settled s.dev))) ∧
  (∀ (egress rid tag : Nat) (l : Led), s.dev.slice.ledger.find? (fun l => l.egress == egress && l.rid == rid && l.tag == tag) = some l →
    let lim := s.dev.rf R.PRT4_LED_TO 0 15 0 * 1000000
    lim ≠ 0 → exec (.ledgerTimeout egress rid tag) s = .next (s.settled (
      let d := s.dev.advanceTo (l.time + lim)
      ((d.setLedger (d.slice.ledger.erase l)).bump R.PRT4_LED_CNT_TIMEOUT).raiseFor 0x5c6 l.stable.toList)))

/-- Dirty-page logs, traps and the refusal log complete (R273, R284–R287). A write of DLG_SIZE sets the size and empties the ring;
FILTER_CLEAR empties the filter; SYNC reads 1 while record writes are outstanding; TRAP_POP reads the oldest unread entry; TRAP_CPL_GO
completes the entry named, with data, or with a status: CA as 4 and any other not in the list as UR, and frees it; a trap not completed in
time gets UR; CLEAR empties the refusal log; a read of RF_W0 answers the word and latches the time. -/
def Obligations.DirtyLogsAndTrapsComplete : Prop :=
  ∀ (s : State) (a : Acc),
  (∀ w : Word, s.dev.may a R.SLC_DLG_SIZE true = true →
    let i := s.dev.instOf a 0x780 R.SLC_DLG_SIZE.off
    exec (.dlgSizeWrite a w) s = .next (s.settled (
      let d := ((s.dev.wn R.SLC_DLG_SIZE i (fld w 15 0)).wn R.SLC_DLG_PROD i 0).wn R.SLC_DLG_CONS i 0
      { d with slice := { d.slice with phase := d.slice.phase.erase (i - 0x1000) } }))) ∧
  (s.dev.may a R.SLC_DLG_CTRL true = true →
    let i := s.dev.instOf a 0x780 R.SLC_DLG_CTRL.off
    let ids := (s.dev.slice.dirtyOut.filter fun e : Nat × Nat => e.2 == i - 0x1000).map fun e => e.1
    exec (.filterClear a) s = .next (s.settled
      { s.dev with slice := { s.dev.slice with filter := s.dev.slice.filter.erase (i - 0x1000) } }) ∧
    (ids = [] → exec (.sync a) s = .next (s.settled s.dev)) ∧
    (ids ≠ [] → exec (.sync a) s = .next (s.settled
      (Dev.wf { s.dev with slice := { s.dev.slice with syncWait := s.dev.slice.syncWait.insert (i - 0x1000) ids } } R.SLC_DLG_CTRL i 1 1 1)))) ∧
  (s.dev.may a R.SLC_TRAP_POP true = true → exec (.trapPop a) s = .next (s.settled
    { s.dev with slice := { s.dev.slice with traps := updFirst (fun x => !x.read) (fun x => { x with read := true }) s.dev.slice.traps } })) ∧
  (∀ x : Trap, s.dev.may a R.SLC_TRAP_CPL_GO true = true →
    s.dev.slice.traps.find? (fun x => x.id == s.dev.arn (accIdx a) R.SLC_TRAP_CPL_ID) = some x →
    let sts := s.dev.rf R.SLC_TRAP_CPL_STS 0 2 0
    (sts = 0 → x.write = false → exec (.trapCplGo a) s = .next (s.settled
      ((s.dev.completeData x.req (some x.stable) x.ingress 130 .mgmt 0 (bytesOf 4 (s.dev.rn R.SLC_TRAP_CPL_DATA))).trapFree x))) ∧
    (sts = 0 → x.write = true → exec (.trapCplGo a) s = .next (s.settled
      ((s.dev.completeStatus x.req (some x.stable) x.ingress 130 .mgmt 0).trapFree x))) ∧
    (sts ≠ 0 → exec (.trapCplGo a) s = .next (s.settled
      ((s.dev.completeStatus x.req (some x.stable) x.ingress 130 .mgmt (if sts = 4 then 4 else 1)).trapFree x)))) ∧
  (∀ (id : Nat) (x : Trap), s.dev.slice.traps.find? (fun x => x.id == id) = some x →
    exec (.trapTimeout id) s = .next (s.settled (
      let d := s.dev.advanceTo (x.since + 1000000 * s.dev.rf R.SLC_TRAP_CFG 0 31 16)
      ((d.completeStatus x.req (some x.stable) x.ingress 130 .mgmt 1).raise 0x5c9).trapFree x))) ∧
  (s.dev.may a R.STL_RF_CTRL true = true → exec (.rfClear a) s = .next (s.settled
    { s.dev with logs := { s.dev.logs with rf := s.dev.logs.rf.clear } })) ∧
  (s.dev.may a (R.STL_RF_W 0) false = true →
    (∀ e, s.dev.rfEntry a = some e → exec (.rfW0Read a) s = .next (s.settled
      ((s.dev.awn (accIdx a) R.STL_RF_TIME_HI (e.time / 4294967296)).emit (.reply (accIdx a) [e.word 0])))) ∧
    (s.dev.rfEntry a = none → exec (.rfW0Read a) s = .next (s.settled
      ((s.dev.awn (accIdx a) R.STL_RF_TIME_HI 0).emit (.reply (accIdx a) [0])))))

/-! ### The memory bridge and memory pooling (R292–R332) -/

/-- Requests at the bridge complete (R315, R317, R318, R320, R322–R324). The oldest TLP at P129 is taken up. A write is discarded where its
window is fenced, fails at once where the target is not UP, else it is held in the buffer, and counted in WIN_CNT_WR; a read and a
zero-length read are entered; an AtomicOp gets UR where atomics are off, its operation is none of the table or its address is not aligned, CA where the window is
fenced or its target is not UP, else it is entered; MRdLk gets UR where locks are off, else it begins the sequence of its stable and is
entered; another non-posted request gets UR; a request of a retired generation is purged. With no TLP at P129, or in fail-safe, the five
change nothing. -/
def Obligations.BridgeRequestsComplete : Prop :=
  (∀ s : State, s.dev.failsafe = true ∨ s.dev.brgHead = none →
    exec .bridgeWrite s = .next (s.settled s.dev) ∧ exec .bridgeRead s = .next (s.settled s.dev) ∧
    exec .bridgeFlushRead s = .next (s.settled s.dev) ∧ exec .bridgeAtomicop s = .next (s.settled s.dev) ∧
    exec .mrdlk s = .next (s.settled s.dev)) ∧
  ∀ (s : State) (i : Item) (w off : Nat), s.dev.brgHead = some (i, w, off) → s.dev.failsafe = false →
  let d := s.dev.brgTake i
  let a := d.winBase w + off
  let t := i.tlp
  (d.retired i.dom i.prim.gen = true →
    (tcls t ≠ 1 → exec .bridgeWrite s = .next (s.settled (d.brgStale i w a))) ∧
    (t.kind = .memRd → zeroLen t = true → tcls t = 1 → exec .bridgeFlushRead s = .next (s.settled (d.brgStale i w a))) ∧
    (t.kind = .memRd → zeroLen t = false → tcls t = 1 → exec .bridgeRead s = .next (s.settled (d.brgStale i w a))) ∧
    (t.kind = .atomic → exec .bridgeAtomicop s = .next (s.settled (d.brgStale i w a))) ∧
    (t.kind = .memRdLk → exec .mrdlk s = .next (s.settled (d.brgStale i w a)))) ∧
  (d.retired i.dom i.prim.gen = false →
    (tcls t ≠ 1 → t.kind ≠ .memWr → exec .bridgeWrite s = .next (s.settled d)) ∧
    (tcls t ≠ 1 → t.kind = .memWr →
      (d.rb R.BRG_WIN_STATUS w 1 = true → exec .bridgeWrite s = .next (s.settled (d.writeAtOnce i w a 4))) ∧
      (d.rb R.BRG_WIN_STATUS w 1 = false → exec .bridgeWrite s = .next (s.settled (
        let d := d.bump R.BRG_WIN_CNT_WR w (some (d.rf R.BRG_WIN_CFG w 5 0))
        if d.winUp w then d.brgHold i w a else d.writeAtOnce i w a 1)))) ∧
    (tcls t = 1 → t.kind = .memRd → zeroLen t = false →
      exec .bridgeRead s = .next (s.settled (d.brgEnter i w a (4 * dwLen t) .read))) ∧
    (tcls t = 1 → t.kind ≠ .memRd → t.kind ≠ .atomic → t.kind ≠ .memRdLk → exec .bridgeRead s = .next (s.settled (d.brgAnswer i w 1))) ∧
    (t.kind = .memRd → zeroLen t = true → exec .bridgeFlushRead s = .next (s.settled (d.brgEnter i w a 4 .flush))) ∧
    (t.kind = .atomic →
      let n := atomSize t
      let none' : Prop := d.rb R.BRG_WIN_CFG w 9 = false ∨ n = 0 ∨ a % (max n 1) ≠ 0
      let down : Prop := d.rb R.BRG_WIN_STATUS w 1 = true ∨ d.winUp w = false
      (none' → exec .bridgeAtomicop s = .next (s.settled (d.brgAnswer i w 1))) ∧
      (¬ none' → down → exec .bridgeAtomicop s = .next (s.settled (d.brgAnswer i w 4))) ∧
      (¬ none' → ¬ down → exec .bridgeAtomicop s = .next (s.settled (d.brgEnter i w a n .atomic)))) ∧
    (t.kind = .memRdLk →
      (d.rb R.BRG_WIN_CFG w 10 = false → exec .mrdlk s = .next (s.settled (d.brgAnswer i w 1))) ∧
      (d.rb R.BRG_WIN_CFG w 10 = true → exec .mrdlk s = .next (s.settled (
        let st := i.stb.getD 0
        let d := if (d.brg.seqs.find st).isNone ∧ d.winUp w then
          d.setBrg { d.brg with seqs := d.brg.seqs.insert st ⟨i.ingress, d.now, false⟩ } else d
        d.brgEnter i w a (4 * dwLen t) .lock)))))

/-- The bridge's lines, answers and commands complete (R314, R316, R319, R323, R329, R330, R390). A held line that may go is issued, or
fails TARGET_DOWN where its decoder is not UP; an answer of a device to a write ends the line or the atomic, to a read it brings its data; a
late answer is counted and discarded; a locked sequence ends at LOCK_TO and is reported; UNTAINT clears the taint of a window; FLUSH waits
for the writes accepted before it; CLEAR empties the posted-error log. -/
def Obligations.BridgeLinesAndAnswersComplete : Prop :=
  ∀ s : State,
  (∀ (line : Nat) (ecc : Bool) (l : BLine), s.dev.brg.lines.find? (fun l => l.id == line) = some l → s.dev.failsafe = false →
    s.dev.lineFree l = true →
    let mark := 2 ^ 62 + line
    let d := { s.dev with saf := { s.dev.saf with ue := s.dev.saf.ue.filter fun e : Nat × Nat => e.1 != mark } }
    let ue := s.dev.saf.ue.any fun e : Nat × Nat => e.1 == mark
    exec (.lineIssue line ecc) s = .next (s.settled (d.lineIssue l (ecc || ue))) ∧
    ((∀ k, d.idecAt (64 * l.addr) = some k → d.idecState k ≠ 2) →
      exec (.lineIssue line ecc) s = .next (s.settled ((d.lineFail l 1).brgPump)))) ∧
  (∀ (port tag : Nat) (e : M2S) (write : Bool), s.dev.brgOut port tag write = some e →
    let d := s.dev.rmM2s e.id
    (∀ l, write = true → e.why = .line l → exec (.ndr port tag) s = .next (s.settled (d.lineNdr l))) ∧
    (∀ r x, write = true → e.why = .atomWr r → d.brg.reqs.find? (fun x => x.id == r) = some x →
      exec (.ndr port tag) s = .next (s.settled ((d.reqDone x).brgPump))) ∧
    (∀ r k data poison, write = false → e.why = .read r k →
      exec (.drs port tag data poison) s = .next (s.settled (d.reqGot r (e.addr / 64) (padTo 64 data) poison false)))) ∧
  (∀ (port tag : Nat) (data : List Byte) (poison : Bool), s.dev.linkLive port = true → s.dev.fenced port = false →
    s.dev.portContained port = false → (s.dev.saf.tagsHeld.any fun e => e.1 == 4096 + tag) = true →
    (s.dev.brgOut port tag true = none → exec (.ndr port tag) s = .next (s.settled (s.dev.bump R.SAF_CNT_CTO))) ∧
    (s.dev.brgOut port tag false = none → exec (.drs port tag data poison) s = .next (s.settled (s.dev.bump R.SAF_CNT_CTO)))) ∧
  (∀ (st : Nat) (q : BSeq), s.dev.brg.seqs.find st = some q → q.expired = false →
    exec (.lockTimeout st) s = .next (s.settled (
      let d := s.dev.advanceTo (q.start + 1000 * s.dev.rf R.BRG_BRG_CFG 0 15 0)
      let w := match d.brg.sems.find? fun e => e.2.entry.isNone && e.2.stable == st with
        | some e => d.rf R.BRG_LK_STATE (0x100 + e.1) 15 8
        | none => 0
      let d := d.seqFree st
      let d := d.setBrg { d.brg with seqs := d.brg.seqs.insert st { q with expired := true } }
      ((d.wr R.BRG_BRG_LAST 0 (word (w + 256 * st + 16384 * 8))).raise (0x680 + st)).brgPump))) ∧
  (∀ a : Acc,
    (s.dev.may a R.BRG_WIN_CTRL true = true →
      let w := s.dev.instOf a 0x900 R.BRG_WIN_CTRL.off
      exec (.winUntaint a) s = .next (s.settled (s.dev.wf R.BRG_WIN_STATUS w 1 0 0)) ∧
      exec (.winFlush a) s = .next (s.settled
        (((s.dev.setBrg { s.dev.brg with flushAt := s.dev.brg.flushAt.insert w s.dev.brg.next }).wf R.BRG_WIN_CTRL w 1 1 1).brgPump))) ∧
    (s.dev.may a R.BRG_PEL_CTRL true = true → exec (.pelClear a) s = .next (s.settled
      (s.dev.setBrg { s.dev.brg with pel := s.dev.brg.pel.clear }))))

/-- Messages of hosts and devices of the pool, decoders and health complete (R293, R294, R299, R303, R305, R306, R309). A host's request
goes to the bound vPPB that its address decodes to, or is a routing error; a response returns to its requester; a snoop or a CXL.cache
message goes to the other side, or is refused where the link does not use it. An enabled decoder is programmed once its port is up and there is room for the completion (R180), is UP
when its target has committed, and fails with 5 at a timeout and 6 where it has not; RECOMMIT programs it again; a health poll fails the UP
decoders that are bad; viral fails the port's decoders, goes on to the upstream port, is reported and contains the port; an extent is
accepted as DC_ACCEPT says. -/
def Obligations.PoolMessagesAndDecodersComplete : Prop :=
  ∀ s : State, s.dev.failsafe = false →
  (∀ (p st : Nat) (write : Bool) (hpa0 tag mask : Nat) (data : List Byte) (poison : Bool), s.dev.owner p = some st →
    s.dev.linkLive p = true → s.dev.isCxl p = true → s.dev.isUp p = true → s.dev.discards p = false →
    let hpa := hpa0 / 64 * 64
    let t : Tlp := { Tlp.blank with kind := if write then .m2sWr else .m2sRd, addr := hpa, len := 16, tag := tag, ep := poison
                                    reg := if write then mask else 0, data := if write then padTo 64 data else [] }
    let e : M2S := ⟨s.dev.cxp.nextId, tag, (s.dev.hdmDecode st hpa).getD 0, none, write, .host, some st, p, hpa, s.dev.now, s.dev.ctoNs⟩
    (s.dev.hdmPort st hpa = none → exec (.m2sRequest p write hpa0 tag mask data poison) s = .next (s.settled
      ((s.dev.setCxp { s.dev.cxp with nextId := s.dev.cxp.nextId + 1 }).hdmMiss e st t))) ∧
    (∀ q, s.dev.hdmPort st hpa = some q →
      let ld := if s.dev.isMld q then s.dev.boundLd q st else none
      let d := s.dev.setCxp { s.dev.cxp with nextId := e.id + 1, m2s := s.dev.cxp.m2s ++ [{ e with port := q, ld := ld }] }
      let dom := ld.map fun l => domLd q l
      let ev (x : Dev) : Eval :=
        let st' := x.owner p
        let r : RouteRes := ⟨match st'.bind fun s => x.hdmPort s hpa with
          | some q => .port x.me q
          | none => .err 1, none, hpa, false⟩
        ⟨st', st', r.dest, none, hpa, x.verdict (st'.getD st) p { t with ld := ld } true r, x.genOf dom, false⟩
      exec (.m2sRequest p write hpa0 tag mask data poison) s = .next (s.settled
        (d.addItem { mkItem { t with ld := ld } p (.m2s e.id) (ev d) (ev d.chkView) with dom := dom })))) ∧
  (∀ p : Nat, s.dev.linkLive p = true → s.dev.isCxl p = true → s.dev.discards p = false →
    (∀ (kind tag : Nat) (ld : Option Nat) (data : List Byte) (poison : Bool),
      (∀ e, kind ≤ 1 → s.dev.cxp.m2s.find? (fun e => e.why == .host && e.port == p && e.ld == ld && e.tag == tag &&
          e.write == (kind == 0) && !(s.dev.path.items.any fun i => i.src == .m2s e.id)) = some e →
        exec (.s2mResponse p kind tag ld data poison) s = .next (s.settled
          ((s.dev.rmM2s e.id).sendS2m e (if kind = 1 then padTo 64 data else []) poison))) ∧
      (∀ st e, s.dev.owner p = some st → s.dev.isUp p = true →
        s.dev.cxp.m2s.find? (fun e => e.why == .bi && e.port == p && e.tag == tag) = some e →
        exec (.s2mResponse p 2 tag ld data poison) s = .next (s.settled ((s.dev.rmM2s e.id).cxlForward p st e.ingress 1 tag data))) ∧
      (∀ st q, s.dev.owner p = some st → s.dev.isUp p = true → s.dev.cachePort st = some q →
        exec (.s2mResponse p 3 tag ld data poison) s = .next (s.settled (s.dev.cxlForward p st q 2 tag data))))) ∧
  (∀ p : Nat, s.dev.linkLive p = true → s.dev.isCxl p = true → s.dev.fenced p = false → s.dev.portContained p = false →
    (∀ (cache : Bool) (tag : Nat) (data : List Byte),
      let used := s.dev.rb R.CXP_PORT_CXL_STATUS (0x100 + p) (if cache then 8 else 7)
      (used = false → exec (.biMessage p cache tag data) s = .next (s.settled
        ((s.dev.bump R.CXP_PORT_CNT_DENIED (0x100 + p)).cxpEvent 6 p 0 0 (s.dev.boundStables p)))) ∧
      (∀ st up, used = true → s.dev.owner p = some st → s.dev.upPort st = some up →
        (cache = true → exec (.biMessage p cache tag data) s = .next (s.settled (s.dev.cxlForward p st up 2 tag data))) ∧
        (cache = false → exec (.biMessage p cache tag data) s = .next (s.settled (Dev.cxlForward
          (s.dev.setCxp { s.dev.cxp with nextId := s.dev.cxp.nextId + 1
                                         m2s := s.dev.cxp.m2s ++ [⟨s.dev.cxp.nextId, tag, up, none, false, .bi, some st, p, 0, s.dev.now, 0⟩] })
          p st up 1 tag data)))))) ∧
  (∀ k : Nat, s.dev.idecReach k = true →
    (s.dev.cxp.progSent.contains k = false → s.dev.loftRoom 1 = true → exec (.idecProgram k) s = .next (s.settled (
      let d := s.dev.setCxp { s.dev.cxp with prog := s.dev.cxp.prog.insert k (s.dev.now + 1), progSent := s.dev.cxp.progSent ++ [k] }
      d.emit (.m2s (d.idecPort k) 1 [(d.idecLd k).getD 16, d.idecBase k, d.idecSize k, d.rf R.CXP_IDEC_DPA (0x200 + k) 11 0 * 268435456])))) ∧
    (s.dev.cxp.progSent.contains k = true →
      exec (.idecCommitted k) s = .next (s.settled (((s.dev.idecEnd k).wf R.CXP_IDEC_STATUS (0x200 + k) 1 0 2).brgPump)) ∧
      (s.dev.idecState k = 1 → exec (.idecNotCommitted k false) s = .next (s.settled (s.dev.idecFail k 6))) ∧
      (s.dev.idecState k = 1 → exec (.idecNotCommitted k true) s = .next (s.settled
        ((s.dev.advanceTo (s.dev.cxp.prog.getD k 1 - 1 + 10000000)).idecFail k 5))))) ∧
  (∀ a : Acc, s.dev.may a R.CXP_IDEC_CTRL true = true →
    let k := s.dev.instOf a 0x800 R.CXP_IDEC_CTRL.off - 0x200
    (s.dev.idecSize k = 0 → exec (.recommit a) s = .next (s.settled s.dev)) ∧
    (s.dev.idecSize k ≠ 0 → exec (.recommit a) s = .next (s.settled ((s.dev.idecStart k).wr R.CXP_IDEC_CTRL (0x200 + k) 1)))) ∧
  (∀ bad : List Nat, let int := s.dev.rf R.CXP_CXP_CTRL 0 15 0 * 1000000
    (int = 0 → exec (.healthPoll bad) s = .next (s.settled s.dev)) ∧
    (int ≠ 0 → exec (.healthPoll bad) s = .next (s.settled (
      let d := s.dev.advanceTo ((s.dev.now / int + 1) * int)
      (d.idecs.filter fun k => bad.contains k && d.dlUp (d.idecPort k)).foldl (fun d k =>
        if d.idecState k = 2 then d.idecFail k 4 else d) d)))) ∧
  (∀ p : Nat, s.dev.linkLive p = true → s.dev.isCxl p = true → s.dev.portContained p = false →
    exec (.viralReceived p) s = .next (s.settled (
      let d := s.dev.idecPortFail p 3
      let d := match (if d.isDown p then d.owner p else none).bind d.upPort with
        | some up => if d.linkLive up then d.emit (.m2s up 2 []) else d
        | none => d
      (d.cxpEvent 7 p 0 0 (d.boundStables p)).fault 0x15 (d.owner p) (some p) none (d.unitRef (.port p)) 0))) ∧
  (∀ (p k : Nat) (ld : Option Nat) (l : List Nat), s.dev.linkLive p = true → s.dev.idecsOf p ld = k :: l →
    exec (.dcExtentOffer p ld) s = .next (s.settled
      ((s.dev.emit (.m2s p 3 [ld.getD 16, b2n (s.dev.rb R.CXP_IDEC_CFG (0x200 + k) 14)])).cxpEvent 8 p (ld.getD 0) k [])))

/-! ### The fabric-manager API (R308, R309, R392) -/

/-- A command of the fabric manager that is answered at once completes (R308, R309, R392): over a management path that its source has, with
firmware running and no command in progress, it has its effect, its code is kept in FMAPI_LAST and it is answered, with Invalid Input where
its operands name nothing it may act on. The codes and payloads are the model's (log entry 10). -/
def Obligations.FabricManagerCommandsComplete : Prop :=
  ∀ (s : State) (a : Acc) (path : Nat), s.dev.fmPath a = some path → s.dev.pathUp path = true → s.dev.fwRuns = true →
    s.dev.cxp.fmBusy = none →
  let d := s.dev
  exec (.identify a) s = .next (s.settled (d.fmEnd path 0x0001 0 [(Config.factory 0x205 0 0xff0).toNat % 65536, 0x9250, 0])) ∧
  exec (.backgroundOperationStatus a) s = .next (s.settled (d.fmEnd path 0x0002 0 [0])) ∧
  exec (.getResponseMessageLimit a) s = .next (s.settled (d.fmEnd path 0x0003 0 [d.cxp.msgLimit])) ∧
  (∀ limit : Nat,
    (8 ≤ limit ∧ limit ≤ 20 → exec (.setResponseMessageLimit a limit) s =
      .next (s.settled ((d.setCxp { d.cxp with msgLimit := limit }).fmEnd path 0x0004 0 [limit]))) ∧
    (¬ (8 ≤ limit ∧ limit ≤ 20) → exec (.setResponseMessageLimit a limit) s = .next (s.settled (d.fmEnd path 0x0004 2 [])))) ∧
  (let vcs := (List.range 64).filter d.stbEn
   let v := vcs.flatMap fun st => (d.vppbs st).map fun p => (st, p)
   exec (.identifySwitchDevice a) s = .next (s.settled (d.fmEnd path 0x5100 0
    [128, 64, ofBits (d.physPorts.filter d.portEn), ofBits vcs, v.length, (v.filter fun e => d.vppbBound e.1 e.2).length, 8]))) ∧
  (∀ ports : List Nat,
    ((ports.any fun p => decide (128 ≤ p)) = true →
      exec (.getPhysicalPortState a ports) s = .next (s.settled (d.fmEnd path 0x5101 2 []))) ∧
    ((ports.any fun p => decide (128 ≤ p)) = false →
      exec (.getPhysicalPortState a ports) s = .next (s.settled (d.fmEnd path 0x5101 0 (ports.flatMap d.fmPort))))) ∧
  (∀ port op : Nat,
    let able : Prop := port < 128 ∧ d.ownMode port = 0 ∧ d.isFabric port = false ∧ op < 3
    let reset (d : Dev) (on : Bool) : Dev := match d.portSlot port with
      | some k => (d.setSlot k { d.slot k with resetOn := on }).emit (.pin (.slotReset port) on)
      | none => d
    let down (d : Dev) : Dev := if d.dlUp port then d.dlDown port 1 false true else d
    (¬ able → exec (.physicalPortControl a port op) s = .next (s.settled (d.fmEnd path 0x5102 2 []))) ∧
    (able → op = 0 → exec (.physicalPortControl a port op) s = .next (s.settled ((down (reset d true)).fmEnd path 0x5102 0 []))) ∧
    (able → op = 1 → exec (.physicalPortControl a port op) s = .next (s.settled ((reset d false).fmEnd path 0x5102 0 []))) ∧
    (able → op = 2 → exec (.physicalPortControl a port op) s =
      .next (s.settled ((down (d.emit (.engine port 4 [2]))).fmEnd path 0x5102 0 [])))) ∧
  (∀ (port reg be : Nat) (data : Word),
    let able : Prop := port < 128 ∧ d.isFabric port = false ∧ d.isUp port = false ∧ (d.ownMode port = 0 ∨ d.isMld port = true)
    let dw := reg / 4 % 1024
    (able → exec (.sendPpbCxlIoConfigurationRequest a port reg be true data) s =
      .next (s.settled ((d.setCfg 64 (8 + port) dw (d.cfgMerge 64 (8 + port) dw be data)).fmEnd path 0x5103 0 []))) ∧
    (able → exec (.sendPpbCxlIoConfigurationRequest a port reg be false data) s =
      .next (s.settled (d.fmEnd path 0x5103 0 [(d.portWord 64 (8 + port) port dw (d.cfg 64 (8 + port) dw)).toNat]))) ∧
    (¬ able → ∀ write, exec (.sendPpbCxlIoConfigurationRequest a port reg be write data) s =
      .next (s.settled (d.fmEnd path 0x5103 2 [])))) ∧
  (∀ vcs : List Nat,
    ((vcs.any fun st => decide (64 ≤ st)) = true →
      exec (.getVirtualCxlSwitchInfo a vcs) s = .next (s.settled (d.fmEnd path 0x5200 2 []))) ∧
    ((vcs.any fun st => decide (64 ≤ st)) = false →
      exec (.getVirtualCxlSwitchInfo a vcs) s = .next (s.settled (d.fmEnd path 0x5200 0 (vcs.flatMap d.fmVcs))))) ∧
  (∀ vcs vppb port ld : Nat,
    let able : Prop := port < 128 ∧ d.isMld port = true ∧ vppb = port ∧ vcs < 64 ∧ ld < 16 ∧ 0x800 ∉ s.plock
    let n := (d.stage ⟨65, 0x800, 0x800, 0x100 + port, 0x340 + 4 * ld, word (1 + 2 * vcs)⟩).commitReq 65 0x800
    (able → exec (.bindVppb a vcs vppb port ld) s =
      .next (s.settled (n.fmEnd path 0x5201 (if n.staging.lastErr.getD 0x800 0 % 256 = 0 then 0 else 2) []))) ∧
    (¬ able → exec (.bindVppb a vcs vppb port ld) s = .next (s.settled (d.fmEnd path 0x5201 2 [])))) ∧
  (∀ vcs port : Nat,
    let able : Prop := port < 128 ∧ d.isMld port = true ∧ vcs < 64 ∧ 0x800 ∉ s.plock
    (∀ ld, able → d.boundLd port vcs = some ld →
      let n := (d.stage ⟨65, 0x800, 0x800, 0x100 + port, 0x340 + 4 * ld, 0⟩).commitReq 65 0x800
      exec (.unbindVppb a vcs port) s =
        .next (s.settled (n.fmEnd path 0x5202 (if n.staging.lastErr.getD 0x800 0 % 256 = 0 then 0 else 2) []))) ∧
    (¬ able ∨ d.boundLd port vcs = none → exec (.unbindVppb a vcs port) s = .next (s.settled (d.fmEnd path 0x5202 2 [])))) ∧
  (∀ vcs k : Nat,
    let able : Prop := vcs < 64 ∧ (d.upPort vcs).isSome = true ∧ k < 64
    (able → exec (.generateAerEvent a vcs k) s = .next (s.settled ((d.aer vcs 0 k none).fmEnd path 0x5203 0 []))) ∧
    (¬ able → exec (.generateAerEvent a vcs k) s = .next (s.settled (d.fmEnd path 0x5203 2 [])))) ∧
  (∀ op : Nat, fmOpcodes.contains op = false → op < 65536 →
    exec (.fmapiUnsupported a op) s = .next (s.settled (d.fmEnd path op 3 [])))

/-- A command of the fabric manager that is forwarded to a device completes (R308, R309): to the device of a port, or an LD of it, that
takes such commands it is forwarded and stays in progress; with the device's answer, at once or later, it ends and is answered; to another
port or LD it is invalid; a command outside a tunnel that the standard gives to a tunnel alone is unsupported; an answer with Success to a
release of extents makes the UP decoders under them FAILED. A message of any of these commands, or of those answered at once, from a source
that is none is discarded and counted, over a path that is down is lost, without firmware is discarded and counted as an MCTP error, and is
answered Busy while another command is in progress (log entry 10). -/
def Obligations.ForwardedFabricCommandsComplete : Prop :=
  (∀ (s : State) (a : Acc) (path port ld : Nat), s.dev.fmPath a = some path → s.dev.pathUp path = true → s.dev.fwRuns = true →
    let begun (op : Nat) (args : List Nat) : Dev :=
      (s.dev.setCxp { s.dev.cxp with fmBusy := some (path, op), tunnel := s.dev.cxp.tunnel ++ [(port, op)] }).emit (.engine port 8 args)
    let ended (d : Dev) (op code : Nat) (l : List Nat) : Dev := (d.setCxp { d.cxp with fmBusy := none, tunnel := [] }).fmEnd path op code l
    let free : Prop := s.dev.cxp.fmBusy = none
    let mine (op : Nat) : Prop := s.dev.cxp.fmBusy = some (path, op)
    (∀ inner args code l, ¬ (0x5600 ≤ inner ∧ inner ≤ 0x5605) →
      let b := begun 0x5300 (0x5300 :: inner :: args)
      (free → s.dev.fmDevice port = true →
        exec (.tunnelManagementCommand a port inner args none) s = .next (s.settled b) ∧
        exec (.tunnelManagementCommand a port inner args (some (code, l))) s = .next (s.settled (ended b 0x5300 code l))) ∧
      (mine 0x5300 → exec (.tunnelManagementCommand a port inner args (some (code, l))) s = .next (s.settled (ended s.dev 0x5300 code l))) ∧
      (free → s.dev.fmDevice port = false → ∀ ans, exec (.tunnelManagementCommand a port inner args ans) s =
        .next (s.settled (s.dev.fmEnd path 0x5300 2 [])))) ∧
    (∀ (reg be : Nat) (write : Bool) (data : Word) (code : Nat) (l : List Nat),
      let b := begun 0x5301 [0x5301, ld, reg, be, b2n write, data.toNat]
      (free → s.dev.fmLd port ld = true →
        exec (.sendLdCxlIoConfigurationRequest a port ld reg be write data none) s = .next (s.settled b) ∧
        exec (.sendLdCxlIoConfigurationRequest a port ld reg be write data (some (code, l))) s =
          .next (s.settled (ended b 0x5301 code l))) ∧
      (mine 0x5301 → exec (.sendLdCxlIoConfigurationRequest a port ld reg be write data (some (code, l))) s =
        .next (s.settled (ended s.dev 0x5301 code l))) ∧
      (free → s.dev.fmLd port ld = false → ∀ ans, exec (.sendLdCxlIoConfigurationRequest a port ld reg be write data ans) s =
        .next (s.settled (s.dev.fmEnd path 0x5301 2 [])))) ∧
    (∀ (addr len : Nat) (write : Bool) (data : List Nat) (code : Nat) (l : List Nat),
      let b := begun 0x5302 ([0x5302, ld, addr, len, b2n write] ++ data)
      (free → s.dev.fmLd port ld = true →
        exec (.sendLdCxlIoMemoryRequest a port ld addr len write data none) s = .next (s.settled b) ∧
        exec (.sendLdCxlIoMemoryRequest a port ld addr len write data (some (code, l))) s = .next (s.settled (ended b 0x5302 code l))) ∧
      (mine 0x5302 → exec (.sendLdCxlIoMemoryRequest a port ld addr len write data (some (code, l))) s =
        .next (s.settled (ended s.dev 0x5302 code l))) ∧
      (free → s.dev.fmLd port ld = false → ∀ ans, exec (.sendLdCxlIoMemoryRequest a port ld addr len write data ans) s =
        .next (s.settled (s.dev.fmEnd path 0x5302 2 [])))) ∧
    (let dcd : Prop := s.dev.fmDevice port = true ∧ s.dev.rb R.CXP_PORT_CXL_STATUS (0x100 + port) 9 = true
     ∀ (args : List Nat) (ext : List (Nat × Nat)) (code : Nat) (l : List Nat),
      let flat := ext.flatMap fun e => [e.1, e.2]
      let r := ended (begun 0x5300 (0x5300 :: 0x5605 :: ld :: flat)) 0x5300 code l
      (free → dcd →
        exec (.getDcdInfo a (some port) none) s = .next (s.settled (begun 0x5300 [0x5300, 0x5600])) ∧
        exec (.getHostDcRegionConfiguration a (some port) args none) s = .next (s.settled (begun 0x5300 (0x5300 :: 0x5601 :: args))) ∧
        exec (.setDcRegionConfiguration a (some port) args none) s = .next (s.settled (begun 0x5300 (0x5300 :: 0x5602 :: args))) ∧
        exec (.getDcRegionExtentLists a (some port) args none) s = .next (s.settled (begun 0x5300 (0x5300 :: 0x5603 :: args))) ∧
        exec (.initiateDcAdd a (some port) ld ext none) s = .next (s.settled (begun 0x5300 (0x5300 :: 0x5604 :: ld :: flat))) ∧
        exec (.initiateDcRelease a (some port) ld ext none) s = .next (s.settled (begun 0x5300 (0x5300 :: 0x5605 :: ld :: flat))) ∧
        (code = 0 → exec (.initiateDcRelease a (some port) ld ext (some (code, l))) s = .next (s.settled
          (ext.foldl (fun d e => (d.idecsUnder port ld e.1 e.2).foldl (fun d k => d.idecFail k 7) d) r))) ∧
        (code ≠ 0 → exec (.initiateDcRelease a (some port) ld ext (some (code, l))) s = .next (s.settled r))) ∧
      (mine 0x5300 →
        exec (.getDcdInfo a (some port) (some (code, l))) s = .next (s.settled (ended s.dev 0x5300 code l)) ∧
        exec (.getHostDcRegionConfiguration a (some port) args (some (code, l))) s = .next (s.settled (ended s.dev 0x5300 code l)) ∧
        exec (.setDcRegionConfiguration a (some port) args (some (code, l))) s = .next (s.settled (ended s.dev 0x5300 code l)) ∧
        exec (.getDcRegionExtentLists a (some port) args (some (code, l))) s = .next (s.settled (ended s.dev 0x5300 code l)) ∧
        exec (.initiateDcAdd a (some port) ld ext (some (code, l))) s = .next (s.settled (ended s.dev 0x5300 code l))) ∧
      (free → ¬ dcd → ∀ ans, ∀ c ∈ ([.getDcdInfo a (some port) ans, .getHostDcRegionConfiguration a (some port) args ans,
          .setDcRegionConfiguration a (some port) args ans, .getDcRegionExtentLists a (some port) args ans,
          .initiateDcAdd a (some port) ld ext ans, .initiateDcRelease a (some port) ld ext ans] : List Instr),
        exec c s = .next (s.settled (s.dev.fmEnd path 0x5300 2 []))) ∧
      (free → ∀ ans,
        exec (.getDcdInfo a none ans) s = .next (s.settled (s.dev.fmEnd path 0x5600 3 [])) ∧
        exec (.getHostDcRegionConfiguration a none args ans) s = .next (s.settled (s.dev.fmEnd path 0x5601 3 [])) ∧
        exec (.setDcRegionConfiguration a none args ans) s = .next (s.settled (s.dev.fmEnd path 0x5602 3 [])) ∧
        exec (.getDcRegionExtentLists a none args ans) s = .next (s.settled (s.dev.fmEnd path 0x5603 3 [])) ∧
        exec (.initiateDcAdd a none ld ext ans) s = .next (s.settled (s.dev.fmEnd path 0x5604 3 [])) ∧
        exec (.initiateDcRelease a none ld ext ans) s = .next (s.settled (s.dev.fmEnd path 0x5605 3 []))))) ∧
  (∀ (s : State) (a : Acc) (n port ld reg be : Nat) (write : Bool) (data : Word) (l : List Nat) (ext : List (Nat × Nat)),
    ∀ e ∈ ([(.identify a, 0x0001), (.backgroundOperationStatus a, 0x0002), (.getResponseMessageLimit a, 0x0003),
        (.setResponseMessageLimit a n, 0x0004), (.identifySwitchDevice a, 0x5100), (.getPhysicalPortState a l, 0x5101),
        (.physicalPortControl a port n, 0x5102), (.sendPpbCxlIoConfigurationRequest a port reg be write data, 0x5103),
        (.getVirtualCxlSwitchInfo a l, 0x5200), (.bindVppb a n port port ld, 0x5201), (.unbindVppb a n port, 0x5202),
        (.generateAerEvent a n reg, 0x5203), (.tunnelManagementCommand a port 0x0001 l none, 0x5300),
        (.sendLdCxlIoConfigurationRequest a port ld reg be write data none, 0x5301),
        (.sendLdCxlIoMemoryRequest a port ld reg be write l none, 0x5302), (.getDcdInfo a (some port) none, 0x5300),
        (.getHostDcRegionConfiguration a (some port) l none, 0x5300), (.setDcRegionConfiguration a (some port) l none, 0x5300),
        (.getDcRegionExtentLists a (some port) l none, 0x5300), (.initiateDcAdd a (some port) ld ext none, 0x5300),
        (.initiateDcRelease a (some port) ld ext none, 0x5300)] : List (Instr × Nat)),
      (s.dev.fmPath a = none → exec e.1 s = .next (s.settled (s.dev.bump R.CXP_FMAPI_CNT_REJ))) ∧
      (∀ path, s.dev.fmPath a = some path →
        (s.dev.pathUp path = false → exec e.1 s = .next (s.settled s.dev)) ∧
        (s.dev.pathUp path = true → s.dev.fwRuns = false → exec e.1 s = .next (s.settled s.dev.mctpErr)) ∧
        (∀ b, s.dev.pathUp path = true → s.dev.fwRuns = true → s.dev.cxp.fmBusy = some b →
          exec e.1 s = .next (s.settled (s.dev.fmEnd path e.2 6 [])))))

/-! ### DMA (R335–R347) -/

/-- The writes of a channel's registers complete (R335, R345–R347). CH_TAIL inside the ring sets the tail, paces and runs the channel,
outside it marks TAIL_ERR and raises its event; a size set on a stopped channel resets the indices and drops the marks, on another it is
ignored; START of a channel that can start writes its marks back and makes it IDLE or RUN, STOP stops a channel that is not stopped, ABORT
advances its generation, KICK paces it at once and runs it, ARM and DISARM arm and disarm it. -/
def Obligations.ChannelRegisterWritesComplete : Prop :=
  ∀ (s : State) (a : Acc) (w : Word),
  (s.dev.may a R.DMA_CH_TAIL true = true →
    let c := s.dev.instOf a 0xa00 R.DMA_CH_TAIL.off
    let v := w.toNat % 65536
    (s.dev.chSize c ≤ v → exec (.chTailWrite a w) s = .next (s.settled ((s.dev.wf R.DMA_CH_STATUS c 5 5 1).raise (0x6c1 + 2 * c)))) ∧
    (v < s.dev.chSize c → exec (.chTailWrite a w) s = .next (s.settled
      (((s.dev.wr R.DMA_CH_TAIL c (word v)).chPace c false).chRun c)))) ∧
  (s.dev.may a R.DMA_CH_RING_SIZE true = true →
    let c := s.dev.instOf a 0xa00 R.DMA_CH_RING_SIZE.off
    (s.dev.chState c ≠ 0 → exec (.chRingSizeWrite a w) s = .next (s.settled s.dev)) ∧
    (s.dev.chState c = 0 → exec (.chRingSizeWrite a w) s = .next (s.settled (
      let d := (((s.dev.wr R.DMA_CH_RING_SIZE c (word (w.toNat % 65536))).wr R.DMA_CH_HEAD c 0).wr R.DMA_CH_DONE c 0).wr R.DMA_CH_TAIL c 0
      let d := d.chDropFetch c
      d.setChan c { d.chan c with marks := [] })))) ∧
  (s.dev.may a R.DMA_CH_CTRL true = true →
    let c := s.dev.instOf a 0xa00 R.DMA_CH_CTRL.off
    (s.dev.chCanStart c = true → exec (.chStart a) s = .next (s.settled (
      let d := s.dev.setChan c { s.dev.chan c with marks := [] }
      let d := (s.dev.chan c).marks.foldl (fun d x => d.chReport c x) d
      ((d.setChState c 1).chPace c false).chRun c))) ∧
    (s.dev.chCanStart c = false → exec (.chStart a) s = .next (s.settled s.dev)) ∧
    (s.dev.chState c ≠ 0 → exec (.chStop a) s = .next (s.settled ((s.dev.wf R.DMA_CH_CTRL c 1 1 1).chStopped c))) ∧
    (s.dev.chState c = 0 → exec (.chStop a) s = .next (s.settled s.dev)) ∧
    exec (.chAbort a) s = .next (s.settled (s.dev.advanceDom (domChan c))) ∧
    exec (.kick a) s = .next (s.settled ((s.dev.chPace c true).chRun c)) ∧
    exec (.arm a) s = .next (s.settled (s.dev.chArm c true)) ∧
    exec (.disarm a) s = .next (s.settled (s.dev.chArm c false)))

/-- Fetches, reads and descriptors of a channel complete (R335, R337, R338, R341–R344, R347, R390). The oldest completion of a fetch or of a
read that has reached P128 is taken up: one for another requester, or of no tag in use, is unexpected; of a timed-out tag it is counted; of
an old generation it is counted STALE; of a fetch or read that its channel has given up it only frees its tag; else it serves its fetch or
its read. The next descriptor begins, by its operation, where the channel may begin it: the head moves on, wrapping; the oldest begun
descriptor is reported once it is done. With nothing to take up, to begin or to report nothing changes. -/
def Obligations.ChannelWorkCompletes : Prop :=
  ∀ (s : State) (c : Nat),
  let taken (i : Item) : Dev := { s.dev with path := { s.dev.path with inbox := s.dev.path.inbox.erase i } }
  let freed (d : Dev) (t : Tlp) : Dev := if endsRequest t then d.freeDmaTag t.tag else d
  (s.dev.dmaInbox c true = none → exec (.descriptorFetchDone c) s = .next (s.settled s.dev)) ∧
  (s.dev.dmaInbox c false = none → exec (.dmaReadCompletion c) s = .next (s.settled s.dev)) ∧
  (∀ i g, s.dev.dmaInbox c true = some i → s.dev.dma.tags.find i.tlp.tag = some g →
    let d := taken i
    let old := d.retired (some (domChan g.ch)) g.gen
    (g.rid ≠ i.tlp.rid → exec (.descriptorFetchDone c) s = .next (s.settled (d.unexpected i.ingress i.tlp))) ∧
    (g.rid = i.tlp.rid → g.timedOut = true → exec (.descriptorFetchDone c) s = .next (s.settled (d.bump R.SAF_CNT_CTO))) ∧
    (g.rid = i.tlp.rid → g.timedOut = false → old = true → exec (.descriptorFetchDone c) s =
      .next (s.settled (freed (d.bump R.DMA_CH_CNT_STALE g.ch (d.chOwner g.ch)) i.tlp))) ∧
    (g.rid = i.tlp.rid → g.timedOut = false → old = false → g.orphan = true →
      exec (.descriptorFetchDone c) s = .next (s.settled (freed d i.tlp))) ∧
    (g.rid = i.tlp.rid → g.timedOut = false → old = false → g.orphan = false →
      exec (.descriptorFetchDone c) s = .next (s.settled (d.fetchCpl g i.tlp)))) ∧
  (∀ i, s.dev.dmaInbox c false = some i →
    let d := taken i
    (s.dev.dma.tags.find i.tlp.tag = none → exec (.dmaReadCompletion c) s = .next (s.settled (d.unexpected i.ingress i.tlp))) ∧
    (∀ g, s.dev.dma.tags.find i.tlp.tag = some g →
      let old := d.retired (some (domChan g.ch)) g.gen
      (g.rid ≠ i.tlp.rid → exec (.dmaReadCompletion c) s = .next (s.settled (d.unexpected i.ingress i.tlp))) ∧
      (g.rid = i.tlp.rid → g.timedOut = true → exec (.dmaReadCompletion c) s = .next (s.settled (d.bump R.SAF_CNT_CTO))) ∧
      (g.rid = i.tlp.rid → g.timedOut = false → old = true → exec (.dmaReadCompletion c) s =
        .next (s.settled (freed (d.bump R.DMA_CH_CNT_STALE g.ch (d.chOwner g.ch)) i.tlp))) ∧
      (g.rid = i.tlp.rid → g.timedOut = false → old = false → g.orphan = true →
        exec (.dmaReadCompletion c) s = .next (s.settled (freed d i.tlp))) ∧
      (g.rid = i.tlp.rid → g.timedOut = false → old = false → g.orphan = false →
        exec (.dmaReadCompletion c) s = .next (s.settled (d.readCpl g i.tlp))))) ∧
  (∀ (x : DDesc) (rest : List DDesc), (s.dev.chan c).fetched = x :: rest →
    let n := s.dev.chSize c
    let d := s.dev.setChan c { s.dev.chan c with fetched := rest, live := (s.dev.chan c).live ++ [x] }
    let begun := ((d.wf R.DMA_CH_HEAD c 15 0 (if x.idx + 1 < n then x.idx + 1 else 0)).chPace c false).chRun c
    (s.dev.mayBegin c x = true →
      ((x.op = 0 ∨ 2 < x.op) → exec (.copy c) s = .next (s.settled begun)) ∧
      (x.op = 1 → exec (.fill c) s = .next (s.settled begun)) ∧
      (x.op = 2 → exec (.flushRead c) s = .next (s.settled begun))) ∧
    (s.dev.mayBegin c x = false → exec (.copy c) s = .next (s.settled s.dev) ∧ exec (.fill c) s = .next (s.settled s.dev) ∧
      exec (.flushRead c) s = .next (s.settled s.dev))) ∧
  (∀ (x : DDesc) (rest : List DDesc), (s.dev.chan c).live = x :: rest →
    (s.dev.descDone c x = true → exec (.descriptorReport c) s = .next (s.settled
      ((((s.dev.setChan c { s.dev.chan c with live := rest }).chReport c x).chStopped c).chRun c))) ∧
    (s.dev.descDone c x = false → exec (.descriptorReport c) s = .next (s.settled s.dev)))

/-! ### Safety, monitors and containment (R368–R400) -/

/-- The monitors complete (R375, R376, R378, R379, R384, R385, R390, R395, R396). A pass of the scrub or the self-test ends at its next
period; the scrub takes up the errors that it meets, scrubs every entry, and gives words held once their reset values; the oldest
disagreement is attributed by its scrub, or counted towards DISAGREE; GO injects what INJ_CFG says; FORCE_FAILSAFE, a lockstep mismatch and a
lost PLL are faults of their classes; a temperature is read; a timeout of the block's own request is counted, reported and answered in its
place, and ends the command of the fabric manager that was forwarded (log entry 10); a held tag is freed at its time. With its period 0, or
without a clock, no pass runs; with INJ_EN 0 or a kind, or a structure, that is none GO injects nothing. -/
def Obligations.MonitorsComplete : Prop :=
  ∀ s : State,
  ((s.dev.rf R.SAF_SCRUB_CFG 0 15 0 = 0 ∨ s.dev.clockRuns = false) → ∀ seu single,
    exec (.scrubPass seu single) s = .next (s.settled s.dev)) ∧
  ((s.dev.rf R.SAF_ST_CFG 0 15 0 = 0 ∨ s.dev.clockRuns = false) → ∀ k, exec (.selfTestPass k) s = .next (s.settled s.dev)) ∧
  (∀ (seu single : List (Nat × Nat × Nat)) (ms : Nat), s.dev.rf R.SAF_SCRUB_CFG 0 15 0 = ms → ms ≠ 0 → s.dev.clockRuns = true →
    exec (.scrubPass seu single) s = .next (s.settled (
      let d := seu.foldl (fun d e =>
        if e.2.2 = 0 then d.corrected e.1
        else
          let add := (if e.2.2 = 1 ∨ e.2.2 = 3 then [(e.1, e.2.1, false)] else []) ++ (if e.2.2 = 2 ∨ e.2.2 = 3 then [(e.1, e.2.1, true)] else [])
          { d with saf := { d.saf with bad := (d.saf.bad ++ add).eraseDups } }) (s.dev.advanceTo (s.dev.nextPeriod ms))
      single.foldl (fun d e => d.cfgUe e.1 e.2.1 e.2.2) (d.scrub fun _ => true)))) ∧
  (∀ (x : Disagree) (rest : List Disagree), s.dev.saf.disq = x :: rest →
    let d := { s.dev with saf := { s.dev.saf with disq := rest } }
    (d.dirtyEntries.any x.entries.contains = true → exec .targetedScrub s = .next (s.settled (d.scrub x.entries.contains))) ∧
    (d.dirtyEntries.any x.entries.contains = false →
      let win := d.rf R.SAF_DIS_CFG 0 31 16 * 1000000
      let times := (d.saf.disTimes ++ [x.time]).filter fun t => win == 0 || decide (d.now < t + win)
      let d := { d with saf := { d.saf with disTimes := times } }
      let lim := d.rf R.SAF_DIS_CFG 0 7 0
      exec .targetedScrub s = .next (s.settled (
        if lim ≠ 0 ∧ lim ≤ times.length then d.fault 0x0a x.stable (some x.port) none (d.unitRef (.block 0xc00)) (word times.length)
        else d)))) ∧
  (∀ ms : Nat, s.dev.rf R.SAF_ST_CFG 0 15 0 = ms → ms ≠ 0 → s.dev.clockRuns = true →
    let d := s.dev.advanceTo (s.dev.nextPeriod ms)
    let d := d.wf R.SAF_ST_STATUS 0 31 16 (d.rf R.SAF_ST_STATUS 0 31 16 + 1)
    exec (.selfTestPass none) s = .next (s.settled (d.raise 0x791)) ∧
    ∀ k, exec (.selfTestPass (some k)) s = .next (s.settled ((((d.wf R.SAF_ST_STATUS 0 1 1 1).wf R.SAF_ST_STATUS 0 15 8 k).fault 0x11
      none none none (d.unitRef (.block 0xc00)) (word k)).raise 0x791))) ∧
  (∀ a : Acc,
    (s.dev.may a R.SAF_INJ_CTRL true = true →
      let kind := s.dev.rf R.SAF_INJ_CFG 0 3 0
      let st := s.dev.rf R.SAF_INJ_CFG 0 15 12
      let idx := s.dev.rf R.SAF_INJ_CFG 0 29 16
      let b := s.dev.rf R.SAF_INJ_BIT 0 9 0
      let on : Prop := s.dev.rb R.SAF_SAF_CTRL 0 0 = true
      ((¬ on ∨ kind = 0 ∨ 7 < kind ∨ (kind = 7 ∧ 4 < st)) → exec (.go a) s = .next (s.settled s.dev)) ∧
      (on → 1 ≤ kind → kind ≤ 5 → exec (.go a) s = .next (s.settled { s.dev with saf := { s.dev.saf with
        inj := some ⟨kind, s.dev.rf R.SAF_INJ_CFG 0 11 4, st, idx, b⟩ } })) ∧
      (on → kind = 6 → exec (.go a) s = .next (s.settled (s.dev.fault 0x0c none (some 130) none (s.dev.unitRef (.port 130)) 0))) ∧
      (on → kind = 7 → st = 3 → exec (.go a) s = .next (s.settled (s.dev.flipCheck st idx (b % 32)))) ∧
      (on → kind = 7 → st ≤ 4 → st ≠ 3 → exec (.go a) s = .next (s.settled (s.dev.flipCheck st idx (b % 128))))) ∧
    (s.dev.may a R.SAF_SAF_CMD true = true →
      exec (.forceFailsafe a) s = .next (s.settled (s.dev.fault 0x1a none none none (s.dev.unitRef (.block 0xc00)) 0)))) ∧
  exec .lockstepMismatch s = .next (s.settled (s.dev.fault 0x0c none (some 130) none (s.dev.unitRef (.port 130)) 0)) ∧
  (∀ b : Bool, exec (.coreClockLoss b) s = .next (s.settled (
    let d := s.dev.wf R.SAF_MON_STATUS 0 (b2n b) (b2n b) 0
    d.fault 0x0e none none none (d.unitRef .device) (word (b2n b))))) ∧
  (∀ c t : Nat, c < 16 → exec (.tempThreshold c t) s = .next (s.settled (s.dev.tempRead c t))) ∧
  (∀ id : Nat,
    (∀ g, s.dev.dma.tags.find id = some g → g.timedOut = false → g.orphan = true → exec (.completionTimeout 0 id) s = .next (s.settled (
      let d := s.dev.advanceTo (g.since + g.cto)
      let d := (d.setTags (d.dma.tags.insert id { g with timedOut := true })).holdTag id (g.since + 2 * g.cto)
      d.ctoCount (d.chOwner g.ch) 128 id))) ∧
    (∀ g, s.dev.dma.tags.find id = some g → g.timedOut = false → g.orphan = false →
      let d := s.dev.advanceTo (g.since + g.cto)
      let d := (d.setTags (d.dma.tags.insert id { g with timedOut := true })).holdTag id (g.since + 2 * g.cto)
      let d := d.ctoCount (d.chOwner g.ch) 128 id
      (d.retired (some (domChan g.ch)) g.gen = true → exec (.completionTimeout 0 id) s = .next (s.settled d)) ∧
      (d.retired (some (domChan g.ch)) g.gen = false → ∀ st, d.chOwner g.ch = some st →
        exec (.completionTimeout 0 id) s = .next (s.settled ((d.aer st 1 14 none).chReadFail id g)))) ∧
    exec (.completionTimeout 1 id) s = .next (s.settled (s.dev.ctoM2s id)) ∧
    exec (.completionTimeout 2 id) s = .next (s.settled (s.dev.ctoLoft id)) ∧
    (id < 16 → s.dev.idecState id = 2 → exec (.completionTimeout 3 id) s = .next (s.settled ((s.dev.ctoCount none 130 id).idecFail id 5))) ∧
    (∀ p op, 16 ≤ id → s.dev.cxp.fmBusy = some (p, op) → exec (.completionTimeout 3 id) s = .next (s.settled (
      let d := (s.dev.setCxp { s.dev.cxp with fmBusy := none, tunnel := [] }).ctoCount none 130 id
      ((d.wn R.CXP_FMAPI_LAST 0 (op % 65536 + 65536 * 4)).cxpEvent 9 0 0 0 []).emit (.msg p 7 [op, 4])))) ∧
    exec (.completionTimeout 4 id) s = .next (s.settled (s.dev.ctoCount none 130 0))) ∧
  (∀ (code : Nat) (e : Nat × Nat), s.dev.saf.tagsHeld.find? (fun e => e.1 == code) = some e →
    let d := s.dev.advanceTo e.2
    let d := { d with saf := { d.saf with tagsHeld := d.saf.tagsHeld.erase e } }
    (4096 ≤ code → code < 8192 → exec (.tagRelease code) s = .next (s.settled d.brgPump)) ∧
    (8192 ≤ code → exec (.tagRelease code) s = .next (s.settled d)) ∧
    (∀ g, code < 4096 → d.dma.tags.find code = some g → g.timedOut = true →
      exec (.tagRelease code) s = .next (s.settled (d.freeDmaTag code))))

/-- Containment and release complete (R191, R381, R386, R388, R389, R393, R398, R404). CONTAIN contains an existing port, or a stable;
RELEASE of a port waits while the port flushes, else it takes effect; UNTAINT clears a taint; a host's DPC release is heard for its own
contained port alone, its software trigger fences its own port and contains its slices of another; RELEASE of a contained stable scrubs what
names it, and is refused while a difference remains; the logs clear; a flush ends once its port queues nothing. -/
def Obligations.ContainmentAndReleaseComplete : Prop :=
  ∀ (s : State) (a : Acc),
  (s.dev.may a R.PRT2_ERR_CTRL true = true →
    let p := s.dev.instOf a 0x202 R.PRT2_ERR_CTRL.off
    exec (.portContain a) s = .next (s.settled
      (if s.dev.portExists p then s.dev.containPort p 5 (s.dev.rf R.PRT2_ERR_STATUS p 15 8) else s.dev)) ∧
    (p < 128 → s.dev.flushing p = true →
      exec (.portRelease a) s = .next (s.settled ((s.dev.wf R.PRT2_ERR_STATUS p 5 5 1).wf R.PRT2_ERR_CTRL p 1 1 1))) ∧
    ((128 ≤ p ∨ s.dev.flushing p = false) → exec (.portRelease a) s = .next (s.settled (s.dev.portRelease p))) ∧
    exec (.portUntaint a) s = .next (s.settled (if p < 128 then s.dev.wf R.PRT2_ERR_STATUS p 4 4 0 else s.dev))) ∧
  (∀ st p : Nat, s.dev.isDown p = true →
    (s.dev.ownMode p = 1 → s.dev.owner p = some st →
      exec (.dpcSoftwareTrigger st p) s = .next (s.settled { s.dev with saf := { s.dev.saf with dpc := s.dev.saf.dpc ++ [(p, 39)] } }) ∧
      (s.dev.portContained p = true → exec (.dpcRelease st p) s = .next (s.settled (s.dev.portReleaseReq p)))) ∧
    ((s.dev.ownMode p ≠ 1 ∨ s.dev.owner p ≠ some st ∨ s.dev.portContained p = false) →
      exec (.dpcRelease st p) s = .next (s.settled s.dev)) ∧
    ((s.dev.ownMode p ≠ 1 ∨ s.dev.owner p ≠ some st) → exec (.dpcSoftwareTrigger st p) s = .next (s.settled
      (((s.dev.portSlices p).filter fun e => s.dev.sliceStable e.1 == st).foldl (fun d e => d.sliceContain e.1) s.dev)))) ∧
  (s.dev.may a R.SAF_STB_SAF_CTRL true = true →
    let st := s.dev.instOf a 0xc00 R.SAF_STB_SAF_CTRL.off
    exec (.stableContain a) s = .next (s.settled (s.dev.containStable st 0)) ∧
    ((s.dev.stbContained st = false ∨ s.dev.failsafe = true) → exec (.stableRelease a) s = .next (s.settled s.dev)) ∧
    (s.dev.stbContained st = true → s.dev.failsafe = false →
      let names (d : Dev) (e : Nat × Nat) : Bool := (d.entryStables e.1 e.2).contains st || (d.chkView.entryStables e.1 e.2).contains st
      let d := s.dev.scrub (names s.dev)
      (d.dirtyEntries.any (names d) = true → exec (.stableRelease a) s = .next (s.settled (d.wf R.SAF_STB_SAF_STATUS st 1 1 1))) ∧
      (d.dirtyEntries.any (names d) = false → exec (.stableRelease a) s = .next (s.settled (
        let d := d.wf R.SAF_STB_SAF_STATUS st 1 0 0
        Dev.raise { d with saf := { d.saf with portWide := d.saf.portWide.filter fun p => d.owner p != some st } } 0x795))))) ∧
  (s.dev.may a R.PRT2_PPL_CTRL true = true →
    exec (.pplClear a) s = .next (s.settled { s.dev with logs := { s.dev.logs with ppl := s.dev.logs.ppl.clear } })) ∧
  (s.dev.may a R.SAF_FLOG_CTRL true = true →
    exec (.flogClear a) s = .next (s.settled { s.dev with logs := { s.dev.logs with flog := s.dev.logs.flog.clear } })) ∧
  (∀ p : Nat, s.dev.flushing p = true → s.dev.queueOf p = [] →
    let d := s.dev.wf R.PRT6_FLUSH_STATE p 0 0 0
    let d := (d.wf R.PRT6_FLUSH_STATE p 31 16 (d.rf R.PRT6_FLUSH_STATE p 31 16 + 1)).raise 0x484
    exec (.portFlushEnd p) s = .next (s.settled (if d.rb R.PRT2_ERR_STATUS p 5 then d.portRelease p else d))) ∧
  (∀ p : Nat, (s.dev.flushing p = false ∨ s.dev.queueOf p ≠ []) → exec (.portFlushEnd p) s = .next (s.settled s.dev))

/-! ### Configuration requests and functions (R201–R203, R298, R401–R419) -/

/-- Configuration requests complete (R202, R203, R298, R401, R417). The oldest one at P130 is taken up and matched against its ledger entry:
UR where no function is populated, retry while it is not ready, counted; a read's data; UR for poisoned data; a write's effect; a write of a
routing field waits for its commit, which holds the bits that it writes, at the head of a yard or alone by ROUTING_FIELD_WRITE, at another
member by ROUTING_FIELD_FORWARD; the two take nothing else. The commit of an HDM decoder is staged, or sets Error Not Committed and is
reported; of one that is committed or whose commit waits it does nothing. -/
def Obligations.ConfigurationRequestsComplete : Prop :=
  ∀ s : State,
  let held (d : Dev) (st fn : Nat) (t : Tlp) : Stg :=
    let m := d.cfgMask st fn (t.reg / 4) &&& beMask t.fbe
    ⟨st, 0x500, 0x1001, 256 * st + fn, 4 * (t.reg / 4) + 65536 * m,
      word ((dataWord t.data).toNat &&& (m ||| (cfgClears fn (t.reg / 4) &&& beMask t.fbe)))⟩
  (∀ (i : Item) (st : Nat), s.dev.cfgHead = some i → i.stb = some st →
    let t := i.tlp
    let r := Dev.ledgerAnswer { s.dev with path := { s.dev.path with inbox := s.dev.path.inbox.erase i } } i 130
    let d := r.1
    let answer (status : Nat) : Dev := d.completeStatus t (some st) i.ingress 130 .mgmt status
    let dw := t.reg / 4
    (r.2 = false → exec .configRequest s = .next (s.settled d)) ∧
    (r.2 = true →
      (d.cfgFn st t = none → exec .configRequest s = .next (s.settled (answer 1))) ∧
      (∀ fn, d.cfgFn st t = some fn →
        (d.fnBusy st fn = true → exec .configRequest s = .next (s.settled ((answer 2).bump R.PRT5_CNT_RRS st (some st)))) ∧
        (d.fnBusy st fn = false →
          (t.kind = .cfgRd → exec .configRequest s = .next (s.settled
            (d.completeData t (some st) i.ingress 130 .mgmt t.addr (bytesOf 4 (d.cfgRead st fn dw st).toNat)))) ∧
          (t.kind ≠ .cfgRd → t.ep = true → exec .configRequest s = .next (s.settled (answer 1))) ∧
          (t.kind ≠ .cfgRd → t.ep = false → isRouting fn dw t.fbe = true →
            let c : CfgWait := ⟨st, t.rid, t.tag⟩
            exec .configRequest s = .next (s.settled (Dev.commitCfg
              { d with fn := { d.fn with cfgWait := d.fn.cfgWait ++ [(c, t, i.ingress)] } } (held d st fn t) c))) ∧
          (t.kind ≠ .cfgRd → t.ep = false → isRouting fn dw t.fbe = false → exec .configRequest s = .next (s.settled
            ((d.cfgPlain st fn dw t.fbe (dataWord t.data)).completeStatus t (some st) i.ingress 130 .mgmt 0)))))) ∧
    (let c : CfgWait := ⟨st, t.rid, t.tag⟩
     let waits (fn : Nat) : Dev :=
      Dev.commitCfg { d with fn := { d.fn with cfgWait := d.fn.cfgWait ++ [(c, t, i.ingress)] } } (held d st fn t) c
     let alone : Prop := s.dev.routingWrite i st = true ∧ (s.dev.yardEn = false ∨ s.dev.isHead = true)
     let carried : Prop := s.dev.routingWrite i st = true ∧ s.dev.yardEn = true ∧ s.dev.isHead = false
     (¬ alone → exec .routingFieldWrite s = .next (s.settled s.dev)) ∧
     (¬ carried → exec .routingFieldForward s = .next (s.settled s.dev)) ∧
     (r.2 = false → (alone → exec .routingFieldWrite s = .next (s.settled d)) ∧
      (carried → exec .routingFieldForward s = .next (s.settled d))) ∧
     (∀ fn, r.2 = true → d.cfgFn st t = some fn → d.fnBusy st fn = false → isRouting fn dw t.fbe = true → t.kind = .cfgWr →
      (alone → (t.ep = true → exec .routingFieldWrite s = .next (s.settled (answer 1))) ∧
        (t.ep = false → exec .routingFieldWrite s = .next (s.settled (waits fn)))) ∧
      (carried → (t.ep = true → exec .routingFieldForward s = .next (s.settled (answer 1))) ∧
        (t.ep = false → exec .routingFieldForward s = .next (s.settled (waits fn))))))) ∧
  (s.dev.cfgHead = none → exec .configRequest s = .next (s.settled s.dev) ∧ exec .routingFieldWrite s = .next (s.settled s.dev) ∧
    exec .routingFieldForward s = .next (s.settled s.dev)) ∧
  (∀ (st k : Nat) (w : Word), (s.dev.hdmWaits st k = true ∨ s.dev.hdmOn st k = true) →
    exec (.hdmDecoderCommit st k w) s = .next (s.settled s.dev)) ∧
  (∀ (st k : Nat) (w : Word), st < 64 → k < 8 → s.dev.barSize st 0 4 ≠ 0 → s.dev.hdmWaits st k = false → s.dev.hdmOn st k = false →
    let ctl := word ((w ||| 0x200).toNat % 1024)
    (s.dev.hdmBad st k ctl = true → exec (.hdmDecoderCommit st k w) s = .next (s.settled
      ((s.dev.wr hdmAttr (hdmInst st k) (ctl ||| 0x800)).cxpEvent 3 ((s.dev.upPort st).getD 0) 0 0 [st]))) ∧
    (s.dev.hdmBad st k ctl = false → exec (.hdmDecoderCommit st k w) s = .next (s.settled
      ((s.dev.wr hdmAttr (hdmInst st k) ctl).commitFields st [⟨st, 0x500, 0x1000, hdmInst st k, 16, ctl ||| 0x400⟩]))))

/-- The resets, mailboxes and keys of functions complete (R411–R415, R417, R480). FLR resets its function; clearing Bus Master Enable acts at
once on the first two functions and commits on a downstream one; Secondary Bus Reset, Link Disable, hot reset and VH_RESET act on their
port or hierarchy; a function becomes ready; a DOE object is answered, waits for the cores, or is refused while P130 is contained; KEY_PROG,
K_SET_GO, in flit mode, and K_SET_STOP act on the key set of the port that the index names, of another member's port, which may refuse it,
through the head (log entry 60), or answer with an error; SPDM counts and limits sessions; without firmware nothing of these is done, and a
message over MCTP is counted as discarded. -/
def Obligations.FunctionCommandsComplete : Prop :=
  ∀ s : State,
  (∀ st fn : Nat, st < 64 →
    exec (.functionLevelReset st fn) s = .next (s.settled (s.dev.flr st fn)) ∧
    ((s.dev.upPort st).isSome = true → s.dev.hasFn st fn = true → s.dev.cmdBit st fn 2 = true →
      let w := setFld (s.dev.cfg st fn 1) 2 2 0
      (fn = 1 → exec (.busMasterEnableClear st fn) s = .next (s.settled ((s.dev.setCfg st 1 1 w).advanceChans st))) ∧
      (fn = 2 → exec (.busMasterEnableClear st fn) s = .next (s.settled (s.dev.setCfg st 2 1 w))) ∧
      (fn ≠ 1 → fn ≠ 2 → exec (.busMasterEnableClear st fn) s = .next (s.settled
        (s.dev.commitFields st [⟨st, 0x500, 0x1001, 256 * st + fn, 4 + 65536 * 4, 0⟩])))) ∧
    ((s.dev.upPort st = none ∨ s.dev.hasFn st fn = false ∨ s.dev.cmdBit st fn 2 = false) → exec (.busMasterEnableClear st fn) s = .next (s.settled s.dev)) ∧
    (∀ on : Bool, 8 ≤ fn → (s.dev.slotAt st fn).isSome = true → exec (.secondaryBusReset st fn on) s = .next (s.settled
      ((s.dev.setCfg st fn 15 (setFld (s.dev.cfg st fn 15) 22 22 (b2n on))).sbrSet st fn on))) ∧
    (∀ (on : Bool) (p : Nat), 8 ≤ fn → s.dev.portOfFn st fn = some p →
      (s.dev.ownMode p = 1 → exec (.linkDisable st fn on) s = .next (s.settled
        ((s.dev.setCfg st fn 24 (setFld (s.dev.cfg st fn 24) 4 4 (b2n on))).linkDisSet st fn on))) ∧
      (s.dev.ownMode p ≠ 1 → exec (.linkDisable st fn on) s = .next (s.settled s.dev)))) ∧
  (∀ p st : Nat, s.dev.owner p = some st → s.dev.isUp p = true → s.dev.dlUp p = true →
    exec (.hotResetReceived p) s = .next (s.settled ((s.dev.dlDown p 8 false true).vhReset st true))) ∧
  (∀ a : Acc, s.dev.may a R.PRT5_FN_CTRL true = true →
    exec (.vhReset a) s = .next (s.settled (s.dev.vhReset (s.dev.arn (accIdx a) R.PRT5_FN_IDX % 64) false))) ∧
  (∀ st which : Nat, st < 64 → which < 3 → s.dev.fn.readyAt.getD (4 * st + which) 0 ≠ 2 ^ 64 →
    let d := { s.dev with fn := { s.dev.fn with readyAt := s.dev.fn.readyAt.erase (4 * st + which) } }
    exec (.functionReady st which) s = .next (s.settled (if which = 0 then d.wr R.PRT5_FN_CTRL st 0 else d))) ∧
  (∀ st : Nat, st < 64 → (s.dev.upPort st).isSome = true →
    exec (.doeAbort st) s = .next (s.settled (s.dev.doeAbort st)) ∧
    ∀ kind len : Nat, len ≤ 256 → kind < 3 → s.dev.fn.doe.contains st = false →
      (s.dev.portContained 130 = true → exec (.doeObject st kind len) s = .next (s.settled (s.dev.emit (.msg 2 255 [st])))) ∧
      (s.dev.portContained 130 = false → s.dev.fwRuns = true →
        exec (.doeObject st kind len) s = .next (s.settled (s.dev.doeAnswer st kind))) ∧
      (s.dev.portContained 130 = false → s.dev.fwRuns = false →
        exec (.doeObject st kind len) s = .next (s.settled { s.dev with fn := { s.dev.fn with doe := s.dev.fn.doe ++ [st] } }))) ∧
  (s.dev.fwRuns = true →
    (∀ (st i stream dir set sub : Nat) (words : List Word),
      let far := s.dev.kmFar st i
      let none' := far.1.isNone
      let base := 0x800 + 0x40 * (12 * (stream % 2) + 6 * (dir % 2) + 3 * (set % 2) + sub % 3)
      (s.dev.kmOk st i = none →
        (far.1 = none → exec (.keyProg st i stream dir set sub words) s = .next (s.settled (far.2.emit (.msg 2 16 [st, i, 1])))) ∧
        (∀ m p, far.1 = some (m, p) → exec (.keyProg st i stream dir set sub words) s = .next (s.settled (
          let d := far.2.carry (.core true) m 0x2030c0 (some (word p))
          let d := (List.range 11).foldl (fun d k => d.carry (.core true) m (0x203000 + (base + 4 * k)) (some (words.getD k 0))) d
          (d.carry (.core true) m (0x203000 + (base + 0x2c)) (some 1)).emit (.msg 2 16 [st, i, 0])))) ∧
        exec (.kSetStop st i stream dir set) s = .next (s.settled (far.2.emit (.msg 2 18 [st, i, b2n none'])))) ∧
      ((∀ p, s.dev.kmOk st i = some p → s.dev.rb R.PRT0_LINK_STATUS p 13 = false) →
        exec (.kSetGo st i stream dir set) s = .next (s.settled (far.2.emit (.msg 2 17 [st, i, b2n none']))))) ∧
    (∀ (st i stream dir set sub p : Nat) (words : List Word), s.dev.kmOk st i = some p →
      let base := 0x800 + 0x40 * (12 * (stream % 2) + 6 * (dir % 2) + 3 * (set % 2) + sub % 3)
      exec (.keyProg st i stream dir set sub words) s = .next (s.settled (
        let d := (List.range 11).foldl (fun d k => d.wr ⟨0x203, base + 4 * k⟩ p (words.getD k 0)) s.dev
        (d.wr ⟨0x203, base + 0x2c⟩ p 1).emit (.msg 2 16 [st, i, 0]))) ∧
      (s.dev.rb R.PRT0_LINK_STATUS p 13 = true → exec (.kSetGo st i stream dir set) s = .next (s.settled (
        let d := s.dev.wf R.PRT3_IDE_STATUS p (stream % 2) (stream % 2) 1
        let d := d.wf R.PRT3_IDE_STATUS p (3 + dir % 2) (3 + dir % 2) (set % 2)
        let d := if d.isCxl p then (d.wf R.PRT3_IDE_STATUS p 2 2 1).wf R.CXP_PORT_CXL_STATUS (0x100 + p) 10 10 1 else d
        d.emit (.msg 2 17 [st, i, 0])))) ∧
      exec (.kSetStop st i stream dir set) s = .next (s.settled (
        let d := s.dev.wf R.PRT3_IDE_STATUS p (stream % 2) (stream % 2) 0
        let d := (kmSlots (stream % 2) (dir % 2) (set % 2)).foldl (fun d k => d.wr ⟨0x203, 0x82c + 0x40 * k⟩ p 0) d
        let d := if d.rf R.PRT3_IDE_STATUS p 1 0 = 0 ∧ d.isCxl p then
          (d.wf R.PRT3_IDE_STATUS p 2 2 0).wf R.CXP_PORT_CXL_STATUS (0x100 + p) 10 10 0 else d
        d.emit (.msg 2 18 [st, i, 0])))) ∧
    (∀ (path st code : Nat) (opens ends : Bool), (path = 2 → st < 64 ∧ (s.dev.upPort st).isSome = true) →
      let key := if path = 2 then st else 64
      let n := s.dev.fn.sess.getD key 0
      let full : Prop := 64 ≤ s.dev.sessions ∨ (key < 64 ∧ 4 ≤ n)
      let put (n : Nat) : Dev := { s.dev with fn := { s.dev.fn with sess := Tbl.put s.dev.fn.sess key 0 n } }
      (opens = true → full →
        exec (.spdmMessage path st code opens ends) s = .next (s.settled (s.dev.emit (.msg path 5 [st, code, 1])))) ∧
      (opens = true → ¬ full →
        exec (.spdmMessage path st code opens ends) s = .next (s.settled ((put (n + 1)).emit (.msg path 5 [st, code, 0])))) ∧
      (opens = false → exec (.spdmMessage path st code opens ends) s = .next (s.settled
        ((if ends then put (n - 1) else s.dev).emit (.msg path 5 [st, code, 0])))))) ∧
  (s.dev.fwRuns = false →
    (∀ (st i stream dir set sub : Nat) (words : List Word),
      exec (.keyProg st i stream dir set sub words) s = .next (s.settled s.dev) ∧
      exec (.kSetGo st i stream dir set) s = .next (s.settled s.dev) ∧ exec (.kSetStop st i stream dir set) s = .next (s.settled s.dev)) ∧
    (∀ (path st code : Nat) (opens ends : Bool),
      (path < 2 → exec (.spdmMessage path st code opens ends) s = .next (s.settled s.dev.mctpErr)) ∧
      (2 ≤ path → exec (.spdmMessage path st code opens ends) s = .next (s.settled s.dev))))

/-! ### Events, interrupts, queues and counters (R407, R408, R420–R444, R478) -/

/-- The commands of events and counters complete (R407, R408, R424, R426, R431–R434, R440, R441, R444, R478). A pending vector that can send
is sent, another is not; a gap ends and lets it; the INTx wires follow; FORCE raises the sources whose bits are 1 and CAUSE clears them, in the accessor's
own array; the guard of a source ends, and a source still pending is delivered once; a pop takes the oldest record; NOTIFY is repeated;
TAL_CTRL clears and freezes counters; EVSEL and the registers of a tally slot clear what they select for. -/
def Obligations.EventAndCounterCommandsComplete : Prop :=
  ∀ s : State,
  (∀ st v : Nat,
    (s.dev.msixReady st v = true → s.dev.msixFree st v = true → exec (.msixMessage st v) s = .next (s.settled (
      let addr := (s.dev.msixDw st (4 * v)).toNat / 4 * 4 + 4294967296 * (s.dev.msixDw st (4 * v + 1)).toNat
      let t := mkWrite addr (256 * s.dev.secBus st 0) 0 (bytesOf 4 (s.dev.msixDw st (4 * v + 2)).toNat)
      let gap := s.dev.msixGapUs st
      let gaps := if gap = 0 then s.dev.ev.msixGap else s.dev.ev.msixGap.insert (256 * st + v) (s.dev.now + 1000 * gap)
      Dev.issue { s.dev with ev := { s.dev.ev with pba := s.dev.ev.pba.erase (st, v), msixGap := gaps } } st 130 (.msix st v) t true none))) ∧
    ((s.dev.msixReady st v = false ∨ s.dev.msixFree st v = false) → exec (.msixMessage st v) s = .next (s.settled s.dev)) ∧
    (s.dev.ev.msixGap.find (256 * st + v) = none → exec (.msixGapEnd st v) s = .next (s.settled s.dev)) ∧
    (∀ e, s.dev.ev.msixGap.find (256 * st + v) = some e → exec (.msixGapEnd st v) s = .next (s.settled (
      let d := s.dev.advanceTo e
      Dev.msixIssue { d with ev := { d.ev with msixGap := d.ev.msixGap.erase (256 * st + v) } } st v))) ∧
    (st < 64 → s.dev.isHeadless st = false → (s.dev.upPort st).isSome = true → s.dev.failsafe = false →
      let w := s.dev.intxWires st
      let was := s.dev.path.intxOut.getD st 0
      let d := { s.dev with path := { s.dev.path with intxOut := Tbl.put s.dev.path.intxOut st 0 w } }
      exec (.intxAssert st) s = .next (s.settled ((List.range 4).foldl (fun d i =>
        if w.testBit i = was.testBit i then d else d.sendMsg st (if w.testBit i then 0x20 + i else 0x24 + i) []) d)))) ∧
  (∀ (a : Acc) (page off : Nat) (w : Word), s.dev.may a ⟨page, off⟩ true = true →
    (isForceReg page off = true → exec (.evForceWrite a page off w) s = .next (s.settled
      ((s.dev.evBits a page off).foldl (fun d e => if bit w e.1 then d.force e.2 (d.tenant a) else d) s.dev))) ∧
    (isCauseReg page off = true → exec (.evCauseClear a page off w) s = .next (s.settled
      ((s.dev.evBits a page off).foldl (fun d e => if bit w e.1 then d.clearCause (d.evArr a) e.2 else d) s.dev)))) ∧
  (∀ (arr src : Nat) (g : Storm), s.dev.ev.storm.find (evKey arr src) = some g → g.quietEnd ≠ 0 → arr ≤ 64 → src < 2048 →
    let d := s.dev.advanceTo g.quietEnd
    let d := { d with ev := { d.ev with storm := d.ev.storm.erase (evKey arr src) } }
    (d.evPending arr src = false → exec (.stormQuietEnd arr src) s = .next (s.settled d)) ∧
    (d.evPending arr src = true → exec (.stormQuietEnd arr src) s = .next (s.settled
      ((d.deliver arr src).2.foldl (fun d f => d.raiseWith f.1 f.2 []) (d.deliver arr src).1)))) ∧
  (∀ a : Acc,
    (s.dev.may a R.EVT_FMQ_POP true = true → exec (.fmqPop a) s = .next (s.settled
      { s.dev with ev := { s.dev.ev with fmq := { s.dev.ev.fmq with recs := s.dev.ev.fmq.recs.drop 1 }, notifyAt := 0 } })) ∧
    (s.dev.may a R.EVT_ENQ_POP true = true → exec (.enqPop a) s = .next (s.settled (
      let l := s.dev.ev.enq.recs.drop 1
      { s.dev with ev := { s.dev.ev with enq := { s.dev.ev.enq with recs := l }, coreIrq := s.dev.ev.coreIrq && !l.isEmpty } })))) ∧
  (∀ ms : Nat, s.dev.rf R.DEV_MCTP_NOTIFY 0 23 8 = ms → ms ≠ 0 → s.dev.ev.fmq.recs ≠ [] → s.dev.ev.notifyAt ≠ 0 →
    s.dev.rf R.DEV_MCTP_NOTIFY 0 7 0 ≠ 0 →
    exec .notifyRepeat s = .next (s.settled ((s.dev.advanceTo (s.dev.ev.notifyAt - 1 + 1000000 * ms)).notify))) ∧
  (∀ (a : Acc) (page : Nat) (w : Word),
    let cleared (mask : Nat) : Dev := { s.dev with tally := { s.dev.tally with
      page := (bitsOf 8 mask).foldl (fun t k => Tbl.erase t (8 * page + k)) s.dev.tally.page } }
    (s.dev.may a (talCtrl page) true = true → exec (.talClr a page w) s = .next (s.settled
      ((cleared (fld w 7 0)).wr (talCtrl page) 0 (word (256 * fld w 15 8))))) ∧
    (∀ n, n < 8 → s.dev.may a (talEvsel page n) true = true → exec (.talEvselWrite a page n w) s = .next (s.settled
      ((cleared (2 ^ n)).wr (talEvsel page n) 0 (w &&& 0xffff03ff))))) ∧
  (∀ (a : Acc) (w : Word),
    let slot (i : Nat) : Dev := { s.dev with tally := { s.dev.tally with
      ts := s.dev.tally.ts.erase (i - 0x100), tsSnap := s.dev.tally.tsSnap.erase (i - 0x100) } }
    (s.dev.may a R.TAL_TS_UNIT true = true →
      let i := s.dev.instOf a R.TAL_TS_UNIT.page R.TAL_TS_UNIT.off
      exec (.tallySlotWrite a false w) s = .next (s.settled ((slot i).wr R.TAL_TS_UNIT i w))) ∧
    (s.dev.may a R.TAL_TS_SEL true = true →
      let i := s.dev.instOf a R.TAL_TS_SEL.page R.TAL_TS_SEL.off
      (s.dev.tenant a = none → exec (.tallySlotWrite a true w) s = .next (s.settled ((slot i).wr R.TAL_TS_SEL i (w &&& 0x1ffff)))) ∧
      (∀ st, s.dev.tenant a = some st → exec (.tallySlotWrite a true w) s = .next (s.settled
        ((slot i).wr R.TAL_TS_SEL i (setFld (setFld (w &&& 0x1ffff) 15 10 st) 16 16 1))))))

/-! ### Power states, supplies and the droop guard (R447–R465, R493–R495, R504) -/

/-- Performance levels and the droop guard complete (R141, R449–R454, R493). A write of PL_CTRL requests its level; a change that waits for a
cycle starts with it; a ramp ends when its settling time has passed and its write is acknowledged, and an unacknowledged write is made again
10 µs later; a changed STB_HINT is counted and raised; a droop of a cluster is shown, counted and stretches the clock; the stretch ends,
adding its time, or is reported once it is long. With no change waiting, no ramp or no stretch, those commands change nothing. -/
def Obligations.PerformanceLevelCommandsComplete : Prop :=
  ∀ s : State,
  (∀ (a : Acc) (w : Word),
    (s.dev.may a R.PWR_PL_CTRL true = true →
      exec (.plReq a w) s = .next (s.settled ((s.dev.wr R.PWR_PL_CTRL 0 (w &&& 0x3f)).plReq (fld w 1 0)))) ∧
    (s.dev.may a R.PWR_STB_HINT true = true →
      let st := s.dev.instOf a 0x13 R.PWR_STB_HINT.off
      let d := s.dev.wr R.PWR_STB_HINT st (w &&& 0x107)
      exec (.stbHintWrite a w) s = .next (s.settled
        (if d.rd R.PWR_STB_HINT st = s.dev.rd R.PWR_STB_HINT st then d else (d.bump R.PWR_STB_HINT_CNT st).raise 0x021)))) ∧
  (s.dev.pwr.step = .sync → s.dev.syncReached = true → (s.dev.pwr.entry = 0 ∨ s.dev.entering = true) →
    (s.dev.pwr.target = s.dev.plCur →
      exec .plChangeStart s = .next (s.settled { s.dev with pwr := { s.dev.pwr with step := .none } })) ∧
    (s.dev.pwr.target ≠ s.dev.plCur → exec .plChangeStart s = .next (s.settled (s.dev.plStart s.dev.pwr.target)))) ∧
  ((s.dev.pwr.step ≠ .sync ∨ s.dev.syncReached = false) → exec .plChangeStart s = .next (s.settled s.dev)) ∧
  (s.dev.ramping = false → ∀ ack, exec (.plSettleDone ack) s = .next (s.settled s.dev) ∧
    exec (.avsRetry ack) s = .next (s.settled s.dev)) ∧
  (s.dev.pwr.stretchAt = none → exec .stretchEnd s = .next (s.settled s.dev) ∧ exec .stretchLong s = .next (s.settled s.dev)) ∧
  (s.dev.ramping = true →
    (∀ ack : Bool,
      let d := s.dev.advanceTo s.dev.pwr.settleAt
      let d := { d with pwr := { d.pwr with avsAck := d.pwr.avsAck || ack } }
      exec (.plSettleDone ack) s = .next (s.settled (if d.pwr.avsAck then d.rampDone else d))) ∧
    (s.dev.pwr.avsAck = false → ∀ ack : Bool,
      let d := (s.dev.advanceTo (s.dev.pwr.avsAt + 10000)).avsWrite
      let d := { d with pwr := { d.pwr with avsAck := ack } }
      exec (.avsRetry ack) s = .next (s.settled (if ack = true ∧ d.pwr.settleAt ≤ d.now then d.rampDone else d)))) ∧
  (∀ c : Nat, c < 16 → s.dev.clockRuns = true → s.dev.pwr.off = false → s.dev.rb R.PWR_DRP_STATUS 0 c = false →
    let d := ((s.dev.wf R.PWR_DRP_STATUS 0 c c 1).wf R.PWR_DRP_STATUS 0 16 16 1).bump (R.CAL_DRP_CNT c)
    exec (.droopDetect c) s = .next (s.settled
      (if d.pwr.stretchAt.isSome then d else { d with pwr := { d.pwr with stretchAt := some d.now, stretchLong := false } }))) ∧
  (∀ t : Nat, s.dev.pwr.stretchAt = some t →
    (let d := (s.dev.bumpBy R.PWR_CNT_STRETCH_NS 0 (s.dev.now - t)).wr R.PWR_DRP_STATUS 0 0
     exec .stretchEnd s = .next (s.settled { d with pwr := { d.pwr with stretchAt := none, stretchLong := false } })) ∧
    (∀ lim : Nat, s.dev.rf R.PWR_DRP_CFG 0 31 16 = lim → lim ≠ 0 → s.dev.pwr.stretchLong = false →
      let d := s.dev.advanceTo (t + 1000 * lim)
      exec .stretchLong s = .next (s.settled (Dev.raise { d with pwr := { d.pwr with stretchLong := true } } 0x025))))

/-- Sleep and the supplies complete (R379, R456–R463, R494, R495, R504). A sleep request is refused in fail-safe and with a fabric port
enabled, else entry begins; CANCEL and the timeout abort it; PAD_RELEASE in ACTIVE frees the pads; entry completes once its conditions have
held for the idle interval, unless the timer wakes by then; an enabled wake source wakes the device or ends its entry, CYC through a pin of a
domain that wakes; a link leaves L1; the exit ends in ACTIVE; a supply
in range lets the next one start; 132 °C trips the supplies off; a supply out of range is a fault, and power-good falls. -/
def Obligations.SleepAndSupplyCommandsComplete : Prop :=
  ∀ s : State,
  (∀ a : Acc, s.dev.may a R.PWR_SLEEP_CTRL true = true →
    (s.dev.entering = false →
      exec (.reqSl1 a) s = .next (s.settled (s.dev.reqSleep 1)) ∧ exec (.reqSl2 a) s = .next (s.settled (s.dev.reqSleep 2)) ∧
      exec (.sleepCancel a) s = .next (s.settled s.dev)) ∧
    (s.dev.entering = true →
      exec (.reqSl1 a) s = .next (s.settled s.dev) ∧ exec (.reqSl2 a) s = .next (s.settled s.dev) ∧
      exec (.sleepCancel a) s = .next (s.settled (s.dev.sleepAbort 1))) ∧
    (s.dev.rf R.PWR_SLEEP_STATUS 0 2 0 = 0 → exec (.padRelease a) s = .next (s.settled (
      let d := s.dev.wf R.PWR_SLEEP_STATUS 0 4 3 0
      { d with pwr := { d.pwr with clamped := false }, mgt := { d.mgt with padsHeld := false } }))) ∧
    (s.dev.rf R.PWR_SLEEP_STATUS 0 2 0 ≠ 0 → exec (.padRelease a) s = .next (s.settled s.dev))) ∧
  (∀ n : Nat, s.dev.pwr.entry = 0 →
    let fabric : Bool := s.dev.physPorts.any fun p => s.dev.isFabric p && s.dev.portEn p
    (s.dev.failsafe = true → s.dev.reqSleep n = (s.dev.wf R.PWR_SLEEP_STATUS 0 11 8 6).raise 0x024) ∧
    (s.dev.failsafe = false → fabric = true → s.dev.reqSleep n = (s.dev.wf R.PWR_SLEEP_STATUS 0 11 8 5).raise 0x024) ∧
    (s.dev.failsafe = false → fabric = false →
      let d := Dev.wf { s.dev with pwr := { s.dev.pwr with entry := n, entryAt := s.dev.now } } R.PWR_SLEEP_STATUS 0 2 0 1
      let d := d.physPorts.foldl (fun d p => d.procStop p 3) d
      s.dev.reqSleep n = if d.wakeEn 4 ∧ d.wakeTime ≠ 0 ∧ d.wakeTime ≤ d.now then d.sleepAbort 3 else d)) ∧
  (s.dev.entering = true →
    exec .sleepEntryTimeout s = .next (s.settled ((s.dev.advanceTo s.dev.entryLimit).sleepAbort 2)) ∧
    (s.dev.sleepReady = true → max s.dev.now s.dev.idleEnd ≤ s.dev.entryLimit →
      let timer := s.dev.wakeEn 4 = true ∧ s.dev.wakeTime ≠ 0 ∧ s.dev.wakeTime ≤ max s.dev.now s.dev.idleEnd
      (timer → exec .sleepEntryComplete s = .next (s.settled ((s.dev.advanceTo s.dev.wakeTime).sleepAbort 3))) ∧
      (¬timer → exec .sleepEntryComplete s = .next (s.settled (
      let d := s.dev.advanceTo s.dev.idleEnd
      let d := (d.wr64 R.PWR_SLEEP_T_LO R.PWR_SLEEP_T_HI 0 d.now).raise 0x022
      let d := d.wf R.PWR_SLEEP_STATUS 0 31 16 (d.rf R.PWR_SLEEP_STATUS 0 31 16 + 1)
      let d := d.wf R.PWR_SLEEP_STATUS 0 2 0 2
      if d.pwr.entry = 2 then d.sl2Enter else d))))) ∧
  (∀ src arg : Nat, 1 ≤ src → src ≤ 5 → s.dev.wakeEn src = true →
    (src = 3 → arg < 8 ∧ s.dev.domOn arg = true ∧ s.dev.domCtl arg 2 1 = 1 ∧ s.dev.rb R.CYC_DOM_CTRL arg 28 = true) → (src = 4 → s.dev.wakeTime ≠ 0) →
    (src = 5 → s.dev.pwr.off = false ∧ s.dev.lstate arg = 7) →
    let d := if src = 4 then s.dev.advanceTo s.dev.wakeTime else s.dev
    (s.dev.rf R.PWR_SLEEP_STATUS 0 2 0 = 1 →
      exec (.wake src arg) s = .next (s.settled ((if src = 5 then d.l1Leave arg else d).sleepAbort 3))) ∧
    (s.dev.rf R.PWR_SLEEP_STATUS 0 2 0 = 2 → exec (.wake src arg) s = .next (s.settled (
      let d := (d.wf R.PWR_SLEEP_STATUS 0 2 0 3).wf R.PWR_SLEEP_STATUS 0 7 5 src
      let d := if d.pwr.off then d.enables true true else d
      if src = 5 then d.l1Leave arg else d)))) ∧
  (∀ p : Nat,
    (s.dev.entering = false → s.dev.clockRuns = true → exec (.l1Exit p) s = .next (s.settled (s.dev.l1Leave p))) ∧
    ((s.dev.entering = true ∨ s.dev.clockRuns = false) → s.dev.wakeEn 5 = true →
      let st := s.dev.rf R.PWR_SLEEP_STATUS 0 2 0
      (s.dev.pwr.off = false → s.dev.lstate p = 7 →
        (st = 1 → exec (.l1Exit p) s = .next (s.settled ((s.dev.l1Leave p).sleepAbort 3))) ∧
        (st = 2 → exec (.l1Exit p) s = .next (s.settled
          (((s.dev.wf R.PWR_SLEEP_STATUS 0 2 0 3).wf R.PWR_SLEEP_STATUS 0 7 5 5).l1Leave p)))) ∧
      ((s.dev.pwr.off = true ∨ s.dev.lstate p ≠ 7) → exec (.l1Exit p) s = .next (s.settled s.dev))) ∧
    (s.dev.entering = true → s.dev.wakeEn 5 = false → exec (.l1Exit p) s = .next (s.settled (s.dev.l1Leave p))) ∧
    (s.dev.entering = false → s.dev.clockRuns = false → s.dev.wakeEn 5 = false → exec (.l1Exit p) s = .next (s.settled s.dev))) ∧
  (∀ seu single : List (Nat × Nat × Nat), s.dev.rf R.PWR_SLEEP_STATUS 0 2 0 = 3 →
    exec (.sleepExit seu single) s = .next (s.settled (
      let d := if s.dev.pwr.off then s.dev.sl2Exit seu single else s.dev.cycWake false
      let d := (d.wf R.PWR_SLEEP_STATUS 0 2 0 0).wr64 R.PWR_WAKE_T_LO R.PWR_WAKE_T_HI 0 d.now
      (Dev.raise { d with pwr := { d.pwr with entry := 0 } } 0x023).plHeld.doeResume))) ∧
  (let add (k : Nat) : Dev := { s.dev with pwr := { s.dev.pwr with
     rails := if s.dev.pwr.rails.testBit k then s.dev.pwr.rails else s.dev.pwr.rails + 2 ^ k } }
   (s.dev.pwr.therm = false → s.dev.pwr.off = false →
     exec (.railInRange 0) s = .next (s.settled ((add 0).enables true s.dev.pwr.enSds))) ∧
   ((s.dev.pwr.therm = true ∨ s.dev.pwr.off = true) → exec (.railInRange 0) s = .next (s.settled (add 0))) ∧
   (s.dev.pwr.enCore = true → exec (.railInRange 1) s = .next (s.settled ((add 1).enables true true))) ∧
   (s.dev.pwr.enSds = true → exec (.railInRange 2) s = .next (s.settled (add 2)))) ∧
  (∀ c : Nat, c < 16 → exec (.thermalTrip c) s = .next (s.settled (
    let d := s.dev.tempRead c 1056
    let d := if d.pwr.therm then d else Dev.emit { d with pwr := { d.pwr with therm := true } } (.pin .thermtripN true)
    (d.enables false false).fault 0x10 none none none (d.unitRef (.cluster c)) (word 1056)))) ∧
  (∀ rail : Nat, rail < 3 → (s.dev.pwr.off = false ∨ rail = 0) → exec (.voltageFault rail) s = .next (s.settled (
    let d := s.dev.wf R.SAF_MON_STATUS 0 (if rail = 1 then 2 else 3) (if rail = 1 then 2 else 3) 0
    let d := (d.fault 0x0f none none none (d.unitRef .device) (word rail)).clampOn
    let d := if rail = 0 ∧ d.pwr.therm = true then d.emit (.pin .thermtripN false) else d
    { d with pwr := { d.pwr with
        good := false, rails := if rail = 0 then 0 else d.pwr.rails % 2, therm := d.pwr.therm && rail != 0
        cold := d.pwr.cold || rail == 0 } })))

/-! ### Reset, start-up, management and debug (R463, R466–R487, R494–R499) -/

/-- Reset and start-up complete (R463, R466–R471, R474, R487, R494, R495). PERST_N low resets the device and its page locks, and ends the clamps; power-good
after a loss resets them too, and reports clamps; PERST_N high latches the straps, starts device time after power-on and runs the boot ROM; the ROM
verifies the slot to be tried next, chooses it, or reports it, and with none left waits for SMBus; ARB_COMMIT raises the anti-rollback
value once the firmware has started (log entry 64); a flash command with GO is sent, and what the flash answers is read; a write of YARD_CFG is reported. -/
def Obligations.ResetAndStartUpComplete : Prop :=
  ∀ s : State,
  (let d := Dev.deviceReset { s.dev with pwr := { s.dev.pwr with clamped := false } }
   exec .perstAssert s = .next (State.settled { s with plock := [] }
    (if d.pwr.therm = true ∨ d.pwr.rails % 2 = 0 then d else d.enables true (d.pwr.enSds || d.pwr.rails.testBit 1)))) ∧
  (s.dev.pwr.good = false → s.dev.pwr.rails = 7 → s.dev.pwr.off = false →
    let d := s.dev.deviceReset
    let d := { d with pwr := { d.pwr with good := true } }
    exec .powerGood s = .next (State.settled { s with plock := [] }
      (if d.pwr.clamped then (d.wf R.PWR_SLEEP_STATUS 0 4 4 1).raise 0x028 else d))) ∧
  ((s.dev.pwr.good = true ∨ s.dev.pwr.rails ≠ 7 ∨ s.dev.pwr.off = true) → exec .powerGood s = .next (s.settled s.dev)) ∧
  ((s.dev.pwr.perst = false ∨ s.dev.pwr.good = false) → ∀ straps, exec (.perstDeassert straps) s = .next (s.settled s.dev)) ∧
  (∀ straps : Nat, s.dev.pwr.perst = true → s.dev.pwr.good = true →
    let d := { s.dev with now := if s.dev.pwr.cold then 0 else s.dev.now, pwr := { s.dev.pwr with perst := false, cold := false } }
    let d := d.wn R.BOOT_BOOT_STRAP 0 (straps % 64)
    (straps % 2 = 0 → exec (.perstDeassert straps) s = .next (s.settled d)) ∧
    (straps % 2 = 1 → exec (.perstDeassert straps) s = .next (s.settled (
      let d := d.wf R.BOOT_BOOT_STATUS 0 2 0 4
      Dev.bootLog { d with boot := { d.boot with phase := .smb } } 1 [4])))) ∧
  (∀ (ha hb : FlashHdr) (k : Nat) (rest : List Nat), s.dev.pwr.perst = false → s.dev.pwr.off = false → s.dev.boot.coresDown = false →
    s.dev.boot.phase = .rom → s.dev.bootMode ≠ 1 → s.dev.bootMode ≠ 3 →
    let order := if s.dev.rb R.BOOT_BOOT_STRAP 0 5 = false then [0] else if ha.seq < hb.seq then [1, 0] else [0, 1]
    (order.filter fun k => !s.dev.boot.tried.contains k) = k :: rest →
    let h := if k = 0 then ha else hb
    let c := s.dev.slotCheck h
    (c = 0 → exec (.imageVerify ha hb) s = .next (s.settled (
      let d := ((s.dev.bootLog 0 [k, c]).wf R.BOOT_BOOT_STATUS 0 3 3 k).wf R.BOOT_BOOT_STATUS 0 11 4 h.svn
      let d := { d with boot := { d.boot with phase := .kci, nextRec := 0, crc := 4294967295 } }
      if h.kciLen = 0 then d.kciComplete else d))) ∧
    (c ≠ 0 → exec (.imageVerify ha hb) s = .next (s.settled (
      let d := s.dev.bootLog 0 [k, c]
      let d := Dev.raiseWith { d with boot := { d.boot with tried := d.boot.tried ++ [k] } } 0x001 (word (k + 256 * c)) []
      if rest = [] then ((Dev.wf { d with boot := { d.boot with phase := .smb } } R.BOOT_BOOT_STATUS 0 2 0 2).raise 0x002).bootLog 1 [2] else d)))) ∧
  (∀ (a : Acc) (w : Word) (answer : List Word),
    (s.dev.may a R.BOOT_BOOT_CTRL true = true → s.dev.boot.phase = .firmware → exec (.arbCommit a) s = .next (s.settled
      { s.dev with boot := { s.dev.boot with arb := max s.dev.boot.arb (s.dev.rf R.BOOT_BOOT_STATUS 0 11 4) } })) ∧
    (s.dev.may a R.BOOT_BOOT_CTRL true = true → s.dev.boot.phase ≠ .firmware → exec (.arbCommit a) s = .next (s.settled s.dev)) ∧
    (s.dev.may a R.BOOT_FLASH_CMD true = true →
      let v := w ||| 0x100
      let d := s.dev.wr R.BOOT_FLASH_CMD 0 (v &&& 0x702ff)
      let ks := List.range (fld v 18 16)
      (bit v 9 = true → exec (.flashGo a w answer) s = .next (s.settled
        (d.emit (.bus 4 (fld v 7 0) (d.rn R.BOOT_FLASH_ADDR :: ks.map fun k => d.rn (R.BOOT_FLASH_DATA k)))))) ∧
      (bit v 9 = false → exec (.flashGo a w answer) s = .next (s.settled
        (ks.foldl (fun x k => x.wr (R.BOOT_FLASH_DATA k) 0 (answer.getD k 0)) (d.emit (.bus 4 (fld v 7 0) [d.rn R.BOOT_FLASH_ADDR])))))) ∧
    (s.dev.may a R.DEV_YARD_CFG true = true → exec (.yardCfgWrite a w) s = .next (s.settled
      (((s.dev.wr R.DEV_YARD_CFG 0 w).raise 0x007).formTry false))))

/-- MCTP control, PLDM, debug and the sideband pins complete (R462, R477–R479, R481, R482, R484–R487, R499). A control message on a path that
is up, and on no other, is answered: an endpoint ID is set, unless it is 0 or 255; PLDM answers a sensor while firmware runs, and is an error else; CHALLENGE
gives a new challenge, unless debug is fused off or locked out, VERIFY spends it and authenticates or locks out for 1 s (log entry 17),
DEAUTH ends it, HALT and RESUME stop and start the cores while authenticated, and only then; boundary scan and TRST_N act on the test logic; SB_ROUTE is set unless a tenant may not route it, SB_CLKREQ unless the
port is taken; an input's level is taken. -/
def Obligations.ManagementDebugAndPinsComplete : Prop :=
  ∀ s : State,
  (∀ p : Nat, s.dev.pathUp p = true →
    (∀ eid, eid ≠ 0 → eid < 255 → exec (.setEndpointId p eid) s = .next (s.settled
      (Dev.emit { s.dev with mgt := { s.dev.mgt with eid := Tbl.put s.dev.mgt.eid p 0 eid } } (.msg p 1 [0, eid])))) ∧
    (∀ eid, (eid = 0 ∨ 255 ≤ eid) → exec (.setEndpointId p eid) s = .next (s.settled
      (s.dev.emit (.msg p 1 [2, s.dev.mgt.eid.getD p 0])))) ∧
    exec (.getEndpointId p) s = .next (s.settled (s.dev.emit (.msg p 2 [0, s.dev.mgt.eid.getD p 0]))) ∧
    (∀ type, exec (.getVersionSupport p type) s = .next (s.settled (s.dev.fresh.2.emit (.msg p 4 [type, s.dev.fresh.1.toNat])))) ∧
    exec (.getMessageTypeSupport p) s = .next (s.settled (s.dev.emit (.msg p 5
      (0 :: if p = 0 then [0x01, 0x05, 0x06, 0x07, 0x7e] else [0x01, 0x05, 0x06, 0x07])))) ∧
    exec (.getVendorDefinedMessageSupport p) s = .next (s.settled
      (s.dev.emit (.msg p 6 (if p = 0 then [0, (Config.factory 0x205 0 0xff0).toNat % 65536] else [0])))) ∧
    (∀ type sensor, s.dev.fwRuns = false → exec (.pldmMessage p type sensor) s = .next (s.settled s.dev.mctpErr)) ∧
    (∀ sensor, s.dev.fwRuns = true → 1 ≤ sensor → sensor ≤ 21 → exec (.pldmMessage p 2 sensor) s = .next (s.settled
      ((s.dev.sensor sensor).2.emit (.msg p 9 [0, sensor, (s.dev.sensor sensor).1])))) ∧
    (∀ type sensor, s.dev.fwRuns = true → (type ≠ 2 ∨ sensor = 0 ∨ 21 < sensor) →
      exec (.pldmMessage p type sensor) s = .next (s.settled (s.dev.emit (.msg p 9 [type]))))) ∧
  (∀ p eid type sensor : Nat, s.dev.pathUp p = false → ∀ c ∈ ([.setEndpointId p eid, .getEndpointId p, .getVersionSupport p type,
      .getMessageTypeSupport p, .getVendorDefinedMessageSupport p, .pldmMessage p type sensor] : List Instr),
    exec c s = .next (s.settled s.dev)) ∧
  (s.dev.pathUp 0 = true → exec .mctpPacketError s = .next (s.settled s.dev.mctpErr)) ∧
  (s.dev.pathUp 0 = false → exec .mctpPacketError s = .next (s.settled s.dev)) ∧
  (∀ a : Acc, s.dev.may a R.DBG_DBG_CTRL true = true →
    (Config.debugFuseOff = false → (∀ t, s.dev.boot.chalAt = some t → t ≤ s.dev.now) → exec (.challenge a) s = .next (s.settled (
      let n := s.dev.boot.chalN
      let d := (List.range 12).foldl (fun d k => d.wr (R.DBG_DBG_CHAL k) 0 (Config.challengeWord n k)) s.dev
      { d with boot := { d.boot with chalN := n + 1, chalOk := true, chalAt := none } }))) ∧
    ((Config.debugFuseOff = true ∨ ∃ t, s.dev.boot.chalAt = some t ∧ s.dev.now < t) →
      exec (.challenge a) s = .next (s.settled s.dev)) ∧
    ((s.dev.dbgAuth = false ∨ s.dev.boot.halted = true) → exec (.halt a) s = .next (s.settled s.dev)) ∧
    ((s.dev.dbgAuth = false ∨ s.dev.boot.halted = false) → exec (.dbgResume a) s = .next (s.settled s.dev)) ∧
    (∀ ok : Bool, let d := { s.dev with boot := { s.dev.boot with chalOk := false } }
      (ok = true → s.dev.boot.chalOk = true → Config.debugFuseOff = false →
        exec (.verify a ok) s = .next (s.settled ((d.wf R.DBG_DBG_STATUS 0 0 0 1).raise 0x019))) ∧
      (ok = false ∨ s.dev.boot.chalOk = false ∨ Config.debugFuseOff = true → exec (.verify a ok) s = .next (s.settled
        (Dev.raise { d with boot := { d.boot with chalAt := some (d.now + 1000000000) } } 0x01a)))) ∧
    exec (.deauth a) s = .next (s.settled (s.dev.wf R.DBG_DBG_STATUS 0 0 0 0)) ∧
    (s.dev.dbgAuth = true → s.dev.boot.halted = false → exec (.halt a) s = .next (s.settled
      ((Dev.wf { s.dev with boot := { s.dev.boot with halted := true }, out := .core 4 :: s.dev.out } R.DBG_DBG_STATUS 0 1 1 1).raise 0x01b))) ∧
    (s.dev.dbgAuth = true → s.dev.boot.halted = true →
      let d := Dev.wf { s.dev with boot := { s.dev.boot with halted := false }, out := .core 5 :: s.dev.out } R.DBG_DBG_STATUS 0 1 1 0
      (s.dev.boot.phase ≠ .hold → exec (.dbgResume a) s = .next (s.settled d.doeResume)) ∧
      (s.dev.boot.phase = .hold → exec (.dbgResume a) s = .next (s.settled
        ((Dev.wf { d with boot := { d.boot with phase := .firmware }, out := .core 0 :: d.out } R.DBG_DBG_STATUS 0 3 3 0).raise
          0x000).doeResume)))) ∧
  (∀ t : Nat, s.dev.boot.chalAt = some t → exec .challengeLockoutEnd s = .next (s.settled
    { s.dev.advanceTo t with boot := { (s.dev.advanceTo t).boot with chalAt := none } })) ∧
  (s.dev.boot.chalAt = none → exec .challengeLockoutEnd s = .next (s.settled s.dev)) ∧
  (∀ code : Nat, s.dev.mgt.trst = true → exec (.boundaryScan code) s = .next (s.settled s.dev)) ∧
  (∀ code : Nat, s.dev.mgt.trst = false → exec (.boundaryScan code) s = .next (s.settled
    (Dev.emit { s.dev with mgt := { s.dev.mgt with extest := code } } (.bus 5 code [])))) ∧
  (∀ low : Bool, exec (.testLogicReset low) s = .next (s.settled
    { s.dev with mgt := { s.dev.mgt with trst := low, extest := if low then 0 else s.dev.mgt.extest } })) ∧
  (∀ (a : Acc) (w : Word),
    (s.dev.may a R.SBD_SB_ROUTE true = true →
      let j := s.dev.instOf a 0x16 R.SBD_SB_ROUTE.off
      let src := fld w 7 0
      let own (st : Nat) : Prop :=
        if src < 0x40 then s.dev.rb R.SBD_SB_OWN src 6 = true ∧ s.dev.rf R.SBD_SB_OWN src 5 0 = st
        else if 0x80 ≤ src then s.dev.owner (src - 0x80) = some st else True
      ((∃ st, s.dev.tenant a = some st ∧ ¬ own st) →
        exec (.sbRouteWrite a w) s = .next (s.settled (s.dev.denied a 0x16 R.SBD_SB_ROUTE.off true))) ∧
      ((∀ st, s.dev.tenant a = some st → own st) → (src ≤ 0x41 ∨ 0x80 ≤ src) →
        exec (.sbRouteWrite a w) s = .next (s.settled (s.dev.wr R.SBD_SB_ROUTE j (w &&& 0x3ff)))) ∧
      ((∀ st, s.dev.tenant a = some st → own st) → 0x41 < src → src < 0x80 → exec (.sbRouteWrite a w) s = .next (s.settled (
        let d := s.dev.wr R.SBD_SB_ROUTE j (w &&& 0x3ff)
        let m := (bitsOf 64 d.mgt.padFree).filter (· != j)
        { d.fresh.2 with mgt := { d.fresh.2.mgt with padFree := ofBits (if bit d.fresh.1 0 then m ++ [j] else m) } })))) ∧
    (s.dev.may a R.SBD_SB_CLKREQ true = true →
      let j := s.dev.instOf a 0x16 R.SBD_SB_CLKREQ.off
      let taken : Bool := bit w 8 && (List.range 64).any fun k =>
        k != j && s.dev.rb R.SBD_SB_CLKREQ k 8 && s.dev.rf R.SBD_SB_CLKREQ k 7 0 == fld w 7 0
      (taken = true → exec (.sbClkreqWrite a w) s = .next (s.settled (s.dev.sticky (accIdx a) 0x16 1))) ∧
      (taken = false → exec (.sbClkreqWrite a w) s = .next (s.settled (s.dev.wr R.SBD_SB_CLKREQ j (w &&& 0x1ff)))))) ∧
  (∀ (pin : Nat) (level : Bool),
    (pin < 32 → exec (.sbioInputChange pin level) s = .next (s.settled (s.dev.wf R.SBD_SB_IN0 0 pin pin (b2n level)))) ∧
    (32 ≤ pin → pin < 64 →
      exec (.sbioInputChange pin level) s = .next (s.settled (s.dev.wf R.SBD_SB_IN1 0 (pin - 32) (pin - 32) (b2n level)))))

/-! ### The configuration image (R472, R473) -/

/-- The records of the KCI complete (R472, R473). While the boot ROM applies the image, with no record in progress, WRITE, RMW, SEL_WRITE and
YARD make their accesses as the privileged core and COMMIT requests its commit; DELAY lets its time pass; WAIT polls until the value stands
or its time is over; END with a right CRC completes the image. The next record counts, and its words enter the CRC; a record that fails
stops the application with BOOT_STATUS 3, its index, its event and the start of the firmware; so does one after a COMMIT that failed. Where
the image is not applied, or a record is in progress, a record changes nothing. -/
def Obligations.ConfigurationImageRecordsComplete : Prop :=
  (∀ (s : State) (addr page us crc : Nat) (m w sel v : Word) (e : Bool),
    let stopped : Prop := s.dev.boot.phase ≠ .kci ∨ s.dev.pwr.perst = true ∨ s.dev.pwr.off = true ∨ s.dev.boot.coresDown = true
    ((stopped ∨ s.dev.kciCommitted = none) → ∀ c ∈ ([.kciWrite addr w, .kciRmw addr m w, .kciSelWrite addr sel w, .kciCommit page,
        .kciWait addr m v us e, .kciDelay us, .kciYard w, .kciEnd crc e] : List Instr), exec c s = .next (s.settled s.dev)) ∧
    (s.dev.boot.waitEnd.isSome = true → ∀ c ∈ ([.kciWrite addr w, .kciRmw addr m w, .kciSelWrite addr sel w, .kciCommit page,
        .kciDelay us, .kciYard w, .kciEnd crc e] : List Instr), exec c s = .next (s.settled s.dev)) ∧
    (¬ stopped → s.dev.boot.waitEnd = none → s.dev.kciCommitted = some false → ∀ c ∈ ([.kciWrite addr w, .kciRmw addr m w,
        .kciSelWrite addr sel w, .kciCommit page, .kciWait addr m v us e, .kciDelay us, .kciYard w, .kciEnd crc e] : List Instr),
      exec c s = .next (s.settled (s.dev.kciFail (s.dev.boot.nextRec - 1))))) ∧
  ∀ s : State, s.dev.boot.phase = .kci → s.dev.pwr.perst = false → s.dev.pwr.off = false → s.dev.boot.coresDown = false →
    s.dev.kciCommitted = some true →
  let d0 := { s.dev with boot := { s.dev.boot with comWait := none } }
  let rom (r : List Nat × Dev) (addr : Nat) (w : Word) : List Nat × Dev := r.2.accWrite r.1 (.core true) addr 15 [w] Ext.none
  let now : List Nat × Dev := (s.plock, d0)
  let after (words : List Nat) (r : List Nat × Dev) (ok : Bool) : State :=
    State.settled { s with plock := r.1 }
      (if r.2.boot.waitEnd.isSome then r.2
       else if ok then { r.2 with boot := { r.2.boot with nextRec := d0.boot.nextRec + 1, crc := words.foldl crcWord d0.boot.crc } }
       else r.2.kciFail d0.boot.nextRec)
  (d0.boot.waitEnd = none →
    (∀ (addr : Nat) (w : Word), exec (.kciWrite addr w) s = .next (after [0x00020001, addr, w.toNat] (rom now addr w) true)) ∧
    (∀ (addr : Nat) (m w : Word),
      let old := d0.readWord s.plock (.core true) addr 15 Ext.none none
      exec (.kciRmw addr m w) s = .next (after [0x00030002, addr, m.toNat, w.toNat]
        (rom (s.plock, old.2) addr (old.1 &&& ~~~m ||| w &&& m)) true)) ∧
    (∀ (addr : Nat) (sel w : Word), exec (.kciSelWrite addr sel w) s =
      .next (after [0x00030003, addr, sel.toNat, w.toNat] (rom (rom now (addr / 4096 * 4096 + 0xc0) sel) addr w) true)) ∧
    (∀ page : Nat,
      (inGroup page = true → d0.yardEn = true → exec (.kciCommit page) s = .next (after [0x00010004, page] now true)) ∧
      ((inGroup page = false ∨ d0.yardEn = false) →
        let r := rom now (4096 * page + 0x80) 1
        (r.2.commitBusy 64 page = true → exec (.kciCommit page) s =
          .next (after [0x00010004, page] (r.1, { r.2 with boot := { r.2.boot with comWait := some page } }) true)) ∧
        (r.2.commitBusy 64 page = false → exec (.kciCommit page) s =
          .next (after [0x00010004, page] r (r.2.staging.lastErr.getD page 0 % 256 == 0))))) ∧
    (∀ us : Nat, exec (.kciDelay us) s = .next (after [0x00010006, us] (s.plock, d0.advanceTo (d0.now + 1000 * us)) true)) ∧
    (∀ w : Word, exec (.kciYard w) s = .next (after [0x00010007, w.toNat] (rom now 0x110 w) true)) ∧
    (∀ (crc : Nat) (bad : Bool),
      (bad = false → crc = d0.boot.crc ^^^ 0xffffffff → exec (.kciEnd crc bad) s = .next (after [0x000100ff, crc] (s.plock, d0.kciComplete) true)) ∧
      (bad = true ∨ crc ≠ d0.boot.crc ^^^ 0xffffffff → exec (.kciEnd crc bad) s = .next (after [0x000100ff, crc] now false)))) ∧
  (∀ (addr us : Nat) (m v : Word) (expired : Bool),
    let ends := d0.boot.waitEnd.getD (d0.now + 1000 * us)
    let d := if expired then d0.advanceTo ends else d0
    let r := d.readWord s.plock (.core true) addr 15 Ext.none none
    let words := [0x00040005, addr, m.toNat, v.toNat, us]
    (r.1 &&& m = v → exec (.kciWait addr m v us expired) s =
      .next (after words (s.plock, { r.2 with boot := { r.2.boot with waitEnd := none } }) true)) ∧
    (r.1 &&& m ≠ v → (us = 0 ∨ ends ≤ r.2.now) → exec (.kciWait addr m v us expired) s =
      .next (after words (s.plock, { r.2 with boot := { r.2.boot with waitEnd := none } }) false)) ∧
    (r.1 &&& m ≠ v → us ≠ 0 → r.2.now < ends → exec (.kciWait addr m v us expired) s =
      .next (after words (s.plock, { r.2 with boot := { r.2.boot with waitEnd := some ends } }) true)))

/-! ### Rules that hold of every state (R53, R154, R424, R430) and reset -/

/-- A packet is charged once, and the charged totals never pass the limits (R154): of the packets of a previous accounting, those that the
limits allow are charged in order, each by its units, none that was charged is charged again, and the buffer keeps its packets in order. -/
def Obligations.ChargesNeverPassTheLimits : Prop :=
  ∀ (l : List Sent2) (c lim : Trio), (∀ k < 3, c.get k ≤ lim.get k) →
    let r := chargeFit l c lim
    (∀ k < 3, r.2.2.get k ≤ lim.get k) ∧ (r.1.map fun e => e.pk) = (l.map fun e => e.pk) ∧
    (∀ k < 3, r.2.2.get k = c.get k + sumOf (fun e : Sent2 => if min e.pk.cls 2 = k then pktUnits e.pk.slots else 0) r.2.1) ∧
    (∀ e ∈ r.2.1, e.charged = false ∧ e ∈ l)

/-- The arrays of events are cleared independently (R424): a cleared cause bit is 0 in its array, and every other cause bit, in this array
and in the others, every mask bit and every count stands. -/
def Obligations.EventArraysClearIndependently : Prop :=
  ∀ (d : Dev) (arr n : Nat), n < 2048 →
    (d.clearCause arr n).cause arr n = false ∧
    (∀ arr' n', n' < 2048 → (arr' ≠ arr ∨ n' ≠ n) → (d.clearCause arr n).cause arr' n' = d.cause arr' n') ∧
    (∀ arr' n', (d.clearCause arr n).unmasked arr' n' = d.unmasked arr' n') ∧
    (d.clearCause arr n).ev.count = d.ev.count ∧ (d.clearCause arr n).regs = d.regs

/-- A raise of a defined source sets its cause bit in the management array and adds 1 to its count, modulo 2^16 (R421, R430); but for the
controller's own EV_STORM and EVQ_OVERFLOW, which a delivery may raise, every other source keeps its cause bits and its count. -/
def Obligations.RaisesSetTheirCauseAndCount : Prop :=
  ∀ (d : Dev) (n : Nat), (evSev n).isSome = true → n < 2048 → n ≠ 0x010 → n ≠ 0x011 →
    (d.raise n).cause 64 n = true ∧
    (d.raise n).ev.count.getD n 0 = (d.ev.count.getD n 0 + 1) % 65536 ∧
    (∀ m, m < 2048 → m ≠ n → m ≠ 0x010 → m ≠ 0x011 →
      (d.raise n).ev.count.getD m 0 = d.ev.count.getD m 0 ∧ ∀ arr, (d.raise n).cause arr m = d.cause arr m)

/-- Accessors do not see or disturb each other's staged values (R53): a value that one accessor stages is what it reads back, no other
accessor's read or staged set changes, and the value in force stands. -/
def Obligations.AccessorsStageIndependently : Prop :=
  ∀ (d : Dev) (x : Stg),
    (x.via = x.page → (d.stage x).rwsRead x.acc x.page x.inst x.off = x.val) ∧
    (∀ acc page inst off, acc ≠ x.acc →
      (d.stage x).rwsRead acc page inst off = d.rwsRead acc page inst off ∧ (d.stage x).stagedSet acc page = d.stagedSet acc page) ∧
    (d.stage x).regs = d.regs

/-- What reset leaves (R466): no command waits, no page is locked, every register holds its reset value, every select and cursor of an
accessor is as at reset, no event is set, counted or unmasked, no TLP is held, device time is 0 and PERST_N is not asserted. Reset is the end
of a device reset, and a register for which the tables give no value holds 0: the model's choices (log entry 1). -/
def Obligations.ResetLeavesResetValues : Prop :=
  State.reset.pending = [] ∧ State.reset.plock = [] ∧
  (∀ (r : Reg) (i : Nat), State.reset.dev.rd r i = resetWord r.page i r.off) ∧ State.reset.dev.aregs = [] ∧
  (∀ arr n, State.reset.dev.cause arr n = false ∧ State.reset.dev.unmasked arr n = false ∧ State.reset.dev.ev.count.getD n 0 = 0) ∧
  State.reset.dev.path.items = [] ∧ State.reset.dev.now = 0 ∧ State.reset.dev.pwr.perst = false
end

