-- ==== Sys2Proof/Laws/Tables.lean ====
section
/-! SUPPORT. Sparse tables: read after write, and the canonical form that every write keeps. -/

namespace Sys2Proof.Machine

variable {α : Type}

@[simp] theorem Tbl.find_erase_same (t : Tbl α) (i : Nat) : Tbl.find (Tbl.erase t i) i = none := by
  induction t with
  | nil => rfl
  | cons e t ih =>
    obtain ⟨k, v⟩ := e
    by_cases h : k = i
    · simp [Tbl.erase, h, ih]
    · simp [Tbl.erase, h, ih, Tbl.find]

theorem Tbl.find_erase_other (t : Tbl α) {i j : Nat} (h : j ≠ i) : Tbl.find (Tbl.erase t i) j = Tbl.find t j := by
  induction t with
  | nil => rfl
  | cons e t ih =>
    obtain ⟨k, v⟩ := e
    by_cases hk : k = i
    · subst hk; simp [Tbl.erase, ih, Tbl.find, Ne.symm h]
    · simp only [Tbl.erase, hk, if_false, Tbl.find, ih]

@[simp] theorem Tbl.find_insert_same (t : Tbl α) (i : Nat) (a : α) : Tbl.find (Tbl.insert t i a) i = some a := by
  induction t with
  | nil => simp [Tbl.insert, Tbl.find]
  | cons e t ih =>
    obtain ⟨k, v⟩ := e
    by_cases h1 : i < k
    · simp [Tbl.insert, h1, Tbl.find]
    · by_cases h2 : k = i
      · simp [Tbl.insert, h2, Tbl.find]
      · simp [Tbl.insert, h1, h2, Tbl.find, ih]

theorem Tbl.find_insert_other (t : Tbl α) {i j : Nat} (a : α) (h : j ≠ i) : Tbl.find (Tbl.insert t i a) j = Tbl.find t j := by
  induction t with
  | nil => simp [Tbl.insert, Tbl.find, Ne.symm h]
  | cons e t ih =>
    obtain ⟨k, v⟩ := e
    by_cases h1 : i < k
    · simp [Tbl.insert, h1, Tbl.find, Ne.symm h]
    · by_cases h2 : k = i
      · subst h2; simp [Tbl.insert, Tbl.find, Ne.symm h]
      · simp [Tbl.insert, h1, h2, Tbl.find, ih]

/-- An index reads what was last written to it. -/
@[simp] theorem Tbl.getD_put_same [DecidableEq α] (t : Tbl α) (i : Nat) (dflt a : α) : (Tbl.put t i dflt a).getD i dflt = a := by
  unfold Tbl.put Tbl.getD
  split
  · next h => rw [Tbl.find_erase_same]; exact h.symm
  · rw [Tbl.find_insert_same]; rfl

/-- A write leaves every other index alone. -/
theorem Tbl.getD_put_other [DecidableEq α] (t : Tbl α) {i j : Nat} (dflt e a : α) (h : j ≠ i) :
    (Tbl.put t i dflt a).getD j e = t.getD j e := by
  unfold Tbl.put Tbl.getD
  split
  · rw [Tbl.find_erase_other t h]
  · rw [Tbl.find_insert_other t a h]

theorem Tbl.all_erase (t : Tbl α) (i : Nat) (p : Nat × α → Bool) (h : t.all p = true) : (Tbl.erase t i).all p = true := by
  induction t with
  | nil => rfl
  | cons e t ih =>
    obtain ⟨k, v⟩ := e
    simp only [List.all_cons, Bool.and_eq_true] at h
    by_cases hk : k = i
    · simp [Tbl.erase, hk, ih h.2]
    · simp [Tbl.erase, hk, ih h.2, h.1]

theorem Tbl.all_insert (t : Tbl α) (i : Nat) (a : α) (p : Nat × α → Bool) (hp : p (i, a) = true) (h : t.all p = true) :
    (Tbl.insert t i a).all p = true := by
  induction t with
  | nil => simp [Tbl.insert, hp]
  | cons e t ih =>
    obtain ⟨k, v⟩ := e
    simp only [List.all_cons, Bool.and_eq_true] at h
    by_cases h1 : i < k
    · simp [Tbl.insert, h1, hp, h.1, h.2]
    · by_cases h2 : k = i
      · subst h2; simp [Tbl.insert, hp, h.2]
      · simp [Tbl.insert, h1, h2, h.1, ih h.2]

/-- Removing an entry keeps the canonical form. -/
theorem Tbl.wf_erase [DecidableEq α] (f : Nat → α) (t : Tbl α) (i : Nat) (h : Tbl.wf f t = true) : Tbl.wf f (Tbl.erase t i) = true := by
  induction t with
  | nil => rfl
  | cons e t ih =>
    obtain ⟨k, v⟩ := e
    simp only [Tbl.wf, Bool.and_eq_true] at h
    by_cases hk : k = i
    · simp [Tbl.erase, hk, ih h.2]
    · simp only [Tbl.erase, hk, if_false, Tbl.wf, Bool.and_eq_true]
      exact ⟨⟨h.1.1, Tbl.all_erase t i _ h.1.2⟩, ih h.2⟩

/-- Entering a value other than the default keeps the canonical form. -/
theorem Tbl.wf_insert [DecidableEq α] (f : Nat → α) (t : Tbl α) (i : Nat) (a : α) (ha : a ≠ f i) (h : Tbl.wf f t = true) :
    Tbl.wf f (Tbl.insert t i a) = true := by
  induction t with
  | nil => simp [Tbl.insert, Tbl.wf, ha]
  | cons e t ih =>
    obtain ⟨k, v⟩ := e
    simp only [Tbl.wf, Bool.and_eq_true] at h
    by_cases h1 : i < k
    · simp only [Tbl.insert, h1, if_true, Tbl.wf, List.all_cons, Bool.and_eq_true, decide_eq_true_eq]
      refine ⟨⟨ha, trivial, ?_⟩, ⟨by simpa using h.1.1, h.1.2⟩, h.2⟩
      have h3 := h.1.2
      rw [List.all_eq_true] at h3 ⊢
      intro e he
      have := h3 e he
      simp only [decide_eq_true_eq] at this ⊢
      omega
    · by_cases h2 : k = i
      · subst h2
        simp only [Tbl.insert, Nat.lt_irrefl, if_false, if_true, Tbl.wf, Bool.and_eq_true, decide_eq_true_eq]
        exact ⟨⟨ha, h.1.2⟩, h.2⟩
      · simp only [Tbl.insert, h1, h2, if_false, Tbl.wf, Bool.and_eq_true]
        refine ⟨⟨h.1.1, Tbl.all_insert t i a _ ?_ h.1.2⟩, ih h.2⟩
        simp only [decide_eq_true_eq]; omega

/-- A write keeps the canonical form. -/
theorem Tbl.wf_put [DecidableEq α] (f : Nat → α) (t : Tbl α) (i : Nat) (a : α) (h : Tbl.wf f t = true) :
    Tbl.wf f (Tbl.put t i (f i) a) = true := by
  unfold Tbl.put
  split
  · exact Tbl.wf_erase f t i h
  · next ha => exact Tbl.wf_insert f t i a ha h

end Sys2Proof.Machine
end

