-- ==== Sys2Proof/Laws/Registers.lean ====
section
/-! SUPPORT. Registers and the parts of the device: what each write of a register changes, one lemma for each field. -/

namespace Sys2Proof.Machine

/-! ### Read after write -/

/-- A register reads what was written to it. -/
@[simp] theorem Dev.rd_wr_same (d : Dev) (r : Reg) (i : Nat) (w : Word) : (d.wr r i w).rd r i = w := by
  unfold Dev.rd Dev.wr; exact Tbl.getD_put_same _ _ _ _

/-- A write of a register leaves the registers at every other index alone. -/
theorem Dev.rd_wr_other (d : Dev) {r q : Reg} {i j : Nat} (w : Word) (h : regKey q.page j q.off ≠ regKey r.page i r.off) :
    (d.wr r i w).rd q j = d.rd q j := by
  unfold Dev.rd Dev.wr; exact Tbl.getD_put_other _ _ _ _ h

@[simp] theorem Dev.rn_wn_same (d : Dev) (r : Reg) (i n : Nat) : (d.wn r i n).rn r i = n % 4294967296 := by
  simp [Dev.rn, Dev.wn, word]

/-- An accessor's own copy reads what was written to it. -/
@[simp] theorem Dev.ard_awr_same (d : Dev) (a : Nat) (r : Reg) (w : Word) : (d.awr a r w).ard a r = w := by
  unfold Dev.ard Dev.awr; exact Tbl.getD_put_same _ _ _ _

@[simp] theorem Dev.rd_awr (d : Dev) (a : Nat) (q r : Reg) (i : Nat) (w : Word) : (d.awr a q w).rd r i = d.rd r i := rfl
@[simp] theorem Dev.ard_wr (d : Dev) (a : Nat) (q r : Reg) (i : Nat) (w : Word) : (d.wr q i w).ard a r = d.ard a r := rfl
@[simp] theorem Dev.rd_emit (d : Dev) (o : Out) (r : Reg) (i : Nat) : (d.emit o).rd r i = d.rd r i := rfl
@[simp] theorem Dev.ard_emit (d : Dev) (o : Out) (a : Nat) (r : Reg) : (d.emit o).ard a r = d.ard a r := rfl
@[simp] theorem Dev.out_emit (d : Dev) (o : Out) : (d.emit o).out = o :: d.out := rfl

/-! ### Fields that a write leaves alone -/

@[simp] theorem Dev.wr_aregs (d : Dev) (r : Reg) (i : Nat) (w : Word) : (d.wr r i w).aregs = d.aregs := rfl
@[simp] theorem Dev.wr_free (d : Dev) (r : Reg) (i : Nat) (w : Word) : (d.wr r i w).free = d.free := rfl
@[simp] theorem Dev.wr_now (d : Dev) (r : Reg) (i : Nat) (w : Word) : (d.wr r i w).now = d.now := rfl
@[simp] theorem Dev.wr_out (d : Dev) (r : Reg) (i : Nat) (w : Word) : (d.wr r i w).out = d.out := rfl
@[simp] theorem Dev.wr_staging (d : Dev) (r : Reg) (i : Nat) (w : Word) : (d.wr r i w).staging = d.staging := rfl
@[simp] theorem Dev.wr_yard (d : Dev) (r : Reg) (i : Nat) (w : Word) : (d.wr r i w).yard = d.yard := rfl
@[simp] theorem Dev.wr_ev (d : Dev) (r : Reg) (i : Nat) (w : Word) : (d.wr r i w).ev = d.ev := rfl
@[simp] theorem Dev.wr_tally (d : Dev) (r : Reg) (i : Nat) (w : Word) : (d.wr r i w).tally = d.tally := rfl
@[simp] theorem Dev.wr_cyc (d : Dev) (r : Reg) (i : Nat) (w : Word) : (d.wr r i w).cyc = d.cyc := rfl
@[simp] theorem Dev.wr_ports (d : Dev) (r : Reg) (i : Nat) (w : Word) : (d.wr r i w).ports = d.ports := rfl
@[simp] theorem Dev.wr_sched (d : Dev) (r : Reg) (i : Nat) (w : Word) : (d.wr r i w).sched = d.sched := rfl
@[simp] theorem Dev.wr_path (d : Dev) (r : Reg) (i : Nat) (w : Word) : (d.wr r i w).path = d.path := rfl
@[simp] theorem Dev.wr_logs (d : Dev) (r : Reg) (i : Nat) (w : Word) : (d.wr r i w).logs = d.logs := rfl
@[simp] theorem Dev.wr_stall (d : Dev) (r : Reg) (i : Nat) (w : Word) : (d.wr r i w).stall = d.stall := rfl
@[simp] theorem Dev.wr_slice (d : Dev) (r : Reg) (i : Nat) (w : Word) : (d.wr r i w).slice = d.slice := rfl
@[simp] theorem Dev.wr_saf (d : Dev) (r : Reg) (i : Nat) (w : Word) : (d.wr r i w).saf = d.saf := rfl
@[simp] theorem Dev.wr_fn (d : Dev) (r : Reg) (i : Nat) (w : Word) : (d.wr r i w).fn = d.fn := rfl
@[simp] theorem Dev.wr_pwr (d : Dev) (r : Reg) (i : Nat) (w : Word) : (d.wr r i w).pwr = d.pwr := rfl
@[simp] theorem Dev.wr_boot (d : Dev) (r : Reg) (i : Nat) (w : Word) : (d.wr r i w).boot = d.boot := rfl
@[simp] theorem Dev.wr_mgt (d : Dev) (r : Reg) (i : Nat) (w : Word) : (d.wr r i w).mgt = d.mgt := rfl
@[simp] theorem Dev.wr_mkl (d : Dev) (r : Reg) (i : Nat) (w : Word) : (d.wr r i w).mkl = d.mkl := rfl
@[simp] theorem Dev.wr_dma (d : Dev) (r : Reg) (i : Nat) (w : Word) : (d.wr r i w).dma = d.dma := rfl
@[simp] theorem Dev.wr_cxp (d : Dev) (r : Reg) (i : Nat) (w : Word) : (d.wr r i w).cxp = d.cxp := rfl
@[simp] theorem Dev.wr_brg (d : Dev) (r : Reg) (i : Nat) (w : Word) : (d.wr r i w).brg = d.brg := rfl

@[simp] theorem Dev.wn_aregs (d : Dev) (r : Reg) (i n : Nat) : (d.wn r i n).aregs = d.aregs := rfl
@[simp] theorem Dev.wn_free (d : Dev) (r : Reg) (i n : Nat) : (d.wn r i n).free = d.free := rfl
@[simp] theorem Dev.wn_now (d : Dev) (r : Reg) (i n : Nat) : (d.wn r i n).now = d.now := rfl
@[simp] theorem Dev.wn_out (d : Dev) (r : Reg) (i n : Nat) : (d.wn r i n).out = d.out := rfl
@[simp] theorem Dev.wn_staging (d : Dev) (r : Reg) (i n : Nat) : (d.wn r i n).staging = d.staging := rfl
@[simp] theorem Dev.wn_yard (d : Dev) (r : Reg) (i n : Nat) : (d.wn r i n).yard = d.yard := rfl
@[simp] theorem Dev.wn_ev (d : Dev) (r : Reg) (i n : Nat) : (d.wn r i n).ev = d.ev := rfl
@[simp] theorem Dev.wn_tally (d : Dev) (r : Reg) (i n : Nat) : (d.wn r i n).tally = d.tally := rfl
@[simp] theorem Dev.wn_cyc (d : Dev) (r : Reg) (i n : Nat) : (d.wn r i n).cyc = d.cyc := rfl
@[simp] theorem Dev.wn_ports (d : Dev) (r : Reg) (i n : Nat) : (d.wn r i n).ports = d.ports := rfl
@[simp] theorem Dev.wn_sched (d : Dev) (r : Reg) (i n : Nat) : (d.wn r i n).sched = d.sched := rfl
@[simp] theorem Dev.wn_path (d : Dev) (r : Reg) (i n : Nat) : (d.wn r i n).path = d.path := rfl
@[simp] theorem Dev.wn_logs (d : Dev) (r : Reg) (i n : Nat) : (d.wn r i n).logs = d.logs := rfl
@[simp] theorem Dev.wn_stall (d : Dev) (r : Reg) (i n : Nat) : (d.wn r i n).stall = d.stall := rfl
@[simp] theorem Dev.wn_slice (d : Dev) (r : Reg) (i n : Nat) : (d.wn r i n).slice = d.slice := rfl
@[simp] theorem Dev.wn_saf (d : Dev) (r : Reg) (i n : Nat) : (d.wn r i n).saf = d.saf := rfl
@[simp] theorem Dev.wn_fn (d : Dev) (r : Reg) (i n : Nat) : (d.wn r i n).fn = d.fn := rfl
@[simp] theorem Dev.wn_pwr (d : Dev) (r : Reg) (i n : Nat) : (d.wn r i n).pwr = d.pwr := rfl
@[simp] theorem Dev.wn_boot (d : Dev) (r : Reg) (i n : Nat) : (d.wn r i n).boot = d.boot := rfl
@[simp] theorem Dev.wn_mgt (d : Dev) (r : Reg) (i n : Nat) : (d.wn r i n).mgt = d.mgt := rfl
@[simp] theorem Dev.wn_mkl (d : Dev) (r : Reg) (i n : Nat) : (d.wn r i n).mkl = d.mkl := rfl
@[simp] theorem Dev.wn_dma (d : Dev) (r : Reg) (i n : Nat) : (d.wn r i n).dma = d.dma := rfl
@[simp] theorem Dev.wn_cxp (d : Dev) (r : Reg) (i n : Nat) : (d.wn r i n).cxp = d.cxp := rfl
@[simp] theorem Dev.wn_brg (d : Dev) (r : Reg) (i n : Nat) : (d.wn r i n).brg = d.brg := rfl

@[simp] theorem Dev.wf_aregs (d : Dev) (r : Reg) (i hi lo v : Nat) : (d.wf r i hi lo v).aregs = d.aregs := rfl
@[simp] theorem Dev.wf_free (d : Dev) (r : Reg) (i hi lo v : Nat) : (d.wf r i hi lo v).free = d.free := rfl
@[simp] theorem Dev.wf_now (d : Dev) (r : Reg) (i hi lo v : Nat) : (d.wf r i hi lo v).now = d.now := rfl
@[simp] theorem Dev.wf_out (d : Dev) (r : Reg) (i hi lo v : Nat) : (d.wf r i hi lo v).out = d.out := rfl
@[simp] theorem Dev.wf_staging (d : Dev) (r : Reg) (i hi lo v : Nat) : (d.wf r i hi lo v).staging = d.staging := rfl
@[simp] theorem Dev.wf_yard (d : Dev) (r : Reg) (i hi lo v : Nat) : (d.wf r i hi lo v).yard = d.yard := rfl
@[simp] theorem Dev.wf_ev (d : Dev) (r : Reg) (i hi lo v : Nat) : (d.wf r i hi lo v).ev = d.ev := rfl
@[simp] theorem Dev.wf_tally (d : Dev) (r : Reg) (i hi lo v : Nat) : (d.wf r i hi lo v).tally = d.tally := rfl
@[simp] theorem Dev.wf_cyc (d : Dev) (r : Reg) (i hi lo v : Nat) : (d.wf r i hi lo v).cyc = d.cyc := rfl
@[simp] theorem Dev.wf_ports (d : Dev) (r : Reg) (i hi lo v : Nat) : (d.wf r i hi lo v).ports = d.ports := rfl
@[simp] theorem Dev.wf_sched (d : Dev) (r : Reg) (i hi lo v : Nat) : (d.wf r i hi lo v).sched = d.sched := rfl
@[simp] theorem Dev.wf_path (d : Dev) (r : Reg) (i hi lo v : Nat) : (d.wf r i hi lo v).path = d.path := rfl
@[simp] theorem Dev.wf_logs (d : Dev) (r : Reg) (i hi lo v : Nat) : (d.wf r i hi lo v).logs = d.logs := rfl
@[simp] theorem Dev.wf_stall (d : Dev) (r : Reg) (i hi lo v : Nat) : (d.wf r i hi lo v).stall = d.stall := rfl
@[simp] theorem Dev.wf_slice (d : Dev) (r : Reg) (i hi lo v : Nat) : (d.wf r i hi lo v).slice = d.slice := rfl
@[simp] theorem Dev.wf_saf (d : Dev) (r : Reg) (i hi lo v : Nat) : (d.wf r i hi lo v).saf = d.saf := rfl
@[simp] theorem Dev.wf_fn (d : Dev) (r : Reg) (i hi lo v : Nat) : (d.wf r i hi lo v).fn = d.fn := rfl
@[simp] theorem Dev.wf_pwr (d : Dev) (r : Reg) (i hi lo v : Nat) : (d.wf r i hi lo v).pwr = d.pwr := rfl
@[simp] theorem Dev.wf_boot (d : Dev) (r : Reg) (i hi lo v : Nat) : (d.wf r i hi lo v).boot = d.boot := rfl
@[simp] theorem Dev.wf_mgt (d : Dev) (r : Reg) (i hi lo v : Nat) : (d.wf r i hi lo v).mgt = d.mgt := rfl
@[simp] theorem Dev.wf_mkl (d : Dev) (r : Reg) (i hi lo v : Nat) : (d.wf r i hi lo v).mkl = d.mkl := rfl
@[simp] theorem Dev.wf_dma (d : Dev) (r : Reg) (i hi lo v : Nat) : (d.wf r i hi lo v).dma = d.dma := rfl
@[simp] theorem Dev.wf_cxp (d : Dev) (r : Reg) (i hi lo v : Nat) : (d.wf r i hi lo v).cxp = d.cxp := rfl
@[simp] theorem Dev.wf_brg (d : Dev) (r : Reg) (i hi lo v : Nat) : (d.wf r i hi lo v).brg = d.brg := rfl

@[simp] theorem Dev.wr64_aregs (d : Dev) (r q : Reg) (i n : Nat) : (d.wr64 r q i n).aregs = d.aregs := rfl
@[simp] theorem Dev.wr64_free (d : Dev) (r q : Reg) (i n : Nat) : (d.wr64 r q i n).free = d.free := rfl
@[simp] theorem Dev.wr64_now (d : Dev) (r q : Reg) (i n : Nat) : (d.wr64 r q i n).now = d.now := rfl
@[simp] theorem Dev.wr64_out (d : Dev) (r q : Reg) (i n : Nat) : (d.wr64 r q i n).out = d.out := rfl
@[simp] theorem Dev.wr64_staging (d : Dev) (r q : Reg) (i n : Nat) : (d.wr64 r q i n).staging = d.staging := rfl
@[simp] theorem Dev.wr64_yard (d : Dev) (r q : Reg) (i n : Nat) : (d.wr64 r q i n).yard = d.yard := rfl
@[simp] theorem Dev.wr64_ev (d : Dev) (r q : Reg) (i n : Nat) : (d.wr64 r q i n).ev = d.ev := rfl
@[simp] theorem Dev.wr64_tally (d : Dev) (r q : Reg) (i n : Nat) : (d.wr64 r q i n).tally = d.tally := rfl
@[simp] theorem Dev.wr64_cyc (d : Dev) (r q : Reg) (i n : Nat) : (d.wr64 r q i n).cyc = d.cyc := rfl
@[simp] theorem Dev.wr64_ports (d : Dev) (r q : Reg) (i n : Nat) : (d.wr64 r q i n).ports = d.ports := rfl
@[simp] theorem Dev.wr64_sched (d : Dev) (r q : Reg) (i n : Nat) : (d.wr64 r q i n).sched = d.sched := rfl
@[simp] theorem Dev.wr64_path (d : Dev) (r q : Reg) (i n : Nat) : (d.wr64 r q i n).path = d.path := rfl
@[simp] theorem Dev.wr64_logs (d : Dev) (r q : Reg) (i n : Nat) : (d.wr64 r q i n).logs = d.logs := rfl
@[simp] theorem Dev.wr64_stall (d : Dev) (r q : Reg) (i n : Nat) : (d.wr64 r q i n).stall = d.stall := rfl
@[simp] theorem Dev.wr64_slice (d : Dev) (r q : Reg) (i n : Nat) : (d.wr64 r q i n).slice = d.slice := rfl
@[simp] theorem Dev.wr64_saf (d : Dev) (r q : Reg) (i n : Nat) : (d.wr64 r q i n).saf = d.saf := rfl
@[simp] theorem Dev.wr64_fn (d : Dev) (r q : Reg) (i n : Nat) : (d.wr64 r q i n).fn = d.fn := rfl
@[simp] theorem Dev.wr64_pwr (d : Dev) (r q : Reg) (i n : Nat) : (d.wr64 r q i n).pwr = d.pwr := rfl
@[simp] theorem Dev.wr64_boot (d : Dev) (r q : Reg) (i n : Nat) : (d.wr64 r q i n).boot = d.boot := rfl
@[simp] theorem Dev.wr64_mgt (d : Dev) (r q : Reg) (i n : Nat) : (d.wr64 r q i n).mgt = d.mgt := rfl
@[simp] theorem Dev.wr64_mkl (d : Dev) (r q : Reg) (i n : Nat) : (d.wr64 r q i n).mkl = d.mkl := rfl
@[simp] theorem Dev.wr64_dma (d : Dev) (r q : Reg) (i n : Nat) : (d.wr64 r q i n).dma = d.dma := rfl
@[simp] theorem Dev.wr64_cxp (d : Dev) (r q : Reg) (i n : Nat) : (d.wr64 r q i n).cxp = d.cxp := rfl
@[simp] theorem Dev.wr64_brg (d : Dev) (r q : Reg) (i n : Nat) : (d.wr64 r q i n).brg = d.brg := rfl

@[simp] theorem Dev.awr_regs (d : Dev) (a : Nat) (r : Reg) (w : Word) : (d.awr a r w).regs = d.regs := rfl
@[simp] theorem Dev.awr_free (d : Dev) (a : Nat) (r : Reg) (w : Word) : (d.awr a r w).free = d.free := rfl
@[simp] theorem Dev.awr_now (d : Dev) (a : Nat) (r : Reg) (w : Word) : (d.awr a r w).now = d.now := rfl
@[simp] theorem Dev.awr_out (d : Dev) (a : Nat) (r : Reg) (w : Word) : (d.awr a r w).out = d.out := rfl
@[simp] theorem Dev.awr_staging (d : Dev) (a : Nat) (r : Reg) (w : Word) : (d.awr a r w).staging = d.staging := rfl
@[simp] theorem Dev.awr_yard (d : Dev) (a : Nat) (r : Reg) (w : Word) : (d.awr a r w).yard = d.yard := rfl
@[simp] theorem Dev.awr_ev (d : Dev) (a : Nat) (r : Reg) (w : Word) : (d.awr a r w).ev = d.ev := rfl
@[simp] theorem Dev.awr_tally (d : Dev) (a : Nat) (r : Reg) (w : Word) : (d.awr a r w).tally = d.tally := rfl
@[simp] theorem Dev.awr_cyc (d : Dev) (a : Nat) (r : Reg) (w : Word) : (d.awr a r w).cyc = d.cyc := rfl
@[simp] theorem Dev.awr_ports (d : Dev) (a : Nat) (r : Reg) (w : Word) : (d.awr a r w).ports = d.ports := rfl
@[simp] theorem Dev.awr_sched (d : Dev) (a : Nat) (r : Reg) (w : Word) : (d.awr a r w).sched = d.sched := rfl
@[simp] theorem Dev.awr_path (d : Dev) (a : Nat) (r : Reg) (w : Word) : (d.awr a r w).path = d.path := rfl
@[simp] theorem Dev.awr_logs (d : Dev) (a : Nat) (r : Reg) (w : Word) : (d.awr a r w).logs = d.logs := rfl
@[simp] theorem Dev.awr_stall (d : Dev) (a : Nat) (r : Reg) (w : Word) : (d.awr a r w).stall = d.stall := rfl
@[simp] theorem Dev.awr_slice (d : Dev) (a : Nat) (r : Reg) (w : Word) : (d.awr a r w).slice = d.slice := rfl
@[simp] theorem Dev.awr_saf (d : Dev) (a : Nat) (r : Reg) (w : Word) : (d.awr a r w).saf = d.saf := rfl
@[simp] theorem Dev.awr_fn (d : Dev) (a : Nat) (r : Reg) (w : Word) : (d.awr a r w).fn = d.fn := rfl
@[simp] theorem Dev.awr_pwr (d : Dev) (a : Nat) (r : Reg) (w : Word) : (d.awr a r w).pwr = d.pwr := rfl
@[simp] theorem Dev.awr_boot (d : Dev) (a : Nat) (r : Reg) (w : Word) : (d.awr a r w).boot = d.boot := rfl
@[simp] theorem Dev.awr_mgt (d : Dev) (a : Nat) (r : Reg) (w : Word) : (d.awr a r w).mgt = d.mgt := rfl
@[simp] theorem Dev.awr_mkl (d : Dev) (a : Nat) (r : Reg) (w : Word) : (d.awr a r w).mkl = d.mkl := rfl
@[simp] theorem Dev.awr_dma (d : Dev) (a : Nat) (r : Reg) (w : Word) : (d.awr a r w).dma = d.dma := rfl
@[simp] theorem Dev.awr_cxp (d : Dev) (a : Nat) (r : Reg) (w : Word) : (d.awr a r w).cxp = d.cxp := rfl
@[simp] theorem Dev.awr_brg (d : Dev) (a : Nat) (r : Reg) (w : Word) : (d.awr a r w).brg = d.brg := rfl

@[simp] theorem Dev.awn_regs (d : Dev) (a : Nat) (r : Reg) (n : Nat) : (d.awn a r n).regs = d.regs := rfl
@[simp] theorem Dev.awn_free (d : Dev) (a : Nat) (r : Reg) (n : Nat) : (d.awn a r n).free = d.free := rfl
@[simp] theorem Dev.awn_now (d : Dev) (a : Nat) (r : Reg) (n : Nat) : (d.awn a r n).now = d.now := rfl
@[simp] theorem Dev.awn_out (d : Dev) (a : Nat) (r : Reg) (n : Nat) : (d.awn a r n).out = d.out := rfl
@[simp] theorem Dev.awn_staging (d : Dev) (a : Nat) (r : Reg) (n : Nat) : (d.awn a r n).staging = d.staging := rfl
@[simp] theorem Dev.awn_yard (d : Dev) (a : Nat) (r : Reg) (n : Nat) : (d.awn a r n).yard = d.yard := rfl
@[simp] theorem Dev.awn_ev (d : Dev) (a : Nat) (r : Reg) (n : Nat) : (d.awn a r n).ev = d.ev := rfl
@[simp] theorem Dev.awn_tally (d : Dev) (a : Nat) (r : Reg) (n : Nat) : (d.awn a r n).tally = d.tally := rfl
@[simp] theorem Dev.awn_cyc (d : Dev) (a : Nat) (r : Reg) (n : Nat) : (d.awn a r n).cyc = d.cyc := rfl
@[simp] theorem Dev.awn_ports (d : Dev) (a : Nat) (r : Reg) (n : Nat) : (d.awn a r n).ports = d.ports := rfl
@[simp] theorem Dev.awn_sched (d : Dev) (a : Nat) (r : Reg) (n : Nat) : (d.awn a r n).sched = d.sched := rfl
@[simp] theorem Dev.awn_path (d : Dev) (a : Nat) (r : Reg) (n : Nat) : (d.awn a r n).path = d.path := rfl
@[simp] theorem Dev.awn_logs (d : Dev) (a : Nat) (r : Reg) (n : Nat) : (d.awn a r n).logs = d.logs := rfl
@[simp] theorem Dev.awn_stall (d : Dev) (a : Nat) (r : Reg) (n : Nat) : (d.awn a r n).stall = d.stall := rfl
@[simp] theorem Dev.awn_slice (d : Dev) (a : Nat) (r : Reg) (n : Nat) : (d.awn a r n).slice = d.slice := rfl
@[simp] theorem Dev.awn_saf (d : Dev) (a : Nat) (r : Reg) (n : Nat) : (d.awn a r n).saf = d.saf := rfl
@[simp] theorem Dev.awn_fn (d : Dev) (a : Nat) (r : Reg) (n : Nat) : (d.awn a r n).fn = d.fn := rfl
@[simp] theorem Dev.awn_pwr (d : Dev) (a : Nat) (r : Reg) (n : Nat) : (d.awn a r n).pwr = d.pwr := rfl
@[simp] theorem Dev.awn_boot (d : Dev) (a : Nat) (r : Reg) (n : Nat) : (d.awn a r n).boot = d.boot := rfl
@[simp] theorem Dev.awn_mgt (d : Dev) (a : Nat) (r : Reg) (n : Nat) : (d.awn a r n).mgt = d.mgt := rfl
@[simp] theorem Dev.awn_mkl (d : Dev) (a : Nat) (r : Reg) (n : Nat) : (d.awn a r n).mkl = d.mkl := rfl
@[simp] theorem Dev.awn_dma (d : Dev) (a : Nat) (r : Reg) (n : Nat) : (d.awn a r n).dma = d.dma := rfl
@[simp] theorem Dev.awn_cxp (d : Dev) (a : Nat) (r : Reg) (n : Nat) : (d.awn a r n).cxp = d.cxp := rfl
@[simp] theorem Dev.awn_brg (d : Dev) (a : Nat) (r : Reg) (n : Nat) : (d.awn a r n).brg = d.brg := rfl

@[simp] theorem Dev.emit_regs (d : Dev) (o : Out) : (d.emit o).regs = d.regs := rfl
@[simp] theorem Dev.emit_aregs (d : Dev) (o : Out) : (d.emit o).aregs = d.aregs := rfl
@[simp] theorem Dev.emit_free (d : Dev) (o : Out) : (d.emit o).free = d.free := rfl
@[simp] theorem Dev.emit_now (d : Dev) (o : Out) : (d.emit o).now = d.now := rfl
@[simp] theorem Dev.emit_staging (d : Dev) (o : Out) : (d.emit o).staging = d.staging := rfl
@[simp] theorem Dev.emit_yard (d : Dev) (o : Out) : (d.emit o).yard = d.yard := rfl
@[simp] theorem Dev.emit_ev (d : Dev) (o : Out) : (d.emit o).ev = d.ev := rfl
@[simp] theorem Dev.emit_tally (d : Dev) (o : Out) : (d.emit o).tally = d.tally := rfl
@[simp] theorem Dev.emit_cyc (d : Dev) (o : Out) : (d.emit o).cyc = d.cyc := rfl
@[simp] theorem Dev.emit_ports (d : Dev) (o : Out) : (d.emit o).ports = d.ports := rfl
@[simp] theorem Dev.emit_sched (d : Dev) (o : Out) : (d.emit o).sched = d.sched := rfl
@[simp] theorem Dev.emit_path (d : Dev) (o : Out) : (d.emit o).path = d.path := rfl
@[simp] theorem Dev.emit_logs (d : Dev) (o : Out) : (d.emit o).logs = d.logs := rfl
@[simp] theorem Dev.emit_stall (d : Dev) (o : Out) : (d.emit o).stall = d.stall := rfl
@[simp] theorem Dev.emit_slice (d : Dev) (o : Out) : (d.emit o).slice = d.slice := rfl
@[simp] theorem Dev.emit_saf (d : Dev) (o : Out) : (d.emit o).saf = d.saf := rfl
@[simp] theorem Dev.emit_fn (d : Dev) (o : Out) : (d.emit o).fn = d.fn := rfl
@[simp] theorem Dev.emit_pwr (d : Dev) (o : Out) : (d.emit o).pwr = d.pwr := rfl
@[simp] theorem Dev.emit_boot (d : Dev) (o : Out) : (d.emit o).boot = d.boot := rfl
@[simp] theorem Dev.emit_mgt (d : Dev) (o : Out) : (d.emit o).mgt = d.mgt := rfl
@[simp] theorem Dev.emit_mkl (d : Dev) (o : Out) : (d.emit o).mkl = d.mkl := rfl
@[simp] theorem Dev.emit_dma (d : Dev) (o : Out) : (d.emit o).dma = d.dma := rfl
@[simp] theorem Dev.emit_cxp (d : Dev) (o : Out) : (d.emit o).cxp = d.cxp := rfl
@[simp] theorem Dev.emit_brg (d : Dev) (o : Out) : (d.emit o).brg = d.brg := rfl

end Sys2Proof.Machine
end

