-- ==== Sys2Proof/Laws/State.lean ====
section
/-! SUPPORT. The state: one lemma for each field and each named update, and what the shared forms of a meaning answer. -/

namespace Sys2Proof.Machine

/-! ### The queue, the locks and the device -/

@[simp] theorem State.pinned_pending (s : State) (d : Dev) : (s.pinned d).pending = s.pending := rfl
@[simp] theorem State.pinned_plock (s : State) (d : Dev) : (s.pinned d).plock = s.plock := rfl
@[simp] theorem State.pinned_dev (s : State) (d : Dev) : (s.pinned d).dev = d.padSync.settle := rfl
@[simp] theorem State.settled_pending (s : State) (d : Dev) : (s.settled d).pending = s.pending := rfl
@[simp] theorem State.settled_plock (s : State) (d : Dev) : (s.settled d).plock = s.plock := rfl
@[simp] theorem State.setDev_pending (s : State) (d : Dev) : ({ s with dev := d } : State).pending = s.pending := rfl
@[simp] theorem State.setDev_plock (s : State) (d : Dev) : ({ s with dev := d } : State).plock = s.plock := rfl
@[simp] theorem State.setPlock_pending (s : State) (l : List Nat) : ({ s with plock := l } : State).pending = s.pending := rfl
@[simp] theorem State.setPlock_dev (s : State) (l : List Nat) : ({ s with plock := l } : State).dev = s.dev := rfl
@[simp] theorem State.setPending_plock (s : State) (l : List Instr) : ({ s with pending := l } : State).plock = s.plock := rfl
@[simp] theorem State.setPending_dev (s : State) (l : List Instr) : ({ s with pending := l } : State).dev = s.dev := rfl

theorem State.act_eq (s : State) (f : Dev → Dev) : s.act f = .next (s.pinned (f s.dev)) := rfl
theorem State.eff_eq (s : State) (f : Dev → Dev) : s.eff f = .next (s.settled (f s.dev)) := rfl
theorem State.effL_eq (s : State) (f : List Nat → Dev → List Nat × Dev) :
    s.effL f = .next (({ s with plock := (f s.plock s.dev).1 } : State).settled (f s.plock s.dev).2) := rfl

/-! ### Named updates of one part of the device -/

@[simp] theorem Dev.setCyc_regs (d : Dev) (k : Nat) (x : CycDom) : (d.setCyc k x).regs = d.regs := rfl
@[simp] theorem Dev.setCyc_aregs (d : Dev) (k : Nat) (x : CycDom) : (d.setCyc k x).aregs = d.aregs := rfl
@[simp] theorem Dev.setCyc_free (d : Dev) (k : Nat) (x : CycDom) : (d.setCyc k x).free = d.free := rfl
@[simp] theorem Dev.setCyc_now (d : Dev) (k : Nat) (x : CycDom) : (d.setCyc k x).now = d.now := rfl
@[simp] theorem Dev.setCyc_out (d : Dev) (k : Nat) (x : CycDom) : (d.setCyc k x).out = d.out := rfl
@[simp] theorem Dev.setCyc_staging (d : Dev) (k : Nat) (x : CycDom) : (d.setCyc k x).staging = d.staging := rfl
@[simp] theorem Dev.setCyc_yard (d : Dev) (k : Nat) (x : CycDom) : (d.setCyc k x).yard = d.yard := rfl
@[simp] theorem Dev.setCyc_ev (d : Dev) (k : Nat) (x : CycDom) : (d.setCyc k x).ev = d.ev := rfl
@[simp] theorem Dev.setCyc_tally (d : Dev) (k : Nat) (x : CycDom) : (d.setCyc k x).tally = d.tally := rfl
@[simp] theorem Dev.setCyc_ports (d : Dev) (k : Nat) (x : CycDom) : (d.setCyc k x).ports = d.ports := rfl
@[simp] theorem Dev.setCyc_sched (d : Dev) (k : Nat) (x : CycDom) : (d.setCyc k x).sched = d.sched := rfl
@[simp] theorem Dev.setCyc_path (d : Dev) (k : Nat) (x : CycDom) : (d.setCyc k x).path = d.path := rfl
@[simp] theorem Dev.setCyc_logs (d : Dev) (k : Nat) (x : CycDom) : (d.setCyc k x).logs = d.logs := rfl
@[simp] theorem Dev.setCyc_stall (d : Dev) (k : Nat) (x : CycDom) : (d.setCyc k x).stall = d.stall := rfl
@[simp] theorem Dev.setCyc_slice (d : Dev) (k : Nat) (x : CycDom) : (d.setCyc k x).slice = d.slice := rfl
@[simp] theorem Dev.setCyc_saf (d : Dev) (k : Nat) (x : CycDom) : (d.setCyc k x).saf = d.saf := rfl
@[simp] theorem Dev.setCyc_fn (d : Dev) (k : Nat) (x : CycDom) : (d.setCyc k x).fn = d.fn := rfl
@[simp] theorem Dev.setCyc_pwr (d : Dev) (k : Nat) (x : CycDom) : (d.setCyc k x).pwr = d.pwr := rfl
@[simp] theorem Dev.setCyc_boot (d : Dev) (k : Nat) (x : CycDom) : (d.setCyc k x).boot = d.boot := rfl
@[simp] theorem Dev.setCyc_mgt (d : Dev) (k : Nat) (x : CycDom) : (d.setCyc k x).mgt = d.mgt := rfl
@[simp] theorem Dev.setCyc_mkl (d : Dev) (k : Nat) (x : CycDom) : (d.setCyc k x).mkl = d.mkl := rfl
@[simp] theorem Dev.setCyc_dma (d : Dev) (k : Nat) (x : CycDom) : (d.setCyc k x).dma = d.dma := rfl
@[simp] theorem Dev.setCyc_cxp (d : Dev) (k : Nat) (x : CycDom) : (d.setCyc k x).cxp = d.cxp := rfl
@[simp] theorem Dev.setCyc_brg (d : Dev) (k : Nat) (x : CycDom) : (d.setCyc k x).brg = d.brg := rfl
@[simp] theorem Dev.setCyc_rd (d : Dev) (k : Nat) (x : CycDom) (r : Reg) (i : Nat) : (d.setCyc k x).rd r i = d.rd r i := rfl

@[simp] theorem Dev.setPst_regs (d : Dev) (p : Nat) (x : PortSt) : (d.setPst p x).regs = d.regs := rfl
@[simp] theorem Dev.setPst_aregs (d : Dev) (p : Nat) (x : PortSt) : (d.setPst p x).aregs = d.aregs := rfl
@[simp] theorem Dev.setPst_free (d : Dev) (p : Nat) (x : PortSt) : (d.setPst p x).free = d.free := rfl
@[simp] theorem Dev.setPst_now (d : Dev) (p : Nat) (x : PortSt) : (d.setPst p x).now = d.now := rfl
@[simp] theorem Dev.setPst_out (d : Dev) (p : Nat) (x : PortSt) : (d.setPst p x).out = d.out := rfl
@[simp] theorem Dev.setPst_staging (d : Dev) (p : Nat) (x : PortSt) : (d.setPst p x).staging = d.staging := rfl
@[simp] theorem Dev.setPst_yard (d : Dev) (p : Nat) (x : PortSt) : (d.setPst p x).yard = d.yard := rfl
@[simp] theorem Dev.setPst_ev (d : Dev) (p : Nat) (x : PortSt) : (d.setPst p x).ev = d.ev := rfl
@[simp] theorem Dev.setPst_tally (d : Dev) (p : Nat) (x : PortSt) : (d.setPst p x).tally = d.tally := rfl
@[simp] theorem Dev.setPst_cyc (d : Dev) (p : Nat) (x : PortSt) : (d.setPst p x).cyc = d.cyc := rfl
@[simp] theorem Dev.setPst_sched (d : Dev) (p : Nat) (x : PortSt) : (d.setPst p x).sched = d.sched := rfl
@[simp] theorem Dev.setPst_path (d : Dev) (p : Nat) (x : PortSt) : (d.setPst p x).path = d.path := rfl
@[simp] theorem Dev.setPst_logs (d : Dev) (p : Nat) (x : PortSt) : (d.setPst p x).logs = d.logs := rfl
@[simp] theorem Dev.setPst_stall (d : Dev) (p : Nat) (x : PortSt) : (d.setPst p x).stall = d.stall := rfl
@[simp] theorem Dev.setPst_slice (d : Dev) (p : Nat) (x : PortSt) : (d.setPst p x).slice = d.slice := rfl
@[simp] theorem Dev.setPst_saf (d : Dev) (p : Nat) (x : PortSt) : (d.setPst p x).saf = d.saf := rfl
@[simp] theorem Dev.setPst_fn (d : Dev) (p : Nat) (x : PortSt) : (d.setPst p x).fn = d.fn := rfl
@[simp] theorem Dev.setPst_pwr (d : Dev) (p : Nat) (x : PortSt) : (d.setPst p x).pwr = d.pwr := rfl
@[simp] theorem Dev.setPst_boot (d : Dev) (p : Nat) (x : PortSt) : (d.setPst p x).boot = d.boot := rfl
@[simp] theorem Dev.setPst_mgt (d : Dev) (p : Nat) (x : PortSt) : (d.setPst p x).mgt = d.mgt := rfl
@[simp] theorem Dev.setPst_mkl (d : Dev) (p : Nat) (x : PortSt) : (d.setPst p x).mkl = d.mkl := rfl
@[simp] theorem Dev.setPst_dma (d : Dev) (p : Nat) (x : PortSt) : (d.setPst p x).dma = d.dma := rfl
@[simp] theorem Dev.setPst_cxp (d : Dev) (p : Nat) (x : PortSt) : (d.setPst p x).cxp = d.cxp := rfl
@[simp] theorem Dev.setPst_brg (d : Dev) (p : Nat) (x : PortSt) : (d.setPst p x).brg = d.brg := rfl
@[simp] theorem Dev.setPst_rd (d : Dev) (p : Nat) (x : PortSt) (r : Reg) (i : Nat) : (d.setPst p x).rd r i = d.rd r i := rfl

@[simp] theorem Dev.setSlot_regs (d : Dev) (k : Nat) (x : Slot) : (d.setSlot k x).regs = d.regs := rfl
@[simp] theorem Dev.setSlot_aregs (d : Dev) (k : Nat) (x : Slot) : (d.setSlot k x).aregs = d.aregs := rfl
@[simp] theorem Dev.setSlot_free (d : Dev) (k : Nat) (x : Slot) : (d.setSlot k x).free = d.free := rfl
@[simp] theorem Dev.setSlot_now (d : Dev) (k : Nat) (x : Slot) : (d.setSlot k x).now = d.now := rfl
@[simp] theorem Dev.setSlot_out (d : Dev) (k : Nat) (x : Slot) : (d.setSlot k x).out = d.out := rfl
@[simp] theorem Dev.setSlot_staging (d : Dev) (k : Nat) (x : Slot) : (d.setSlot k x).staging = d.staging := rfl
@[simp] theorem Dev.setSlot_yard (d : Dev) (k : Nat) (x : Slot) : (d.setSlot k x).yard = d.yard := rfl
@[simp] theorem Dev.setSlot_ev (d : Dev) (k : Nat) (x : Slot) : (d.setSlot k x).ev = d.ev := rfl
@[simp] theorem Dev.setSlot_tally (d : Dev) (k : Nat) (x : Slot) : (d.setSlot k x).tally = d.tally := rfl
@[simp] theorem Dev.setSlot_cyc (d : Dev) (k : Nat) (x : Slot) : (d.setSlot k x).cyc = d.cyc := rfl
@[simp] theorem Dev.setSlot_sched (d : Dev) (k : Nat) (x : Slot) : (d.setSlot k x).sched = d.sched := rfl
@[simp] theorem Dev.setSlot_path (d : Dev) (k : Nat) (x : Slot) : (d.setSlot k x).path = d.path := rfl
@[simp] theorem Dev.setSlot_logs (d : Dev) (k : Nat) (x : Slot) : (d.setSlot k x).logs = d.logs := rfl
@[simp] theorem Dev.setSlot_stall (d : Dev) (k : Nat) (x : Slot) : (d.setSlot k x).stall = d.stall := rfl
@[simp] theorem Dev.setSlot_slice (d : Dev) (k : Nat) (x : Slot) : (d.setSlot k x).slice = d.slice := rfl
@[simp] theorem Dev.setSlot_saf (d : Dev) (k : Nat) (x : Slot) : (d.setSlot k x).saf = d.saf := rfl
@[simp] theorem Dev.setSlot_fn (d : Dev) (k : Nat) (x : Slot) : (d.setSlot k x).fn = d.fn := rfl
@[simp] theorem Dev.setSlot_pwr (d : Dev) (k : Nat) (x : Slot) : (d.setSlot k x).pwr = d.pwr := rfl
@[simp] theorem Dev.setSlot_boot (d : Dev) (k : Nat) (x : Slot) : (d.setSlot k x).boot = d.boot := rfl
@[simp] theorem Dev.setSlot_mgt (d : Dev) (k : Nat) (x : Slot) : (d.setSlot k x).mgt = d.mgt := rfl
@[simp] theorem Dev.setSlot_mkl (d : Dev) (k : Nat) (x : Slot) : (d.setSlot k x).mkl = d.mkl := rfl
@[simp] theorem Dev.setSlot_dma (d : Dev) (k : Nat) (x : Slot) : (d.setSlot k x).dma = d.dma := rfl
@[simp] theorem Dev.setSlot_cxp (d : Dev) (k : Nat) (x : Slot) : (d.setSlot k x).cxp = d.cxp := rfl
@[simp] theorem Dev.setSlot_brg (d : Dev) (k : Nat) (x : Slot) : (d.setSlot k x).brg = d.brg := rfl
@[simp] theorem Dev.setSlot_rd (d : Dev) (k : Nat) (x : Slot) (r : Reg) (i : Nat) : (d.setSlot k x).rd r i = d.rd r i := rfl

@[simp] theorem Dev.setCalLane_regs (d : Dev) (p k : Nat) (x : CalLane) : (d.setCalLane p k x).regs = d.regs := rfl
@[simp] theorem Dev.setCalLane_aregs (d : Dev) (p k : Nat) (x : CalLane) : (d.setCalLane p k x).aregs = d.aregs := rfl
@[simp] theorem Dev.setCalLane_free (d : Dev) (p k : Nat) (x : CalLane) : (d.setCalLane p k x).free = d.free := rfl
@[simp] theorem Dev.setCalLane_now (d : Dev) (p k : Nat) (x : CalLane) : (d.setCalLane p k x).now = d.now := rfl
@[simp] theorem Dev.setCalLane_out (d : Dev) (p k : Nat) (x : CalLane) : (d.setCalLane p k x).out = d.out := rfl
@[simp] theorem Dev.setCalLane_staging (d : Dev) (p k : Nat) (x : CalLane) : (d.setCalLane p k x).staging = d.staging := rfl
@[simp] theorem Dev.setCalLane_yard (d : Dev) (p k : Nat) (x : CalLane) : (d.setCalLane p k x).yard = d.yard := rfl
@[simp] theorem Dev.setCalLane_ev (d : Dev) (p k : Nat) (x : CalLane) : (d.setCalLane p k x).ev = d.ev := rfl
@[simp] theorem Dev.setCalLane_tally (d : Dev) (p k : Nat) (x : CalLane) : (d.setCalLane p k x).tally = d.tally := rfl
@[simp] theorem Dev.setCalLane_cyc (d : Dev) (p k : Nat) (x : CalLane) : (d.setCalLane p k x).cyc = d.cyc := rfl
@[simp] theorem Dev.setCalLane_sched (d : Dev) (p k : Nat) (x : CalLane) : (d.setCalLane p k x).sched = d.sched := rfl
@[simp] theorem Dev.setCalLane_path (d : Dev) (p k : Nat) (x : CalLane) : (d.setCalLane p k x).path = d.path := rfl
@[simp] theorem Dev.setCalLane_logs (d : Dev) (p k : Nat) (x : CalLane) : (d.setCalLane p k x).logs = d.logs := rfl
@[simp] theorem Dev.setCalLane_stall (d : Dev) (p k : Nat) (x : CalLane) : (d.setCalLane p k x).stall = d.stall := rfl
@[simp] theorem Dev.setCalLane_slice (d : Dev) (p k : Nat) (x : CalLane) : (d.setCalLane p k x).slice = d.slice := rfl
@[simp] theorem Dev.setCalLane_saf (d : Dev) (p k : Nat) (x : CalLane) : (d.setCalLane p k x).saf = d.saf := rfl
@[simp] theorem Dev.setCalLane_fn (d : Dev) (p k : Nat) (x : CalLane) : (d.setCalLane p k x).fn = d.fn := rfl
@[simp] theorem Dev.setCalLane_pwr (d : Dev) (p k : Nat) (x : CalLane) : (d.setCalLane p k x).pwr = d.pwr := rfl
@[simp] theorem Dev.setCalLane_boot (d : Dev) (p k : Nat) (x : CalLane) : (d.setCalLane p k x).boot = d.boot := rfl
@[simp] theorem Dev.setCalLane_mgt (d : Dev) (p k : Nat) (x : CalLane) : (d.setCalLane p k x).mgt = d.mgt := rfl
@[simp] theorem Dev.setCalLane_mkl (d : Dev) (p k : Nat) (x : CalLane) : (d.setCalLane p k x).mkl = d.mkl := rfl
@[simp] theorem Dev.setCalLane_dma (d : Dev) (p k : Nat) (x : CalLane) : (d.setCalLane p k x).dma = d.dma := rfl
@[simp] theorem Dev.setCalLane_cxp (d : Dev) (p k : Nat) (x : CalLane) : (d.setCalLane p k x).cxp = d.cxp := rfl
@[simp] theorem Dev.setCalLane_brg (d : Dev) (p k : Nat) (x : CalLane) : (d.setCalLane p k x).brg = d.brg := rfl
@[simp] theorem Dev.setCalLane_rd (d : Dev) (p k : Nat) (x : CalLane) (r : Reg) (i : Nat) : (d.setCalLane p k x).rd r i = d.rd r i := rfl

@[simp] theorem Dev.setStall_regs (d : Dev) (x : Stall) : (d.setStall x).regs = d.regs := rfl
@[simp] theorem Dev.setStall_aregs (d : Dev) (x : Stall) : (d.setStall x).aregs = d.aregs := rfl
@[simp] theorem Dev.setStall_free (d : Dev) (x : Stall) : (d.setStall x).free = d.free := rfl
@[simp] theorem Dev.setStall_now (d : Dev) (x : Stall) : (d.setStall x).now = d.now := rfl
@[simp] theorem Dev.setStall_out (d : Dev) (x : Stall) : (d.setStall x).out = d.out := rfl
@[simp] theorem Dev.setStall_staging (d : Dev) (x : Stall) : (d.setStall x).staging = d.staging := rfl
@[simp] theorem Dev.setStall_yard (d : Dev) (x : Stall) : (d.setStall x).yard = d.yard := rfl
@[simp] theorem Dev.setStall_ev (d : Dev) (x : Stall) : (d.setStall x).ev = d.ev := rfl
@[simp] theorem Dev.setStall_tally (d : Dev) (x : Stall) : (d.setStall x).tally = d.tally := rfl
@[simp] theorem Dev.setStall_cyc (d : Dev) (x : Stall) : (d.setStall x).cyc = d.cyc := rfl
@[simp] theorem Dev.setStall_ports (d : Dev) (x : Stall) : (d.setStall x).ports = d.ports := rfl
@[simp] theorem Dev.setStall_sched (d : Dev) (x : Stall) : (d.setStall x).sched = d.sched := rfl
@[simp] theorem Dev.setStall_path (d : Dev) (x : Stall) : (d.setStall x).path = d.path := rfl
@[simp] theorem Dev.setStall_logs (d : Dev) (x : Stall) : (d.setStall x).logs = d.logs := rfl
@[simp] theorem Dev.setStall_slice (d : Dev) (x : Stall) : (d.setStall x).slice = d.slice := rfl
@[simp] theorem Dev.setStall_saf (d : Dev) (x : Stall) : (d.setStall x).saf = d.saf := rfl
@[simp] theorem Dev.setStall_fn (d : Dev) (x : Stall) : (d.setStall x).fn = d.fn := rfl
@[simp] theorem Dev.setStall_pwr (d : Dev) (x : Stall) : (d.setStall x).pwr = d.pwr := rfl
@[simp] theorem Dev.setStall_boot (d : Dev) (x : Stall) : (d.setStall x).boot = d.boot := rfl
@[simp] theorem Dev.setStall_mgt (d : Dev) (x : Stall) : (d.setStall x).mgt = d.mgt := rfl
@[simp] theorem Dev.setStall_mkl (d : Dev) (x : Stall) : (d.setStall x).mkl = d.mkl := rfl
@[simp] theorem Dev.setStall_dma (d : Dev) (x : Stall) : (d.setStall x).dma = d.dma := rfl
@[simp] theorem Dev.setStall_cxp (d : Dev) (x : Stall) : (d.setStall x).cxp = d.cxp := rfl
@[simp] theorem Dev.setStall_brg (d : Dev) (x : Stall) : (d.setStall x).brg = d.brg := rfl
@[simp] theorem Dev.setStall_rd (d : Dev) (x : Stall) (r : Reg) (i : Nat) : (d.setStall x).rd r i = d.rd r i := rfl

@[simp] theorem Dev.setCxp_regs (d : Dev) (x : Cxp) : (d.setCxp x).regs = d.regs := rfl
@[simp] theorem Dev.setCxp_aregs (d : Dev) (x : Cxp) : (d.setCxp x).aregs = d.aregs := rfl
@[simp] theorem Dev.setCxp_free (d : Dev) (x : Cxp) : (d.setCxp x).free = d.free := rfl
@[simp] theorem Dev.setCxp_now (d : Dev) (x : Cxp) : (d.setCxp x).now = d.now := rfl
@[simp] theorem Dev.setCxp_out (d : Dev) (x : Cxp) : (d.setCxp x).out = d.out := rfl
@[simp] theorem Dev.setCxp_staging (d : Dev) (x : Cxp) : (d.setCxp x).staging = d.staging := rfl
@[simp] theorem Dev.setCxp_yard (d : Dev) (x : Cxp) : (d.setCxp x).yard = d.yard := rfl
@[simp] theorem Dev.setCxp_ev (d : Dev) (x : Cxp) : (d.setCxp x).ev = d.ev := rfl
@[simp] theorem Dev.setCxp_tally (d : Dev) (x : Cxp) : (d.setCxp x).tally = d.tally := rfl
@[simp] theorem Dev.setCxp_cyc (d : Dev) (x : Cxp) : (d.setCxp x).cyc = d.cyc := rfl
@[simp] theorem Dev.setCxp_ports (d : Dev) (x : Cxp) : (d.setCxp x).ports = d.ports := rfl
@[simp] theorem Dev.setCxp_sched (d : Dev) (x : Cxp) : (d.setCxp x).sched = d.sched := rfl
@[simp] theorem Dev.setCxp_path (d : Dev) (x : Cxp) : (d.setCxp x).path = d.path := rfl
@[simp] theorem Dev.setCxp_logs (d : Dev) (x : Cxp) : (d.setCxp x).logs = d.logs := rfl
@[simp] theorem Dev.setCxp_stall (d : Dev) (x : Cxp) : (d.setCxp x).stall = d.stall := rfl
@[simp] theorem Dev.setCxp_slice (d : Dev) (x : Cxp) : (d.setCxp x).slice = d.slice := rfl
@[simp] theorem Dev.setCxp_saf (d : Dev) (x : Cxp) : (d.setCxp x).saf = d.saf := rfl
@[simp] theorem Dev.setCxp_fn (d : Dev) (x : Cxp) : (d.setCxp x).fn = d.fn := rfl
@[simp] theorem Dev.setCxp_pwr (d : Dev) (x : Cxp) : (d.setCxp x).pwr = d.pwr := rfl
@[simp] theorem Dev.setCxp_boot (d : Dev) (x : Cxp) : (d.setCxp x).boot = d.boot := rfl
@[simp] theorem Dev.setCxp_mgt (d : Dev) (x : Cxp) : (d.setCxp x).mgt = d.mgt := rfl
@[simp] theorem Dev.setCxp_mkl (d : Dev) (x : Cxp) : (d.setCxp x).mkl = d.mkl := rfl
@[simp] theorem Dev.setCxp_dma (d : Dev) (x : Cxp) : (d.setCxp x).dma = d.dma := rfl
@[simp] theorem Dev.setCxp_brg (d : Dev) (x : Cxp) : (d.setCxp x).brg = d.brg := rfl
@[simp] theorem Dev.setCxp_rd (d : Dev) (x : Cxp) (r : Reg) (i : Nat) : (d.setCxp x).rd r i = d.rd r i := rfl

@[simp] theorem Dev.setBrg_regs (d : Dev) (x : Brg) : (d.setBrg x).regs = d.regs := rfl
@[simp] theorem Dev.setBrg_aregs (d : Dev) (x : Brg) : (d.setBrg x).aregs = d.aregs := rfl
@[simp] theorem Dev.setBrg_free (d : Dev) (x : Brg) : (d.setBrg x).free = d.free := rfl
@[simp] theorem Dev.setBrg_now (d : Dev) (x : Brg) : (d.setBrg x).now = d.now := rfl
@[simp] theorem Dev.setBrg_out (d : Dev) (x : Brg) : (d.setBrg x).out = d.out := rfl
@[simp] theorem Dev.setBrg_staging (d : Dev) (x : Brg) : (d.setBrg x).staging = d.staging := rfl
@[simp] theorem Dev.setBrg_yard (d : Dev) (x : Brg) : (d.setBrg x).yard = d.yard := rfl
@[simp] theorem Dev.setBrg_ev (d : Dev) (x : Brg) : (d.setBrg x).ev = d.ev := rfl
@[simp] theorem Dev.setBrg_tally (d : Dev) (x : Brg) : (d.setBrg x).tally = d.tally := rfl
@[simp] theorem Dev.setBrg_cyc (d : Dev) (x : Brg) : (d.setBrg x).cyc = d.cyc := rfl
@[simp] theorem Dev.setBrg_ports (d : Dev) (x : Brg) : (d.setBrg x).ports = d.ports := rfl
@[simp] theorem Dev.setBrg_sched (d : Dev) (x : Brg) : (d.setBrg x).sched = d.sched := rfl
@[simp] theorem Dev.setBrg_path (d : Dev) (x : Brg) : (d.setBrg x).path = d.path := rfl
@[simp] theorem Dev.setBrg_logs (d : Dev) (x : Brg) : (d.setBrg x).logs = d.logs := rfl
@[simp] theorem Dev.setBrg_stall (d : Dev) (x : Brg) : (d.setBrg x).stall = d.stall := rfl
@[simp] theorem Dev.setBrg_slice (d : Dev) (x : Brg) : (d.setBrg x).slice = d.slice := rfl
@[simp] theorem Dev.setBrg_saf (d : Dev) (x : Brg) : (d.setBrg x).saf = d.saf := rfl
@[simp] theorem Dev.setBrg_fn (d : Dev) (x : Brg) : (d.setBrg x).fn = d.fn := rfl
@[simp] theorem Dev.setBrg_pwr (d : Dev) (x : Brg) : (d.setBrg x).pwr = d.pwr := rfl
@[simp] theorem Dev.setBrg_boot (d : Dev) (x : Brg) : (d.setBrg x).boot = d.boot := rfl
@[simp] theorem Dev.setBrg_mgt (d : Dev) (x : Brg) : (d.setBrg x).mgt = d.mgt := rfl
@[simp] theorem Dev.setBrg_mkl (d : Dev) (x : Brg) : (d.setBrg x).mkl = d.mkl := rfl
@[simp] theorem Dev.setBrg_dma (d : Dev) (x : Brg) : (d.setBrg x).dma = d.dma := rfl
@[simp] theorem Dev.setBrg_cxp (d : Dev) (x : Brg) : (d.setBrg x).cxp = d.cxp := rfl
@[simp] theorem Dev.setBrg_rd (d : Dev) (x : Brg) (r : Reg) (i : Nat) : (d.setBrg x).rd r i = d.rd r i := rfl

@[simp] theorem Dev.setLedger_regs (d : Dev) (x : List Led) : (d.setLedger x).regs = d.regs := rfl
@[simp] theorem Dev.setLedger_aregs (d : Dev) (x : List Led) : (d.setLedger x).aregs = d.aregs := rfl
@[simp] theorem Dev.setLedger_free (d : Dev) (x : List Led) : (d.setLedger x).free = d.free := rfl
@[simp] theorem Dev.setLedger_now (d : Dev) (x : List Led) : (d.setLedger x).now = d.now := rfl
@[simp] theorem Dev.setLedger_out (d : Dev) (x : List Led) : (d.setLedger x).out = d.out := rfl
@[simp] theorem Dev.setLedger_staging (d : Dev) (x : List Led) : (d.setLedger x).staging = d.staging := rfl
@[simp] theorem Dev.setLedger_yard (d : Dev) (x : List Led) : (d.setLedger x).yard = d.yard := rfl
@[simp] theorem Dev.setLedger_ev (d : Dev) (x : List Led) : (d.setLedger x).ev = d.ev := rfl
@[simp] theorem Dev.setLedger_tally (d : Dev) (x : List Led) : (d.setLedger x).tally = d.tally := rfl
@[simp] theorem Dev.setLedger_cyc (d : Dev) (x : List Led) : (d.setLedger x).cyc = d.cyc := rfl
@[simp] theorem Dev.setLedger_ports (d : Dev) (x : List Led) : (d.setLedger x).ports = d.ports := rfl
@[simp] theorem Dev.setLedger_sched (d : Dev) (x : List Led) : (d.setLedger x).sched = d.sched := rfl
@[simp] theorem Dev.setLedger_path (d : Dev) (x : List Led) : (d.setLedger x).path = d.path := rfl
@[simp] theorem Dev.setLedger_logs (d : Dev) (x : List Led) : (d.setLedger x).logs = d.logs := rfl
@[simp] theorem Dev.setLedger_stall (d : Dev) (x : List Led) : (d.setLedger x).stall = d.stall := rfl
@[simp] theorem Dev.setLedger_saf (d : Dev) (x : List Led) : (d.setLedger x).saf = d.saf := rfl
@[simp] theorem Dev.setLedger_fn (d : Dev) (x : List Led) : (d.setLedger x).fn = d.fn := rfl
@[simp] theorem Dev.setLedger_pwr (d : Dev) (x : List Led) : (d.setLedger x).pwr = d.pwr := rfl
@[simp] theorem Dev.setLedger_boot (d : Dev) (x : List Led) : (d.setLedger x).boot = d.boot := rfl
@[simp] theorem Dev.setLedger_mgt (d : Dev) (x : List Led) : (d.setLedger x).mgt = d.mgt := rfl
@[simp] theorem Dev.setLedger_mkl (d : Dev) (x : List Led) : (d.setLedger x).mkl = d.mkl := rfl
@[simp] theorem Dev.setLedger_dma (d : Dev) (x : List Led) : (d.setLedger x).dma = d.dma := rfl
@[simp] theorem Dev.setLedger_cxp (d : Dev) (x : List Led) : (d.setLedger x).cxp = d.cxp := rfl
@[simp] theorem Dev.setLedger_brg (d : Dev) (x : List Led) : (d.setLedger x).brg = d.brg := rfl
@[simp] theorem Dev.setLedger_rd (d : Dev) (x : List Led) (r : Reg) (i : Nat) : (d.setLedger x).rd r i = d.rd r i := rfl

@[simp] theorem Dev.setGen_regs (d : Dev) (k : Nat) (x : Gen) : (d.setGen k x).regs = d.regs := rfl
@[simp] theorem Dev.setGen_aregs (d : Dev) (k : Nat) (x : Gen) : (d.setGen k x).aregs = d.aregs := rfl
@[simp] theorem Dev.setGen_free (d : Dev) (k : Nat) (x : Gen) : (d.setGen k x).free = d.free := rfl
@[simp] theorem Dev.setGen_now (d : Dev) (k : Nat) (x : Gen) : (d.setGen k x).now = d.now := rfl
@[simp] theorem Dev.setGen_out (d : Dev) (k : Nat) (x : Gen) : (d.setGen k x).out = d.out := rfl
@[simp] theorem Dev.setGen_staging (d : Dev) (k : Nat) (x : Gen) : (d.setGen k x).staging = d.staging := rfl
@[simp] theorem Dev.setGen_yard (d : Dev) (k : Nat) (x : Gen) : (d.setGen k x).yard = d.yard := rfl
@[simp] theorem Dev.setGen_ev (d : Dev) (k : Nat) (x : Gen) : (d.setGen k x).ev = d.ev := rfl
@[simp] theorem Dev.setGen_tally (d : Dev) (k : Nat) (x : Gen) : (d.setGen k x).tally = d.tally := rfl
@[simp] theorem Dev.setGen_cyc (d : Dev) (k : Nat) (x : Gen) : (d.setGen k x).cyc = d.cyc := rfl
@[simp] theorem Dev.setGen_ports (d : Dev) (k : Nat) (x : Gen) : (d.setGen k x).ports = d.ports := rfl
@[simp] theorem Dev.setGen_sched (d : Dev) (k : Nat) (x : Gen) : (d.setGen k x).sched = d.sched := rfl
@[simp] theorem Dev.setGen_path (d : Dev) (k : Nat) (x : Gen) : (d.setGen k x).path = d.path := rfl
@[simp] theorem Dev.setGen_logs (d : Dev) (k : Nat) (x : Gen) : (d.setGen k x).logs = d.logs := rfl
@[simp] theorem Dev.setGen_stall (d : Dev) (k : Nat) (x : Gen) : (d.setGen k x).stall = d.stall := rfl
@[simp] theorem Dev.setGen_saf (d : Dev) (k : Nat) (x : Gen) : (d.setGen k x).saf = d.saf := rfl
@[simp] theorem Dev.setGen_fn (d : Dev) (k : Nat) (x : Gen) : (d.setGen k x).fn = d.fn := rfl
@[simp] theorem Dev.setGen_pwr (d : Dev) (k : Nat) (x : Gen) : (d.setGen k x).pwr = d.pwr := rfl
@[simp] theorem Dev.setGen_boot (d : Dev) (k : Nat) (x : Gen) : (d.setGen k x).boot = d.boot := rfl
@[simp] theorem Dev.setGen_mgt (d : Dev) (k : Nat) (x : Gen) : (d.setGen k x).mgt = d.mgt := rfl
@[simp] theorem Dev.setGen_mkl (d : Dev) (k : Nat) (x : Gen) : (d.setGen k x).mkl = d.mkl := rfl
@[simp] theorem Dev.setGen_dma (d : Dev) (k : Nat) (x : Gen) : (d.setGen k x).dma = d.dma := rfl
@[simp] theorem Dev.setGen_cxp (d : Dev) (k : Nat) (x : Gen) : (d.setGen k x).cxp = d.cxp := rfl
@[simp] theorem Dev.setGen_brg (d : Dev) (k : Nat) (x : Gen) : (d.setGen k x).brg = d.brg := rfl
@[simp] theorem Dev.setGen_rd (d : Dev) (k : Nat) (x : Gen) (r : Reg) (i : Nat) : (d.setGen k x).rd r i = d.rd r i := rfl

@[simp] theorem Dev.setChan_regs (d : Dev) (k : Nat) (x : Chan) : (d.setChan k x).regs = d.regs := rfl
@[simp] theorem Dev.setChan_aregs (d : Dev) (k : Nat) (x : Chan) : (d.setChan k x).aregs = d.aregs := rfl
@[simp] theorem Dev.setChan_free (d : Dev) (k : Nat) (x : Chan) : (d.setChan k x).free = d.free := rfl
@[simp] theorem Dev.setChan_now (d : Dev) (k : Nat) (x : Chan) : (d.setChan k x).now = d.now := rfl
@[simp] theorem Dev.setChan_out (d : Dev) (k : Nat) (x : Chan) : (d.setChan k x).out = d.out := rfl
@[simp] theorem Dev.setChan_staging (d : Dev) (k : Nat) (x : Chan) : (d.setChan k x).staging = d.staging := rfl
@[simp] theorem Dev.setChan_yard (d : Dev) (k : Nat) (x : Chan) : (d.setChan k x).yard = d.yard := rfl
@[simp] theorem Dev.setChan_ev (d : Dev) (k : Nat) (x : Chan) : (d.setChan k x).ev = d.ev := rfl
@[simp] theorem Dev.setChan_tally (d : Dev) (k : Nat) (x : Chan) : (d.setChan k x).tally = d.tally := rfl
@[simp] theorem Dev.setChan_cyc (d : Dev) (k : Nat) (x : Chan) : (d.setChan k x).cyc = d.cyc := rfl
@[simp] theorem Dev.setChan_ports (d : Dev) (k : Nat) (x : Chan) : (d.setChan k x).ports = d.ports := rfl
@[simp] theorem Dev.setChan_sched (d : Dev) (k : Nat) (x : Chan) : (d.setChan k x).sched = d.sched := rfl
@[simp] theorem Dev.setChan_path (d : Dev) (k : Nat) (x : Chan) : (d.setChan k x).path = d.path := rfl
@[simp] theorem Dev.setChan_logs (d : Dev) (k : Nat) (x : Chan) : (d.setChan k x).logs = d.logs := rfl
@[simp] theorem Dev.setChan_stall (d : Dev) (k : Nat) (x : Chan) : (d.setChan k x).stall = d.stall := rfl
@[simp] theorem Dev.setChan_slice (d : Dev) (k : Nat) (x : Chan) : (d.setChan k x).slice = d.slice := rfl
@[simp] theorem Dev.setChan_saf (d : Dev) (k : Nat) (x : Chan) : (d.setChan k x).saf = d.saf := rfl
@[simp] theorem Dev.setChan_fn (d : Dev) (k : Nat) (x : Chan) : (d.setChan k x).fn = d.fn := rfl
@[simp] theorem Dev.setChan_pwr (d : Dev) (k : Nat) (x : Chan) : (d.setChan k x).pwr = d.pwr := rfl
@[simp] theorem Dev.setChan_boot (d : Dev) (k : Nat) (x : Chan) : (d.setChan k x).boot = d.boot := rfl
@[simp] theorem Dev.setChan_mgt (d : Dev) (k : Nat) (x : Chan) : (d.setChan k x).mgt = d.mgt := rfl
@[simp] theorem Dev.setChan_mkl (d : Dev) (k : Nat) (x : Chan) : (d.setChan k x).mkl = d.mkl := rfl
@[simp] theorem Dev.setChan_cxp (d : Dev) (k : Nat) (x : Chan) : (d.setChan k x).cxp = d.cxp := rfl
@[simp] theorem Dev.setChan_brg (d : Dev) (k : Nat) (x : Chan) : (d.setChan k x).brg = d.brg := rfl
@[simp] theorem Dev.setChan_rd (d : Dev) (k : Nat) (x : Chan) (r : Reg) (i : Nat) : (d.setChan k x).rd r i = d.rd r i := rfl

@[simp] theorem Dev.setTags_regs (d : Dev) (x : Tbl DTag) : (d.setTags x).regs = d.regs := rfl
@[simp] theorem Dev.setTags_aregs (d : Dev) (x : Tbl DTag) : (d.setTags x).aregs = d.aregs := rfl
@[simp] theorem Dev.setTags_free (d : Dev) (x : Tbl DTag) : (d.setTags x).free = d.free := rfl
@[simp] theorem Dev.setTags_now (d : Dev) (x : Tbl DTag) : (d.setTags x).now = d.now := rfl
@[simp] theorem Dev.setTags_out (d : Dev) (x : Tbl DTag) : (d.setTags x).out = d.out := rfl
@[simp] theorem Dev.setTags_staging (d : Dev) (x : Tbl DTag) : (d.setTags x).staging = d.staging := rfl
@[simp] theorem Dev.setTags_yard (d : Dev) (x : Tbl DTag) : (d.setTags x).yard = d.yard := rfl
@[simp] theorem Dev.setTags_ev (d : Dev) (x : Tbl DTag) : (d.setTags x).ev = d.ev := rfl
@[simp] theorem Dev.setTags_tally (d : Dev) (x : Tbl DTag) : (d.setTags x).tally = d.tally := rfl
@[simp] theorem Dev.setTags_cyc (d : Dev) (x : Tbl DTag) : (d.setTags x).cyc = d.cyc := rfl
@[simp] theorem Dev.setTags_ports (d : Dev) (x : Tbl DTag) : (d.setTags x).ports = d.ports := rfl
@[simp] theorem Dev.setTags_sched (d : Dev) (x : Tbl DTag) : (d.setTags x).sched = d.sched := rfl
@[simp] theorem Dev.setTags_path (d : Dev) (x : Tbl DTag) : (d.setTags x).path = d.path := rfl
@[simp] theorem Dev.setTags_logs (d : Dev) (x : Tbl DTag) : (d.setTags x).logs = d.logs := rfl
@[simp] theorem Dev.setTags_stall (d : Dev) (x : Tbl DTag) : (d.setTags x).stall = d.stall := rfl
@[simp] theorem Dev.setTags_slice (d : Dev) (x : Tbl DTag) : (d.setTags x).slice = d.slice := rfl
@[simp] theorem Dev.setTags_saf (d : Dev) (x : Tbl DTag) : (d.setTags x).saf = d.saf := rfl
@[simp] theorem Dev.setTags_fn (d : Dev) (x : Tbl DTag) : (d.setTags x).fn = d.fn := rfl
@[simp] theorem Dev.setTags_pwr (d : Dev) (x : Tbl DTag) : (d.setTags x).pwr = d.pwr := rfl
@[simp] theorem Dev.setTags_boot (d : Dev) (x : Tbl DTag) : (d.setTags x).boot = d.boot := rfl
@[simp] theorem Dev.setTags_mgt (d : Dev) (x : Tbl DTag) : (d.setTags x).mgt = d.mgt := rfl
@[simp] theorem Dev.setTags_mkl (d : Dev) (x : Tbl DTag) : (d.setTags x).mkl = d.mkl := rfl
@[simp] theorem Dev.setTags_cxp (d : Dev) (x : Tbl DTag) : (d.setTags x).cxp = d.cxp := rfl
@[simp] theorem Dev.setTags_brg (d : Dev) (x : Tbl DTag) : (d.setTags x).brg = d.brg := rfl
@[simp] theorem Dev.setTags_rd (d : Dev) (x : Tbl DTag) (r : Reg) (i : Nat) : (d.setTags x).rd r i = d.rd r i := rfl

@[simp] theorem Dev.setShaper_regs (d : Dev) (k : Nat) (x : Shaper) : (d.setShaper k x).regs = d.regs := rfl
@[simp] theorem Dev.setShaper_aregs (d : Dev) (k : Nat) (x : Shaper) : (d.setShaper k x).aregs = d.aregs := rfl
@[simp] theorem Dev.setShaper_free (d : Dev) (k : Nat) (x : Shaper) : (d.setShaper k x).free = d.free := rfl
@[simp] theorem Dev.setShaper_now (d : Dev) (k : Nat) (x : Shaper) : (d.setShaper k x).now = d.now := rfl
@[simp] theorem Dev.setShaper_out (d : Dev) (k : Nat) (x : Shaper) : (d.setShaper k x).out = d.out := rfl
@[simp] theorem Dev.setShaper_staging (d : Dev) (k : Nat) (x : Shaper) : (d.setShaper k x).staging = d.staging := rfl
@[simp] theorem Dev.setShaper_yard (d : Dev) (k : Nat) (x : Shaper) : (d.setShaper k x).yard = d.yard := rfl
@[simp] theorem Dev.setShaper_ev (d : Dev) (k : Nat) (x : Shaper) : (d.setShaper k x).ev = d.ev := rfl
@[simp] theorem Dev.setShaper_tally (d : Dev) (k : Nat) (x : Shaper) : (d.setShaper k x).tally = d.tally := rfl
@[simp] theorem Dev.setShaper_cyc (d : Dev) (k : Nat) (x : Shaper) : (d.setShaper k x).cyc = d.cyc := rfl
@[simp] theorem Dev.setShaper_ports (d : Dev) (k : Nat) (x : Shaper) : (d.setShaper k x).ports = d.ports := rfl
@[simp] theorem Dev.setShaper_path (d : Dev) (k : Nat) (x : Shaper) : (d.setShaper k x).path = d.path := rfl
@[simp] theorem Dev.setShaper_logs (d : Dev) (k : Nat) (x : Shaper) : (d.setShaper k x).logs = d.logs := rfl
@[simp] theorem Dev.setShaper_stall (d : Dev) (k : Nat) (x : Shaper) : (d.setShaper k x).stall = d.stall := rfl
@[simp] theorem Dev.setShaper_slice (d : Dev) (k : Nat) (x : Shaper) : (d.setShaper k x).slice = d.slice := rfl
@[simp] theorem Dev.setShaper_saf (d : Dev) (k : Nat) (x : Shaper) : (d.setShaper k x).saf = d.saf := rfl
@[simp] theorem Dev.setShaper_fn (d : Dev) (k : Nat) (x : Shaper) : (d.setShaper k x).fn = d.fn := rfl
@[simp] theorem Dev.setShaper_pwr (d : Dev) (k : Nat) (x : Shaper) : (d.setShaper k x).pwr = d.pwr := rfl
@[simp] theorem Dev.setShaper_boot (d : Dev) (k : Nat) (x : Shaper) : (d.setShaper k x).boot = d.boot := rfl
@[simp] theorem Dev.setShaper_mgt (d : Dev) (k : Nat) (x : Shaper) : (d.setShaper k x).mgt = d.mgt := rfl
@[simp] theorem Dev.setShaper_mkl (d : Dev) (k : Nat) (x : Shaper) : (d.setShaper k x).mkl = d.mkl := rfl
@[simp] theorem Dev.setShaper_dma (d : Dev) (k : Nat) (x : Shaper) : (d.setShaper k x).dma = d.dma := rfl
@[simp] theorem Dev.setShaper_cxp (d : Dev) (k : Nat) (x : Shaper) : (d.setShaper k x).cxp = d.cxp := rfl
@[simp] theorem Dev.setShaper_brg (d : Dev) (k : Nat) (x : Shaper) : (d.setShaper k x).brg = d.brg := rfl
@[simp] theorem Dev.setShaper_rd (d : Dev) (k : Nat) (x : Shaper) (r : Reg) (i : Nat) : (d.setShaper k x).rd r i = d.rd r i := rfl

@[simp] theorem Dev.setWfq_regs (d : Dev) (k : Nat) (x : Wfq) : (d.setWfq k x).regs = d.regs := rfl
@[simp] theorem Dev.setWfq_aregs (d : Dev) (k : Nat) (x : Wfq) : (d.setWfq k x).aregs = d.aregs := rfl
@[simp] theorem Dev.setWfq_free (d : Dev) (k : Nat) (x : Wfq) : (d.setWfq k x).free = d.free := rfl
@[simp] theorem Dev.setWfq_now (d : Dev) (k : Nat) (x : Wfq) : (d.setWfq k x).now = d.now := rfl
@[simp] theorem Dev.setWfq_out (d : Dev) (k : Nat) (x : Wfq) : (d.setWfq k x).out = d.out := rfl
@[simp] theorem Dev.setWfq_staging (d : Dev) (k : Nat) (x : Wfq) : (d.setWfq k x).staging = d.staging := rfl
@[simp] theorem Dev.setWfq_yard (d : Dev) (k : Nat) (x : Wfq) : (d.setWfq k x).yard = d.yard := rfl
@[simp] theorem Dev.setWfq_ev (d : Dev) (k : Nat) (x : Wfq) : (d.setWfq k x).ev = d.ev := rfl
@[simp] theorem Dev.setWfq_tally (d : Dev) (k : Nat) (x : Wfq) : (d.setWfq k x).tally = d.tally := rfl
@[simp] theorem Dev.setWfq_cyc (d : Dev) (k : Nat) (x : Wfq) : (d.setWfq k x).cyc = d.cyc := rfl
@[simp] theorem Dev.setWfq_ports (d : Dev) (k : Nat) (x : Wfq) : (d.setWfq k x).ports = d.ports := rfl
@[simp] theorem Dev.setWfq_path (d : Dev) (k : Nat) (x : Wfq) : (d.setWfq k x).path = d.path := rfl
@[simp] theorem Dev.setWfq_logs (d : Dev) (k : Nat) (x : Wfq) : (d.setWfq k x).logs = d.logs := rfl
@[simp] theorem Dev.setWfq_stall (d : Dev) (k : Nat) (x : Wfq) : (d.setWfq k x).stall = d.stall := rfl
@[simp] theorem Dev.setWfq_slice (d : Dev) (k : Nat) (x : Wfq) : (d.setWfq k x).slice = d.slice := rfl
@[simp] theorem Dev.setWfq_saf (d : Dev) (k : Nat) (x : Wfq) : (d.setWfq k x).saf = d.saf := rfl
@[simp] theorem Dev.setWfq_fn (d : Dev) (k : Nat) (x : Wfq) : (d.setWfq k x).fn = d.fn := rfl
@[simp] theorem Dev.setWfq_pwr (d : Dev) (k : Nat) (x : Wfq) : (d.setWfq k x).pwr = d.pwr := rfl
@[simp] theorem Dev.setWfq_boot (d : Dev) (k : Nat) (x : Wfq) : (d.setWfq k x).boot = d.boot := rfl
@[simp] theorem Dev.setWfq_mgt (d : Dev) (k : Nat) (x : Wfq) : (d.setWfq k x).mgt = d.mgt := rfl
@[simp] theorem Dev.setWfq_mkl (d : Dev) (k : Nat) (x : Wfq) : (d.setWfq k x).mkl = d.mkl := rfl
@[simp] theorem Dev.setWfq_dma (d : Dev) (k : Nat) (x : Wfq) : (d.setWfq k x).dma = d.dma := rfl
@[simp] theorem Dev.setWfq_cxp (d : Dev) (k : Nat) (x : Wfq) : (d.setWfq k x).cxp = d.cxp := rfl
@[simp] theorem Dev.setWfq_brg (d : Dev) (k : Nat) (x : Wfq) : (d.setWfq k x).brg = d.brg := rfl
@[simp] theorem Dev.setWfq_rd (d : Dev) (k : Nat) (x : Wfq) (r : Reg) (i : Nat) : (d.setWfq k x).rd r i = d.rd r i := rfl

@[simp] theorem Dev.setTcWfq_regs (d : Dev) (p k : Nat) (x : Wfq) : (d.setTcWfq p k x).regs = d.regs := rfl
@[simp] theorem Dev.setTcWfq_aregs (d : Dev) (p k : Nat) (x : Wfq) : (d.setTcWfq p k x).aregs = d.aregs := rfl
@[simp] theorem Dev.setTcWfq_free (d : Dev) (p k : Nat) (x : Wfq) : (d.setTcWfq p k x).free = d.free := rfl
@[simp] theorem Dev.setTcWfq_now (d : Dev) (p k : Nat) (x : Wfq) : (d.setTcWfq p k x).now = d.now := rfl
@[simp] theorem Dev.setTcWfq_out (d : Dev) (p k : Nat) (x : Wfq) : (d.setTcWfq p k x).out = d.out := rfl
@[simp] theorem Dev.setTcWfq_staging (d : Dev) (p k : Nat) (x : Wfq) : (d.setTcWfq p k x).staging = d.staging := rfl
@[simp] theorem Dev.setTcWfq_yard (d : Dev) (p k : Nat) (x : Wfq) : (d.setTcWfq p k x).yard = d.yard := rfl
@[simp] theorem Dev.setTcWfq_ev (d : Dev) (p k : Nat) (x : Wfq) : (d.setTcWfq p k x).ev = d.ev := rfl
@[simp] theorem Dev.setTcWfq_tally (d : Dev) (p k : Nat) (x : Wfq) : (d.setTcWfq p k x).tally = d.tally := rfl
@[simp] theorem Dev.setTcWfq_cyc (d : Dev) (p k : Nat) (x : Wfq) : (d.setTcWfq p k x).cyc = d.cyc := rfl
@[simp] theorem Dev.setTcWfq_ports (d : Dev) (p k : Nat) (x : Wfq) : (d.setTcWfq p k x).ports = d.ports := rfl
@[simp] theorem Dev.setTcWfq_path (d : Dev) (p k : Nat) (x : Wfq) : (d.setTcWfq p k x).path = d.path := rfl
@[simp] theorem Dev.setTcWfq_logs (d : Dev) (p k : Nat) (x : Wfq) : (d.setTcWfq p k x).logs = d.logs := rfl
@[simp] theorem Dev.setTcWfq_stall (d : Dev) (p k : Nat) (x : Wfq) : (d.setTcWfq p k x).stall = d.stall := rfl
@[simp] theorem Dev.setTcWfq_slice (d : Dev) (p k : Nat) (x : Wfq) : (d.setTcWfq p k x).slice = d.slice := rfl
@[simp] theorem Dev.setTcWfq_saf (d : Dev) (p k : Nat) (x : Wfq) : (d.setTcWfq p k x).saf = d.saf := rfl
@[simp] theorem Dev.setTcWfq_fn (d : Dev) (p k : Nat) (x : Wfq) : (d.setTcWfq p k x).fn = d.fn := rfl
@[simp] theorem Dev.setTcWfq_pwr (d : Dev) (p k : Nat) (x : Wfq) : (d.setTcWfq p k x).pwr = d.pwr := rfl
@[simp] theorem Dev.setTcWfq_boot (d : Dev) (p k : Nat) (x : Wfq) : (d.setTcWfq p k x).boot = d.boot := rfl
@[simp] theorem Dev.setTcWfq_mgt (d : Dev) (p k : Nat) (x : Wfq) : (d.setTcWfq p k x).mgt = d.mgt := rfl
@[simp] theorem Dev.setTcWfq_mkl (d : Dev) (p k : Nat) (x : Wfq) : (d.setTcWfq p k x).mkl = d.mkl := rfl
@[simp] theorem Dev.setTcWfq_dma (d : Dev) (p k : Nat) (x : Wfq) : (d.setTcWfq p k x).dma = d.dma := rfl
@[simp] theorem Dev.setTcWfq_cxp (d : Dev) (p k : Nat) (x : Wfq) : (d.setTcWfq p k x).cxp = d.cxp := rfl
@[simp] theorem Dev.setTcWfq_brg (d : Dev) (p k : Nat) (x : Wfq) : (d.setTcWfq p k x).brg = d.brg := rfl
@[simp] theorem Dev.setTcWfq_rd (d : Dev) (p k : Nat) (x : Wfq) (r : Reg) (i : Nat) : (d.setTcWfq p k x).rd r i = d.rd r i := rfl

@[simp] theorem Dev.setLnk_regs (d : Dev) (k : Nat) (x : Link) : (d.setLnk k x).regs = d.regs := rfl
@[simp] theorem Dev.setLnk_aregs (d : Dev) (k : Nat) (x : Link) : (d.setLnk k x).aregs = d.aregs := rfl
@[simp] theorem Dev.setLnk_free (d : Dev) (k : Nat) (x : Link) : (d.setLnk k x).free = d.free := rfl
@[simp] theorem Dev.setLnk_now (d : Dev) (k : Nat) (x : Link) : (d.setLnk k x).now = d.now := rfl
@[simp] theorem Dev.setLnk_out (d : Dev) (k : Nat) (x : Link) : (d.setLnk k x).out = d.out := rfl
@[simp] theorem Dev.setLnk_staging (d : Dev) (k : Nat) (x : Link) : (d.setLnk k x).staging = d.staging := rfl
@[simp] theorem Dev.setLnk_yard (d : Dev) (k : Nat) (x : Link) : (d.setLnk k x).yard = d.yard := rfl
@[simp] theorem Dev.setLnk_ev (d : Dev) (k : Nat) (x : Link) : (d.setLnk k x).ev = d.ev := rfl
@[simp] theorem Dev.setLnk_tally (d : Dev) (k : Nat) (x : Link) : (d.setLnk k x).tally = d.tally := rfl
@[simp] theorem Dev.setLnk_cyc (d : Dev) (k : Nat) (x : Link) : (d.setLnk k x).cyc = d.cyc := rfl
@[simp] theorem Dev.setLnk_ports (d : Dev) (k : Nat) (x : Link) : (d.setLnk k x).ports = d.ports := rfl
@[simp] theorem Dev.setLnk_sched (d : Dev) (k : Nat) (x : Link) : (d.setLnk k x).sched = d.sched := rfl
@[simp] theorem Dev.setLnk_path (d : Dev) (k : Nat) (x : Link) : (d.setLnk k x).path = d.path := rfl
@[simp] theorem Dev.setLnk_logs (d : Dev) (k : Nat) (x : Link) : (d.setLnk k x).logs = d.logs := rfl
@[simp] theorem Dev.setLnk_stall (d : Dev) (k : Nat) (x : Link) : (d.setLnk k x).stall = d.stall := rfl
@[simp] theorem Dev.setLnk_slice (d : Dev) (k : Nat) (x : Link) : (d.setLnk k x).slice = d.slice := rfl
@[simp] theorem Dev.setLnk_saf (d : Dev) (k : Nat) (x : Link) : (d.setLnk k x).saf = d.saf := rfl
@[simp] theorem Dev.setLnk_fn (d : Dev) (k : Nat) (x : Link) : (d.setLnk k x).fn = d.fn := rfl
@[simp] theorem Dev.setLnk_pwr (d : Dev) (k : Nat) (x : Link) : (d.setLnk k x).pwr = d.pwr := rfl
@[simp] theorem Dev.setLnk_boot (d : Dev) (k : Nat) (x : Link) : (d.setLnk k x).boot = d.boot := rfl
@[simp] theorem Dev.setLnk_mgt (d : Dev) (k : Nat) (x : Link) : (d.setLnk k x).mgt = d.mgt := rfl
@[simp] theorem Dev.setLnk_dma (d : Dev) (k : Nat) (x : Link) : (d.setLnk k x).dma = d.dma := rfl
@[simp] theorem Dev.setLnk_cxp (d : Dev) (k : Nat) (x : Link) : (d.setLnk k x).cxp = d.cxp := rfl
@[simp] theorem Dev.setLnk_brg (d : Dev) (k : Nat) (x : Link) : (d.setLnk k x).brg = d.brg := rfl
@[simp] theorem Dev.setLnk_rd (d : Dev) (k : Nat) (x : Link) (r : Reg) (i : Nat) : (d.setLnk k x).rd r i = d.rd r i := rfl

@[simp] theorem Dev.setBnd_regs (d : Dev) (k : Nat) (x : Bundle) : (d.setBnd k x).regs = d.regs := rfl
@[simp] theorem Dev.setBnd_aregs (d : Dev) (k : Nat) (x : Bundle) : (d.setBnd k x).aregs = d.aregs := rfl
@[simp] theorem Dev.setBnd_free (d : Dev) (k : Nat) (x : Bundle) : (d.setBnd k x).free = d.free := rfl
@[simp] theorem Dev.setBnd_now (d : Dev) (k : Nat) (x : Bundle) : (d.setBnd k x).now = d.now := rfl
@[simp] theorem Dev.setBnd_out (d : Dev) (k : Nat) (x : Bundle) : (d.setBnd k x).out = d.out := rfl
@[simp] theorem Dev.setBnd_staging (d : Dev) (k : Nat) (x : Bundle) : (d.setBnd k x).staging = d.staging := rfl
@[simp] theorem Dev.setBnd_yard (d : Dev) (k : Nat) (x : Bundle) : (d.setBnd k x).yard = d.yard := rfl
@[simp] theorem Dev.setBnd_ev (d : Dev) (k : Nat) (x : Bundle) : (d.setBnd k x).ev = d.ev := rfl
@[simp] theorem Dev.setBnd_tally (d : Dev) (k : Nat) (x : Bundle) : (d.setBnd k x).tally = d.tally := rfl
@[simp] theorem Dev.setBnd_cyc (d : Dev) (k : Nat) (x : Bundle) : (d.setBnd k x).cyc = d.cyc := rfl
@[simp] theorem Dev.setBnd_ports (d : Dev) (k : Nat) (x : Bundle) : (d.setBnd k x).ports = d.ports := rfl
@[simp] theorem Dev.setBnd_sched (d : Dev) (k : Nat) (x : Bundle) : (d.setBnd k x).sched = d.sched := rfl
@[simp] theorem Dev.setBnd_path (d : Dev) (k : Nat) (x : Bundle) : (d.setBnd k x).path = d.path := rfl
@[simp] theorem Dev.setBnd_logs (d : Dev) (k : Nat) (x : Bundle) : (d.setBnd k x).logs = d.logs := rfl
@[simp] theorem Dev.setBnd_stall (d : Dev) (k : Nat) (x : Bundle) : (d.setBnd k x).stall = d.stall := rfl
@[simp] theorem Dev.setBnd_slice (d : Dev) (k : Nat) (x : Bundle) : (d.setBnd k x).slice = d.slice := rfl
@[simp] theorem Dev.setBnd_saf (d : Dev) (k : Nat) (x : Bundle) : (d.setBnd k x).saf = d.saf := rfl
@[simp] theorem Dev.setBnd_fn (d : Dev) (k : Nat) (x : Bundle) : (d.setBnd k x).fn = d.fn := rfl
@[simp] theorem Dev.setBnd_pwr (d : Dev) (k : Nat) (x : Bundle) : (d.setBnd k x).pwr = d.pwr := rfl
@[simp] theorem Dev.setBnd_boot (d : Dev) (k : Nat) (x : Bundle) : (d.setBnd k x).boot = d.boot := rfl
@[simp] theorem Dev.setBnd_mgt (d : Dev) (k : Nat) (x : Bundle) : (d.setBnd k x).mgt = d.mgt := rfl
@[simp] theorem Dev.setBnd_dma (d : Dev) (k : Nat) (x : Bundle) : (d.setBnd k x).dma = d.dma := rfl
@[simp] theorem Dev.setBnd_cxp (d : Dev) (k : Nat) (x : Bundle) : (d.setBnd k x).cxp = d.cxp := rfl
@[simp] theorem Dev.setBnd_brg (d : Dev) (k : Nat) (x : Bundle) : (d.setBnd k x).brg = d.brg := rfl
@[simp] theorem Dev.setBnd_rd (d : Dev) (k : Nat) (x : Bundle) (r : Reg) (i : Nat) : (d.setBnd k x).rd r i = d.rd r i := rfl

@[simp] theorem Dev.setReady_regs (d : Dev) (k x : Nat) : (d.setReady k x).regs = d.regs := rfl
@[simp] theorem Dev.setReady_aregs (d : Dev) (k x : Nat) : (d.setReady k x).aregs = d.aregs := rfl
@[simp] theorem Dev.setReady_free (d : Dev) (k x : Nat) : (d.setReady k x).free = d.free := rfl
@[simp] theorem Dev.setReady_now (d : Dev) (k x : Nat) : (d.setReady k x).now = d.now := rfl
@[simp] theorem Dev.setReady_out (d : Dev) (k x : Nat) : (d.setReady k x).out = d.out := rfl
@[simp] theorem Dev.setReady_staging (d : Dev) (k x : Nat) : (d.setReady k x).staging = d.staging := rfl
@[simp] theorem Dev.setReady_yard (d : Dev) (k x : Nat) : (d.setReady k x).yard = d.yard := rfl
@[simp] theorem Dev.setReady_ev (d : Dev) (k x : Nat) : (d.setReady k x).ev = d.ev := rfl
@[simp] theorem Dev.setReady_tally (d : Dev) (k x : Nat) : (d.setReady k x).tally = d.tally := rfl
@[simp] theorem Dev.setReady_cyc (d : Dev) (k x : Nat) : (d.setReady k x).cyc = d.cyc := rfl
@[simp] theorem Dev.setReady_ports (d : Dev) (k x : Nat) : (d.setReady k x).ports = d.ports := rfl
@[simp] theorem Dev.setReady_sched (d : Dev) (k x : Nat) : (d.setReady k x).sched = d.sched := rfl
@[simp] theorem Dev.setReady_path (d : Dev) (k x : Nat) : (d.setReady k x).path = d.path := rfl
@[simp] theorem Dev.setReady_logs (d : Dev) (k x : Nat) : (d.setReady k x).logs = d.logs := rfl
@[simp] theorem Dev.setReady_stall (d : Dev) (k x : Nat) : (d.setReady k x).stall = d.stall := rfl
@[simp] theorem Dev.setReady_slice (d : Dev) (k x : Nat) : (d.setReady k x).slice = d.slice := rfl
@[simp] theorem Dev.setReady_saf (d : Dev) (k x : Nat) : (d.setReady k x).saf = d.saf := rfl
@[simp] theorem Dev.setReady_pwr (d : Dev) (k x : Nat) : (d.setReady k x).pwr = d.pwr := rfl
@[simp] theorem Dev.setReady_boot (d : Dev) (k x : Nat) : (d.setReady k x).boot = d.boot := rfl
@[simp] theorem Dev.setReady_mgt (d : Dev) (k x : Nat) : (d.setReady k x).mgt = d.mgt := rfl
@[simp] theorem Dev.setReady_mkl (d : Dev) (k x : Nat) : (d.setReady k x).mkl = d.mkl := rfl
@[simp] theorem Dev.setReady_dma (d : Dev) (k x : Nat) : (d.setReady k x).dma = d.dma := rfl
@[simp] theorem Dev.setReady_cxp (d : Dev) (k x : Nat) : (d.setReady k x).cxp = d.cxp := rfl
@[simp] theorem Dev.setReady_brg (d : Dev) (k x : Nat) : (d.setReady k x).brg = d.brg := rfl
@[simp] theorem Dev.setReady_rd (d : Dev) (k x : Nat) (r : Reg) (i : Nat) : (d.setReady k x).rd r i = d.rd r i := rfl

@[simp] theorem Dev.setReq_regs (d : Dev) (k : Nat) (x : BReq → BReq) : (d.setReq k x).regs = d.regs := rfl
@[simp] theorem Dev.setReq_aregs (d : Dev) (k : Nat) (x : BReq → BReq) : (d.setReq k x).aregs = d.aregs := rfl
@[simp] theorem Dev.setReq_free (d : Dev) (k : Nat) (x : BReq → BReq) : (d.setReq k x).free = d.free := rfl
@[simp] theorem Dev.setReq_now (d : Dev) (k : Nat) (x : BReq → BReq) : (d.setReq k x).now = d.now := rfl
@[simp] theorem Dev.setReq_out (d : Dev) (k : Nat) (x : BReq → BReq) : (d.setReq k x).out = d.out := rfl
@[simp] theorem Dev.setReq_staging (d : Dev) (k : Nat) (x : BReq → BReq) : (d.setReq k x).staging = d.staging := rfl
@[simp] theorem Dev.setReq_yard (d : Dev) (k : Nat) (x : BReq → BReq) : (d.setReq k x).yard = d.yard := rfl
@[simp] theorem Dev.setReq_ev (d : Dev) (k : Nat) (x : BReq → BReq) : (d.setReq k x).ev = d.ev := rfl
@[simp] theorem Dev.setReq_tally (d : Dev) (k : Nat) (x : BReq → BReq) : (d.setReq k x).tally = d.tally := rfl
@[simp] theorem Dev.setReq_cyc (d : Dev) (k : Nat) (x : BReq → BReq) : (d.setReq k x).cyc = d.cyc := rfl
@[simp] theorem Dev.setReq_ports (d : Dev) (k : Nat) (x : BReq → BReq) : (d.setReq k x).ports = d.ports := rfl
@[simp] theorem Dev.setReq_sched (d : Dev) (k : Nat) (x : BReq → BReq) : (d.setReq k x).sched = d.sched := rfl
@[simp] theorem Dev.setReq_path (d : Dev) (k : Nat) (x : BReq → BReq) : (d.setReq k x).path = d.path := rfl
@[simp] theorem Dev.setReq_logs (d : Dev) (k : Nat) (x : BReq → BReq) : (d.setReq k x).logs = d.logs := rfl
@[simp] theorem Dev.setReq_stall (d : Dev) (k : Nat) (x : BReq → BReq) : (d.setReq k x).stall = d.stall := rfl
@[simp] theorem Dev.setReq_slice (d : Dev) (k : Nat) (x : BReq → BReq) : (d.setReq k x).slice = d.slice := rfl
@[simp] theorem Dev.setReq_saf (d : Dev) (k : Nat) (x : BReq → BReq) : (d.setReq k x).saf = d.saf := rfl
@[simp] theorem Dev.setReq_fn (d : Dev) (k : Nat) (x : BReq → BReq) : (d.setReq k x).fn = d.fn := rfl
@[simp] theorem Dev.setReq_pwr (d : Dev) (k : Nat) (x : BReq → BReq) : (d.setReq k x).pwr = d.pwr := rfl
@[simp] theorem Dev.setReq_boot (d : Dev) (k : Nat) (x : BReq → BReq) : (d.setReq k x).boot = d.boot := rfl
@[simp] theorem Dev.setReq_mgt (d : Dev) (k : Nat) (x : BReq → BReq) : (d.setReq k x).mgt = d.mgt := rfl
@[simp] theorem Dev.setReq_mkl (d : Dev) (k : Nat) (x : BReq → BReq) : (d.setReq k x).mkl = d.mkl := rfl
@[simp] theorem Dev.setReq_dma (d : Dev) (k : Nat) (x : BReq → BReq) : (d.setReq k x).dma = d.dma := rfl
@[simp] theorem Dev.setReq_cxp (d : Dev) (k : Nat) (x : BReq → BReq) : (d.setReq k x).cxp = d.cxp := rfl
@[simp] theorem Dev.setReq_rd (d : Dev) (k : Nat) (x : BReq → BReq) (r : Reg) (i : Nat) : (d.setReq k x).rd r i = d.rd r i := rfl

@[simp] theorem Dev.updItem_regs (d : Dev) (k : Nat) (x : Item → Item) : (d.updItem k x).regs = d.regs := rfl
@[simp] theorem Dev.updItem_aregs (d : Dev) (k : Nat) (x : Item → Item) : (d.updItem k x).aregs = d.aregs := rfl
@[simp] theorem Dev.updItem_free (d : Dev) (k : Nat) (x : Item → Item) : (d.updItem k x).free = d.free := rfl
@[simp] theorem Dev.updItem_now (d : Dev) (k : Nat) (x : Item → Item) : (d.updItem k x).now = d.now := rfl
@[simp] theorem Dev.updItem_out (d : Dev) (k : Nat) (x : Item → Item) : (d.updItem k x).out = d.out := rfl
@[simp] theorem Dev.updItem_staging (d : Dev) (k : Nat) (x : Item → Item) : (d.updItem k x).staging = d.staging := rfl
@[simp] theorem Dev.updItem_yard (d : Dev) (k : Nat) (x : Item → Item) : (d.updItem k x).yard = d.yard := rfl
@[simp] theorem Dev.updItem_ev (d : Dev) (k : Nat) (x : Item → Item) : (d.updItem k x).ev = d.ev := rfl
@[simp] theorem Dev.updItem_tally (d : Dev) (k : Nat) (x : Item → Item) : (d.updItem k x).tally = d.tally := rfl
@[simp] theorem Dev.updItem_cyc (d : Dev) (k : Nat) (x : Item → Item) : (d.updItem k x).cyc = d.cyc := rfl
@[simp] theorem Dev.updItem_ports (d : Dev) (k : Nat) (x : Item → Item) : (d.updItem k x).ports = d.ports := rfl
@[simp] theorem Dev.updItem_sched (d : Dev) (k : Nat) (x : Item → Item) : (d.updItem k x).sched = d.sched := rfl
@[simp] theorem Dev.updItem_logs (d : Dev) (k : Nat) (x : Item → Item) : (d.updItem k x).logs = d.logs := rfl
@[simp] theorem Dev.updItem_stall (d : Dev) (k : Nat) (x : Item → Item) : (d.updItem k x).stall = d.stall := rfl
@[simp] theorem Dev.updItem_slice (d : Dev) (k : Nat) (x : Item → Item) : (d.updItem k x).slice = d.slice := rfl
@[simp] theorem Dev.updItem_saf (d : Dev) (k : Nat) (x : Item → Item) : (d.updItem k x).saf = d.saf := rfl
@[simp] theorem Dev.updItem_fn (d : Dev) (k : Nat) (x : Item → Item) : (d.updItem k x).fn = d.fn := rfl
@[simp] theorem Dev.updItem_pwr (d : Dev) (k : Nat) (x : Item → Item) : (d.updItem k x).pwr = d.pwr := rfl
@[simp] theorem Dev.updItem_boot (d : Dev) (k : Nat) (x : Item → Item) : (d.updItem k x).boot = d.boot := rfl
@[simp] theorem Dev.updItem_mgt (d : Dev) (k : Nat) (x : Item → Item) : (d.updItem k x).mgt = d.mgt := rfl
@[simp] theorem Dev.updItem_mkl (d : Dev) (k : Nat) (x : Item → Item) : (d.updItem k x).mkl = d.mkl := rfl
@[simp] theorem Dev.updItem_dma (d : Dev) (k : Nat) (x : Item → Item) : (d.updItem k x).dma = d.dma := rfl
@[simp] theorem Dev.updItem_cxp (d : Dev) (k : Nat) (x : Item → Item) : (d.updItem k x).cxp = d.cxp := rfl
@[simp] theorem Dev.updItem_brg (d : Dev) (k : Nat) (x : Item → Item) : (d.updItem k x).brg = d.brg := rfl
@[simp] theorem Dev.updItem_rd (d : Dev) (k : Nat) (x : Item → Item) (r : Reg) (i : Nat) : (d.updItem k x).rd r i = d.rd r i := rfl

@[simp] theorem Dev.maskSrc_regs (d : Dev) (k x : Nat) : (d.maskSrc k x).regs = d.regs := rfl
@[simp] theorem Dev.maskSrc_aregs (d : Dev) (k x : Nat) : (d.maskSrc k x).aregs = d.aregs := rfl
@[simp] theorem Dev.maskSrc_free (d : Dev) (k x : Nat) : (d.maskSrc k x).free = d.free := rfl
@[simp] theorem Dev.maskSrc_now (d : Dev) (k x : Nat) : (d.maskSrc k x).now = d.now := rfl
@[simp] theorem Dev.maskSrc_out (d : Dev) (k x : Nat) : (d.maskSrc k x).out = d.out := rfl
@[simp] theorem Dev.maskSrc_staging (d : Dev) (k x : Nat) : (d.maskSrc k x).staging = d.staging := rfl
@[simp] theorem Dev.maskSrc_yard (d : Dev) (k x : Nat) : (d.maskSrc k x).yard = d.yard := rfl
@[simp] theorem Dev.maskSrc_tally (d : Dev) (k x : Nat) : (d.maskSrc k x).tally = d.tally := rfl
@[simp] theorem Dev.maskSrc_cyc (d : Dev) (k x : Nat) : (d.maskSrc k x).cyc = d.cyc := rfl
@[simp] theorem Dev.maskSrc_ports (d : Dev) (k x : Nat) : (d.maskSrc k x).ports = d.ports := rfl
@[simp] theorem Dev.maskSrc_sched (d : Dev) (k x : Nat) : (d.maskSrc k x).sched = d.sched := rfl
@[simp] theorem Dev.maskSrc_path (d : Dev) (k x : Nat) : (d.maskSrc k x).path = d.path := rfl
@[simp] theorem Dev.maskSrc_logs (d : Dev) (k x : Nat) : (d.maskSrc k x).logs = d.logs := rfl
@[simp] theorem Dev.maskSrc_stall (d : Dev) (k x : Nat) : (d.maskSrc k x).stall = d.stall := rfl
@[simp] theorem Dev.maskSrc_slice (d : Dev) (k x : Nat) : (d.maskSrc k x).slice = d.slice := rfl
@[simp] theorem Dev.maskSrc_saf (d : Dev) (k x : Nat) : (d.maskSrc k x).saf = d.saf := rfl
@[simp] theorem Dev.maskSrc_fn (d : Dev) (k x : Nat) : (d.maskSrc k x).fn = d.fn := rfl
@[simp] theorem Dev.maskSrc_pwr (d : Dev) (k x : Nat) : (d.maskSrc k x).pwr = d.pwr := rfl
@[simp] theorem Dev.maskSrc_boot (d : Dev) (k x : Nat) : (d.maskSrc k x).boot = d.boot := rfl
@[simp] theorem Dev.maskSrc_mgt (d : Dev) (k x : Nat) : (d.maskSrc k x).mgt = d.mgt := rfl
@[simp] theorem Dev.maskSrc_mkl (d : Dev) (k x : Nat) : (d.maskSrc k x).mkl = d.mkl := rfl
@[simp] theorem Dev.maskSrc_dma (d : Dev) (k x : Nat) : (d.maskSrc k x).dma = d.dma := rfl
@[simp] theorem Dev.maskSrc_cxp (d : Dev) (k x : Nat) : (d.maskSrc k x).cxp = d.cxp := rfl
@[simp] theorem Dev.maskSrc_brg (d : Dev) (k x : Nat) : (d.maskSrc k x).brg = d.brg := rfl
@[simp] theorem Dev.maskSrc_rd (d : Dev) (k x : Nat) (r : Reg) (i : Nat) : (d.maskSrc k x).rd r i = d.rd r i := rfl

@[simp] theorem Dev.clearCause_regs (d : Dev) (k x : Nat) : (d.clearCause k x).regs = d.regs := rfl
@[simp] theorem Dev.clearCause_aregs (d : Dev) (k x : Nat) : (d.clearCause k x).aregs = d.aregs := rfl
@[simp] theorem Dev.clearCause_free (d : Dev) (k x : Nat) : (d.clearCause k x).free = d.free := rfl
@[simp] theorem Dev.clearCause_now (d : Dev) (k x : Nat) : (d.clearCause k x).now = d.now := rfl
@[simp] theorem Dev.clearCause_out (d : Dev) (k x : Nat) : (d.clearCause k x).out = d.out := rfl
@[simp] theorem Dev.clearCause_staging (d : Dev) (k x : Nat) : (d.clearCause k x).staging = d.staging := rfl
@[simp] theorem Dev.clearCause_yard (d : Dev) (k x : Nat) : (d.clearCause k x).yard = d.yard := rfl
@[simp] theorem Dev.clearCause_tally (d : Dev) (k x : Nat) : (d.clearCause k x).tally = d.tally := rfl
@[simp] theorem Dev.clearCause_cyc (d : Dev) (k x : Nat) : (d.clearCause k x).cyc = d.cyc := rfl
@[simp] theorem Dev.clearCause_ports (d : Dev) (k x : Nat) : (d.clearCause k x).ports = d.ports := rfl
@[simp] theorem Dev.clearCause_sched (d : Dev) (k x : Nat) : (d.clearCause k x).sched = d.sched := rfl
@[simp] theorem Dev.clearCause_path (d : Dev) (k x : Nat) : (d.clearCause k x).path = d.path := rfl
@[simp] theorem Dev.clearCause_logs (d : Dev) (k x : Nat) : (d.clearCause k x).logs = d.logs := rfl
@[simp] theorem Dev.clearCause_stall (d : Dev) (k x : Nat) : (d.clearCause k x).stall = d.stall := rfl
@[simp] theorem Dev.clearCause_slice (d : Dev) (k x : Nat) : (d.clearCause k x).slice = d.slice := rfl
@[simp] theorem Dev.clearCause_saf (d : Dev) (k x : Nat) : (d.clearCause k x).saf = d.saf := rfl
@[simp] theorem Dev.clearCause_fn (d : Dev) (k x : Nat) : (d.clearCause k x).fn = d.fn := rfl
@[simp] theorem Dev.clearCause_pwr (d : Dev) (k x : Nat) : (d.clearCause k x).pwr = d.pwr := rfl
@[simp] theorem Dev.clearCause_boot (d : Dev) (k x : Nat) : (d.clearCause k x).boot = d.boot := rfl
@[simp] theorem Dev.clearCause_mgt (d : Dev) (k x : Nat) : (d.clearCause k x).mgt = d.mgt := rfl
@[simp] theorem Dev.clearCause_mkl (d : Dev) (k x : Nat) : (d.clearCause k x).mkl = d.mkl := rfl
@[simp] theorem Dev.clearCause_dma (d : Dev) (k x : Nat) : (d.clearCause k x).dma = d.dma := rfl
@[simp] theorem Dev.clearCause_cxp (d : Dev) (k x : Nat) : (d.clearCause k x).cxp = d.cxp := rfl
@[simp] theorem Dev.clearCause_brg (d : Dev) (k x : Nat) : (d.clearCause k x).brg = d.brg := rfl
@[simp] theorem Dev.clearCause_rd (d : Dev) (k x : Nat) (r : Reg) (i : Nat) : (d.clearCause k x).rd r i = d.rd r i := rfl

@[simp] theorem Dev.setStall_stall (d : Dev) (x : Stall) : (d.setStall x).stall = x := rfl
@[simp] theorem Dev.setCxp_cxp (d : Dev) (x : Cxp) : (d.setCxp x).cxp = x := rfl
@[simp] theorem Dev.setBrg_brg (d : Dev) (x : Brg) : (d.setBrg x).brg = x := rfl
@[simp] theorem Dev.setLedger_ledger (d : Dev) (x : List Led) : (d.setLedger x).slice.ledger = x := rfl

/-! ### FAULT_N -/

@[simp] theorem Dev.settle_regs (d : Dev) : d.settle.regs = d.regs := by unfold Dev.settle; dsimp only; split <;> rfl
@[simp] theorem Dev.settle_aregs (d : Dev) : d.settle.aregs = d.aregs := by unfold Dev.settle; dsimp only; split <;> rfl
@[simp] theorem Dev.settle_free (d : Dev) : d.settle.free = d.free := by unfold Dev.settle; dsimp only; split <;> rfl
@[simp] theorem Dev.settle_now (d : Dev) : d.settle.now = d.now := by unfold Dev.settle; dsimp only; split <;> rfl
@[simp] theorem Dev.settle_staging (d : Dev) : d.settle.staging = d.staging := by unfold Dev.settle; dsimp only; split <;> rfl
@[simp] theorem Dev.settle_yard (d : Dev) : d.settle.yard = d.yard := by unfold Dev.settle; dsimp only; split <;> rfl
@[simp] theorem Dev.settle_tally (d : Dev) : d.settle.tally = d.tally := by unfold Dev.settle; dsimp only; split <;> rfl
@[simp] theorem Dev.settle_cyc (d : Dev) : d.settle.cyc = d.cyc := by unfold Dev.settle; dsimp only; split <;> rfl
@[simp] theorem Dev.settle_ports (d : Dev) : d.settle.ports = d.ports := by unfold Dev.settle; dsimp only; split <;> rfl
@[simp] theorem Dev.settle_sched (d : Dev) : d.settle.sched = d.sched := by unfold Dev.settle; dsimp only; split <;> rfl
@[simp] theorem Dev.settle_path (d : Dev) : d.settle.path = d.path := by unfold Dev.settle; dsimp only; split <;> rfl
@[simp] theorem Dev.settle_logs (d : Dev) : d.settle.logs = d.logs := by unfold Dev.settle; dsimp only; split <;> rfl
@[simp] theorem Dev.settle_stall (d : Dev) : d.settle.stall = d.stall := by unfold Dev.settle; dsimp only; split <;> rfl
@[simp] theorem Dev.settle_slice (d : Dev) : d.settle.slice = d.slice := by unfold Dev.settle; dsimp only; split <;> rfl
@[simp] theorem Dev.settle_saf (d : Dev) : d.settle.saf = d.saf := by unfold Dev.settle; dsimp only; split <;> rfl
@[simp] theorem Dev.settle_fn (d : Dev) : d.settle.fn = d.fn := by unfold Dev.settle; dsimp only; split <;> rfl
@[simp] theorem Dev.settle_pwr (d : Dev) : d.settle.pwr = d.pwr := by unfold Dev.settle; dsimp only; split <;> rfl
@[simp] theorem Dev.settle_boot (d : Dev) : d.settle.boot = d.boot := by unfold Dev.settle; dsimp only; split <;> rfl
@[simp] theorem Dev.settle_mgt (d : Dev) : d.settle.mgt = d.mgt := by unfold Dev.settle; dsimp only; split <;> rfl
@[simp] theorem Dev.settle_mkl (d : Dev) : d.settle.mkl = d.mkl := by unfold Dev.settle; dsimp only; split <;> rfl
@[simp] theorem Dev.settle_dma (d : Dev) : d.settle.dma = d.dma := by unfold Dev.settle; dsimp only; split <;> rfl
@[simp] theorem Dev.settle_cxp (d : Dev) : d.settle.cxp = d.cxp := by unfold Dev.settle; dsimp only; split <;> rfl
@[simp] theorem Dev.settle_brg (d : Dev) : d.settle.brg = d.brg := by unfold Dev.settle; dsimp only; split <;> rfl

/-- Driving FAULT_N touches neither the causes nor the masks. -/
theorem Dev.settle_ev (d : Dev) :
    d.settle.ev = { d.ev with faultPin := d.settle.ev.faultPin, faultSrc := d.settle.ev.faultSrc } := by
  unfold Dev.settle; dsimp only; split <;> rfl

end Sys2Proof.Machine
end

