-- ==== Sys2Proof/Laws/Access.lean ====
section
/-! SUPPORT. What the shared accesses do where nothing stands against them: a guarded write and read, a record of the configuration
image, and the lifting of an effect to a next state. -/

namespace Sys2Proof.Machine

/-- A lifted effect answers the settled state. -/
theorem State.eff_next (s : State) (f : Dev → Dev) : s.eff f = .next (s.settled (f s.dev)) := rfl

/-- A lifted effect that may lock pages answers the settled state with its locks. -/
theorem State.effL_next (s : State) (f : List Nat → Dev → List Nat × Dev) :
    s.effL f = .next (State.settled { s with plock := (f s.plock s.dev).1 } (f s.plock s.dev).2) := rfl

/-- Where both logics allow an access, that is the decision (R377). -/
theorem Dev.bothDecide_ok (d : Dev) (f : Dev → Dec) (h1 : f d = .ok) (h2 : f d.chkView = .ok) : d.bothDecide f = some .ok := by
  unfold Dev.bothDecide; rw [h1, h2]; simp

/-- A write that may be made is made, on the instance that the accessor selects (R250). -/
theorem Dev.guardW_may (d : Dev) (a : Acc) (r : Reg) (f : Nat → Dev → Dev) (h : d.may a r true = true) : d.guardW a r f = f (d.instOf a r.page r.off) d := by
  unfold Dev.may at h
  simp only [Bool.and_eq_true, beq_iff_eq, Option.isNone_iff_eq_none] at h
  obtain ⟨⟨⟨h1, h2⟩, h3⟩, h4⟩ := h
  have h5 := d.bothDecide_ok (fun d => d.accessDec a r.page r.off true) h3 h4
  unfold Dev.guardW; simp [h1, h2, h5]

/-- A read that may be made is made and answered to the accessor (R250). -/
theorem Dev.guardR_may (d : Dev) (a : Acc) (r : Reg) (f : Nat → Dev → Word × Dev) (h : d.may a r false = true) :
    d.guardR a r f = (f (d.instOf a r.page r.off) d).2.emit (.reply (accIdx a) [(f (d.instOf a r.page r.off) d).1]) := by
  unfold Dev.may at h
  simp only [Bool.and_eq_true, beq_iff_eq, Option.isNone_iff_eq_none] at h
  obtain ⟨⟨⟨h1, h2⟩, h3⟩, h4⟩ := h
  have h5 := d.bothDecide_ok (fun d => d.accessDec a r.page r.off false) h3 h4
  unfold Dev.guardR; simp [h1, h2, h5]

/-- A record of the image runs its effect: the next record counts and its words enter the CRC, unless a WAIT polls on or the record
failed (R472, R473). -/
theorem Dev.kciRec_runs (d : Dev) (lk : List Nat) (poll : Bool) (words : List Nat) (f : Dev → List Nat × Dev × Bool)
    (h1 : d.boot.phase = .kci) (h2 : d.pwr.perst = false) (h3 : d.pwr.off = false) (h4 : d.boot.coresDown = false)
    (h5 : d.boot.waitEnd = none ∨ poll = true) (h6 : d.kciCommitted = some true) :
    d.kciRec lk poll words f =
      (let d0 := { d with boot := { d.boot with comWait := none } }
       let r := f d0
       (r.1, if r.2.1.boot.waitEnd.isSome then r.2.1
        else if r.2.2 then { r.2.1 with boot := { r.2.1.boot with nextRec := d.boot.nextRec + 1, crc := words.foldl crcWord d.boot.crc } }
        else r.2.1.kciFail d.boot.nextRec)) := by
  have h5' : (d.boot.waitEnd.isSome && !poll) = false := by rcases h5 with h | h <;> simp [h]
  unfold Dev.kciRec
  rw [h6, h1, h2, h3, h4, h5']
  simp only [bne_self_eq_false, Bool.or_self, Bool.false_eq_true, if_false]
  split
  · rename_i h; simp
  · rename_i h; split <;> rename_i h2 <;> simp

end Sys2Proof.Machine
end

