-- ==== Sys2Proof/Laws/Bytes.lean ====
section
/-! SUPPORT. Bytes of numbers, and the check sums over them: a number is read back from the bytes it was written to, and a check sum fits the
bytes that carry it, so that a frame, or a copy of a context, that carries its own check sum passes. -/

namespace Sys2Proof.Machine

@[simp] theorem length_bytesOf (k n : Nat) : (bytesOf k n).length = k := by
  induction k generalizing n with
  | zero => rfl
  | succ k ih => simp [bytesOf, ih]

theorem numOf_bytesOf (k n : Nat) : numOf (bytesOf k n) = n % 256 ^ k := by
  induction k generalizing n with
  | zero => simp [bytesOf, numOf, Nat.mod_one]
  | succ k ih => rw [bytesOf, numOf, ih, Nat.pow_succ, Nat.mul_comm (256 ^ k), Nat.mod_mul]; simp

theorem numOf_bytesOf_of_lt {k n : Nat} (h : n < 256 ^ k) : numOf (bytesOf k n) = n := by rw [numOf_bytesOf, Nat.mod_eq_of_lt h]

theorem beNat_reverse (l : List Byte) : beNat l.reverse = numOf l := by
  induction l with
  | nil => rfl
  | cons x l ih =>
    have h : beNat (l.reverse ++ [x]) = 256 * beNat l.reverse + x.toNat := by simp [beNat]
    rw [List.reverse_cons, h, ih, numOf, Nat.add_comm]

theorem beNat_beBytes_of_lt {k n : Nat} (h : n < 256 ^ k) : beNat (beBytes k n) = n := by
  rw [beBytes, beNat_reverse, numOf_bytesOf_of_lt h]

/-- A left fold keeps what each of its steps keeps. -/
theorem foldl_keeps {α β : Type} {P : α → Prop} {f : α → β → α} (h : ∀ a b, P a → P (f a b)) (l : List β) (a : α) (ha : P a) :
    P (l.foldl f a) := by
  induction l generalizing a with
  | nil => exact ha
  | cons b l ih => exact ih _ (h a b ha)

theorem crcStep_lt {c : Nat} (h : c < 2 ^ 32) : crcStep c < 2 ^ 32 := by
  have h2 : c / 2 < 2 ^ 32 := by omega
  unfold crcStep
  split
  · exact Nat.xor_lt_two_pow h2 (by decide)
  · exact h2

theorem crc32c_lt (l : List Byte) : crc32c (l.map (·.toNat)) < 2 ^ 32 := by
  rw [crc32c, List.foldl_map]
  refine Nat.xor_lt_two_pow (foldl_keeps (P := (· < 2 ^ 32)) (fun c b hc => ?_) l _ (by decide)) (by decide)
  exact foldl_keeps (P := (· < 2 ^ 32)) (fun c _ hc => crcStep_lt hc) _ _ (Nat.xor_lt_two_pow hc (by have := b.isLt; omega))

theorem crc48Bit_lt (c : Nat) (b : Bool) : crc48Bit c b < 2 ^ 48 :=
  Nat.xor_lt_two_pow (Nat.mod_lt _ (by decide)) (by split <;> decide)

theorem crc48_lt (l : List Byte) : crc48 l < 2 ^ 48 :=
  foldl_keeps (P := (· < 2 ^ 48)) (fun c _ hc => foldl_keeps (P := (· < 2 ^ 48)) (fun c i _ => crc48Bit_lt c _) _ _ hc) l _ (by decide)

/-- A frame of 242 bytes with their CRC behind them passes. -/
theorem frameOk_append_crc {l : List Byte} (h : l.length = 242) : frameOk (l ++ beBytes 6 (crc48 l)) = true := by
  have hlt : crc48 l < 256 ^ 6 := by have := crc48_lt l; omega
  have h2 : (l ++ beBytes 6 (crc48 l)).drop 242 = beBytes 6 (crc48 l) := by rw [← h]; simp
  have h3 : (l ++ beBytes 6 (crc48 l)).take 242 = l := by rw [← h]; simp
  have h1 : (l ++ beBytes 6 (crc48 l)).length = 248 := by simp [h, beBytes]
  rw [frameOk, h1, h2, h3, beNat_beBytes_of_lt hlt]; simp

/-- The copy of a context in the loft passes the checks of its key and generation, when its key and LOFT_GEN are read back from it. -/
theorem copyGood_bytes {d : Dev} {c : Ctx} {key id out : Nat} (hl : (c.body out).length = 252)
    (hk : numOf ((c.bytes out (d.ctxAddr id)).take 8) = key + 2 ^ 63) (hg : (ctxOfBytes (c.bytes out (d.ctxAddr id))).loftGen = d.loftGen) :
    d.copyGood key id (c.bytes out (d.ctxAddr id)) = true := by
  have hlt : ctxCrc (c.body out) (d.ctxAddr id) < 256 ^ 4 := crc32c_lt _
  have hb : c.bytes out (d.ctxAddr id) = c.body out ++ bytesOf 4 (ctxCrc (c.body out) (d.ctxAddr id)) := rfl
  have h1 : (c.bytes out (d.ctxAddr id)).length = 256 := by rw [hb]; simp [hl]
  have h2 : (c.bytes out (d.ctxAddr id)).drop 252 = bytesOf 4 (ctxCrc (c.body out) (d.ctxAddr id)) := by rw [hb, ← hl]; simp
  have h3 : (c.bytes out (d.ctxAddr id)).take 252 = c.body out := by rw [hb, ← hl]; simp
  simp [Dev.copyGood, h1, h2, h3, hk, hg, numOf_bytesOf_of_lt hlt]

end Sys2Proof.Machine
end

