-- ==== Sys2Proof/Laws/Events.lean ====
section
/-! SUPPORT. Events, counters and FAULT_N: a raise changes the event controller, the tallies and the emissions alone; an increment
its register and the tallies; FAULT_N follows its condition. -/

namespace Sys2Proof.Machine

/-- Two devices that differ in the event controller, the tallies and the emissions alone. -/
def Dev.EvOnly (d e : Dev) : Prop := e = { d with ev := e.ev, tally := e.tally, out := e.out }

theorem Dev.EvOnly.refl (d : Dev) : d.EvOnly d := rfl

theorem Dev.EvOnly.trans {d e f : Dev} (h : d.EvOnly e) (k : e.EvOnly f) : d.EvOnly f := by
  unfold Dev.EvOnly at *
  rw [h] at k
  exact k

theorem Dev.EvOnly.mk' (d : Dev) (ev : Ev) (t : Tally) (o : List Out) : d.EvOnly { d with ev := ev, tally := t, out := o } := rfl

theorem Dev.EvOnly.setEv (d : Dev) (x : Ev) : d.EvOnly { d with ev := x } := rfl

theorem Dev.settle_evOnly (d : Dev) : d.EvOnly d.settle := by
  unfold Dev.settle; dsimp only; split <;> rfl

theorem Dev.tick_evOnly (d : Dev) (page inst src n : Nat) (stb : Option Nat) : d.EvOnly (d.tick page inst src n stb) := by
  unfold Dev.tick; dsimp only; split <;> rfl

theorem Dev.notify_evOnly (d : Dev) : d.EvOnly d.notify := by
  unfold Dev.notify; dsimp only; split <;> rfl

theorem Dev.pbaSet_evOnly (d : Dev) (s v : Nat) : d.EvOnly (d.pbaSet s v) := by
  unfold Dev.pbaSet; split <;> rfl

theorem Dev.fmVector_evOnly (d : Dev) (v : Nat) : d.EvOnly (d.fmVector v) := by
  unfold Dev.fmVector; split
  · exact Dev.pbaSet_evOnly _ _ _
  · rfl

theorem Dev.pushFm_evOnly (d : Dev) (n : Nat) (r : EvRec) : d.EvOnly (d.pushFm n r).1 := by
  unfold Dev.pushFm
  dsimp only
  refine Dev.EvOnly.trans (e := if (d.ev.fmq.push r).2 = true ∧ d.ev.fmq.recs.length = 0 then
    ({ d with ev := { d.ev with fmq := (d.ev.fmq.push r).1 } } : Dev).notify
    else { d with ev := { d.ev with fmq := (d.ev.fmq.push r).1 } }) ?_ ?_
  · split
    · exact (Dev.EvOnly.setEv d _).trans (Dev.notify_evOnly _)
    · rfl
  · exact Dev.fmVector_evOnly _ _

theorem Dev.pushEnq_evOnly (d : Dev) (r : EvRec) : d.EvOnly (d.pushEnq r).1 := rfl

theorem Dev.deliverMgmt_evOnly (d : Dev) (n : Nat) (i : RaiseInfo) : d.EvOnly (d.deliverMgmt n i).1 := by
  unfold Dev.deliverMgmt
  dsimp only
  generalize EvRec.mk n ((evSev n).getD 0) i.forced i.stable 0 i.detail i.time = r
  have h1 : d.EvOnly (if d.toFm n = true then d.pushFm n r else (d, false)).1 := by
    split
    · exact Dev.pushFm_evOnly d n r
    · rfl
  generalize (if d.toFm n = true then d.pushFm n r else (d, false)).1 = e at h1 ⊢
  split
  · exact h1.trans (Dev.pushEnq_evOnly e r)
  · exact h1

theorem Dev.deliver_evOnly (d : Dev) (arr n : Nat) : d.EvOnly (d.deliver arr n).1 := by
  unfold Dev.deliver
  dsimp only
  generalize hx : ({ d with ev := { d.ev with storm := Tbl.put d.ev.storm (evKey arr n) ⟨0, 0, 0⟩ (d.stormStep arr n).2.1 } } : Dev) = x
  have h : d.EvOnly x := hx ▸ Dev.EvOnly.setEv d _
  split
  · exact h
  · split
    · exact h.trans (Dev.deliverMgmt_evOnly x _ _)
    · unfold Dev.deliverStable
      split
      · exact h
      · exact h.trans (Dev.pbaSet_evOnly _ _ _)

theorem Dev.raiseIn_evOnly (d : Dev) (arr n : Nat) : d.EvOnly (d.raiseIn arr n).1 := by
  unfold Dev.raiseIn
  split
  · split <;> rfl
  · dsimp only
    split
    · exact (Dev.EvOnly.setEv d _).trans (Dev.deliver_evOnly _ _ _)
    · rfl

theorem Dev.EvOnly.foldl {β : Type} (f : Dev → β → Dev) (h : ∀ (d : Dev) (b : β), d.EvOnly (f d b)) (l : List β) (d : Dev) :
    d.EvOnly (l.foldl f d) := by
  induction l generalizing d with
  | nil => rfl
  | cons b l ih => exact (h d b).trans (ih _)

theorem Dev.raiseAll_evOnly (n : Nat) (l : List Nat) (d : Dev) (fs : List (Nat × Word)) :
    d.EvOnly (l.foldl (fun (acc : Dev × List (Nat × Word)) arr =>
      let r := acc.1.raiseIn arr n
      (r.1, acc.2 ++ r.2)) (d, fs)).1 := by
  induction l generalizing d fs with
  | nil => rfl
  | cons a l ih => exact (Dev.raiseIn_evOnly d a n).trans (ih _ _)

/-- A raise changes the event controller, the tallies and the emissions alone. -/
theorem Dev.tickRaise_evOnly (d : Dev) (n : Nat) (arrs : List Nat) : d.EvOnly (d.tickRaise n arrs) := rfl

theorem Dev.raiseArrs_evOnly (fuel : Nat) (d : Dev) (arrs : List Nat) (n : Nat) (i : RaiseInfo) :
    d.EvOnly (Dev.raiseArrs fuel d arrs n i) := by
  induction fuel generalizing d arrs n i with
  | zero => rfl
  | succ fuel ih =>
    unfold Dev.raiseArrs
    split
    · rfl
    · dsimp only
      refine Dev.EvOnly.trans ?_ (Dev.settle_evOnly _)
      refine Dev.EvOnly.trans ?_ (Dev.EvOnly.foldl _ (fun d (f : Nat × Word) => ih d [64] f.1 _) _ _)
      refine Dev.EvOnly.trans ?_ (Dev.raiseAll_evOnly n arrs _ [])
      exact (Dev.EvOnly.setEv d _).trans (Dev.tickRaise_evOnly _ _ _)

theorem Dev.raiseWith_evOnly (d : Dev) (n : Nat) (w : Word) (o : List Nat) : d.EvOnly (d.raiseWith n w o) := Dev.raiseArrs_evOnly _ _ _ _ _
theorem Dev.raiseFor_evOnly (d : Dev) (n : Nat) (o : List Nat) : d.EvOnly (d.raiseFor n o) := Dev.raiseArrs_evOnly _ _ _ _ _
theorem Dev.raise_evOnly (d : Dev) (n : Nat) : d.EvOnly (d.raise n) := Dev.raiseArrs_evOnly _ _ _ _ _
theorem Dev.raiseCal_evOnly (d : Dev) (p e : Nat) : d.EvOnly (d.raiseCal p e) := Dev.raiseArrs_evOnly _ _ _ _ _

/-- An increment of a count register changes it and the tallies alone. -/
theorem Dev.bumpBy_frame (d : Dev) (r : Reg) (i n : Nat) (stb : Option Nat) :
    d.bumpBy r i n stb = { d.wn r i (d.rn r i + n) with tally := (d.bumpBy r i n stb).tally } := by
  unfold Dev.bumpBy Dev.tick; dsimp only; split <;> rfl

/-- A count register after n increments. -/
theorem Dev.rn_bumpBy_same (d : Dev) (r : Reg) (i n : Nat) (stb : Option Nat) :
    (d.bumpBy r i n stb).rn r i = (d.rn r i + n) % 4294967296 := by
  rw [Dev.bumpBy_frame]; exact Dev.rn_wn_same d r i _

/-! ### Fields that raises and increments leave alone -/

theorem Dev.EvOnly.regs_eq {d e : Dev} (h : d.EvOnly e) : e.regs = d.regs := (congrArg Dev.regs (show e = _ from h) : _)
theorem Dev.EvOnly.aregs_eq {d e : Dev} (h : d.EvOnly e) : e.aregs = d.aregs := (congrArg Dev.aregs (show e = _ from h) : _)
theorem Dev.EvOnly.free_eq {d e : Dev} (h : d.EvOnly e) : e.free = d.free := (congrArg Dev.free (show e = _ from h) : _)
theorem Dev.EvOnly.now_eq {d e : Dev} (h : d.EvOnly e) : e.now = d.now := (congrArg Dev.now (show e = _ from h) : _)
theorem Dev.EvOnly.staging_eq {d e : Dev} (h : d.EvOnly e) : e.staging = d.staging := (congrArg Dev.staging (show e = _ from h) : _)
theorem Dev.EvOnly.yard_eq {d e : Dev} (h : d.EvOnly e) : e.yard = d.yard := (congrArg Dev.yard (show e = _ from h) : _)
theorem Dev.EvOnly.cyc_eq {d e : Dev} (h : d.EvOnly e) : e.cyc = d.cyc := (congrArg Dev.cyc (show e = _ from h) : _)
theorem Dev.EvOnly.ports_eq {d e : Dev} (h : d.EvOnly e) : e.ports = d.ports := (congrArg Dev.ports (show e = _ from h) : _)
theorem Dev.EvOnly.sched_eq {d e : Dev} (h : d.EvOnly e) : e.sched = d.sched := (congrArg Dev.sched (show e = _ from h) : _)
theorem Dev.EvOnly.path_eq {d e : Dev} (h : d.EvOnly e) : e.path = d.path := (congrArg Dev.path (show e = _ from h) : _)
theorem Dev.EvOnly.logs_eq {d e : Dev} (h : d.EvOnly e) : e.logs = d.logs := (congrArg Dev.logs (show e = _ from h) : _)
theorem Dev.EvOnly.stall_eq {d e : Dev} (h : d.EvOnly e) : e.stall = d.stall := (congrArg Dev.stall (show e = _ from h) : _)
theorem Dev.EvOnly.slice_eq {d e : Dev} (h : d.EvOnly e) : e.slice = d.slice := (congrArg Dev.slice (show e = _ from h) : _)
theorem Dev.EvOnly.saf_eq {d e : Dev} (h : d.EvOnly e) : e.saf = d.saf := (congrArg Dev.saf (show e = _ from h) : _)
theorem Dev.EvOnly.fn_eq {d e : Dev} (h : d.EvOnly e) : e.fn = d.fn := (congrArg Dev.fn (show e = _ from h) : _)
theorem Dev.EvOnly.pwr_eq {d e : Dev} (h : d.EvOnly e) : e.pwr = d.pwr := (congrArg Dev.pwr (show e = _ from h) : _)
theorem Dev.EvOnly.boot_eq {d e : Dev} (h : d.EvOnly e) : e.boot = d.boot := (congrArg Dev.boot (show e = _ from h) : _)
theorem Dev.EvOnly.mgt_eq {d e : Dev} (h : d.EvOnly e) : e.mgt = d.mgt := (congrArg Dev.mgt (show e = _ from h) : _)
theorem Dev.EvOnly.mkl_eq {d e : Dev} (h : d.EvOnly e) : e.mkl = d.mkl := (congrArg Dev.mkl (show e = _ from h) : _)
theorem Dev.EvOnly.dma_eq {d e : Dev} (h : d.EvOnly e) : e.dma = d.dma := (congrArg Dev.dma (show e = _ from h) : _)
theorem Dev.EvOnly.cxp_eq {d e : Dev} (h : d.EvOnly e) : e.cxp = d.cxp := (congrArg Dev.cxp (show e = _ from h) : _)
theorem Dev.EvOnly.brg_eq {d e : Dev} (h : d.EvOnly e) : e.brg = d.brg := (congrArg Dev.brg (show e = _ from h) : _)

@[simp] theorem Dev.raiseWith_regs (d : Dev) (n : Nat) (w : Word) (o : List Nat) : (d.raiseWith n w o).regs = d.regs := (Dev.raiseWith_evOnly d n w o).regs_eq
@[simp] theorem Dev.raiseWith_aregs (d : Dev) (n : Nat) (w : Word) (o : List Nat) : (d.raiseWith n w o).aregs = d.aregs := (Dev.raiseWith_evOnly d n w o).aregs_eq
@[simp] theorem Dev.raiseWith_free (d : Dev) (n : Nat) (w : Word) (o : List Nat) : (d.raiseWith n w o).free = d.free := (Dev.raiseWith_evOnly d n w o).free_eq
@[simp] theorem Dev.raiseWith_now (d : Dev) (n : Nat) (w : Word) (o : List Nat) : (d.raiseWith n w o).now = d.now := (Dev.raiseWith_evOnly d n w o).now_eq
@[simp] theorem Dev.raiseWith_staging (d : Dev) (n : Nat) (w : Word) (o : List Nat) : (d.raiseWith n w o).staging = d.staging := (Dev.raiseWith_evOnly d n w o).staging_eq
@[simp] theorem Dev.raiseWith_yard (d : Dev) (n : Nat) (w : Word) (o : List Nat) : (d.raiseWith n w o).yard = d.yard := (Dev.raiseWith_evOnly d n w o).yard_eq
@[simp] theorem Dev.raiseWith_cyc (d : Dev) (n : Nat) (w : Word) (o : List Nat) : (d.raiseWith n w o).cyc = d.cyc := (Dev.raiseWith_evOnly d n w o).cyc_eq
@[simp] theorem Dev.raiseWith_ports (d : Dev) (n : Nat) (w : Word) (o : List Nat) : (d.raiseWith n w o).ports = d.ports := (Dev.raiseWith_evOnly d n w o).ports_eq
@[simp] theorem Dev.raiseWith_sched (d : Dev) (n : Nat) (w : Word) (o : List Nat) : (d.raiseWith n w o).sched = d.sched := (Dev.raiseWith_evOnly d n w o).sched_eq
@[simp] theorem Dev.raiseWith_path (d : Dev) (n : Nat) (w : Word) (o : List Nat) : (d.raiseWith n w o).path = d.path := (Dev.raiseWith_evOnly d n w o).path_eq
@[simp] theorem Dev.raiseWith_logs (d : Dev) (n : Nat) (w : Word) (o : List Nat) : (d.raiseWith n w o).logs = d.logs := (Dev.raiseWith_evOnly d n w o).logs_eq
@[simp] theorem Dev.raiseWith_stall (d : Dev) (n : Nat) (w : Word) (o : List Nat) : (d.raiseWith n w o).stall = d.stall := (Dev.raiseWith_evOnly d n w o).stall_eq
@[simp] theorem Dev.raiseWith_slice (d : Dev) (n : Nat) (w : Word) (o : List Nat) : (d.raiseWith n w o).slice = d.slice := (Dev.raiseWith_evOnly d n w o).slice_eq
@[simp] theorem Dev.raiseWith_saf (d : Dev) (n : Nat) (w : Word) (o : List Nat) : (d.raiseWith n w o).saf = d.saf := (Dev.raiseWith_evOnly d n w o).saf_eq
@[simp] theorem Dev.raiseWith_fn (d : Dev) (n : Nat) (w : Word) (o : List Nat) : (d.raiseWith n w o).fn = d.fn := (Dev.raiseWith_evOnly d n w o).fn_eq
@[simp] theorem Dev.raiseWith_pwr (d : Dev) (n : Nat) (w : Word) (o : List Nat) : (d.raiseWith n w o).pwr = d.pwr := (Dev.raiseWith_evOnly d n w o).pwr_eq
@[simp] theorem Dev.raiseWith_boot (d : Dev) (n : Nat) (w : Word) (o : List Nat) : (d.raiseWith n w o).boot = d.boot := (Dev.raiseWith_evOnly d n w o).boot_eq
@[simp] theorem Dev.raiseWith_mgt (d : Dev) (n : Nat) (w : Word) (o : List Nat) : (d.raiseWith n w o).mgt = d.mgt := (Dev.raiseWith_evOnly d n w o).mgt_eq
@[simp] theorem Dev.raiseWith_mkl (d : Dev) (n : Nat) (w : Word) (o : List Nat) : (d.raiseWith n w o).mkl = d.mkl := (Dev.raiseWith_evOnly d n w o).mkl_eq
@[simp] theorem Dev.raiseWith_dma (d : Dev) (n : Nat) (w : Word) (o : List Nat) : (d.raiseWith n w o).dma = d.dma := (Dev.raiseWith_evOnly d n w o).dma_eq
@[simp] theorem Dev.raiseWith_cxp (d : Dev) (n : Nat) (w : Word) (o : List Nat) : (d.raiseWith n w o).cxp = d.cxp := (Dev.raiseWith_evOnly d n w o).cxp_eq
@[simp] theorem Dev.raiseWith_brg (d : Dev) (n : Nat) (w : Word) (o : List Nat) : (d.raiseWith n w o).brg = d.brg := (Dev.raiseWith_evOnly d n w o).brg_eq
@[simp] theorem Dev.raiseWith_rd (d : Dev) (n : Nat) (w : Word) (o : List Nat) (r : Reg) (i : Nat) : (d.raiseWith n w o).rd r i = d.rd r i := by
  unfold Dev.rd; rw [Dev.raiseWith_regs]

@[simp] theorem Dev.raiseFor_regs (d : Dev) (n : Nat) (o : List Nat) : (d.raiseFor n o).regs = d.regs := (Dev.raiseFor_evOnly d n o).regs_eq
@[simp] theorem Dev.raiseFor_aregs (d : Dev) (n : Nat) (o : List Nat) : (d.raiseFor n o).aregs = d.aregs := (Dev.raiseFor_evOnly d n o).aregs_eq
@[simp] theorem Dev.raiseFor_free (d : Dev) (n : Nat) (o : List Nat) : (d.raiseFor n o).free = d.free := (Dev.raiseFor_evOnly d n o).free_eq
@[simp] theorem Dev.raiseFor_now (d : Dev) (n : Nat) (o : List Nat) : (d.raiseFor n o).now = d.now := (Dev.raiseFor_evOnly d n o).now_eq
@[simp] theorem Dev.raiseFor_staging (d : Dev) (n : Nat) (o : List Nat) : (d.raiseFor n o).staging = d.staging := (Dev.raiseFor_evOnly d n o).staging_eq
@[simp] theorem Dev.raiseFor_yard (d : Dev) (n : Nat) (o : List Nat) : (d.raiseFor n o).yard = d.yard := (Dev.raiseFor_evOnly d n o).yard_eq
@[simp] theorem Dev.raiseFor_cyc (d : Dev) (n : Nat) (o : List Nat) : (d.raiseFor n o).cyc = d.cyc := (Dev.raiseFor_evOnly d n o).cyc_eq
@[simp] theorem Dev.raiseFor_ports (d : Dev) (n : Nat) (o : List Nat) : (d.raiseFor n o).ports = d.ports := (Dev.raiseFor_evOnly d n o).ports_eq
@[simp] theorem Dev.raiseFor_sched (d : Dev) (n : Nat) (o : List Nat) : (d.raiseFor n o).sched = d.sched := (Dev.raiseFor_evOnly d n o).sched_eq
@[simp] theorem Dev.raiseFor_path (d : Dev) (n : Nat) (o : List Nat) : (d.raiseFor n o).path = d.path := (Dev.raiseFor_evOnly d n o).path_eq
@[simp] theorem Dev.raiseFor_logs (d : Dev) (n : Nat) (o : List Nat) : (d.raiseFor n o).logs = d.logs := (Dev.raiseFor_evOnly d n o).logs_eq
@[simp] theorem Dev.raiseFor_stall (d : Dev) (n : Nat) (o : List Nat) : (d.raiseFor n o).stall = d.stall := (Dev.raiseFor_evOnly d n o).stall_eq
@[simp] theorem Dev.raiseFor_slice (d : Dev) (n : Nat) (o : List Nat) : (d.raiseFor n o).slice = d.slice := (Dev.raiseFor_evOnly d n o).slice_eq
@[simp] theorem Dev.raiseFor_saf (d : Dev) (n : Nat) (o : List Nat) : (d.raiseFor n o).saf = d.saf := (Dev.raiseFor_evOnly d n o).saf_eq
@[simp] theorem Dev.raiseFor_fn (d : Dev) (n : Nat) (o : List Nat) : (d.raiseFor n o).fn = d.fn := (Dev.raiseFor_evOnly d n o).fn_eq
@[simp] theorem Dev.raiseFor_pwr (d : Dev) (n : Nat) (o : List Nat) : (d.raiseFor n o).pwr = d.pwr := (Dev.raiseFor_evOnly d n o).pwr_eq
@[simp] theorem Dev.raiseFor_boot (d : Dev) (n : Nat) (o : List Nat) : (d.raiseFor n o).boot = d.boot := (Dev.raiseFor_evOnly d n o).boot_eq
@[simp] theorem Dev.raiseFor_mgt (d : Dev) (n : Nat) (o : List Nat) : (d.raiseFor n o).mgt = d.mgt := (Dev.raiseFor_evOnly d n o).mgt_eq
@[simp] theorem Dev.raiseFor_mkl (d : Dev) (n : Nat) (o : List Nat) : (d.raiseFor n o).mkl = d.mkl := (Dev.raiseFor_evOnly d n o).mkl_eq
@[simp] theorem Dev.raiseFor_dma (d : Dev) (n : Nat) (o : List Nat) : (d.raiseFor n o).dma = d.dma := (Dev.raiseFor_evOnly d n o).dma_eq
@[simp] theorem Dev.raiseFor_cxp (d : Dev) (n : Nat) (o : List Nat) : (d.raiseFor n o).cxp = d.cxp := (Dev.raiseFor_evOnly d n o).cxp_eq
@[simp] theorem Dev.raiseFor_brg (d : Dev) (n : Nat) (o : List Nat) : (d.raiseFor n o).brg = d.brg := (Dev.raiseFor_evOnly d n o).brg_eq
@[simp] theorem Dev.raiseFor_rd (d : Dev) (n : Nat) (o : List Nat) (r : Reg) (i : Nat) : (d.raiseFor n o).rd r i = d.rd r i := by
  unfold Dev.rd; rw [Dev.raiseFor_regs]

@[simp] theorem Dev.raise_regs (d : Dev) (n : Nat) : (d.raise n).regs = d.regs := (Dev.raise_evOnly d n).regs_eq
@[simp] theorem Dev.raise_aregs (d : Dev) (n : Nat) : (d.raise n).aregs = d.aregs := (Dev.raise_evOnly d n).aregs_eq
@[simp] theorem Dev.raise_free (d : Dev) (n : Nat) : (d.raise n).free = d.free := (Dev.raise_evOnly d n).free_eq
@[simp] theorem Dev.raise_now (d : Dev) (n : Nat) : (d.raise n).now = d.now := (Dev.raise_evOnly d n).now_eq
@[simp] theorem Dev.raise_staging (d : Dev) (n : Nat) : (d.raise n).staging = d.staging := (Dev.raise_evOnly d n).staging_eq
@[simp] theorem Dev.raise_yard (d : Dev) (n : Nat) : (d.raise n).yard = d.yard := (Dev.raise_evOnly d n).yard_eq
@[simp] theorem Dev.raise_cyc (d : Dev) (n : Nat) : (d.raise n).cyc = d.cyc := (Dev.raise_evOnly d n).cyc_eq
@[simp] theorem Dev.raise_ports (d : Dev) (n : Nat) : (d.raise n).ports = d.ports := (Dev.raise_evOnly d n).ports_eq
@[simp] theorem Dev.raise_sched (d : Dev) (n : Nat) : (d.raise n).sched = d.sched := (Dev.raise_evOnly d n).sched_eq
@[simp] theorem Dev.raise_path (d : Dev) (n : Nat) : (d.raise n).path = d.path := (Dev.raise_evOnly d n).path_eq
@[simp] theorem Dev.raise_logs (d : Dev) (n : Nat) : (d.raise n).logs = d.logs := (Dev.raise_evOnly d n).logs_eq
@[simp] theorem Dev.raise_stall (d : Dev) (n : Nat) : (d.raise n).stall = d.stall := (Dev.raise_evOnly d n).stall_eq
@[simp] theorem Dev.raise_slice (d : Dev) (n : Nat) : (d.raise n).slice = d.slice := (Dev.raise_evOnly d n).slice_eq
@[simp] theorem Dev.raise_saf (d : Dev) (n : Nat) : (d.raise n).saf = d.saf := (Dev.raise_evOnly d n).saf_eq
@[simp] theorem Dev.raise_fn (d : Dev) (n : Nat) : (d.raise n).fn = d.fn := (Dev.raise_evOnly d n).fn_eq
@[simp] theorem Dev.raise_pwr (d : Dev) (n : Nat) : (d.raise n).pwr = d.pwr := (Dev.raise_evOnly d n).pwr_eq
@[simp] theorem Dev.raise_boot (d : Dev) (n : Nat) : (d.raise n).boot = d.boot := (Dev.raise_evOnly d n).boot_eq
@[simp] theorem Dev.raise_mgt (d : Dev) (n : Nat) : (d.raise n).mgt = d.mgt := (Dev.raise_evOnly d n).mgt_eq
@[simp] theorem Dev.raise_mkl (d : Dev) (n : Nat) : (d.raise n).mkl = d.mkl := (Dev.raise_evOnly d n).mkl_eq
@[simp] theorem Dev.raise_dma (d : Dev) (n : Nat) : (d.raise n).dma = d.dma := (Dev.raise_evOnly d n).dma_eq
@[simp] theorem Dev.raise_cxp (d : Dev) (n : Nat) : (d.raise n).cxp = d.cxp := (Dev.raise_evOnly d n).cxp_eq
@[simp] theorem Dev.raise_brg (d : Dev) (n : Nat) : (d.raise n).brg = d.brg := (Dev.raise_evOnly d n).brg_eq
@[simp] theorem Dev.raise_rd (d : Dev) (n : Nat) (r : Reg) (i : Nat) : (d.raise n).rd r i = d.rd r i := by
  unfold Dev.rd; rw [Dev.raise_regs]

@[simp] theorem Dev.raiseCal_regs (d : Dev) (p e : Nat) : (d.raiseCal p e).regs = d.regs := (Dev.raiseCal_evOnly d p e).regs_eq
@[simp] theorem Dev.raiseCal_aregs (d : Dev) (p e : Nat) : (d.raiseCal p e).aregs = d.aregs := (Dev.raiseCal_evOnly d p e).aregs_eq
@[simp] theorem Dev.raiseCal_free (d : Dev) (p e : Nat) : (d.raiseCal p e).free = d.free := (Dev.raiseCal_evOnly d p e).free_eq
@[simp] theorem Dev.raiseCal_now (d : Dev) (p e : Nat) : (d.raiseCal p e).now = d.now := (Dev.raiseCal_evOnly d p e).now_eq
@[simp] theorem Dev.raiseCal_staging (d : Dev) (p e : Nat) : (d.raiseCal p e).staging = d.staging := (Dev.raiseCal_evOnly d p e).staging_eq
@[simp] theorem Dev.raiseCal_yard (d : Dev) (p e : Nat) : (d.raiseCal p e).yard = d.yard := (Dev.raiseCal_evOnly d p e).yard_eq
@[simp] theorem Dev.raiseCal_cyc (d : Dev) (p e : Nat) : (d.raiseCal p e).cyc = d.cyc := (Dev.raiseCal_evOnly d p e).cyc_eq
@[simp] theorem Dev.raiseCal_ports (d : Dev) (p e : Nat) : (d.raiseCal p e).ports = d.ports := (Dev.raiseCal_evOnly d p e).ports_eq
@[simp] theorem Dev.raiseCal_sched (d : Dev) (p e : Nat) : (d.raiseCal p e).sched = d.sched := (Dev.raiseCal_evOnly d p e).sched_eq
@[simp] theorem Dev.raiseCal_path (d : Dev) (p e : Nat) : (d.raiseCal p e).path = d.path := (Dev.raiseCal_evOnly d p e).path_eq
@[simp] theorem Dev.raiseCal_logs (d : Dev) (p e : Nat) : (d.raiseCal p e).logs = d.logs := (Dev.raiseCal_evOnly d p e).logs_eq
@[simp] theorem Dev.raiseCal_stall (d : Dev) (p e : Nat) : (d.raiseCal p e).stall = d.stall := (Dev.raiseCal_evOnly d p e).stall_eq
@[simp] theorem Dev.raiseCal_slice (d : Dev) (p e : Nat) : (d.raiseCal p e).slice = d.slice := (Dev.raiseCal_evOnly d p e).slice_eq
@[simp] theorem Dev.raiseCal_saf (d : Dev) (p e : Nat) : (d.raiseCal p e).saf = d.saf := (Dev.raiseCal_evOnly d p e).saf_eq
@[simp] theorem Dev.raiseCal_fn (d : Dev) (p e : Nat) : (d.raiseCal p e).fn = d.fn := (Dev.raiseCal_evOnly d p e).fn_eq
@[simp] theorem Dev.raiseCal_pwr (d : Dev) (p e : Nat) : (d.raiseCal p e).pwr = d.pwr := (Dev.raiseCal_evOnly d p e).pwr_eq
@[simp] theorem Dev.raiseCal_boot (d : Dev) (p e : Nat) : (d.raiseCal p e).boot = d.boot := (Dev.raiseCal_evOnly d p e).boot_eq
@[simp] theorem Dev.raiseCal_mgt (d : Dev) (p e : Nat) : (d.raiseCal p e).mgt = d.mgt := (Dev.raiseCal_evOnly d p e).mgt_eq
@[simp] theorem Dev.raiseCal_mkl (d : Dev) (p e : Nat) : (d.raiseCal p e).mkl = d.mkl := (Dev.raiseCal_evOnly d p e).mkl_eq
@[simp] theorem Dev.raiseCal_dma (d : Dev) (p e : Nat) : (d.raiseCal p e).dma = d.dma := (Dev.raiseCal_evOnly d p e).dma_eq
@[simp] theorem Dev.raiseCal_cxp (d : Dev) (p e : Nat) : (d.raiseCal p e).cxp = d.cxp := (Dev.raiseCal_evOnly d p e).cxp_eq
@[simp] theorem Dev.raiseCal_brg (d : Dev) (p e : Nat) : (d.raiseCal p e).brg = d.brg := (Dev.raiseCal_evOnly d p e).brg_eq
@[simp] theorem Dev.raiseCal_rd (d : Dev) (p e : Nat) (r : Reg) (i : Nat) : (d.raiseCal p e).rd r i = d.rd r i := by
  unfold Dev.rd; rw [Dev.raiseCal_regs]

theorem Dev.bumpBy_regs (d : Dev) (r : Reg) (i n : Nat) (stb : Option Nat) : (d.bumpBy r i n stb).regs = (d.wn r i (d.rn r i + n)).regs := (congrArg Dev.regs (Dev.bumpBy_frame d r i n stb) : _)
@[simp] theorem Dev.bumpBy_aregs (d : Dev) (r : Reg) (i n : Nat) (stb : Option Nat) : (d.bumpBy r i n stb).aregs = d.aregs := (congrArg Dev.aregs (Dev.bumpBy_frame d r i n stb) : _)
@[simp] theorem Dev.bumpBy_free (d : Dev) (r : Reg) (i n : Nat) (stb : Option Nat) : (d.bumpBy r i n stb).free = d.free := (congrArg Dev.free (Dev.bumpBy_frame d r i n stb) : _)
@[simp] theorem Dev.bumpBy_now (d : Dev) (r : Reg) (i n : Nat) (stb : Option Nat) : (d.bumpBy r i n stb).now = d.now := (congrArg Dev.now (Dev.bumpBy_frame d r i n stb) : _)
@[simp] theorem Dev.bumpBy_staging (d : Dev) (r : Reg) (i n : Nat) (stb : Option Nat) : (d.bumpBy r i n stb).staging = d.staging := (congrArg Dev.staging (Dev.bumpBy_frame d r i n stb) : _)
@[simp] theorem Dev.bumpBy_yard (d : Dev) (r : Reg) (i n : Nat) (stb : Option Nat) : (d.bumpBy r i n stb).yard = d.yard := (congrArg Dev.yard (Dev.bumpBy_frame d r i n stb) : _)
@[simp] theorem Dev.bumpBy_cyc (d : Dev) (r : Reg) (i n : Nat) (stb : Option Nat) : (d.bumpBy r i n stb).cyc = d.cyc := (congrArg Dev.cyc (Dev.bumpBy_frame d r i n stb) : _)
@[simp] theorem Dev.bumpBy_ports (d : Dev) (r : Reg) (i n : Nat) (stb : Option Nat) : (d.bumpBy r i n stb).ports = d.ports := (congrArg Dev.ports (Dev.bumpBy_frame d r i n stb) : _)
@[simp] theorem Dev.bumpBy_sched (d : Dev) (r : Reg) (i n : Nat) (stb : Option Nat) : (d.bumpBy r i n stb).sched = d.sched := (congrArg Dev.sched (Dev.bumpBy_frame d r i n stb) : _)
@[simp] theorem Dev.bumpBy_path (d : Dev) (r : Reg) (i n : Nat) (stb : Option Nat) : (d.bumpBy r i n stb).path = d.path := (congrArg Dev.path (Dev.bumpBy_frame d r i n stb) : _)
@[simp] theorem Dev.bumpBy_logs (d : Dev) (r : Reg) (i n : Nat) (stb : Option Nat) : (d.bumpBy r i n stb).logs = d.logs := (congrArg Dev.logs (Dev.bumpBy_frame d r i n stb) : _)
@[simp] theorem Dev.bumpBy_stall (d : Dev) (r : Reg) (i n : Nat) (stb : Option Nat) : (d.bumpBy r i n stb).stall = d.stall := (congrArg Dev.stall (Dev.bumpBy_frame d r i n stb) : _)
@[simp] theorem Dev.bumpBy_slice (d : Dev) (r : Reg) (i n : Nat) (stb : Option Nat) : (d.bumpBy r i n stb).slice = d.slice := (congrArg Dev.slice (Dev.bumpBy_frame d r i n stb) : _)
@[simp] theorem Dev.bumpBy_saf (d : Dev) (r : Reg) (i n : Nat) (stb : Option Nat) : (d.bumpBy r i n stb).saf = d.saf := (congrArg Dev.saf (Dev.bumpBy_frame d r i n stb) : _)
@[simp] theorem Dev.bumpBy_fn (d : Dev) (r : Reg) (i n : Nat) (stb : Option Nat) : (d.bumpBy r i n stb).fn = d.fn := (congrArg Dev.fn (Dev.bumpBy_frame d r i n stb) : _)
@[simp] theorem Dev.bumpBy_pwr (d : Dev) (r : Reg) (i n : Nat) (stb : Option Nat) : (d.bumpBy r i n stb).pwr = d.pwr := (congrArg Dev.pwr (Dev.bumpBy_frame d r i n stb) : _)
@[simp] theorem Dev.bumpBy_boot (d : Dev) (r : Reg) (i n : Nat) (stb : Option Nat) : (d.bumpBy r i n stb).boot = d.boot := (congrArg Dev.boot (Dev.bumpBy_frame d r i n stb) : _)
@[simp] theorem Dev.bumpBy_mgt (d : Dev) (r : Reg) (i n : Nat) (stb : Option Nat) : (d.bumpBy r i n stb).mgt = d.mgt := (congrArg Dev.mgt (Dev.bumpBy_frame d r i n stb) : _)
@[simp] theorem Dev.bumpBy_mkl (d : Dev) (r : Reg) (i n : Nat) (stb : Option Nat) : (d.bumpBy r i n stb).mkl = d.mkl := (congrArg Dev.mkl (Dev.bumpBy_frame d r i n stb) : _)
@[simp] theorem Dev.bumpBy_dma (d : Dev) (r : Reg) (i n : Nat) (stb : Option Nat) : (d.bumpBy r i n stb).dma = d.dma := (congrArg Dev.dma (Dev.bumpBy_frame d r i n stb) : _)
@[simp] theorem Dev.bumpBy_cxp (d : Dev) (r : Reg) (i n : Nat) (stb : Option Nat) : (d.bumpBy r i n stb).cxp = d.cxp := (congrArg Dev.cxp (Dev.bumpBy_frame d r i n stb) : _)
@[simp] theorem Dev.bumpBy_brg (d : Dev) (r : Reg) (i n : Nat) (stb : Option Nat) : (d.bumpBy r i n stb).brg = d.brg := (congrArg Dev.brg (Dev.bumpBy_frame d r i n stb) : _)
@[simp] theorem Dev.bumpBy_ev (d : Dev) (r : Reg) (i n : Nat) (stb : Option Nat) : (d.bumpBy r i n stb).ev = d.ev := (congrArg Dev.ev (Dev.bumpBy_frame d r i n stb) : _)
@[simp] theorem Dev.bumpBy_out (d : Dev) (r : Reg) (i n : Nat) (stb : Option Nat) : (d.bumpBy r i n stb).out = d.out := (congrArg Dev.out (Dev.bumpBy_frame d r i n stb) : _)

@[simp] theorem Dev.bump_aregs (d : Dev) (r : Reg) (i : Nat) (stb : Option Nat) : (d.bump r i stb).aregs = d.aregs := Dev.bumpBy_aregs d r i 1 stb
@[simp] theorem Dev.bump_free (d : Dev) (r : Reg) (i : Nat) (stb : Option Nat) : (d.bump r i stb).free = d.free := Dev.bumpBy_free d r i 1 stb
@[simp] theorem Dev.bump_now (d : Dev) (r : Reg) (i : Nat) (stb : Option Nat) : (d.bump r i stb).now = d.now := Dev.bumpBy_now d r i 1 stb
@[simp] theorem Dev.bump_staging (d : Dev) (r : Reg) (i : Nat) (stb : Option Nat) : (d.bump r i stb).staging = d.staging := Dev.bumpBy_staging d r i 1 stb
@[simp] theorem Dev.bump_yard (d : Dev) (r : Reg) (i : Nat) (stb : Option Nat) : (d.bump r i stb).yard = d.yard := Dev.bumpBy_yard d r i 1 stb
@[simp] theorem Dev.bump_cyc (d : Dev) (r : Reg) (i : Nat) (stb : Option Nat) : (d.bump r i stb).cyc = d.cyc := Dev.bumpBy_cyc d r i 1 stb
@[simp] theorem Dev.bump_ports (d : Dev) (r : Reg) (i : Nat) (stb : Option Nat) : (d.bump r i stb).ports = d.ports := Dev.bumpBy_ports d r i 1 stb
@[simp] theorem Dev.bump_sched (d : Dev) (r : Reg) (i : Nat) (stb : Option Nat) : (d.bump r i stb).sched = d.sched := Dev.bumpBy_sched d r i 1 stb
@[simp] theorem Dev.bump_path (d : Dev) (r : Reg) (i : Nat) (stb : Option Nat) : (d.bump r i stb).path = d.path := Dev.bumpBy_path d r i 1 stb
@[simp] theorem Dev.bump_logs (d : Dev) (r : Reg) (i : Nat) (stb : Option Nat) : (d.bump r i stb).logs = d.logs := Dev.bumpBy_logs d r i 1 stb
@[simp] theorem Dev.bump_stall (d : Dev) (r : Reg) (i : Nat) (stb : Option Nat) : (d.bump r i stb).stall = d.stall := Dev.bumpBy_stall d r i 1 stb
@[simp] theorem Dev.bump_slice (d : Dev) (r : Reg) (i : Nat) (stb : Option Nat) : (d.bump r i stb).slice = d.slice := Dev.bumpBy_slice d r i 1 stb
@[simp] theorem Dev.bump_saf (d : Dev) (r : Reg) (i : Nat) (stb : Option Nat) : (d.bump r i stb).saf = d.saf := Dev.bumpBy_saf d r i 1 stb
@[simp] theorem Dev.bump_fn (d : Dev) (r : Reg) (i : Nat) (stb : Option Nat) : (d.bump r i stb).fn = d.fn := Dev.bumpBy_fn d r i 1 stb
@[simp] theorem Dev.bump_pwr (d : Dev) (r : Reg) (i : Nat) (stb : Option Nat) : (d.bump r i stb).pwr = d.pwr := Dev.bumpBy_pwr d r i 1 stb
@[simp] theorem Dev.bump_boot (d : Dev) (r : Reg) (i : Nat) (stb : Option Nat) : (d.bump r i stb).boot = d.boot := Dev.bumpBy_boot d r i 1 stb
@[simp] theorem Dev.bump_mgt (d : Dev) (r : Reg) (i : Nat) (stb : Option Nat) : (d.bump r i stb).mgt = d.mgt := Dev.bumpBy_mgt d r i 1 stb
@[simp] theorem Dev.bump_mkl (d : Dev) (r : Reg) (i : Nat) (stb : Option Nat) : (d.bump r i stb).mkl = d.mkl := Dev.bumpBy_mkl d r i 1 stb
@[simp] theorem Dev.bump_dma (d : Dev) (r : Reg) (i : Nat) (stb : Option Nat) : (d.bump r i stb).dma = d.dma := Dev.bumpBy_dma d r i 1 stb
@[simp] theorem Dev.bump_cxp (d : Dev) (r : Reg) (i : Nat) (stb : Option Nat) : (d.bump r i stb).cxp = d.cxp := Dev.bumpBy_cxp d r i 1 stb
@[simp] theorem Dev.bump_brg (d : Dev) (r : Reg) (i : Nat) (stb : Option Nat) : (d.bump r i stb).brg = d.brg := Dev.bumpBy_brg d r i 1 stb
@[simp] theorem Dev.bump_ev (d : Dev) (r : Reg) (i : Nat) (stb : Option Nat) : (d.bump r i stb).ev = d.ev := Dev.bumpBy_ev d r i 1 stb
@[simp] theorem Dev.bump_out (d : Dev) (r : Reg) (i : Nat) (stb : Option Nat) : (d.bump r i stb).out = d.out := Dev.bumpBy_out d r i 1 stb

/-- An increment leaves every other register alone. -/
theorem Dev.rd_bumpBy_other (d : Dev) {r q : Reg} {i j : Nat} (n : Nat) (stb : Option Nat)
    (h : regKey q.page j q.off ≠ regKey r.page i r.off) : (d.bumpBy r i n stb).rd q j = d.rd q j := by
  have h2 := Dev.rd_wr_other d (word (d.rn r i + n)) h
  unfold Dev.rd at h2 ⊢
  rw [Dev.bumpBy_regs]; exact h2

/-- A count register after one increment. -/
theorem Dev.rn_bump_same (d : Dev) (r : Reg) (i : Nat) (stb : Option Nat) : (d.bump r i stb).rn r i = (d.rn r i + 1) % 4294967296 :=
  Dev.rn_bumpBy_same d r i 1 stb

/-! ### FAULT_N (R385, R428) -/

/-- Driving FAULT_N leaves its condition as it is. -/
@[simp] theorem Dev.settle_faultCond (d : Dev) : d.settle.faultCond = d.faultCond := by
  unfold Dev.settle; dsimp only; split <;> rfl

/-- After FAULT_N has been driven it stands as its condition says. -/
theorem Dev.settle_pinHolds (d : Dev) : d.settle.pinHolds := by
  unfold Dev.pinHolds
  rw [Dev.settle_faultCond]
  unfold Dev.settle
  dsimp only
  split
  · next h => exact h.symm
  · rfl

/-- FAULT_N needs no driving where it stands as its condition says. -/
theorem Dev.settle_of_pinHolds (d : Dev) (h : d.pinHolds) : d.settle = d := by
  unfold Dev.settle
  dsimp only
  rw [if_pos h.symm]

end Sys2Proof.Machine
end

