-- ==== Sys2Proof/WellFormed.lean ====
section
/-! DEFINITION. Well-formed commands: every operand within the range that the spec gives it. The meaning of a command is total and
does not rest on this check. -/

namespace Sys2Proof

/-- An accessor (R33): 64 stables; 256 yard stables for a remote tenant. -/
def Acc.wf : Acc → Bool
  | .ctl s => decide (s < 64)
  | .core _ => true
  | .smbus => true
  | .debug => true
  | .remote cls s => decide (cls < 5) && decide (s < 256)

/-- A TLP whose header fields fit their widths. -/
def Tlp.wf (t : Tlp) : Bool :=
  decide (t.fmtType < 256) && decide (t.addr < 2 ^ 64) && decide (t.len < 1024) && decide (t.fbe < 16) && decide (t.lbe < 16) &&
  decide (t.rid < 65536) && decide (t.tag < 16384) && decide (t.tc < 8) && t.pasid.all (· < 2 ^ 20) && t.ld.all (· < 16) &&
  decide (t.tgt < 65536) && decide (t.reg < 4096) && decide (t.status < 8) && decide (t.code < 256) && decide (t.rtype < 8) &&
  decide (t.vid < 65536) && decide (t.vdw < 2 ^ 32) && decide (t.data.length ≤ 4096)

/-- A Mirkel packet whose header slot fields fit their widths (R147). -/
def Packet.wf (p : Packet) : Bool :=
  decide (p.seq < 65536) && decide (p.cls < 3) && decide (2 ≤ p.slots) && decide (p.slots < 262) && decide (p.dst < 8) &&
  decide (p.src < 8) && decide (p.dstPort < 256) && decide (p.srcPort < 131) && decide (p.stable < 256) && decide (p.hops < 4) &&
  decide (p.epoch < 2) && decide (p.gen < 256) && decide (p.wait < 2 ^ 23) && decide (p.ccrc < 2 ^ 32) && p.tlp.wf

/-- What a link partner offers: a width of at most 16 lanes, a rate code of R111, lane masks of 16 lanes. -/
def LinkInfo.wf (i : LinkInfo) : Bool :=
  decide (1 ≤ i.width) && decide (i.width ≤ 16) && decide (i.rate < 7) && i.eqFail.all (· < 7) && decide (i.unlocked < 65536) &&
  decide (i.inverted < 65536) && decide (i.nld ≤ 16)

/-- A command whose operands are in range. -/
def Instr.wf : Instr → Bool
  | .registerWrite a _ addr be data _ => a.wf && decide (addr < 33554432) && decide (be < 16) && decide (1 ≤ data.length)
  | .selWrite a page _ => a.wf && decide (page < 8192)
  | .unitChildWrite a page _ => a.wf && decide (page < 8192)
  | .remoteAccess a _ addr be _ => a.wf && decide (addr < 33554432) && decide (be < 16)
  | .remoteAnswer member acc _ _ => decide (member < 8) && decide (acc < 68)
  | .talLoRead a page n => a.wf && decide (page < 8192) && decide (n < 8)
  | .plockSet a page _ => a.wf && decide (page < 8192)
  | .stageCommit a page => a.wf && decide (page < 8192)
  | .stageAbort a page _ => a.wf && decide (page < 8192)
  | .drainEnd => true
  | .cycInEdge pin _ _ => decide (pin < 8)
  | .cycleMarkVdm port t _ => decide (port < 128) && t.wf
  | .ptmMark dom _ _ => decide (dom < 8)
  | .markLossTimeout dom => decide (dom < 8)
  | .syntheticMark dom => decide (dom < 8)
  | .cycleSaturate dom => decide (dom < 8)
  | .nop dom idx => decide (dom < 8) && decide (idx < 1024)
  | .gate dom idx => decide (dom < 8) && decide (idx < 1024)
  | .calWin dom idx => decide (dom < 8) && decide (idx < 1024)
  | .talSnap dom idx => decide (dom < 8) && decide (idx < 1024)
  | .shaperProfile dom idx => decide (dom < 8) && decide (idx < 1024)
  | .dmaArm dom idx => decide (dom < 8) && decide (idx < 1024)
  | .calWinEnd port => decide (port < 128)
  | .entryWrite a _ => a.wf
  | .entryRead a => a.wf
  | .posPhaseRead a => a.wf
  | .linkTrainingStart port stage lanes => decide (port < 128) && decide (stage < 6) && decide (lanes < 65536)
  | .linkUp port info => decide (port < 128) && info.wf
  | .trainingFailure port reason rate lanes => decide (port < 128) && decide (reason < 64) && decide (rate < 8) && decide (lanes < 65536)
  | .laneLockLoss port lane => decide (port < 128) && decide (lane < 16)
  | .retrain a => a.wf
  | .l0pPartnerRequest port width => decide (port < 128) && decide (width < 17)
  | .l1Entry port => decide (port < 128)
  | .l1Exit port => decide (port < 128)
  | .refclkLoss cl _ _ _ => decide (cl < 16)
  | .refclkRestore cl _ => decide (cl < 16)
  | .laneTestWrite cl a _ _ => decide (cl < 16) && a.wf
  | .laneTestErrRead cl a _ => decide (cl < 16) && a.wf
  | .presenceChange slot _ => decide (slot < 32)
  | .slotPowerOn port => decide (port < 128)
  | .slotPowerOff port => decide (port < 128)
  | .pwrDelayEnd port => decide (port < 128)
  | .expanderPoll _ => true
  | .hpInt _ => true
  | .expanderWriteAck expander => decide (expander < 8)
  | .expanderWriteNak expander => decide (expander < 8)
  | .indicatorBlink slot => decide (slot < 32)
  | .marginEval _ _ => true
  | .calReq a _ => a.wf
  | .rotationDue port lane => decide (port < 128) && decide (lane < 16)
  | .calFailRetry port lane => decide (port < 128) && decide (lane < 16)
  | .calStarved port => decide (port < 128)
  | .rotateStart port => decide (port < 128)
  | .rotateEnd port => decide (port < 128)
  | .halfStart port => decide (port < 128)
  | .halfEnd port _ => decide (port < 128)
  | .calLaneCommand port lane cmd => decide (port < 128) && decide (lane < 16) && decide (cmd < 260)
  | .reeqStart port => decide (port < 128)
  | .reeqDone port => decide (port < 128)
  | .droopDetect cl => decide (cl < 16)
  | .droopAlarm cl _ => decide (cl < 16)
  | .stretchEnd => true
  | .stretchLong => true
  | .frameReceived port frame _ _ => decide (port < 128) && decide (frame.length ≤ 248)
  | .packetReceived port pk => decide (port < 128) && pk.wf
  | .ack port seq => decide (port < 128) && decide (seq < 65536)
  | .nak port seq => decide (port < 128) && decide (seq < 65536)
  | .credit port p n c => decide (port < 128) && decide (p < 65536) && decide (n < 65536) && decide (c < 65536)
  | .censusMark port num => decide (port < 128) && decide (num < 256)
  | .censusRsp port num _ _ _ => decide (port < 128) && decide (num < 256)
  | .parkReq port lane _ => decide (port < 128) && decide (lane < 16)
  | .parkAck port lane => decide (port < 128) && decide (lane < 16)
  | .parkRefuse port lane reason => decide (port < 128) && decide (lane < 16) && decide (reason < 64)
  | .joinReq port lane _ => decide (port < 128) && decide (lane < 16)
  | .joinAck port lane => decide (port < 128) && decide (lane < 16)
  | .joinTimeout port => decide (port < 128)
  | .laneLost port lane => decide (port < 128) && decide (lane < 16)
  | .mirkelLaneLoss port lane => decide (port < 128) && decide (lane < 16)
  | .mirkelLockLoss port => decide (port < 128)
  | .lanesAligned port lanes => decide (port < 128) && decide (lanes < 65536)
  | .ident port member yard epoch pport _ => decide (port < 128) && decide (member < 8) && decide (yard < 65536) && decide (epoch < 4294967296) && decide (pport < 128)
  | .resume port seq => decide (port < 128) && decide (seq < 65536)
  | .holdTimeout port => decide (port < 128)
  | .orderResetSend bundle => decide (bundle < 16)
  | .orderReset port => decide (port < 128)
  | .orderResetAck bundle => decide (bundle < 16)
  | .bndOrderReset a => a.wf
  | .bndPinDataWrite a _ => a.wf
  | .ackTimer port => decide (port < 128)
  | .replayTimeout port => decide (port < 128)
  | .creditReturnTimer port => decide (port < 128)
  | .censusTimer port => decide (port < 128)
  | .calStep port lane cursor _ => decide (port < 128) && decide (lane < 16) && decide (cursor < 64)
  | .topo member neighbours _ => decide (member < 8) && neighbours.all (· < 8)
  | .regAccess src _ _ => decide (src < 8)
  | .prepare member epoch _ => decide (member < 8) && decide (epoch < 4294967296)
  | .ready member _ _ => decide (member < 8)
  | .refuse member _ _ _ => decide (member < 8)
  | .adopt _ => true
  | .adopted member _ => decide (member < 8)
  | .drained member _ => decide (member < 8)
  | .cancel _ => true
  | .yardCommitTimeout member => decide (member < 8)
  | .tlpReceive port t _ => decide (port < 128) && t.wf
  | .unlock port rid => decide (port < 128) && decide (rid < 65536)
  | .contextArrival _ => true
  | .shedGrant _ => true
  | .egressSelection port credits flt _ => decide (port < 131) && decide (credits < 8) && decide (flt < 3)
  | .transmitComplete port _ _ _ => decide (port < 131)
  | .ctUnderrun port => decide (port < 128)
  | .cellCensus _ => true
  | .dlDown port _ _ => decide (port < 128)
  | .portFlushEnd port => decide (port < 128)
  | .pdClear a => a.wf
  | .wmReset a => a.wf
  | .routingFieldWrite => true
  | .routingFieldForward => true
  | .configRequest => true
  | .winEntryWrite a _ => a.wf
  | .winEntryRead a => a.wf
  | .xingEntryWrite a _ => a.wf
  | .ruleEntryWrite a _ => a.wf
  | .permDataWrite a _ => a.wf
  | .errLogClear a => a.wf
  | .fltClear a => a.wf
  | .fltW0Read a => a.wf
  | .loftSetReadDone _ _ _ => true
  | .loftContextReadDone _ _ _ data => decide (data.length ≤ 256)
  | .writebackDone _ => true
  | .loftInit a => a.wf
  | .loftInitDone _ => true
  | .ctxLookup a => a.wf
  | .ctxInvalidate a => a.wf
  | .ctxCreate a => a.wf
  | .pinEntryWrite a _ => a.wf
  | .portGenAdv a => a.wf
  | .genAdvanceRelease dom => decide (dom < 18432)
  | .sliceGenAdv a => a.wf
  | .sliceContain a => a.wf
  | .sliceRelease a => a.wf
  | .ledgerTimeout egress rid tag => decide (egress < 131) && decide (rid < 65536) && decide (tag < 16384)
  | .dlgSizeWrite a _ => a.wf
  | .filterClear a => a.wf
  | .sync a => a.wf
  | .trapPop a => a.wf
  | .trapCplGo a => a.wf
  | .trapTimeout _ => true
  | .rfClear a => a.wf
  | .rfW0Read a => a.wf
  | .m2sRequest port _ hpa tag _ data _ => decide (port < 128) && decide (hpa < 4503599627370496) && decide (tag < 65536) && decide (data.length ≤ 64)
  | .s2mResponse port kind tag ld data _ => decide (port < 128) && decide (kind < 4) && decide (tag < 65536) && ld.all (· < 16) && decide (data.length ≤ 64)
  | .biMessage port _ tag data => decide (port < 128) && decide (tag < 65536) && decide (data.length ≤ 64)
  | .hdmDecoderCommit stable dec _ => decide (stable < 64) && decide (dec < 8)
  | .idecProgram idec => decide (idec < 16)
  | .idecCommitted idec => decide (idec < 16)
  | .idecNotCommitted idec _ => decide (idec < 16)
  | .recommit a => a.wf
  | .healthPoll _ => true
  | .viralReceived port => decide (port < 128)
  | .dcExtentOffer port ld => decide (port < 128) && ld.all (· < 16)
  | .identify a => a.wf
  | .backgroundOperationStatus a => a.wf
  | .getResponseMessageLimit a => a.wf
  | .setResponseMessageLimit a _ => a.wf
  | .identifySwitchDevice a => a.wf
  | .getPhysicalPortState a ports => a.wf && ports.all (· < 128)
  | .physicalPortControl a port op => a.wf && decide (port < 128) && decide (op < 65536)
  | .sendPpbCxlIoConfigurationRequest a port reg be _ _ => a.wf && decide (port < 128) && decide (reg < 4096) && decide (be < 16)
  | .getVirtualCxlSwitchInfo a vcs => a.wf && vcs.all (· < 64)
  | .bindVppb a vcs vppb port ld => a.wf && decide (vcs < 64) && decide (vppb < 256) && decide (port < 128) && decide (ld < 16)
  | .unbindVppb a vcs vppb => a.wf && decide (vcs < 64) && decide (vppb < 256)
  | .generateAerEvent a vcs bitNo => a.wf && decide (vcs < 64) && decide (bitNo < 64)
  | .tunnelManagementCommand a port inner _ _ => a.wf && decide (port < 128) && decide (inner < 65536)
  | .sendLdCxlIoConfigurationRequest a port ld reg be _ _ _ => a.wf && decide (port < 128) && decide (ld < 16) && decide (reg < 4096) && decide (be < 16)
  | .sendLdCxlIoMemoryRequest a port ld addr _ _ _ _ => a.wf && decide (port < 128) && decide (ld < 16) && decide (addr < 18446744073709551616)
  | .getDcdInfo a tunnel _ => a.wf && tunnel.all (· < 128)
  | .getHostDcRegionConfiguration a tunnel _ _ => a.wf && tunnel.all (· < 128)
  | .setDcRegionConfiguration a tunnel _ _ => a.wf && tunnel.all (· < 128)
  | .getDcRegionExtentLists a tunnel _ _ => a.wf && tunnel.all (· < 128)
  | .initiateDcAdd a tunnel ld _ _ => a.wf && tunnel.all (· < 128) && decide (ld < 16)
  | .initiateDcRelease a tunnel ld _ _ => a.wf && tunnel.all (· < 128) && decide (ld < 16)
  | .fmapiUnsupported a op => a.wf && decide (op < 65536)
  | .bridgeWrite => true
  | .bridgeRead => true
  | .bridgeFlushRead => true
  | .bridgeAtomicop => true
  | .mrdlk => true
  | .lineIssue _ _ => true
  | .ndr port tag => decide (port < 128) && decide (tag < 65536)
  | .drs port tag data _ => decide (port < 128) && decide (tag < 65536) && decide (data.length ≤ 64)
  | .lockTimeout stable => decide (stable < 64)
  | .winUntaint a => a.wf
  | .winFlush a => a.wf
  | .pelClear a => a.wf
  | .chTailWrite a _ => a.wf
  | .chRingSizeWrite a _ => a.wf
  | .chStart a => a.wf
  | .chStop a => a.wf
  | .chAbort a => a.wf
  | .kick a => a.wf
  | .arm a => a.wf
  | .disarm a => a.wf
  | .descriptorFetchDone ch => decide (ch < 64)
  | .copy ch => decide (ch < 64)
  | .fill ch => decide (ch < 64)
  | .flushRead ch => decide (ch < 64)
  | .dmaReadCompletion ch => decide (ch < 64)
  | .descriptorReport ch => decide (ch < 64)
  | .shaperRefill => true
  | .policerRelease _ => true
  | .queueStall port stable => decide (port < 131) && decide (stable < 64)
  | .scrubPass _ _ => true
  | .targetedScrub => true
  | .selfTestPass _ => true
  | .go a => a.wf
  | .forceFailsafe a => a.wf
  | .stableContain a => a.wf
  | .stableRelease a => a.wf
  | .portContain a => a.wf
  | .portRelease a => a.wf
  | .portUntaint a => a.wf
  | .dpcRelease stable port => decide (stable < 64) && decide (port < 128)
  | .dpcSoftwareTrigger stable port => decide (stable < 64) && decide (port < 128)
  | .pplClear a => a.wf
  | .flogClear a => a.wf
  | .lockstepMismatch => true
  | .coreClockLoss _ => true
  | .voltageFault rail => decide (rail < 3)
  | .tempThreshold cluster temp => decide (cluster < 16) && decide (temp < 65536)
  | .thermalTrip cluster => decide (cluster < 16)
  | .completionTimeout who _ => decide (who < 5)
  | .tagRelease _ => true
  | .functionLevelReset stable fn => decide (stable < 64) && decide (fn < 256)
  | .busMasterEnableClear stable fn => decide (stable < 64) && decide (fn < 256)
  | .secondaryBusReset stable fn _ => decide (stable < 64) && decide (fn < 256)
  | .linkDisable stable fn _ => decide (stable < 64) && decide (fn < 256)
  | .hotResetReceived port => decide (port < 128)
  | .vhReset a => a.wf
  | .functionReady stable which => decide (stable < 64) && decide (which < 3)
  | .vslotDataWrite a _ => a.wf
  | .msixMessage stable vector => decide (stable < 64) && decide (vector < 2048)
  | .msixGapEnd stable vector => decide (stable < 64) && decide (vector < 2048)
  | .intxAssert stable => decide (stable < 64)
  | .doeObject stable kind len => decide (stable < 64) && decide (kind < 3) && decide (len < 257)
  | .doeAbort stable => decide (stable < 64)
  | .keyProg stable _ stream dir set sub words => decide (stable < 64) && decide (stream < 2) && decide (dir < 2) && decide (set < 2) && decide (sub < 3) && decide (words.length ≤ 11)
  | .kSetGo stable _ stream dir set => decide (stable < 64) && decide (stream < 2) && decide (dir < 2) && decide (set < 2)
  | .kSetStop stable _ stream dir set => decide (stable < 64) && decide (stream < 2) && decide (dir < 2) && decide (set < 2)
  | .spdmMessage path stable _ _ _ => decide (path < 3) && decide (stable < 64)
  | .evForceWrite a page off _ => a.wf && decide (page < 8192) && decide (off < 4096)
  | .evCauseClear a page off _ => a.wf && decide (page < 8192) && decide (off < 4096)
  | .stormQuietEnd array source => decide (array < 65) && decide (source < 2048)
  | .fmqPop a => a.wf
  | .enqPop a => a.wf
  | .talClr a page _ => a.wf && decide (page < 8192)
  | .talEvselWrite a page n _ => a.wf && decide (page < 8192) && decide (n < 8)
  | .tallySlotWrite a _ _ => a.wf
  | .notifyRepeat => true
  | .plReq a _ => a.wf
  | .plChangeStart => true
  | .plSettleDone _ => true
  | .avsRetry _ => true
  | .stbHintWrite a _ => a.wf
  | .reqSl1 a => a.wf
  | .reqSl2 a => a.wf
  | .sleepCancel a => a.wf
  | .padRelease a => a.wf
  | .sleepEntryComplete => true
  | .sleepEntryTimeout => true
  | .wake src _ => decide (src < 8)
  | .sleepExit _ _ => true
  | .railInRange rail => decide (rail < 3)
  | .powerGood => true
  | .perstAssert => true
  | .perstDeassert straps => decide (straps < 64)
  | .imageVerify _ _ => true
  | .kciWrite addr _ => decide (addr < 33554432)
  | .kciRmw addr _ _ => decide (addr < 33554432)
  | .kciSelWrite addr _ _ => decide (addr < 33554432)
  | .kciCommit page => decide (page < 8192)
  | .kciWait addr _ _ _ _ => decide (addr < 33554432)
  | .kciDelay _ => true
  | .kciYard _ => true
  | .kciEnd crc _ => decide (crc < 4294967296)
  | .arbCommit a => a.wf
  | .flashGo a _ _ => a.wf
  | .yardCfgWrite a _ => a.wf
  | .yardFormTimeout => true
  | .setEndpointId path eid => decide (path < 3) && decide (eid < 256)
  | .getEndpointId path => decide (path < 3)
  | .getVersionSupport path type => decide (path < 3) && decide (type < 256)
  | .getMessageTypeSupport path => decide (path < 3)
  | .getVendorDefinedMessageSupport path => decide (path < 3)
  | .pldmMessage path type _ => decide (path < 3) && decide (type < 256)
  | .read path _ addr _ => decide (path < 3) && decide (addr < 33554432)
  | .write path _ addr _ _ => decide (path < 3) && decide (addr < 33554432)
  | .mctpPacketError => true
  | .challenge a => a.wf
  | .verify a _ => a.wf
  | .deauth a => a.wf
  | .halt a => a.wf
  | .dbgResume a => a.wf
  | .challengeLockoutEnd => true
  | .dbgAccess _ addr _ _ => decide (addr < 33554432)
  | .boundaryScan _ => true
  | .sbRouteWrite a _ => a.wf
  | .sbioInputChange pin _ => decide (pin < 64)
  | .sbClkreqWrite a _ => a.wf
  | .linkEntersRecovery port => decide (port < 128)
  | .recoveryEnd port _ => decide (port < 128)
  | .l0pPartnerAcknowledge port => decide (port < 128)
  | .loopbackStageDone port => decide (port < 128)
  | .eyeHeightMeasured port _ => decide (port < 128)
  | .laneMarginingCommand port lane _ => decide (port < 128) && decide (lane < 16)
  | .expanderWriteRetry expander => decide (expander < 8)
  | .testLogicReset _ => true

end Sys2Proof
end

