-- ==== Sys2Proof/Tests/Slice0.lean ====
section
/-! SUPPORT. Tests: the checks of WellFormed refuse ill-formed commands; for each statement, states and operands that meet its
hypotheses, clause by clause, at the ends of their ranges; and the interface of the queue. -/

namespace Sys2Proof.Tests

-- One theorem at a time: each evaluates a device, and many at once need more memory than the check gives.
set_option Elab.async false

open Sys2Proof.Machine

/-- The device after reset with registers written: register, instance, value. -/
def regs (l : List (Reg × Nat × Nat)) : Dev := l.foldl (fun d e => d.wn e.1 e.2.1 e.2.2) State.reset.dev

/-- The state after reset with another device. -/
def st (d : Dev) : State := { State.reset with dev := d }

/-! ### Well-formed commands: one ill-formed term for each check -/

def pk0 : Packet := ⟨0, 0, 2, false, false, false, false, false, 0, 0, 0, 0, 0, 0, 0, 0, 0, 0, Tlp.blank, false, []⟩
def info0 : LinkInfo := ⟨1, 0, false, false, false, false, false, none, 0, 0, 0, 0, false, false, false, false⟩
def tlpBad : Tlp := { Tlp.blank with len := 1024 }
def pkBad : Packet := { pk0 with slots := 1 }
def infoBad : LinkInfo := { info0 with width := 17 }

/-- One ill-formed command for each check of Instr.wf: the operand of the check at its first value out of range. -/
theorem test_wf_refuses_1 : (([
    .registerWrite (.ctl 64) false 0 0 [0] Ext.none, .registerWrite .smbus false 33554432 0 [0] Ext.none,
    .registerWrite .smbus false 0 16 [0] Ext.none, .registerWrite .smbus false 0 0 [] Ext.none,
    .selWrite (.ctl 64) 0 0, .selWrite .smbus 8192 0, .unitChildWrite (.ctl 64) 0 0, .unitChildWrite .smbus 8192 0,
    .remoteAccess (.ctl 64) false 0 0 0, .remoteAccess .smbus false 33554432 0 0, .remoteAccess .smbus false 0 16 0,
    .remoteAnswer 8 0 0 0, .remoteAnswer 0 68 0 0, .talLoRead (.ctl 64) 0 0, .talLoRead .smbus 8192 0,
    .talLoRead .smbus 0 8, .plockSet (.ctl 64) 0 0, .plockSet .smbus 8192 0, .stageCommit (.ctl 64) 0,
    .stageCommit .smbus 8192, .stageAbort (.ctl 64) 0 false, .stageAbort .smbus 8192 false, .cycInEdge 8 false 0,
    .cycleMarkVdm 128 Tlp.blank 0, .cycleMarkVdm 0 tlpBad 0, .ptmMark 8 0 0, .markLossTimeout 8, .syntheticMark 8,
    .cycleSaturate 8, .nop 8 0, .nop 0 1024, .gate 8 0, .gate 0 1024, .calWin 8 0, .calWin 0 1024, .talSnap 8 0,
    .talSnap 0 1024, .shaperProfile 8 0, .shaperProfile 0 1024, .dmaArm 8 0, .dmaArm 0 1024, .calWinEnd 128,
    .entryWrite (.ctl 64) 0, .entryRead (.ctl 64), .posPhaseRead (.ctl 64), .linkTrainingStart 128 0 0,
    .linkTrainingStart 0 6 0, .linkTrainingStart 0 0 65536] : List Instr).all fun i => !i.wf) = true := by decide +kernel

theorem test_wf_refuses_2 : (([
    .linkUp 128 info0, .linkUp 0 infoBad, .trainingFailure 128 0 0 0, .trainingFailure 0 64 0 0,
    .trainingFailure 0 0 8 0, .trainingFailure 0 0 0 65536, .laneLockLoss 128 0, .laneLockLoss 0 16,
    .retrain (.ctl 64), .l0pPartnerRequest 128 0, .l0pPartnerRequest 0 17, .l1Entry 128, .l1Exit 128,
    .refclkLoss 16 false false 0, .refclkRestore 16 0, .laneTestWrite 16 .smbus 0 0, .laneTestWrite 0 (.ctl 64) 0 0,
    .laneTestErrRead 16 .smbus 0, .laneTestErrRead 0 (.ctl 64) 0, .presenceChange 32 false, .slotPowerOn 128,
    .slotPowerOff 128, .pwrDelayEnd 128, .expanderWriteAck 8, .expanderWriteNak 8, .indicatorBlink 32,
    .calReq (.ctl 64) 0, .rotationDue 128 0, .rotationDue 0 16, .calFailRetry 128 0, .calFailRetry 0 16,
    .calStarved 128, .rotateStart 128, .rotateEnd 128, .halfStart 128, .halfEnd 128 [], .calLaneCommand 128 0 0,
    .calLaneCommand 0 16 0, .calLaneCommand 0 0 260, .reeqStart 128, .reeqDone 128, .droopDetect 16,
    .droopAlarm 16 false, .frameReceived 128 [] [] 0, .frameReceived 0 (List.replicate 249 0) [] 0,
    .packetReceived 128 pk0, .packetReceived 0 pkBad, .ack 128 0] : List Instr).all fun i => !i.wf) = true := by decide +kernel

theorem test_wf_refuses_3 : (([
    .ack 0 65536, .nak 128 0, .nak 0 65536, .credit 128 0 0 0, .credit 0 65536 0 0, .credit 0 0 65536 0,
    .credit 0 0 0 65536, .censusMark 128 0, .censusMark 0 256, .censusRsp 128 0 0 0 0, .censusRsp 0 256 0 0 0,
    .parkReq 128 0 false, .parkReq 0 16 false, .parkAck 128 0, .parkAck 0 16, .parkRefuse 128 0 0, .parkRefuse 0 16 0,
    .parkRefuse 0 0 64, .joinReq 128 0 false, .joinReq 0 16 false, .joinAck 128 0, .joinAck 0 16, .joinTimeout 128,
    .laneLost 128 0, .laneLost 0 16, .mirkelLaneLoss 128 0, .mirkelLaneLoss 0 16, .mirkelLockLoss 128,
    .lanesAligned 128 0, .lanesAligned 0 65536, .ident 128 0 0 0 0 0, .ident 0 8 0 0 0 0, .ident 0 0 65536 0 0 0,
    .ident 0 0 0 4294967296 0 0, .ident 0 0 0 0 128 0, .resume 128 0, .resume 0 65536, .holdTimeout 128,
    .orderResetSend 16, .orderReset 128, .orderResetAck 16, .bndOrderReset (.ctl 64), .bndPinDataWrite (.ctl 64) 0,
    .ackTimer 128, .replayTimeout 128, .creditReturnTimer 128, .censusTimer 128, .calStep 128 0 0 false] : List Instr).all fun i => !i.wf) = true := by decide +kernel

theorem test_wf_refuses_4 : (([
    .calStep 0 16 0 false, .calStep 0 0 64 false, .topo 8 [] false, .topo 0 [8] false, .regAccess 8 [] Ext.none,
    .prepare 8 0 0, .prepare 0 4294967296 0, .ready 8 0 0, .refuse 8 0 0 0, .adopted 8 0, .drained 8 0,
    .yardCommitTimeout 8, .tlpReceive 128 Tlp.blank false, .tlpReceive 0 tlpBad false, .unlock 128 0, .unlock 0 65536,
    .egressSelection 131 0 0 Ext.none, .egressSelection 0 8 0 Ext.none, .egressSelection 0 0 3 Ext.none,
    .transmitComplete 131 0 false 0, .ctUnderrun 128, .dlDown 128 false 0, .portFlushEnd 128, .pdClear (.ctl 64),
    .wmReset (.ctl 64), .winEntryWrite (.ctl 64) 0, .winEntryRead (.ctl 64), .xingEntryWrite (.ctl 64) 0,
    .ruleEntryWrite (.ctl 64) 0, .permDataWrite (.ctl 64) 0, .errLogClear (.ctl 64), .fltClear (.ctl 64),
    .fltW0Read (.ctl 64), .loftContextReadDone 0 false false (List.replicate 257 0), .loftInit (.ctl 64),
    .ctxLookup (.ctl 64), .ctxInvalidate (.ctl 64), .ctxCreate (.ctl 64), .pinEntryWrite (.ctl 64) 0,
    .portGenAdv (.ctl 64), .genAdvanceRelease 18432, .sliceGenAdv (.ctl 64), .sliceContain (.ctl 64),
    .sliceRelease (.ctl 64), .ledgerTimeout 131 0 0, .ledgerTimeout 0 65536 0, .ledgerTimeout 0 0 16384,
    .dlgSizeWrite (.ctl 64) 0] : List Instr).all fun i => !i.wf) = true := by decide +kernel

theorem test_wf_refuses_5 : (([
    .filterClear (.ctl 64), .sync (.ctl 64), .trapPop (.ctl 64), .trapCplGo (.ctl 64), .rfClear (.ctl 64),
    .rfW0Read (.ctl 64), .m2sRequest 128 false 0 0 0 [] false, .m2sRequest 0 false 4503599627370496 0 0 [] false,
    .m2sRequest 0 false 0 65536 0 [] false, .m2sRequest 0 false 0 0 0 (List.replicate 65 0) false,
    .s2mResponse 128 0 0 none [] false, .s2mResponse 0 4 0 none [] false, .s2mResponse 0 0 65536 none [] false,
    .s2mResponse 0 0 0 (some 16) [] false, .s2mResponse 0 0 0 none (List.replicate 65 0) false,
    .biMessage 128 false 0 [], .biMessage 0 false 65536 [], .biMessage 0 false 0 (List.replicate 65 0),
    .hdmDecoderCommit 64 0 0, .hdmDecoderCommit 0 8 0, .idecProgram 16, .idecCommitted 16, .idecNotCommitted 16 false,
    .recommit (.ctl 64), .viralReceived 128, .dcExtentOffer 128 none, .dcExtentOffer 0 (some 16), .identify (.ctl 64),
    .backgroundOperationStatus (.ctl 64), .getResponseMessageLimit (.ctl 64), .setResponseMessageLimit (.ctl 64) 0,
    .identifySwitchDevice (.ctl 64), .getPhysicalPortState (.ctl 64) [], .getPhysicalPortState .smbus [128],
    .physicalPortControl (.ctl 64) 0 0, .physicalPortControl .smbus 128 0, .physicalPortControl .smbus 0 65536,
    .sendPpbCxlIoConfigurationRequest (.ctl 64) 0 0 0 false 0,
    .sendPpbCxlIoConfigurationRequest .smbus 128 0 0 false 0,
    .sendPpbCxlIoConfigurationRequest .smbus 0 4096 0 false 0,
    .sendPpbCxlIoConfigurationRequest .smbus 0 0 16 false 0, .getVirtualCxlSwitchInfo (.ctl 64) [],
    .getVirtualCxlSwitchInfo .smbus [64], .bindVppb (.ctl 64) 0 0 0 0, .bindVppb .smbus 64 0 0 0,
    .bindVppb .smbus 0 256 0 0, .bindVppb .smbus 0 0 128 0, .bindVppb .smbus 0 0 0 16] : List Instr).all fun i => !i.wf) = true := by decide +kernel

theorem test_wf_refuses_6 : (([
    .unbindVppb (.ctl 64) 0 0, .unbindVppb .smbus 64 0, .unbindVppb .smbus 0 256, .generateAerEvent (.ctl 64) 0 0,
    .generateAerEvent .smbus 64 0, .generateAerEvent .smbus 0 64, .tunnelManagementCommand (.ctl 64) 0 0 [] none,
    .tunnelManagementCommand .smbus 128 0 [] none, .tunnelManagementCommand .smbus 0 65536 [] none,
    .sendLdCxlIoConfigurationRequest (.ctl 64) 0 0 0 0 false 0 none,
    .sendLdCxlIoConfigurationRequest .smbus 128 0 0 0 false 0 none,
    .sendLdCxlIoConfigurationRequest .smbus 0 16 0 0 false 0 none,
    .sendLdCxlIoConfigurationRequest .smbus 0 0 4096 0 false 0 none,
    .sendLdCxlIoConfigurationRequest .smbus 0 0 0 16 false 0 none,
    .sendLdCxlIoMemoryRequest (.ctl 64) 0 0 0 0 false [] none,
    .sendLdCxlIoMemoryRequest .smbus 128 0 0 0 false [] none, .sendLdCxlIoMemoryRequest .smbus 0 16 0 0 false [] none,
    .sendLdCxlIoMemoryRequest .smbus 0 0 18446744073709551616 0 false [] none, .getDcdInfo (.ctl 64) none none,
    .getDcdInfo .smbus (some 128) none, .getHostDcRegionConfiguration (.ctl 64) none [] none,
    .getHostDcRegionConfiguration .smbus (some 128) [] none, .setDcRegionConfiguration (.ctl 64) none [] none,
    .setDcRegionConfiguration .smbus (some 128) [] none, .getDcRegionExtentLists (.ctl 64) none [] none,
    .getDcRegionExtentLists .smbus (some 128) [] none, .initiateDcAdd (.ctl 64) none 0 [] none,
    .initiateDcAdd .smbus (some 128) 0 [] none, .initiateDcAdd .smbus none 16 [] none,
    .initiateDcRelease (.ctl 64) none 0 [] none, .initiateDcRelease .smbus (some 128) 0 [] none,
    .initiateDcRelease .smbus none 16 [] none, .fmapiUnsupported (.ctl 64) 0, .fmapiUnsupported .smbus 65536,
    .ndr 128 0, .ndr 0 65536, .drs 128 0 [] false, .drs 0 65536 [] false, .drs 0 0 (List.replicate 65 0) false,
    .lockTimeout 64, .winUntaint (.ctl 64), .winFlush (.ctl 64), .pelClear (.ctl 64), .chTailWrite (.ctl 64) 0,
    .chRingSizeWrite (.ctl 64) 0, .chStart (.ctl 64), .chStop (.ctl 64), .chAbort (.ctl 64)] : List Instr).all fun i => !i.wf) = true := by decide +kernel

theorem test_wf_refuses_7 : (([
    .kick (.ctl 64), .arm (.ctl 64), .disarm (.ctl 64), .descriptorFetchDone 64, .copy 64, .fill 64, .flushRead 64,
    .dmaReadCompletion 64, .descriptorReport 64, .queueStall 131 0, .queueStall 0 64, .go (.ctl 64),
    .forceFailsafe (.ctl 64), .stableContain (.ctl 64), .stableRelease (.ctl 64), .portContain (.ctl 64),
    .portRelease (.ctl 64), .portUntaint (.ctl 64), .dpcRelease 64 0, .dpcRelease 0 128, .dpcSoftwareTrigger 64 0,
    .dpcSoftwareTrigger 0 128, .pplClear (.ctl 64), .flogClear (.ctl 64), .voltageFault 3, .tempThreshold 16 0,
    .tempThreshold 0 65536, .thermalTrip 16, .completionTimeout 5 0, .functionLevelReset 64 0,
    .functionLevelReset 0 256, .busMasterEnableClear 64 0, .busMasterEnableClear 0 256, .secondaryBusReset 64 0 false,
    .secondaryBusReset 0 256 false, .linkDisable 64 0 false, .linkDisable 0 256 false, .hotResetReceived 128,
    .vhReset (.ctl 64), .functionReady 64 0, .functionReady 0 3, .vslotDataWrite (.ctl 64) 0, .msixMessage 64 0,
    .msixMessage 0 2048, .msixGapEnd 64 0, .msixGapEnd 0 2048, .intxAssert 64, .doeObject 64 0 0] : List Instr).all fun i => !i.wf) = true := by decide +kernel

theorem test_wf_refuses_8 : (([
    .doeObject 0 3 0, .doeObject 0 0 257, .doeAbort 64, .keyProg 64 0 0 0 0 0 [], .keyProg 0 0 2 0 0 0 [],
    .keyProg 0 0 0 2 0 0 [], .keyProg 0 0 0 0 2 0 [], .keyProg 0 0 0 0 0 3 [],
    .keyProg 0 0 0 0 0 0 (List.replicate 12 0), .kSetGo 64 0 0 0 0, .kSetGo 0 0 2 0 0, .kSetGo 0 0 0 2 0,
    .kSetGo 0 0 0 0 2, .kSetStop 64 0 0 0 0, .kSetStop 0 0 2 0 0, .kSetStop 0 0 0 2 0, .kSetStop 0 0 0 0 2,
    .spdmMessage 3 0 0 false false, .spdmMessage 0 64 0 false false, .evForceWrite (.ctl 64) 0 0 0,
    .evForceWrite .smbus 8192 0 0, .evForceWrite .smbus 0 4096 0, .evCauseClear (.ctl 64) 0 0 0,
    .evCauseClear .smbus 8192 0 0, .evCauseClear .smbus 0 4096 0, .stormQuietEnd 65 0, .stormQuietEnd 0 2048,
    .fmqPop (.ctl 64), .enqPop (.ctl 64), .talClr (.ctl 64) 0 0, .talClr .smbus 8192 0,
    .talEvselWrite (.ctl 64) 0 0 0, .talEvselWrite .smbus 8192 0 0, .talEvselWrite .smbus 0 8 0,
    .tallySlotWrite (.ctl 64) false 0, .plReq (.ctl 64) 0, .stbHintWrite (.ctl 64) 0, .reqSl1 (.ctl 64),
    .reqSl2 (.ctl 64), .sleepCancel (.ctl 64), .padRelease (.ctl 64), .wake 8 0, .railInRange 3, .perstDeassert 64,
    .kciWrite 33554432 0, .kciRmw 33554432 0 0, .kciSelWrite 33554432 0 0, .kciCommit 8192] : List Instr).all fun i => !i.wf) = true := by decide +kernel

theorem test_wf_refuses_9 : (([
    .kciWait 33554432 0 0 0 false, .kciEnd 4294967296 false, .arbCommit (.ctl 64), .flashGo (.ctl 64) 0 [],
    .yardCfgWrite (.ctl 64) 0, .setEndpointId 3 0, .setEndpointId 0 256, .getEndpointId 3, .getVersionSupport 3 0,
    .getVersionSupport 0 256, .getMessageTypeSupport 3, .getVendorDefinedMessageSupport 3, .pldmMessage 3 0 0,
    .pldmMessage 0 256 0, .read 3 false 0 Ext.none, .read 0 false 33554432 Ext.none, .write 3 false 0 0 Ext.none,
    .write 0 false 33554432 0 Ext.none, .challenge (.ctl 64), .verify (.ctl 64) false, .deauth (.ctl 64),
    .halt (.ctl 64), .dbgResume (.ctl 64), .dbgAccess false 33554432 [] Ext.none, .sbRouteWrite (.ctl 64) 0,
    .sbioInputChange 64 false, .sbClkreqWrite (.ctl 64) 0, .linkEntersRecovery 128, .recoveryEnd 128 0,
    .l0pPartnerAcknowledge 128, .loopbackStageDone 128, .eyeHeightMeasured 128 0, .laneMarginingCommand 128 0 0,
    .laneMarginingCommand 0 16 0, .expanderWriteRetry 8] : List Instr).all fun i => !i.wf) = true := by decide +kernel

/-- The same commands with every operand in range. -/
theorem test_wf_accepts_1 : (([
    .registerWrite .smbus false 0 0 [0] Ext.none, .selWrite .smbus 0 0, .unitChildWrite .smbus 0 0,
    .remoteAccess .smbus false 0 0 0, .remoteAnswer 0 0 0 0, .talLoRead .smbus 0 0, .plockSet .smbus 0 0,
    .stageCommit .smbus 0, .stageAbort .smbus 0 false, .cycInEdge 0 false 0, .cycleMarkVdm 0 Tlp.blank 0,
    .ptmMark 0 0 0, .markLossTimeout 0, .syntheticMark 0, .cycleSaturate 0, .nop 0 0, .gate 0 0, .calWin 0 0,
    .talSnap 0 0, .shaperProfile 0 0, .dmaArm 0 0, .calWinEnd 0, .entryWrite .smbus 0, .entryRead .smbus,
    .posPhaseRead .smbus, .linkTrainingStart 0 0 0, .linkUp 0 info0, .trainingFailure 0 0 0 0, .laneLockLoss 0 0,
    .retrain .smbus, .l0pPartnerRequest 0 0, .l1Entry 0, .l1Exit 0, .refclkLoss 0 false false 0, .refclkRestore 0 0,
    .laneTestWrite 0 .smbus 0 0, .laneTestErrRead 0 .smbus 0, .presenceChange 0 false, .slotPowerOn 0,
    .slotPowerOff 0, .pwrDelayEnd 0, .expanderWriteAck 0, .expanderWriteNak 0, .indicatorBlink 0, .calReq .smbus 0,
    .rotationDue 0 0, .calFailRetry 0 0, .calStarved 0] : List Instr).all fun i => i.wf) = true := by decide +kernel

theorem test_wf_accepts_2 : (([
    .rotateStart 0, .rotateEnd 0, .halfStart 0, .halfEnd 0 [], .calLaneCommand 0 0 0, .reeqStart 0, .reeqDone 0,
    .droopDetect 0, .droopAlarm 0 false, .frameReceived 0 [] [] 0, .packetReceived 0 pk0, .ack 0 0, .nak 0 0,
    .credit 0 0 0 0, .censusMark 0 0, .censusRsp 0 0 0 0 0, .parkReq 0 0 false, .parkAck 0 0, .parkRefuse 0 0 0,
    .joinReq 0 0 false, .joinAck 0 0, .joinTimeout 0, .laneLost 0 0, .mirkelLaneLoss 0 0, .mirkelLockLoss 0,
    .lanesAligned 0 0, .ident 0 0 0 0 0 0, .resume 0 0, .holdTimeout 0, .orderResetSend 0, .orderReset 0,
    .orderResetAck 0, .bndOrderReset .smbus, .bndPinDataWrite .smbus 0, .ackTimer 0, .replayTimeout 0,
    .creditReturnTimer 0, .censusTimer 0, .calStep 0 0 0 false, .topo 0 [] false, .regAccess 0 [] Ext.none,
    .prepare 0 0 0, .ready 0 0 0, .refuse 0 0 0 0, .adopted 0 0, .drained 0 0, .yardCommitTimeout 0,
    .tlpReceive 0 Tlp.blank false] : List Instr).all fun i => i.wf) = true := by decide +kernel

theorem test_wf_accepts_3 : (([
    .unlock 0 0, .egressSelection 0 0 0 Ext.none, .transmitComplete 0 0 false 0, .ctUnderrun 0, .dlDown 0 false 0,
    .portFlushEnd 0, .pdClear .smbus, .wmReset .smbus, .winEntryWrite .smbus 0, .winEntryRead .smbus,
    .xingEntryWrite .smbus 0, .ruleEntryWrite .smbus 0, .permDataWrite .smbus 0, .errLogClear .smbus,
    .fltClear .smbus, .fltW0Read .smbus, .loftContextReadDone 0 false false [], .loftInit .smbus, .ctxLookup .smbus,
    .ctxInvalidate .smbus, .ctxCreate .smbus, .pinEntryWrite .smbus 0, .portGenAdv .smbus, .genAdvanceRelease 0,
    .sliceGenAdv .smbus, .sliceContain .smbus, .sliceRelease .smbus, .ledgerTimeout 0 0 0, .dlgSizeWrite .smbus 0,
    .filterClear .smbus, .sync .smbus, .trapPop .smbus, .trapCplGo .smbus, .rfClear .smbus, .rfW0Read .smbus,
    .m2sRequest 0 false 0 0 0 [] false, .s2mResponse 0 0 0 none [] false, .biMessage 0 false 0 [],
    .hdmDecoderCommit 0 0 0, .idecProgram 0, .idecCommitted 0, .idecNotCommitted 0 false, .recommit .smbus,
    .viralReceived 0, .dcExtentOffer 0 none, .identify .smbus, .backgroundOperationStatus .smbus,
    .getResponseMessageLimit .smbus] : List Instr).all fun i => i.wf) = true := by decide +kernel

theorem test_wf_accepts_4 : (([
    .setResponseMessageLimit .smbus 0, .identifySwitchDevice .smbus, .getPhysicalPortState .smbus [],
    .physicalPortControl .smbus 0 0, .sendPpbCxlIoConfigurationRequest .smbus 0 0 0 false 0,
    .getVirtualCxlSwitchInfo .smbus [], .bindVppb .smbus 0 0 0 0, .unbindVppb .smbus 0 0,
    .generateAerEvent .smbus 0 0, .tunnelManagementCommand .smbus 0 0 [] none,
    .sendLdCxlIoConfigurationRequest .smbus 0 0 0 0 false 0 none,
    .sendLdCxlIoMemoryRequest .smbus 0 0 0 0 false [] none, .getDcdInfo .smbus none none,
    .getHostDcRegionConfiguration .smbus none [] none, .setDcRegionConfiguration .smbus none [] none,
    .getDcRegionExtentLists .smbus none [] none, .initiateDcAdd .smbus none 0 [] none,
    .initiateDcRelease .smbus none 0 [] none, .fmapiUnsupported .smbus 0, .ndr 0 0, .drs 0 0 [] false, .lockTimeout 0,
    .winUntaint .smbus, .winFlush .smbus, .pelClear .smbus, .chTailWrite .smbus 0, .chRingSizeWrite .smbus 0,
    .chStart .smbus, .chStop .smbus, .chAbort .smbus, .kick .smbus, .arm .smbus, .disarm .smbus,
    .descriptorFetchDone 0, .copy 0, .fill 0, .flushRead 0, .dmaReadCompletion 0, .descriptorReport 0,
    .queueStall 0 0, .go .smbus, .forceFailsafe .smbus, .stableContain .smbus, .stableRelease .smbus,
    .portContain .smbus, .portRelease .smbus, .portUntaint .smbus, .dpcRelease 0 0] : List Instr).all fun i => i.wf) = true := by decide +kernel

theorem test_wf_accepts_5 : (([
    .dpcSoftwareTrigger 0 0, .pplClear .smbus, .flogClear .smbus, .voltageFault 0, .tempThreshold 0 0, .thermalTrip 0,
    .completionTimeout 0 0, .functionLevelReset 0 0, .busMasterEnableClear 0 0, .secondaryBusReset 0 0 false,
    .linkDisable 0 0 false, .hotResetReceived 0, .vhReset .smbus, .functionReady 0 0, .vslotDataWrite .smbus 0,
    .msixMessage 0 0, .msixGapEnd 0 0, .intxAssert 0, .doeObject 0 0 0, .doeAbort 0, .keyProg 0 0 0 0 0 0 [],
    .kSetGo 0 0 0 0 0, .kSetStop 0 0 0 0 0, .spdmMessage 0 0 0 false false, .evForceWrite .smbus 0 0 0,
    .evCauseClear .smbus 0 0 0, .stormQuietEnd 0 0, .fmqPop .smbus, .enqPop .smbus, .talClr .smbus 0 0,
    .talEvselWrite .smbus 0 0 0, .tallySlotWrite .smbus false 0, .plReq .smbus 0, .stbHintWrite .smbus 0,
    .reqSl1 .smbus, .reqSl2 .smbus, .sleepCancel .smbus, .padRelease .smbus, .wake 0 0, .railInRange 0,
    .perstDeassert 0, .kciWrite 0 0, .kciRmw 0 0 0, .kciSelWrite 0 0 0, .kciCommit 0, .kciWait 0 0 0 0 false,
    .kciEnd 0 false, .arbCommit .smbus] : List Instr).all fun i => i.wf) = true := by decide +kernel

theorem test_wf_accepts_6 : (([
    .flashGo .smbus 0 [], .yardCfgWrite .smbus 0, .setEndpointId 0 0, .getEndpointId 0, .getVersionSupport 0 0,
    .getMessageTypeSupport 0, .getVendorDefinedMessageSupport 0, .pldmMessage 0 0 0, .read 0 false 0 Ext.none,
    .write 0 false 0 0 Ext.none, .challenge .smbus, .verify .smbus false, .deauth .smbus, .halt .smbus,
    .dbgResume .smbus, .dbgAccess false 0 [] Ext.none, .sbRouteWrite .smbus 0, .sbioInputChange 0 false,
    .sbClkreqWrite .smbus 0, .linkEntersRecovery 0, .recoveryEnd 0 0, .l0pPartnerAcknowledge 0, .loopbackStageDone 0,
    .eyeHeightMeasured 0 0, .laneMarginingCommand 0 0 0, .expanderWriteRetry 0] : List Instr).all fun i => i.wf) = true := by decide +kernel

theorem test_wf_accessors : (Acc.ctl 63).wf = true ∧ (Acc.ctl 64).wf = false ∧ (Acc.remote 4 255).wf = true ∧
    (Acc.remote 5 255).wf = false ∧ (Acc.remote 4 256).wf = false := by decide +kernel

theorem test_wf_tlp_fields : Tlp.blank.wf = true ∧ (([{ Tlp.blank with fmtType := 256 },
    { Tlp.blank with addr := 2 ^ 64 },
    { Tlp.blank with len := 1024 },
    { Tlp.blank with fbe := 16 },
    { Tlp.blank with lbe := 16 },
    { Tlp.blank with rid := 65536 },
    { Tlp.blank with tag := 16384 },
    { Tlp.blank with tc := 8 },
    { Tlp.blank with pasid := some (2 ^ 20) },
    { Tlp.blank with ld := some 16 },
    { Tlp.blank with tgt := 65536 },
    { Tlp.blank with reg := 4096 },
    { Tlp.blank with status := 8 },
    { Tlp.blank with code := 256 },
    { Tlp.blank with rtype := 8 },
    { Tlp.blank with vid := 65536 },
    { Tlp.blank with vdw := 2 ^ 32 },
    { Tlp.blank with data := List.replicate 4097 0 }] : List Tlp).all fun t => !t.wf) = true := by decide +kernel

theorem test_wf_packet_fields : pk0.wf = true ∧ (([{ pk0 with seq := 65536 },
    { pk0 with cls := 3 },
    { pk0 with slots := 1 },
    { pk0 with slots := 262 },
    { pk0 with dst := 8 },
    { pk0 with src := 8 },
    { pk0 with dstPort := 256 },
    { pk0 with srcPort := 131 },
    { pk0 with stable := 256 },
    { pk0 with hops := 4 },
    { pk0 with epoch := 2 },
    { pk0 with gen := 256 },
    { pk0 with wait := 2 ^ 23 },
    { pk0 with ccrc := 2 ^ 32 },
    { pk0 with tlp := tlpBad }] : List Packet).all fun p => !p.wf) = true := by decide +kernel

theorem test_wf_link_fields : info0.wf = true ∧ (([{ info0 with width := 0 },
    { info0 with width := 17 },
    { info0 with rate := 7 },
    { info0 with eqFail := some 7 },
    { info0 with unlocked := 65536 },
    { info0 with inverted := 65536 },
    { info0 with nld := 17 }] : List LinkInfo).all fun i => !i.wf) = true := by decide +kernel
/-! ### A port with a link -/

/-- Port 120, the x16 block of cluster 15, enabled to train at width 16, in role `role`: lane masks, clock and units. -/
def portRegs (role : Nat) : List (Reg × Nat × Nat) :=
  [(R.PRT0_PORT_CFG, 120, 0x860 + role), (R.PRT0_LINK_WIDTH, 120, 16), (R.PRT0_LINK_LANES, 120, 65535), (R.LAN_CL_REFCLK 15, 0, 3),
   (unitCtrl 0x200, 120, 1)] ++ (List.range 16).map fun k => (unitCtrl 0x10f, k, 1)

/-- Its link with LINK_STATUS as given, its lanes in `lane`, and its port state. -/
def linkDev (role status lane : Nat) (ps : PortSt) : Dev :=
  (regs (portRegs role ++ (R.PRT0_LINK_STATUS, 120, status) :: (List.range 16).map fun k => (R.LAN_LANE_STATUS 15, k, lane))).setPst 120 ps

/-- LINK_STATUS of a x16 link with DL_UP, L0p and flit mode: with the current width and the link state. -/
def status16 (width lstate : Nat) : Nat := lstate + 128 * width + 0x1000 + 0x2000 + 0x200000 + 65536 * 16

/-- The state of a port whose sixteen lanes trained. -/
def ps16 : PortSt := { PortSt.reset with detLanes := 65535 }

/-- That port with its link in L0, owned by stable 0. -/
def liveDev (role : Nat) : Dev := (linkDev role (status16 16 4) 11 ps16).wn R.ISO_PORT_OWN 0x178 1

/-! ### The step and the cycle timebase -/

/-- A domain in state `x`, with a mark at 5 ns and a period of 2 µs. -/
def dom1 (x : DomSt) : CycDom := { CycDom.reset with state := x, running := true, started := true, p := 512000, lastReal := some 5, tStart := 5 }

/-- A device whose domain 7 stands so. -/
def domDev (c : CycDom) : Dev := State.reset.dev.setCyc 7 c

theorem test_step_runs_the_front_command :
    let s : State := { State.reset with pending := [.drainEnd, .perstAssert] }
    s.pending = .drainEnd :: [.perstAssert] := by decide +kernel

theorem test_step_idles : State.reset.pending = [] := by decide +kernel

theorem test_queue_words : decodeTableWord 32 0 = none ∧ (State.reset.withFetchWord 32 0).pending = [] := by decide +kernel

/-- A quiet device: the one after reset, 5 ns later. -/
theorem wit_QuietDeviceSettlesToItself : ({ State.reset.dev with now := 5 } : Dev).quiet := by
  refine ⟨?_, rfl, ?_⟩
  · unfold Dev.still; decide +kernel
  · unfold Dev.pinHolds; decide +kernel

/-- Page locks: a locked page and another command; PLOCK of an unlocked and of a locked page by the management class; a read of UNIT_CTRL. -/
theorem wit_PageLocksStandUntilDeviceReset :
    (Instr.drainEnd ≠ .perstAssert ∧ Instr.drainEnd ≠ .powerGood) ∧
    State.reset.dev.may (.core true) (unitCtrl 0x200) true = true ∧ (State.reset.dev.awn 64 (selReg 0) 0xffff).may (.core true) (unitCtrl 0) true = true ∧
    Ext.none.disagree = false ∧ State.reset.dev.accessDec (.core true) 0x200 0x28 false = .ok ∧
    State.reset.dev.chkView.accessDec (.core true) 0x200 0x28 false = .ok := by decide +kernel

/-- Marks: the domains' states in which their commands act, at the last domain and pin. -/
theorem wit_MarkCommandsComplete :
    let d := domDev (dom1 .locked)
    let h := domDev (dom1 .holdover)
    7 < 8 ∧ ((d.cyc1 7).state = .acquire ∨ (d.cyc1 7).state = .locked) ∧ (d.cyc1 7).lastReal = some 5 ∧
    ((h.cyc1 7).state = .holdover ∨ (h.cyc1 7).state = .freerun) ∧ (d.cyc1 7).running = true := by decide +kernel

/-- A Vendor_Defined message with its vendor's doubleword. -/
def cycVdm (vdw : Nat) : Tlp := { Tlp.blank with kind := .msg, code := 0x7f, rtype := 4, vid := vendorId, vdw := vdw }

/-- Messages on a live upstream port: one that marks domain 7, one formed otherwise, one for no domain, one that marks nothing. -/
theorem wit_MarkCommandsComplete_messages :
    let d := (liveDev 1).wn R.CYC_DOM_CTRL 7 (1 + 4 + 256 * 120)
    let good := cycVdm (0xc1 + 256 * 7)
    let e := { d with pwr := { d.pwr with lastRx := max d.now 9 } }.advanceTo 9
    good.vid = vendorId ∧ d.linkLive 120 = true ∧ d.discards 120 = false ∧
    ([good, cycVdm (0xc1 + 256 * 7 + 65536), cycVdm (0xc1 + 256 * 8), cycVdm 0xc0].all isCycleVdm) = true ∧
    (good.vdw % 256 = 0xc1 ∧ good.rtype = 4 ∧ good.data = [] ∧ good.vdw / 256 % 256 = 7 ∧ good.vdw / 65536 = 0 ∧
      e.isUp 120 = true ∧ e.rf R.CYC_DOM_CTRL 7 2 1 = 2 ∧ e.rf R.CYC_DOM_CTRL 7 15 8 = 120 ∧ e.rb R.CYC_DOM_CTRL 7 0 = true) ∧
    (cycVdm (0xc1 + 256 * 7 + 65536)).vdw / 65536 ≠ 0 ∧ 8 ≤ (cycVdm (0xc1 + 256 * 8)).vdw / 256 % 256 ∧
    (cycVdm 0xc0).vdw % 256 ≠ 0xc1 := by refine ⟨rfl, ?_⟩; decide +kernel

/-- A mark 999 ns after the one before, with the delay that the register gives. -/
theorem wit_MarkTooSoonIsDiscarded :
    let d := (domDev (dom1 .locked)).wn R.CYC_DOM_CTRL 7 3
    let e := (d.runDue 1004 7).advanceTo 1004
    e.domOn 7 = true ∧ (e.cyc1 7).lastReal = some 5 ∧ 1004 - e.rf R.CYC_MARK_DELAY 7 15 0 < 5 + 1000 := by decide +kernel

/-- Intervals in tolerance, outside it, and at the outlier limit; the three do not overlap. -/
theorem wit_EstimateFollowsTheInterval :
    let d := ((domDev { dom1 .locked with outl := 1 }).wn R.CYC_TOL 7 100).wn R.CYC_DOM_CTRL 7 (2 * 16777216 + 1 + 2)
    let c := d.cyc1 7
    let e := { c with outl := 0 }
    7 < d.cyc.doms.length ∧
    (256 * (2000 : Int) - (c.p : Int)).natAbs * 65536 ≤ c.p * d.rf R.CYC_TOL 7 15 0 ∧
    c.p * d.rf R.CYC_TOL 7 15 0 < (256 * (2100 : Int) - (c.p : Int)).natAbs * 65536 ∧
    (d.rf R.CYC_DOM_CTRL 7 27 24 ≠ 0 ∧ d.rf R.CYC_DOM_CTRL 7 27 24 ≤ c.outl + 1) ∧ e.outl + 1 < d.rf R.CYC_DOM_CTRL 7 27 24 := by
  decide +kernel

/-- A device whose domain 0 runs with a schedule of one entry, of action `act`, with the words given; stable 63 bound to domain 7. -/
def entDev (act target arg : Nat) : Dev :=
  let d := State.reset.dev.setCyc 0 { dom1 .locked with count := 1 }
  let d := (d.wn (R.CYC_ENT_W 0) 0 (65536 * act)).wn (R.CYC_ENT_W 1) 0 target
  (d.wn (R.CYC_ENT_W 2) 0 arg).wn (R.CYC_BIND 7) 0 (7 * 268435456)

theorem wit_ScheduleEntriesExecute :
    (∀ act < 6, let d := entDev act 0 1
      (d.cyc1 0).running = true ∧ d.execRuns = true ∧ (d.entLeft 0).contains 0 = true ∧ fld (d.ent 0 0 0) 19 16 = act) ∧
    (let mine (d : Dev) (s : Nat) : Prop := d.domOf s = 0 ∧ s ∉ d.cyc.unjoined
     mine (entDev 1 0 1) 0 ∧ ¬ mine (entDev 1 63 1) 63 ∧
     fld ((entDev 1 (63 + 256 * 255) 1).ent 0 0 1) 15 8 = 255 ∧ fld ((entDev 1 (256 * 130) 1).ent 0 0 1) 15 8 = 130 ∧
     (let d := ((entDev 2 127 1).wn R.ISO_PORT_OWN 0x17f (1 + 256 * 63)).wn (R.LAN_CL_LAYOUT 15) 0 127
      d.owner 127 = some 63 ∧ ¬ mine d 63) ∧
     (let d := (entDev 2 0 1).wn R.ISO_PORT_OWN 0x100 1
      d.owner 0 = some 0 ∧ mine d 0 ∧ fld (d.ent 0 0 2) 15 0 ≠ 0 ∧ (d.block 0).isSome = true) ∧
     (let d := (entDev 3 0x2000005 0).wn R.TAL_TS_UNIT 0x10f 0x2000005
      d.rd R.TAL_TS_UNIT (0x100 + 15) = d.ent 0 0 1 ∧ d.farUnit (fld (d.ent 0 0 1) 28 16) (fld (d.ent 0 0 1) 15 0) = false) ∧
     (let d := entDev 3 (0x2000000 + 127) 0
      fld (d.ent 0 0 1) 28 16 = 0x200 ∧ fld (d.ent 0 0 1) 31 29 = d.me ∧ fld (d.ent 0 0 1) 15 0 = 127) ∧
     (let d := (entDev 5 63 1).wn R.DMA_CH_OWN 63 (1 + 2 * 63)
      d.chOwner 63 = some 63 ∧ ¬ mine d 63) ∧ (entDev 5 63 1).chOwner 63 = none) := by decide +kernel

/-- The cursor: an entry of the range in force, of the pending range, and of neither; the accesses are made; a port with a window. -/
theorem wit_CycleRegistersComplete :
    let d := domDev { dom1 .locked with base := 0, count := 1, pend := some (1, 1) }
    let held (b n i : Nat) : Prop := b ≤ i ∧ i < b + n
    d.may (.core true) (R.CYC_ENT_W 3) true = true ∧ d.may (.core true) (R.CYC_ENT_W 0) false = true ∧
    d.may (.core true) R.CYC_POS_PHASE false = true ∧
    (let d := d.awn 64 (selReg 0x20) 7
     d.instOf (.core true) 0x20 (R.CYC_ENT_W 3).off = 7 ∧ held (d.cyc1 7).base (d.cyc1 7).count 0 ∧
     (d.cyc1 7).pend = some (1, 1) ∧ held 1 1 1 ∧ ¬ held (d.cyc1 7).base (d.cyc1 7).count 1023 ∧ ¬ held 1 1 1023) ∧
    (let d := (domDev (dom1 .locked)).setPst 127 { PortSt.reset with wins := [(7, 65536)] }
     (d.winEnd 127).isSome = true ∧ ((d.advanceTo ((d.winEnd 127).getD 0)).pst 127).l0pReq = none) ∧
    (let d := (domDev (dom1 .locked)).setPst 127 { PortSt.reset with wins := [(7, 65536)], l0pReq := some 16 }
     (d.winEnd 127).isSome = true ∧ ((d.advanceTo ((d.winEnd 127).getD 0)).pst 127).l0pReq = some 16 ∧
       ((d.advanceTo ((d.winEnd 127).getD 0)).pst 127).proc = none) := by decide +kernel
/-! ### The register model and the accesses to it -/

/-- The hypotheses of an aligned write of one word to a register without an action of its own, with the register's access code. -/
def plainAt (page off : Nat) (code : Access) : Bool :=
  let d := State.reset.dev
  let a := Acc.core true
  let inst := d.instOf a page off
  decide (off < 4096) && off % 4 == 0 && !Ext.none.disagree && ((findReg page off).any fun r => r.acc == code && !r.perAcc) &&
  d.may a ⟨page, off⟩ true && !d.windowZero page off inst && decide (0x100 ≤ off) && decide (off < 0xf00) && (page, off) != (0x600, 0x124) &&
  (d.systemWrite a page off inst 1 Ext.none).isNone && (d.portWrite a page off inst 1).isNone && (d.coreWrite a page off inst 1).isNone

/-- Each access code at a register: CAL_POL, SAF_CTRL (its page unlocked and locked), CTO_CFG, HP_ERR, DBG_RESP, PIN_LEVEL and VMON_LIM. -/
theorem wit_AccessCodeDecidesWhatAWriteDoes :
    plainAt 0x40 0x100 .rw = true ∧ plainAt 0xc00 0x100 .rwl = true ∧ 0xc00 ∉ State.reset.plock ∧
    0xc00 ∈ ({ State.reset with plock := [0xc00] } : State).plock ∧ plainAt 0xc00 0x10c .rws = true ∧ plainAt 0x201 0x1a4 .w1c = true ∧
    plainAt 0x15 0x140 .wo = true ∧ plainAt 0x20 0x1e0 .ro = true ∧ plainAt 0xc00 0x12c .rof = true := by decide +kernel

/-- A register that an internal port does not have, and registers that each accessor has its own of. -/
theorem wit_AccessCodeDecidesWhatAWriteDoes_own :
    let d := State.reset.dev
    let n := d.awn 64 (selReg (selPage 0x600)) 0x180
    let a := Acc.core true
    n.may a R.ISO_PORT_OWN true = true ∧ n.windowZero 0x600 R.ISO_PORT_OWN.off (n.instOf a 0x600 R.ISO_PORT_OWN.off) = true ∧
    ((findReg 0x500 R.RTE_WIN_IDX.off).any fun r => r.perAcc && r.acc == .rw) = true ∧ d.may a R.RTE_WIN_IDX true = true ∧
    d.windowZero 0x500 R.RTE_WIN_IDX.off (d.instOf a 0x500 R.RTE_WIN_IDX.off) = false ∧
    (d.systemWrite a 0x500 R.RTE_WIN_IDX.off 0 1 Ext.none).isNone = true ∧ (d.portWrite a 0x500 R.RTE_WIN_IDX.off 0 1).isNone = true ∧
    (d.coreWrite a 0x500 R.RTE_WIN_IDX.off 0 1).isNone = true := by decide +kernel

/-- The head of a yard, with a member select of accessor 64 that names member 7. -/
def headDev : Dev := (regs [(R.DEV_YARD_CFG, 0, 1 + 32768 * 255)]).awn 64 (selReg 0) 0xf0000

/-- SEL of page 0 and of pages with and without instances, UNIT_CHILD, TALn_LO and PLOCK. -/
theorem wit_CommonPageCommandsComplete :
    let d := State.reset.dev
    let a := Acc.core true
    d.may a (selReg 0x40) true = true ∧ ninst 0x40 ≠ 0 ∧ d.may a (selReg 0x13) true = true ∧
    d.canAccess a = true ∧ d.accessDec a 0 0xc0 true = .ok ∧ d.chkView.accessDec a 0 0xc0 true = .ok ∧ (d.awr 64 (selReg 0) 0x7ffff).carriedTo a = none ∧
    headDev.canAccess a = true ∧ headDev.accessDec a 0 0xc0 true = .ok ∧ headDev.chkView.accessDec a 0 0xc0 true = .ok ∧ headDev.carriedTo a = some 7 ∧
    d.may a (unitChild 0x200) true = true ∧ d.may a ⟨0x200, 0xf70⟩ false = true ∧ d.farUnit 0x200 (d.rf (talEvsel 0x200 7) 0 31 16) = false ∧ d.may a (unitCtrl 0x200) true = true := by
  decide +kernel

theorem wit_EntryWritesStageTheEntry :
    let d := State.reset.dev.awn 64 R.PRT5_VSLOT_IDX 247
    let a := Acc.core true
    d.may a (R.RTE_WIN_W 3) true = true ∧ d.may a (R.RTE_XING_W 3) true = true ∧ d.may a (R.ISO_RULE_W 3) true = true ∧
    d.may a R.STL_PIN_W1 true = true ∧ d.may a ⟨0x205, 0x194⟩ true = true ∧ d.arn 64 R.PRT5_VSLOT_IDX % 256 < 248 ∧
    248 ≤ (d.awn 64 R.PRT5_VSLOT_IDX 255).arn 64 R.PRT5_VSLOT_IDX % 256 ∧ (d.awn 64 R.PRT5_VSLOT_IDX 255).may a ⟨0x205, 0x194⟩ true = true ∧
    d.may a R.ISO_PERM_DATA true = true ∧ pagePopulated (d.arn 64 R.ISO_PERM_IDX % 8192) = true ∧ 0x600 ∉ State.reset.plock ∧
    d.arn 64 R.ISO_PERM_IDX % 8192 ≠ 0x600 ∧
    (let e := d.awn 64 R.ISO_PERM_IDX 0x600
     e.arn 64 R.ISO_PERM_IDX % 8192 = 0x600 ∧ bit 0x28 3 = true ∧ bit 0x28 5 = true ∧ bit 0x20 3 = false) ∧
    pagePopulated ((d.awn 64 R.ISO_PERM_IDX 8191).arn 64 R.ISO_PERM_IDX % 8192) = false ∧
    0x600 ∈ ({ State.reset with plock := [0x600] } : State).plock := by decide +kernel

/-- The reads and clears of the logs, with a denial of stable 63 that the management class sees, and the drop log of port 127. -/
theorem wit_EntryReadsAndLogClearsComplete :
    let e : AccFault := ⟨0, 127, some 63, false, false, 1, 0, 0, 1, 0, none, 7⟩
    let d := (regs [(R.LAN_CL_LAYOUT 15, 0, 127)]).awn 64 (selReg (selPage 0x206)) 127
    let d := { d with logs := { d.logs with flt := ⟨[e], false⟩ } }
    let a := Acc.core true
    d.may a (R.RTE_WIN_W 0) false = true ∧ d.may a ⟨0x600, 0x12c⟩ false = true ∧
    d.seen a d.logs.flt (d.arn 64 R.ISO_FLT_IDX % 16) (fun e => e.stable) = some e ∧ d.may a ⟨0x500, 0x158⟩ true = true ∧
    d.may a ⟨0x600, 0x148⟩ true = true ∧ d.may a ⟨0x206, 0x100⟩ true = true ∧ d.instOf a 0x206 0x100 < 128 ∧
    (let n := d.awn 64 (selReg (selPage 0x206)) 0x80
     n.may a ⟨0x206, 0x100⟩ true = true ∧ 128 ≤ n.instOf a 0x206 0x100) ∧
    d.may a ⟨0x440, 0x11c⟩ true = true := by decide +kernel

/-- A write of a tenant that is denied, a hole, an invalid select, and partial and misaligned accesses. -/
theorem wit_RefusedWritesChangeNoOtherRegister :
    let d := State.reset.dev.awn 64 (selReg 0x40) 0xfff
    d.canAccess (.ctl 63) = true ∧ d.carriedTo (.ctl 63) = none ∧ d.accessDec (.ctl 63) 0xc00 0x100 true = .deny ∧
    d.chkView.accessDec (.ctl 63) 0xc00 0x100 true = .deny ∧ d.tenant (.ctl 63) = some 63 ∧
    d.canAccess (.core true) = true ∧ d.carriedTo (.core true) = none ∧ d.accessDec (.core true) 0xc00 0xefc true = .void ∧
    d.chkView.accessDec (.core true) 0xc00 0xefc true = .void ∧
    d.accessDec (.core true) 0x40 0x100 true = .invalid ∧ d.chkView.accessDec (.core true) 0x40 0x100 true = .invalid ∧
    ({ Ext.none with disagree := true } : Ext).disagree = true ∧
    (let e := (State.reset.dev.wn R.ISO_PORT_OWN 0x100 1).wn R.ISO_PERM_DATA 0x200 3
     let e := { e with saf := { e.saf with flips := [(3, 0, 0)] } }
     pagePopulated 0x200 = true ∧ e.accessDec (.ctl 0) 0x200 R.PRT0_LINK_CTRL.off true ≠ e.chkView.accessDec (.ctl 0) 0x200 R.PRT0_LINK_CTRL.off true) ∧ pagePopulated 0xc00 = true ∧ (0x101 % 4 ≠ 0 ∨ 15 % 16 ≠ 15) ∧
    (0xffc % 4 ≠ 0 ∨ 7 % 16 ≠ 15) := by decide +kernel

/-- READ and WRITE on both paths, malformed, waiting and served; the carried accesses. -/
theorem wit_CarriedAccessesComplete :
    let d := State.reset.dev
    let f := regs [(R.ISO_ISO_CTRL, 0, 1)]
    let b := { d with mgt := { d.mgt with remote := [(65, 7, 0)] } }
    let h := headDev.awn 65 (selReg 0) 0xf0000
    d.pathUp 0 = true ∧ (d.mgt.remote.any fun e => e.1 == 65) = false ∧ b.pathUp 0 = true ∧ (b.mgt.remote.any fun e => e.1 == 65) = true ∧
    (3 % 4 ≠ 0 ∨ d.elsewhere .smbus 3 = none) ∧ d.elsewhere .smbus 0x1fffffc = none ∧
    h.pathUp 0 = true ∧ h.elsewhere .smbus 0x1fffffc = some 7 ∧ f.pathUp 1 = true := by decide +kernel

/-- The accesses of a member: sent to one that is there or lost; its answers, the last and another read of a host; the member's end. -/
theorem wit_CarriedAccessesComplete_members :
    let a := Acc.core true
    let lost := { headDev with yard := { headDev.yard with lost := [7] } }
    let w (acc : Nat) := { headDev with mgt := { headDev.mgt with remote := [(acc, 7, 0x1fffffc)] } }
    let mine (d : Dev) (acc : Nat) := d.mgt.host.find? fun h => h.acc == acc && h.words.any Option.isNone
    let hr (ws : List (Option Word)) : HostRd := ⟨0, Tlp.blank, 0, ws⟩
    let g (ws : List (Option Word)) := { w 0 with mgt := { (w 0).mgt with host := [hr ws] } }
    let m := regs [(R.DEV_YARD_CFG, 0, 1 + 512 * 7 + 32768 * 255)]
    headDev.canAccess a = true ∧ headDev.carriedTo a = some 7 ∧ 0x1fffffc ≠ 0xc0 ∧ 0x1fffffc % 4 = 0 ∧ headDev.isLost 7 = false ∧
    lost.canAccess a = true ∧ lost.carriedTo a = some 7 ∧ lost.isLost 7 = true ∧
    ((w 64).mgt.remote.find? fun e => e.1 == 64) = some (64, 7, 0x1fffffc) ∧ mine (w 64) 64 = none ∧ 64 ≠ 65 ∧
    ((w 65).mgt.remote.find? fun e => e.1 == 65) = some (65, 7, 0x1fffffc) ∧ mine (w 65) 65 = none ∧
    ((g [none]).mgt.remote.find? fun e => e.1 == 0) = some (0, 7, 0x1fffffc) ∧ mine (g [none]) 0 = some (hr [none]) ∧
    mine (g [none, none]) 0 = some (hr [none, none]) ∧
    m.yardEn = true ∧ m.canAccess (.remote 4 255) = true := by decide +kernel
/-! ### Lanes, ports, links and slots -/

/-- A link in L0 or Recovery, an untrained one, and a training one. -/
def l0Dev : Dev := linkDev 0 (status16 16 4) 11 ps16
def recDev : Dev := linkDev 0 (status16 16 5) 11 ps16
def downDev (role : Nat) : Dev := linkDev role 1 1 PortSt.reset

/-- A port in a training that has reached LSTATE `x`. -/
def trainDev (role x : Nat) : Dev := linkDev role x 1 { PortSt.reset with rising := true }

/-- A training that starts, its steps on one lane and on all, its end and its failures; Recovery without failed lanes, and with one that has
failed twice or never. -/
theorem wit_TrainingAndRecoveryComplete :
    let d := downDev 0
    let f := downDev 2
    let w (d : Dev) (lanes : Nat) := widthOf (min (d.tgtWidth 120) ((d.trainLanes 120).filter fun k => lanes.testBit k).length)
    let bad (d : Dev) := (d.linkLanes 120).filter fun k => (0x8001 : Nat).testBit k
    let twice := linkDev 0 (status16 16 5) 11 { ps16 with recFail := [(15, 2)] }
    let re := recDev.wn R.PRT0_LINK_CTRL 120 1
    d.mayTrain 120 = true ∧ d.dlUp 120 = false ∧ d.isFabric 120 = false ∧
    f.mayTrain 120 = true ∧ f.dlUp 120 = false ∧ f.isFabric 120 = true ∧ (f.lkState 120 = 0 ∨ f.lkState 120 = 5 ∨ f.lkState 120 = 6) ∧
    f.inTraining 120 = true ∧ w f 0x8000 ≠ 0 ∧ d.portSlot 120 = none ∧
    (∀ x ∈ [1, 2, 3, 4, 5], (trainDev 0 x).inTraining 120 = true ∧ (trainDev 0 x).isFabric 120 = false ∧ (trainDev 0 x).lstate 120 = x ∧
      w (trainDev 0 x) 0x8000 = 1 ∧ w (trainDev 0 x) 0xffff = 16) ∧
    widthOf (min (min (d.tgtWidth 120) 16) ((d.trainLanes 120).filter fun k => !(0 : Nat).testBit k).length) ≠ 0 ∧
    widthOf (min (min (d.tgtWidth 120) 1) ((d.trainLanes 120).filter fun k => !(0x7fff : Nat).testBit k).length) ≠ 0 ∧
    1 ≤ 6 ∧ 6 ≤ 6 ∧ 1 ≤ 1 ∧ 7 < 8 ∧
    l0Dev.isFabric 120 = false ∧ l0Dev.dlUp 120 = true ∧ (l0Dev.lstate 120 = 4 ∨ l0Dev.lstate 120 = 6) ∧
    l0Dev.laneState 15 15 = 3 ∧ (l0Dev.linkLanes 120).contains 15 = true ∧
    recDev.isFabric 120 = false ∧ recDev.dlUp 120 = true ∧ recDev.lstate 120 = 5 ∧ (recDev.pst 120).proc = none ∧
    ((recDev.linkLanes 120).filter fun k => (0 : Nat).testBit k) = [] ∧
    (recDev.speedSync 120).rb R.PRT0_LINK_CTRL 120 0 = false ∧ (re.speedSync 120).rb R.PRT0_LINK_CTRL 120 0 = true ∧ re.lstate 120 = 5 ∧
    bad recDev ≠ [] ∧ (bad recDev).filter (fun k => decide (3 ≤ (recDev.pst 120).recFail.getD k 0 + 1)) = [] ∧
    twice.isFabric 120 = false ∧ twice.dlUp 120 = true ∧ twice.lstate 120 = 5 ∧
    (bad twice).filter (fun k => decide (3 ≤ (twice.pst 120).recFail.getD k 0 + 1)) = [15] := by decide +kernel

/-- RETRAIN of a fabric link, of one up on all lanes of MASK, of one up on others, and of one that is down. -/
theorem wit_TrainingAndRecoveryComplete_retrain :
    let a := Acc.core true
    let on (d : Dev) := d.awn 64 (selReg 0x200) 120
    let some' := on (linkDev 0 (status16 16 4) 11 { ps16 with detLanes := 0xff })
    (∀ d ∈ [on (downDev 2), on l0Dev, some', on (downDev 0)],
      d.may a R.PRT0_LINK_CTRL true = true ∧ d.instOf a 0x200 R.PRT0_LINK_CTRL.off = 120) ∧
    (on (downDev 2)).isFabric 120 = true ∧
    (on l0Dev).isFabric 120 = false ∧ (on l0Dev).dlUp 120 = true ∧ (on l0Dev).laneMask 120 ≠ 0 ∧
    (on l0Dev).laneMask 120 &&& ((on l0Dev).pst 120).detLanes = (on l0Dev).laneMask 120 ∧
    some'.isFabric 120 = false ∧ some'.dlUp 120 = true ∧ some'.laneMask 120 &&& (some'.pst 120).detLanes ≠ some'.laneMask 120 ∧
    (on (downDev 0)).isFabric 120 = false ∧ (on (downDev 0)).dlUp 120 = false := by decide +kernel

/-- L0p at half the width, with an open window or none; a HALF procedure; L1; clocks; a lane in no link; a lane with margining. -/
theorem wit_LinkPowerAndLaneTestsComplete :
    let c := Acc.core true
    let half := linkDev 0 (status16 8 6) 11 ps16
    let win := linkDev 0 (status16 8 6) 11 { ps16 with wins := [(7, 100)] }
    let pr : Proc := ⟨.half, .starting, 0xff00, 8, 0, 0, 16, 16, 0, 0, [], 1, false⟩
    let run := linkDev 0 (status16 16 4) 11 { ps16 with proc := some pr }
    let wait := linkDev 0 (status16 8 6) 11 { ps16 with proc := some pr }
    let test := ((regs [(unitCtrl 0x10f, 15, 1), (R.LAN_LANE_STATUS 15, 15, 7)]).awn 64 (selReg 0x10f) 15)
    let off := ((regs [(unitCtrl 0x10f, 15, 1), (R.LAN_LANE_STATUS 15, 15, 0)]).awn 64 (selReg 0x10f) 15)
    let lanes := (regs [(unitCtrl 0x10f, 15, 0), (R.LAN_LANE_STATUS 15, 15, 5)]).awn 64 (selReg 0x10f) 15
    l0Dev.isFabric 120 = false ∧ l0Dev.dlUp 120 = true ∧ (l0Dev.lstate 120 = 4 ∨ l0Dev.lstate 120 = 6) ∧
    l0Dev.rb R.PRT0_LINK_STATUS 120 13 = true ∧ l0Dev.rb R.PRT0_LINK_STATUS 120 21 = true ∧ l0Dev.rb R.PRT0_LINK_CTRL 120 1 = true ∧
    1 ≠ 0 ∧ widthOf 1 = 1 ∧ widthOf 16 = 16 ∧ 16 ≤ l0Dev.rf R.PRT0_LINK_STATUS 120 20 16 ∧ (l0Dev.pst 120).proc = none ∧
    1 < l0Dev.curWidth 120 ∧ half.curWidth 120 < 16 ∧ (half.lstate 120 = 4 ∨ half.lstate 120 = 6) ∧ (half.pst 120).wins = [] ∧
    win.curWidth 120 < 16 ∧ (win.pst 120).wins ≠ [] ∧ (win.pst 120).proc = none ∧
    wait.curWidth 120 < 16 ∧ (wait.pst 120).proc = some pr ∧ pr.kind = .half ∧ pr.step = .starting ∧ wait.dlUp 120 = true ∧
    test.may c (R.LAN_LANE_TEST 15) true = true ∧ test.laneState 15 15 = 7 ∧ test.rb (unitCtrl 0x10f) 15 0 = true ∧ (4 : Word).toNat % 4 = 0 ∧
    off.may c (R.LAN_LANE_TEST 15) true = true ∧ off.laneState 15 15 = 0 ∧ off.rb (unitCtrl 0x10f) 15 0 = true ∧
    (run.pst 120).proc = some pr ∧ run.dlUp 120 = true ∧
    l0Dev.l1Allowed 120 = true ∧ l0Dev.queueOf 120 = [] ∧ l0Dev.busyAt 120 = false ∧
    (downDev 0).refOk 15 = true ∧ (downDev 0).refOk 14 = false ∧ (true && false) = false ∧ 15 < 16 ∧
    lanes.may c (R.LAN_LANE_TEST 15) true = true ∧ lanes.may c (R.LAN_LANE_TEST_ERR 15) false = true ∧
    lanes.instOf c 0x10f (R.LAN_LANE_TEST 15).off = 15 ∧
    (lanes.laneState 15 15 = 0 ∨ lanes.laneState 15 15 = 5 ∨ lanes.laneState 15 15 = 7) ∧ lanes.rb (unitCtrl 0x10f) 15 0 = false ∧
    (1 : Word).toNat % 4 ≠ 0 ∧ (l0Dev.linkLanes 120).contains 15 = true ∧
    (l0Dev.rb R.PRT0_LINK_CTRL 120 5 = false ∨ l0Dev.laneState 15 15 = 4) ∧
    (let m := l0Dev.wn R.PRT0_LINK_CTRL 120 0x26
     m.rb R.PRT0_LINK_CTRL 120 5 = true ∧ m.laneState 15 15 ≠ 4 ∧ m.isFabric 120 = false ∧ m.dlUp 120 = true) := by decide +kernel

/-- Slot 31 of port 120 under an expander. -/
def slotDev (s : Slot) : Dev := (regs [(R.PRT1_SLOT_CFG, 120, 1 + 4 * 31), (R.PRT1_HP_EXP 7, 0, 0x80), (R.PRT1_HP_POLL, 0, 10)]).setSlot 31 s

theorem wit_HotPlugCommandsComplete :
    let d := slotDev Slot.reset
    let on := slotDev { Slot.reset with power := true, attn := 2, delayAt := some 9 }
    let q := { (regs [(R.PRT1_HP_POLL, 0, 0)]) with ports := { State.reset.dev.ports with expQ := [(7, [0xf0000, 1])] } }
    d.slotPort 0 = none ∧ (d.slot 0).present ≠ true ∧
    (d.slot 31).powered = false ∧ ((0xf0000 / 65536 : Nat).testBit 3 = true ∧ (0xf1000 / 16 ^ 3 : Nat).testBit 0 = true) ∧
    d.rf R.PRT1_SLOT_CFG 120 15 8 = 0 ∧ (d.wn R.PRT1_SLOT_CFG 120 (1 + 4 * 31 + 256)).rf R.PRT1_SLOT_CFG 120 15 8 ≠ 0 ∧
    31 < 32 ∧ (d.slot 31).present ≠ true ∧ d.slotPort 31 = some 120 ∧ d.portSlot 120 = some 31 ∧ d.slotCtl 31 = true ∧
    (d.slot 31).power = false ∧ on.portSlot 120 = some 31 ∧ on.slotCtl 31 = true ∧ (on.slot 31).power = true ∧
    q.ports.expQ.getD 7 [] = [0xf0000, 1] ∧ q.rf R.PRT1_HP_POLL 0 7 0 = 0 ∧ d.rf R.PRT1_HP_POLL 0 7 0 ≠ 0 ∧
    ((on.slot 31).attn = 2 ∨ (on.slot 31).pwrInd = 2) ∧ (on.slot 31).delayAt = some 9 := by decide +kernel
/-! ### Calibration -/

/-- A x16 link of port 120 with METHOD `m`, whose lane 15 is due by trigger 3 since 9 ns. -/
def dueDev (role m mkl : Nat) (ps : PortSt) : Dev :=
  let d := (linkDev role (status16 16 4) 11 ps).wn R.CAL_CAL_PSTATUS 120 m
  (d.wn R.MKL_LK_STATE (lkInst 120) mkl).setCalLane 120 15 { CalLane.reset with due := some (3, 9) }

theorem wit_CalibrationTriggersComplete :
    let l := dueDev 0 2 0 ps16
    let n := (linkDev 0 (status16 16 4) 11 ps16).wn R.CAL_CAL_PSTATUS 120 2
    let r := State.reset.dev.setCalLane 127 15 { CalLane.reset with retryAt := some 0 }
    let a := l0Dev.awn 64 (selReg 0x40) 120
    l.rf R.CAL_CAL_CTRL 0 15 8 ≠ 0 ∧ [5][0]? = some 5 ∧ a.may (.core true) R.CAL_CAL_REQ true = true ∧
    a.instOf (.core true) 0x40 R.CAL_CAL_REQ.off = 120 ∧ a.calLive 120 = true ∧ (downDev 0).calLive 120 = false ∧
    n.rf R.CAL_CAL_ROT 120 15 0 ≠ 0 ∧ n.calLive 120 = true ∧ (n.calLane 120 15).due = none ∧ n.unitOf 120 15 ≠ [] ∧
    (r.calLane 127 15).retryAt = some 0 ∧
    sortBy (fun e : Nat × Nat × Nat => e.2.2) (l.waitingLanes 120) = [(15, 3, 9)] ∧
    (downDev 0 |>.awn 64 (selReg 0x40) 120).may (.core true) R.CAL_CAL_REQ true = true ∧
    (downDev 0 |>.awn 64 (selReg 0x40) 120).calLive ((downDev 0 |>.awn 64 (selReg 0x40) 120).instOf (.core true) 0x40 R.CAL_CAL_REQ.off) = false := by
  decide +kernel

/-- ROTATE of an active and of a parked lane, HALF, and re-equalisation in a window of domain 7 that has 65,536 µs left. -/
theorem wit_CalibrationProceduresStart :
    let f := dueDev 2 1 (3 + 65536 * 0xffff) ps16
    let g := dueDev 2 1 (3 + 65536 * 0x7fff) ps16
    let c : CycDom := { CycDom.reset with running := true, p := 256 * 1000000000, state := .locked }
    let h := (dueDev 0 2 0 { ps16 with wins := [(7, 65536)] }).setCyc 7 c
    let w := (dueDev 0 2 0 { ps16 with reeqDue := true, wins := [(7, 65536)] }).setCyc 7 c
    f.calNext 120 = some (15, 3) ∧ f.isFabric 120 = true ∧ f.calPick 15 = some 120 ∧ (f.actMask 120).testBit 15 = true ∧
    g.calNext 120 = some (15, 3) ∧ g.isFabric 120 = true ∧ g.calPick 15 = some 120 ∧ (g.actMask 120).testBit 15 = false ∧
    h.calNext 120 = some (15, 3) ∧ h.isFabric 120 = false ∧ h.calPick 15 = some 120 ∧
    (w.pst 120).reeqDue = true ∧ w.isFabric 120 = false ∧ w.dlUp 120 = true ∧ (w.lstate 120 = 4 ∨ w.lstate 120 = 6) ∧
    w.calFree 120 = true ∧ w.winLeft 120 (max 2000 (w.rf R.CAL_CAL_POL 120 31 16)) = true := by decide +kernel

/-- A procedure of kind `kind` at `step` on lane 15 of port 120, with `n` alarms. -/
def procOf (kind : ProcKind) (step : ProcStep) (n : Nat) : Proc := ⟨kind, step, 0x8000, 15, 3, 0, 16, 16, 0, n, [], 1, false⟩
def procDev (role lane : Nat) (pr : Proc) : Dev :=
  (linkDev role (status16 16 4) lane { ps16 with proc := some pr }).wn R.MKL_LK_STATE (lkInst 120) (3 + 65536 * 0xffff)

theorem wit_CalibrationProceduresEnd :
    let parked := procDev 2 12 (procOf .rotate .parked 0)
    let done := procDev 2 11 (procOf .rotate .measured 0)
    let half := procDev 0 12 (procOf .half .parked 0)
    let reeq := procDev 0 11 (procOf .reeq .parked 0)
    let mine (d : Dev) := (d.clusterPorts 15).find? fun q => (d.pst q).proc.isSome
    (parked.pst 120).proc = some (procOf .rotate .parked 0) ∧ (procOf .rotate .parked 0).lanes.testBit 15 = true ∧
    parked.laneState 15 15 = 4 ∧ (procOf .rotate .parked 0).lanes.testBit 14 = false ∧ done.laneState 15 15 ≠ 4 ∧
    parked.lkState 120 = 3 ∧ (half.pst 120).proc = some (procOf .half .parked 0) ∧
    (done.pst 120).proc = some (procOf .rotate .measured 0) ∧ (done.lnk 120).join = none ∧ (done.actMask 120).testBit 15 = true ∧
    (procOf .rotate .measured 0).th.getD 15 0 ≤ (procOf .rotate .measured 0).eye ∧
    ((procDev 0 12 (procOf .half .measured 0)).pst 120).proc = some (procOf .half .measured 0) ∧
    (reeq.pst 120).proc = some (procOf .reeq .parked 0) ∧ reeq.dlUp 120 = true ∧ 15 < 16 ∧
    (let pr := { procOf .rotate .measured 0 with th := [(15, 1)] }
     ((procDev 2 11 pr).pst 120).proc = some pr ∧ pr.eye < pr.th.getD 15 0 ∧ ((procDev 2 11 pr).lnk 120).join = none ∧
       ((procDev 2 11 pr).actMask 120).testBit 15 = true) ∧
    parked.bundleOf 120 = none ∧ 256 ≤ 259 ∧ parked.laneState (120 / 8) 15 = 4 ∧
    (let b := parked.wn R.MKL_LK_CFG (lkInst 120) 1
     b.bundleOf 120 = some 0 ∧ b.lkState 120 = 3 ∧ b.laneState 15 15 = 4) ∧
    (let g := (linkDev 2 (status16 16 4) 12 ps16).setLnk 120 { l0Dev.lnk 120 with guest := some 15 }
     (g.lnk 120).guest = some 15 ∧ g.laneState 15 15 = 4) ∧
    mine reeq = some 120 ∧
    mine l0Dev = none ∧ mine parked = some 120 ∧ mine (procDev 2 12 (procOf .rotate .parked 1)) = some 120 ∧
    (procOf .rotate .parked 1).alarms ≠ 0 := by decide +kernel
/-! ### The Mirkel fabric link -/

/-- Fabric port 120 in link state `st` with active lanes `act`, in bundle 15, and its link. -/
def fabDev (st act : Nat) (l : Link) : Dev :=
  let d := (linkDev 2 (status16 16 4) 11 ps16).wn R.MKL_LK_STATE (lkInst 120) (st + 65536 * act)
  (d.wn R.MKL_LK_CFG (lkInst 120) (0x010203c0 + 1 + 2 * 15)).setLnk 120 l

/-- A frame of empty slots with its CRC. -/
def goodFrame : List Byte :=
  let z : List Byte := List.replicate 242 0
  z ++ beBytes 6 (crc48 z)

/-- Good and failed frames of a fabric link, and flits of a PCIe link. -/
theorem wit_FramesAndLanesOfALinkComplete :
    let f := fabDev 3 0xffff Link.reset
    frameOk goodFrame = true ∧ frameOk [] = false ∧ f.isFabric 120 = true ∧ 2 ≤ f.lkState 120 ∧ f.lkState 120 ≠ 5 ∧
    l0Dev.isFabric 120 = false ∧ l0Dev.dlUp 120 = true ∧ l0Dev.rb R.PRT0_LINK_STATUS 120 13 = true := by
  refine ⟨frameOk_append_crc List.length_replicate, ?_⟩
  decide +kernel

def procAt (d : Dev) (pr : Proc) : Dev := d.setPst 120 { ps16 with proc := some pr }

/-- A change of the lane map that is agreed on: a park without and with a procedure, a join without and with a partner's procedure. -/
theorem wit_FramesAndLanesOfALinkComplete_map :
    let at' (how : Nat) (guest : Option Nat) :=
      (fabDev 3 0xffff { Link.reset with swap := some (15, how), guest := guest }).wf (R.LAN_LANE_STATUS 15) 15 2 0 5
    let e (d : Dev) := (d.setLnk 120 { d.lnk 120 with swap := none }).wf R.MKL_LK_STATE (lkInst 120) 8 8 0
    let pr := procOf .rotate .starting 0
    (∀ how < 3, ((at' how none).lnk 120).swap = some (15, how)) ∧
    (((e (at' 1 none)).mklPark 120 15 true).pst 120).proc = none ∧
    (((e (procAt (at' 0 none) pr)).mklPark 120 15 false).pst 120).proc = some pr ∧ pr.kind = .rotate ∧ pr.step = .starting ∧ pr.first = 15 ∧
    ((at' 2 none).lnk 120).guest ≠ some 15 ∧ ((at' 2 (some 15)).lnk 120).guest = some 15 := by decide +kernel

/-- Requests to park: refused for each of the three reasons, agreed on, and crossed by one of this end, which is the lower or not. -/
theorem wit_FramesAndLanesOfALinkComplete_parks :
    let f := fabDev 3 0xffff Link.reset
    let one := fabDev 3 0x8000 Link.reset
    let half := fabDev 3 0x7fff Link.reset
    let j := fabDev 3 0x7fff { Link.reset with join := some 15 }
    let k := fabDev 3 0xffff { Link.reset with park := some (15, true) }
    let low := k.wn R.MKL_LK_PARTNER (lkInst 120) 7
    f.lkState 120 = 3 ∧ f.logLane 120 15 = some 15 ∧ (f.lnk 120).park = none ∧ (f.lnk 120).join = none ∧ (f.lnk 120).swap = none ∧
    (f.actMask 120).testBit 15 = true ∧ 1 < popCount 16 (f.actMask 120) ∧
    (j.lnk 120).join ≠ none ∧ (j.lnk 120).park = none ∧ j.lkState 120 = 3 ∧ j.logLane 120 15 = some 15 ∧
    (half.actMask 120).testBit 15 = false ∧ (half.lnk 120).park = none ∧ (half.lnk 120).join = none ∧ (half.lnk 120).swap = none ∧
    (one.actMask 120).testBit 15 = true ∧ popCount 16 (one.actMask 120) ≤ 1 ∧ one.lkState 120 = 3 ∧
    low.lkState 120 = 3 ∧ (low.lnk 120).park ≠ none ∧ low.me < low.rf R.MKL_LK_PARTNER (lkInst 120) 2 0 ∧
    k.rf R.MKL_LK_PARTNER (lkInst 120) 2 0 ≤ k.me ∧ ((k.parkWithdraw 120).lnk 120).join = none ∧
    ((k.parkWithdraw 120).lnk 120).swap = none ∧ ((k.parkWithdraw 120).actMask 120).testBit 15 = true ∧
    1 < popCount 16 ((k.parkWithdraw 120).actMask 120) ∧
    (k.lnk 120).park = some (15, true) ∧ k.logOf 120 15 = 15 := by decide +kernel

/-- Joins, their time-out, lost lanes and CAL_STEP. -/
theorem wit_FramesAndLanesOfALinkComplete_joins :
    let half := fabDev 3 0x7fff Link.reset
    let j := fabDev 3 0x7fff { Link.reset with join := some 15 }
    let s := half.wf (R.LAN_LANE_STATUS 15) 15 2 0 4
    let out (d : Dev) :=
      let d := d.advanceTo ((d.lnk 120).joinAt + 10000)
      (((d.setLnk 120 { d.lnk 120 with join := none }).wf R.MKL_LK_STATE (lkInst 120) 8 8 0).pst 120).proc
    half.logLane 120 15 = some 15 ∧ (half.actMask 120).testBit 15 = false ∧ half.permParked 120 15 = false ∧ (half.lnk 120).swap = none ∧
    (j.lnk 120).join = some 15 ∧ j.logOf 120 15 = 15 ∧
    s.logLane 120 15 = some 15 ∧ s.laneState 15 15 = 4 ∧ s.permParked 120 15 = false ∧ s.lkState 120 = 3 ∧
    out j = none ∧ out (procAt j (procOf .rotate .measured 0)) = some (procOf .rotate .measured 0) := by decide +kernel

/-- Sequence distances 0, 1, 16,383, 16,384, 49,152, 49,153 and 65,535 from 65,535 expected; an ACTIVE link with packets to be
acknowledged and in the replay buffer. -/
theorem wit_PacketsCreditsAndCensusComplete :
    let l := { Link.reset with expect := 65535, firstAt := 1, gap := true, replay := [⟨pk0, none, 0, .ext, true⟩], census := 255 }
    let d := fabDev 3 0xffff l
    let dist (q : Nat) : Nat := (q % 65536 + 65536 - (d.lnk 120).expect) % 65536
    d.isFabric 120 = true ∧ d.lkState 120 = 3 ∧ dist 65535 = 0 ∧ 1 ≤ dist 0 ∧ dist 0 ≤ 16383 ∧ dist 16382 ≤ 16383 ∧
    16384 ≤ dist 16383 ∧ dist 49151 ≤ 49152 ∧ 49153 ≤ dist 49152 ∧ 49153 ≤ dist 65534 ∧ (d.lnk 120).firstAt ≠ 0 ∧
    d.rf R.MKL_LK_TIMING (lkInst 120) 7 0 ≠ 0 ∧ (d.lnk 120).replay ≠ [] ∧ d.rf R.MKL_LK_TIMING (lkInst 120) 23 16 ≠ 0 ∧
    (d.lnk 120).gap = true ∧ ((fabDev 3 0xffff Link.reset).lnk 120).gap = false := by decide +kernel

theorem wit_HoldResumeAndOrderResetsComplete :
    let train := (downDev 2).wn R.MKL_LK_STATE (lkInst 120) 1
    let full := fabDev 4 0xffff { Link.reset with full := true, same := true }
    let hold := fabDev 4 0xffff Link.reset
    let on := fabDev 3 0xffff Link.reset
    let b1 := on.setBnd 15 { Bundle.reset with orPhase := 1 }
    let idle := (fabDev 0 0xffff Link.reset).setBnd 15 { Bundle.reset with orPhase := 1 }
    let two := (((on.wn (R.LAN_CL_LAYOUT 15) 0 127).wn R.PRT0_PORT_CFG 121 0x862).wn R.MKL_LK_CFG (lkInst 121) (1 + 2 * 15)).wn
      R.MKL_LK_STATE (lkInst 121) 3
    let a := on.awn 64 (selReg 0x300) 15
    train.isFabric 120 = true ∧ train.lkState 120 = 1 ∧ train.mayTrain 120 = true ∧ full.mayTrain 120 = true ∧ train.refOk 15 = true ∧ full.refOk 15 = true ∧
    hold.refOk 15 = true ∧
    ((train.trainLanes 120).filter fun k => (0x8000 : Nat).testBit k).take (train.tgtWidth 120) ≠ [] ∧
    full.isFabric 120 = true ∧ full.lkState 120 = 4 ∧ (full.lnk 120).full = true ∧ (full.lnk 120).same = true ∧
    hold.isFabric 120 = true ∧ hold.lkState 120 = 4 ∧ (hold.lnk 120).full = false ∧
    (((hold.linkLanes 120).filter fun k => !hold.permParked 120 k).filter fun k => (1 : Nat).testBit k) ≠ [] ∧
    (b1.bnd 15).orPhase = 1 ∧ (∀ q ∈ b1.bundlePorts 15, (b1.lnk q).replay = []) ∧ b1.activeLinks 15 ≠ [] ∧
    (idle.bnd 15).orPhase = 1 ∧ (∀ q ∈ idle.bundlePorts 15, (idle.lnk q).replay = []) ∧ idle.activeLinks 15 = [] ∧
    idle.bundleLive 15 = false ∧ on.bundleOf 120 = some 15 ∧ on.lkState 120 = 3 ∧ (∀ q ∈ on.activeLinks 15, q ∈ [120]) ∧
    two.bundleOf 120 = some 15 ∧ two.lkState 120 = 3 ∧ (two.bnd 15).orGot = [] ∧ ¬ (∀ q ∈ two.activeLinks 15, q ∈ [120]) ∧
    ((on.setBnd 15 { Bundle.reset with orPhase := 2 }).bnd 15).orPhase = 2 ∧
    a.may (.core true) R.MKL_BND_CTRL true = true ∧ a.instOf (.core true) R.MKL_BND_CTRL.page R.MKL_BND_CTRL.off = 15 ∧
    a.bundlePorts 15 ≠ [] ∧ a.may (.core true) R.MKL_BND_PIN_DATA true = true := by decide +kernel
/-! ### Commits and yard commits -/

/-- Accessor 64 has staged a word of a register on its page. -/
def stg (r : Reg) (inst val : Nat) : Stg := ⟨64, r.page, r.page, inst, r.off, word val⟩

/-- A member of a yard that is not its head, and a device whose drain has not ended. -/
def membDev : Dev := regs [(R.DEV_YARD_CFG, 0, 1 + 512 * 7 + 32768 * 255)]
def drain (d : Dev) (ph : YcPhase) : Dev := { d with staging := { d.staging with draining := true }, yard := { d.yard with phase := ph } }
def yardHead : Dev := regs [(R.DEV_YARD_CFG, 0, 1 + 32768 * 255)]

/-- The commit of accessor 64 on a page: outside the group and the yard; its page's check; the group's check. -/
def ownCommit (d : Dev) (page : Nat) : Bool :=
  page != 0x500 && page != 0x600 && !(page == 0 && d.yardEn && fansYard (d.stagedSet 64 page))
def pageCheck (d : Dev) (page : Nat) : Bad := checkPage d (d.putSet (d.stagedSet 64 page)) page (d.stagedSet 64 page)
def groupCheck (d : Dev) : Bad :=
  checkGroup (d.unstage 64 0x600) ((d.unstage 64 0x600).putSet (d.stagedSet 64 0x600)) (d.stagedSet 64 0x600)

/-- Staged values that pass and fail the checks of a page and of the group, in a device of no yard. -/
theorem wit_CommitsAndAbortsComplete_alone :
    let d := State.reset.dev
    let ok := d.stage (stg R.SAF_CTO_CFG 0 10000)
    let bad := d.stage (stg R.SAF_CTO_CFG 0 0)
    let gok := d.stage (stg R.ISO_STB_CFG 63 1)
    let gbad := d.stage (stg R.ISO_PORT_OWN 0x100 3)
    (∀ page ∈ [0x500, 0x600, 0xc00], d.may (.core true) (stageReg page) true = true) ∧
    ownCommit d 0xc00 = true ∧ d.stagedSet 64 0xc00 = [] ∧ ownCommit ok 0xc00 = true ∧ ok.stagedSet 64 0xc00 ≠ [] ∧
    pageCheck ok 0xc00 = none ∧ ownCommit bad 0xc00 = true ∧ bad.stagedSet 64 0xc00 ≠ [] ∧ (pageCheck bad 0xc00).isSome = true ∧
    ownCommit gok 0x600 = false ∧ gok.yardEn = false ∧ gok.stagedSet 64 0x600 ≠ [] ∧ groupCheck gok = none ∧
    (gok.unstage 64 0x600).staging.draining = false ∧ (drain gok .idle).staging.draining = true ∧
    (drain gok .idle).stagedSet 64 0x600 ≠ [] ∧ (drain gok .idle).yardEn = false ∧ gbad.stagedSet 64 0x600 ≠ [] ∧
    (groupCheck gbad).isSome = true ∧ (gbad.unstage 64 0x600).staging.draining = false ∧ ownCommit d 0x500 = false ∧
    d.stagedSet 64 0x500 = [] ∧ (drain d .idle).staging.draining = true ∧ (drain d .idle).drained = true ∧
    (drain d .idle).yardEn = false := by decide +kernel

/-- The same at the head of a yard, at another member, and at one whose head is lost. -/
theorem wit_CommitsAndAbortsComplete_yard :
    let x := stg R.ISO_STB_CFG 63 1
    let lost := { membDev with yard := { membDev.yard with lost := [0] } }
    yardHead.may (.core true) (stageReg 0x600) true = true ∧ membDev.may (.core true) (stageReg 0x600) true = true ∧
    lost.may (.core true) (stageReg 0x600) true = true ∧ ownCommit yardHead 0x600 = false ∧ yardHead.yardEn = true ∧
    yardHead.isHead = true ∧ 64 ∉ yardHead.yard.far ∧ yardHead.stagedSet 64 0x600 = [] ∧ (yardHead.stage x).stagedSet 64 0x600 ≠ [] ∧
    membDev.yardEn = true ∧ membDev.isHead = false ∧ membDev.isLost membDev.headNo = false ∧
    (membDev.stage x).stagedSet 64 0x600 ≠ [] ∧ lost.isHead = false ∧ lost.isLost lost.headNo = true ∧
    (drain yardHead .adopting).drained = true ∧ (drain yardHead .adopting).isHead = true ∧
    (drain yardHead .adopting).yard.phase = .adopting ∧ (drain yardHead .idle).yard.phase ≠ .adopting ∧
    (drain yardHead .idle).drained = true ∧ (drain membDev .adopted).drained = true ∧ (drain membDev .adopted).isHead = false ∧
    (drain membDev .adopted).yard.phase = .adopted ∧ (drain membDev .adopted).yardEn = true ∧
    membDev.stagedSet 64 0x600 = [] ∧ (let f := { yardHead with yard := { yardHead.yard with far := [64] } }
      f.isHead = true ∧ 64 ∈ f.yard.far ∧ ownCommit f 0x600 = false ∧ f.may (.core true) (stageReg 0x600) true = true) ∧
    (drain membDev .idle).drained = true ∧ (drain membDev .idle).yard.phase ≠ .adopted ∧
    yardHead.staging.draining = false ∧ yardHead.yard.phase = .idle := by decide +kernel

theorem wit_AbortDiscardsTheStagedValuesOfThePage : State.reset.dev.may (.core true) (stageReg 0xc00) true = true := by decide +kernel

/-- PREPARE at a member, of its head for a plain commit and for one of groups, valid or not, and of another. -/
theorem wit_YardCommitMessagesComplete :
    let memb := membDev
    let set (d : Dev) (m : Nat) (plain : Bool) (groups : List Nat) :=
      let d := d.found [m]
      (if plain then d.stagedSet (if d.staging.epoch = 0 then 64 else 67) 0x500 ++ d.yard.forwarded.map (·.2) else []) ++
        groups.flatMap fun a => d.stagedSet 67 (fanVia a)
    let check (d : Dev) (m : Nat) (plain : Bool) (groups : List Nat) :=
      let e := d.found [m]; checkGroup e (e.putSet (set d m plain groups)) (set d m plain groups)
    let bad := memb.stage (stg R.ISO_PORT_OWN 0x100 3)
    let grp := { memb with yard := { memb.yard with group := some (65535, false, [64]) } }
    memb.yardEn = true ∧ memb.isHead = false ∧ 1 ≠ memb.headNo ∧ 0 = memb.headNo ∧ memb.yard.group = none ∧
    check memb 0 true [] = none ∧ (check bad 0 true []).isSome = true ∧
    grp.yard.group = some (65535, false, [64]) ∧ check grp 0 false [64] = none := by decide +kernel

/-- The head of a yard in a phase of a commit with the members given, some of which have answered READY. -/
def ycDev (x : YcPhase) (parts ready f : List Nat) : Dev :=
  { headDev with yard := { headDev.yard with phase := x, id := 65535, parts := parts, ready := ready, fresh := f, nexthops := [(6, 0)] } }

/-- The answers at the head: READY of one of two, of the last, with paths that are and are not beyond the limit; the later phases. -/
theorem wit_YardCommitMessagesComplete_head :
    let ready (d : Dev) := { d with yard := { d.yard with ready := (d.yard.ready ++ [7]).eraseDups, nexthops := Tbl.put d.yard.nexthops 7 0 0 } }
    let far (d : Dev) := beyond (Tbl.put (ready d).yard.nexthops (ready d).me 0 ((ready d).putSet d.yard.snapshot).hopVector)
      ((ready d).me :: d.yard.parts)
    let one := ycDev .preparing [6, 7] [] []
    let last := ycDev .preparing [7] [] []
    let loop := (ycDev .preparing [6, 7] [6] []).wn R.RTE_YROUTE 0x107 0xe0
    let ad := ycDev .adopting [7] [7]
    one.yard.phase = .preparing ∧ one.yard.parts.contains 7 = true ∧ 65535 = one.yard.id ∧ one.yard.ready.contains 7 = false ∧
    (∃ q ∈ one.yard.parts, q ∉ (ready one).yard.ready) ∧
    last.yard.phase = .preparing ∧ last.yard.parts.contains 7 = true ∧ (∀ q ∈ last.yard.parts, q ∈ (ready last).yard.ready) ∧
    far last = none ∧ loop.yard.phase = .preparing ∧ (∀ q ∈ loop.yard.parts, q ∈ (ready loop).yard.ready) ∧ far loop = some 7 ∧
    (ycDev .prepared [7] [] []).yard.phase = .prepared ∧ (ad [7]).yard.phase = .adopting ∧ (ad [7]).yard.parts.contains 7 = true ∧
    (ad [7]).yard.fresh.contains 7 = true ∧ (ad []).yard.fresh.contains 7 = false := by decide +kernel

theorem wit_YardFormationComplete :
    let y (d : Dev) : Dev := d.wn R.DEV_YARD_CFG 0 (1 + 32768 * 128)
    let idle := y (fabDev 2 0xffff Link.reset)
    let hold := y (fabDev 4 0xffff { Link.reset with lastPartner := some (7 + 8 * 127), lastTok := 9 })
    let head := { headDev with boot := { headDev.boot with kciDone := some 0 } }
    idle.isFabric 120 = true ∧ idle.lkState 120 = 2 ∧ idle.admits 120 7 0 = true ∧ idle.admits 120 6 0 = false ∧
    hold.isFabric 120 = true ∧ hold.lkState 120 = 4 ∧ (hold.lnk 120).lastPartner = some (7 + 8 * 127) ∧ (hold.lnk 120).lastTok = 9 ∧
    0 = hold.staging.epoch.toNat ∧ hold.now ≤ (hold.lnk 120).holdAt + 10000 * hold.rf R.MKL_LK_TIMING (lkInst 120) 15 8 ∧
    (hold.lnk 120).lastTok ≠ 8 ∧ headDev.isHead = true ∧ 7 ≠ headDev.me ∧
    head.boot.kciDone = some 0 ∧ head.isHead = true ∧ head.rb R.DEV_YARD_STATUS 0 0 = false := by decide +kernel
/-! ### The TLP path -/

/-- Port 120 in L0 in role `role`, owned by stable 63. -/
def ownDev (role : Nat) : Dev := (linkDev role (status16 16 4) 11 ps16).wn R.ISO_PORT_OWN 0x178 (1 + 256 * 63)

/-- A context of a key of port 120. -/
def ctx1 (key : Nat) (tokens : Int) : Ctx :=
  ⟨key, 0, false, false, false, false, 63, none, 0, 0, 0, 63, true, tokens, 0, 0, 0, 0, 0, 0, 0, [], 0⟩
def onDieDev (d : Dev) (key : Nat) (tokens : Int) : Dev :=
  d.setStall { d.stall with ways := [(8 * stallSet key + 7, ctx1 key tokens)] }

/-- A request that a policer holds. -/
def held1 (key : Nat) : Parked := ⟨Tlp.blank, 120, key, 0, true, false, false, false, none, 0, none, false⟩

theorem wit_ReceptionAndContextsComplete :
    let d := ownDev 1
    let h := onDieDev d (2 ^ 50 - 1) 1
    let h := h.setStall { h.stall with miss := [held1 (2 ^ 50 - 1)] }
    d.linkLive 120 = true ∧ isMem Tlp.blank = false ∧ l0Dev.linkLive 120 = true ∧ l0Dev.discards 120 = true ∧
    d.discards 120 = false ∧ d.isUp 120 = true ∧ d.isFabric 120 = false ∧ d.dlUp 120 = true ∧
    (h.stall.miss.findIdx? fun k : Parked => k.held && k.key == 2 ^ 50 - 1) = some 0 ∧
    h.onDie (2 ^ 50 - 1) = some (ctx1 (2 ^ 50 - 1) 1) ∧ h.stall.miss[0]? = some (held1 (2 ^ 50 - 1)) ∧
    h.polHolds (2 ^ 50 - 1) = false ∧ (h.onDie (2 ^ 50 - 1)).isSome = true ∧
    (let m := d.setStall { d.stall with miss := [held1 (2 ^ 50 - 1)] }
     (m.stall.miss.findIdx? fun k : Parked => k.held && k.key == 2 ^ 50 - 1) = some 0 ∧ m.onDie (2 ^ 50 - 1) = none) ∧
    isCycleVdm { Tlp.blank with kind := .msg, code := 0x7f, vdw := 0xc1 } = true ∧ isCycleVdm Tlp.blank = false ∧ isPtmTime Tlp.blank = false ∧
    (let t := { Tlp.blank with kind := .msg, code := 0x53, rtype := 4, data := List.replicate 4 0 }
     isCycleVdm t = false ∧ isPtmTime t = true ∧ l0Dev.isUp 120 = false) := by decide +kernel

/-- A policed context without tokens: its policer releases the request only later. -/
theorem wit_ReceptionAndContextsComplete_later :
    let key := 2 ^ 50 - 1
    let d := (onDieDev (ownDev 1) key 0).wn R.SCH_PP_RATE (0x2000 + 63) 1
    let d := (d.wn R.SCH_PP_BURST (0x2000 + 63) 1).wn R.SCH_PP_CFG (0x2000 + 63) 1
    let rate := fld (d.pairVal R.SCH_PP_RATE (0x2000 + 63)) 20 0
    d.polHolds key = true ∧ rate ≠ 0 ∧ d.polCap 63 ≠ 0 ∧
    (d.advanceTo (0 + 64 * cdiv (1 - (ctx1 key 0).tokens).toNat rate)).polHolds key = false := by decide +kernel

/-- A TLP towards port `p` at a stage, of stable 63, cut through. -/
def item1 (p : Nat) (stage : Stage) : Item :=
  let i := mkItem Tlp.blank 127 .ext (mkEval (some 63) (.port 0 p) 0) (mkEval (some 63) (.port 0 p) 0)
  { i with id := 9, stage := stage, cut := true, ccrc := carriageCrc Tlp.blank }
def withItem (d : Dev) (i : Item) : Dev := { d with path := { d.path with items := [i] } }

theorem wit_ShedAndEgressComplete :
    let d := ownDev 0
    let w := withItem d (item1 120 .store)
    let t := withItem d (item1 120 .sending)
    let g := withItem (linkDev 2 (status16 16 4) 11 ps16) (item1 120 .sending)
    let cp (st : CopySt) : Copy := ⟨120, st, mkEval (some 63) (.port 0 120) 0, mkEval (some 63) (.port 0 120) 0⟩
    let i := { item1 120 .queued with copies := [cp .sending] }
    let m := withItem d i
    let n := m.updItem 9 fun j => { j with copies := j.copies.map fun c =>
      if c.port = 120 ∧ c.st = .sending then { c with st := .sent } else c }
    w.item 9 = some (item1 120 .store) ∧ (item1 120 .store).stage = .store ∧ w.firstWaiting (item1 120 .store) = true ∧
    w.failsafe = false ∧ 130 < 131 ∧ t.sendingItem 120 = some (item1 120 .sending) ∧ t.isFabric 120 = false ∧
    g.sendingItem 120 = some (item1 120 .sending) ∧ g.isFabric 120 = true ∧ (item1 120 .sending).copies = [] ∧
    (item1 120 .sending).ccrc = carriageCrc (item1 120 .sending).tlp ∧ ({ item1 120 .sending with ccrc := 0 } : Item).ccrc ≠ carriageCrc Tlp.blank ∧
    g.failsafe = false ∧ 0 < 131 ∧
    m.sendingItem 120 = some i ∧ i.copies ≠ [] ∧ n.item 9 = some { i with copies := [cp .sent] } ∧ (item1 120 .sending).cut = true := by
  decide +kernel

theorem wit_PeriodicSchedulerWorkCompletes :
    let d := withItem (ownDev 0) (item1 120 .queued)
    let d := { d with sched := { d.sched with lastSel := [(120 * 128 + 63, 1)] } }
    (d.queueOf 120).find? (fun i => i.flow == 63) = some (item1 120 .queued) ∧ d.rf R.SCH_SCH_CTRL 0 15 0 ≠ 0 ∧ 63 < 64 ∧
    d.sched.lastSel.getD (120 * 128 + 63) 0 = 1 ∧ 1 ≠ 0 ∧ (d.sched.stalled.getD 120 0).testBit 63 = false := by decide +kernel
/-! ### Stalls, the loft and slices -/

/-- A key of port 120, the loft on port 120 through decoder 15, which is UP; LOFT_STATUS as given. -/
def key1 : Nat := 120 + 256 * 65535
def loftDev (status : Nat) : Dev :=
  let d := (ownDev 0).wn R.STL_LOFT_CFG 0 (1 + 32 * 120)
  let d := (d.wn R.STL_LOFT_STATUS 0 status).wn R.CXP_IDEC_CFG (0x200 + 15) (8192 + 120)
  (d.wn R.CXP_IDEC_SIZE (0x200 + 15) 1).wn R.CXP_IDEC_STATUS (0x200 + 15) 2

/-- An operation on the key at a step, and the loft's copy of its context. -/
def fetch1 (why : FetchFor) (step : Nat) : Fetch := ⟨key1, 0, why, step, 7, 120, 0, 50000, true, false⟩
def opDev (f : Fetch) : Dev := let d := loftDev 0; d.setStall { d.stall with fetch := [f] }
def withLoft (d : Dev) : Dev := d.setStall { d.stall with loft := [(7, ctx1 key1 0)] }

/-- The context of the key in way 7 of set 0 of the loft, and its 256 bytes there. -/
def ctx2 : Ctx := { ctx1 key1 0 with ctxId := 7, sw := List.replicate 64 0 }
def copy1 (d : Dev) : List Byte := ctx2.bytes 0 (d.ctxAddr 7)

/-- The first read, of a request, a lookup and a creation; the second, of a good copy; the write of a victim; and no operation. -/
theorem wit_LoftReadsAndWritesComplete :
    let a := opDev (fetch1 .request 1)
    let two := withLoft (opDev (fetch1 .request 2))
    let wb := opDev (fetch1 .writeback 0)
    let wb := wb.setStall { wb.stall with evict := [(15, ctx1 key1 0)] }
    let one (d : Dev) := d.opFor key1 (fun f => f.step == 1 && d.loftBack f)
    one a = some (fetch1 .request 1) ∧ a.failsafe = false ∧ a.loftOk = true ∧ (fetch1 .request 1).key = key1 ∧
    (withLoft a).loftWay key1 = some 7 ∧ [7].contains (7 % 8) = true ∧ [6].contains (7 % 8) = false ∧
    (withLoft a).stall.loft.find 7 = some (ctx1 key1 0) ∧ a.loftWay key1 = none ∧
    one (opDev (fetch1 (.lookup 67) 1)) = some (fetch1 (.lookup 67) 1) ∧ one (opDev (fetch1 (.create 67) 1)) = some (fetch1 (.create 67) 1) ∧
    one (opDev (fetch1 .pin 1)) = some (fetch1 .pin 1) ∧
    a.errRunEnd.stall.ctxErr.contains key1 = false ∧ a.errRunEnd.ctxAuto key1 = true ∧
    (a.wn R.STL_STL_PORT_CFG 120 1).errRunEnd.ctxAuto key1 = false ∧
    (a.setStall { a.stall with ctxErr := [key1] }).errRunEnd.stall.ctxErr.contains key1 = true ∧
    two.opFor key1 (fun f => f.step == 2 && two.loftBack f) = some (fetch1 .request 2) ∧ two.failsafe = false ∧ two.loftOk = true ∧
    two.copyGood key1 (8 * 0 + 7) [] = false ∧
    wb.opFor key1 (fun f => f.why == .writeback && wb.loftBack f) = some (fetch1 .writeback 0) ∧
    wb.stall.evict.find? (fun e => e.2.key == key1) = some (15, ctx1 key1 0) ∧ wb.loftWay key1 = none ∧
    wb.loftFree (wb.loftSetOf key1) = some 0 ∧ (withLoft wb).loftWay key1 = some 7 ∧
    (loftDev 0).opFor key1 (fun f => f.step == 1 && (loftDev 0).loftBack f) = none ∧
    (loftDev 0).opFor key1 (fun f => f.step == 2 && (loftDev 0).loftBack f) = none ∧
    (loftDev 0).opFor key1 (fun f => f.why == .writeback && (loftDev 0).loftBack f) = none := by decide +kernel

/-- A good copy, for which there is a way, or none, since all of its set are pinned. -/
theorem wit_LoftReadsAndWritesComplete_good :
    let two := withLoft (opDev (fetch1 .request 2))
    let full := two.setStall { two.stall with ways := (List.range 8).map fun w => (8 * stallSet key1 + w, { ctx1 1 0 with pinned := true }) }
    let place (d : Dev) : Option Bool :=
      let d := d.errRunEnd
      match (d.rmOp (fetch1 .request 2)).place { d.refill (ctxOfBytes (copy1 d)) with ctxId := 7, cntMiss := 1 } 15 with
      | .ok _ => none
      | .error e => some e
    two.copyGood key1 7 (copy1 two) = true ∧ place two = none ∧ place full = some false := by
  refine ⟨copyGood_bytes (c := ctx2) ?_ ?_ ?_, ?_⟩ <;> decide +kernel

/-- A context that must wait for room: its set holds victims, and the eviction buffer of its cluster is full. -/
theorem wit_LoftReadsAndWritesComplete_waits :
    let d := withLoft (opDev (fetch1 .request 2))
    let d := d.setStall { d.stall with
      ways := (List.range 8).map fun w => (8 * stallSet key1 + w, ctx1 (1 + w) 0), lru := [(stallSet key1, List.range 8)]
      evict := (List.range 16).map fun n => (15, ctx1 (100 + n) 0) }
    (match (d.errRunEnd.rmOp (fetch1 .request 2)).place { d.errRunEnd.refill (ctxOfBytes (copy1 d)) with ctxId := 7, cntMiss := 1 } 15 with
     | .ok _ => false
     | .error e => e) = true := by decide +kernel

/-- INIT with the loft reached, off, and running. -/
theorem wit_LoftReadsAndWritesComplete_init :
    let on := loftDev 0
    let off := State.reset.dev
    let c (d : Dev) := d.wf R.STL_LOFT_STATUS 0 31 16 (d.loftGen + 1)
    on.may (.core true) R.STL_LOFT_CTRL true = true ∧ on.rb R.STL_LOFT_STATUS 0 2 = false ∧ (c on).loftOn = true ∧
    (c on).loftReach = true ∧ (c on).failsafe = false ∧ off.may (.core true) R.STL_LOFT_CTRL true = true ∧
    off.rb R.STL_LOFT_STATUS 0 2 = false ∧ (c off).loftOn = false ∧ (loftDev 4).rb R.STL_LOFT_STATUS 0 2 = true := by decide +kernel

/-- Accessor 0 with the key of port 120 as a tenant that does not own the port; accessor 64 with a pinned, a plain, an absent key. -/
theorem wit_ContextOperationsAndSlicesComplete :
    let keyed (d : Dev) (acc : Nat) : Dev := d.awn acc R.STL_CTX_KEY_LO key1
    let t := keyed ((ownDev 0).wn R.ISO_PERM_DATA 0x700 0x3ff) 0
    let d := keyed (ownDev 0) 64
    let on := onDieDev d key1 0
    let pin := d.setStall { d.stall with ways := [(8 * stallSet key1 + 7, { ctx1 key1 0 with pinned := true })] }
    let l := keyed (loftDev 0) 64
    let failed := keyed (loftDev 2) 64
    let c := Acc.core true
    t.may (.ctl 0) R.STL_CTX_OP true = true ∧ t.stall.opBusy.getD 0 0 = 0 ∧ t.tenant (.ctl 0) = some 0 ∧ t.owner (keyPort key1) = some 63 ∧
    d.may c R.STL_CTX_OP true = true ∧ d.stall.opBusy.getD 64 0 = 0 ∧ d.tenant c = none ∧ d.ctxKeyOf 64 = key1 ∧
    (pin.onDie key1).any (·.pinned) = true ∧ pin.may c R.STL_CTX_OP true = true ∧
    ((d.onDie key1).any (·.pinned) || d.pinKeys.contains key1) = false ∧ (on.recall key1).onDie key1 = some (ctx1 key1 0) ∧
    (d.recall key1).onDie key1 = none ∧ (d.recall key1).loftOk = false ∧ (l.recall key1).onDie key1 = none ∧ (l.recall key1).loftOk = true ∧
    ((failed.recall key1).absent key1 true).2 = some 2 ∧ ((l.recall key1).absent key1 true).2 = none ∧
    ((l.recall key1).absent key1 true).1.loftOn = true ∧ ((d.recall key1).absent key1 true).2 = none ∧
    ((d.recall key1).absent key1 true).1.loftOn = false ∧ (((d.recall key1).absent key1 true).1.onDie key1).isSome = true ∧
    (d.recall key1).sliceless key1 = false ∧
    (let n := keyed ((linkDev 0 (status16 16 4) 11 ps16).wn R.ISO_PORT_OWN 0x178 2) 64
     n.may c R.STL_CTX_OP true = true ∧ (n.recall key1).onDie key1 = none ∧ (n.recall key1).sliceless key1 = true) := by
  decide +kernel

theorem wit_ContextOperationsAndSlicesComplete_generations :
    let d := ((ownDev 0).awn 64 (selReg 0x700) 120).awn 64 (selReg 0x780) 1023
    let g := d.setGen (domLd 127 15) ⟨0, true⟩
    let k := { d with slice := { d.slice with contained := [1023] } }
    let e : Led := ⟨130, 65535, 16383, 0, some 63, none, none, none, 0, 4, 0, true, .ext, 0, false⟩
    let l := (d.wn R.PRT4_LED_TO 0 1).setLedger [e]
    let c := Acc.core true
    d.may c R.STL_PORT_GEN_CTRL true = true ∧ d.instOf c 0x700 R.STL_PORT_GEN_CTRL.off = 120 ∧ 120 < 128 ∧ d.ownMode 120 = 1 ∧
    d.isDown 120 = true ∧ (g.gen (domLd 127 15)).pend = true ∧
    g.genInUse (domLd 127 15) (((g.gen (domLd 127 15)).g + 255) % 256) = false ∧ d.may c R.SLC_SLICE_CTRL true = true ∧
    d.instOf c 0x780 R.SLC_SLICE_CTRL.off = 1023 ∧ k.slice.contained.contains 1023 = true ∧ d.slice.contained.contains 1023 = false ∧
    l.slice.ledger.find? (fun l => l.egress == 130 && l.rid == 65535 && l.tag == 16383) = some e ∧
    l.rf R.PRT4_LED_TO 0 15 0 * 1000000 ≠ 0 := by decide +kernel

theorem wit_DirtyLogsAndTrapsComplete :
    let d := (ownDev 0).awn 64 (selReg 0x780) 0x103f
    let c := Acc.core true
    let x (w : Bool) : Trap := ⟨0, w, 255, 63, 15, 0, 0, 0, 0, 0, 120, true, 0⟩
    let t (w : Bool) (sts : Nat) : Dev := { (d.wn R.SLC_TRAP_CPL_STS 0 sts) with slice := { d.slice with traps := [x w] } }
    let e : Refused := ⟨120, 0, some 63, 1, 0, 1, none, 0, 5⟩
    let r := { d with logs := { d.logs with rf := ⟨[e], false⟩ } }
    let o := { d with slice := { d.slice with dirtyOut := [(9, d.instOf c 0x780 R.SLC_DLG_CTRL.off - 0x1000)] } }
    d.may c R.SLC_DLG_SIZE true = true ∧ d.may c R.SLC_DLG_CTRL true = true ∧ d.instOf c 0x780 R.SLC_DLG_CTRL.off = 0x103f ∧
    d.slice.dirtyOut = [] ∧ (o.slice.dirtyOut.filter fun e : Nat × Nat => e.2 == o.instOf c 0x780 R.SLC_DLG_CTRL.off - 0x1000) ≠ [] ∧
    d.may c R.SLC_TRAP_POP true = true ∧ d.may c R.SLC_TRAP_CPL_GO true = true ∧
    (t false 0).slice.traps.find? (fun x => x.id == (t false 0).arn 64 R.SLC_TRAP_CPL_ID) = some (x false) ∧
    (t false 0).rf R.SLC_TRAP_CPL_STS 0 2 0 = 0 ∧ (x false).write = false ∧ (x true).write = true ∧
    (t true 0).slice.traps.find? (fun x => x.id == (t true 0).arn 64 R.SLC_TRAP_CPL_ID) = some (x true) ∧
    (t true 4).rf R.SLC_TRAP_CPL_STS 0 2 0 ≠ 0 ∧ (t true 7).rf R.SLC_TRAP_CPL_STS 0 2 0 ≠ 0 ∧
    d.may c R.STL_RF_CTRL true = true ∧ d.may c (R.STL_RF_W 0) false = true ∧ r.rfEntry c = some e ∧ d.rfEntry c = none := by
  decide +kernel
/-! ### The memory bridge and memory pooling -/

/-- A request of stable 63 at window 255. -/
def brgTlp (kind : TKind) (fmt len be : Nat) (data : List Byte) : Tlp :=
  { Tlp.blank with kind := kind, fmtType := fmt, len := len, fbe := be, data := data, addr := 4096 }
def brgItem (t : Tlp) (gen : Nat) : Item :=
  let e : Eval := { mkEval (some 63) (.bridge 255 4096) 4096 with gen := gen }
  { mkItem t 112 .ext e e with dom := some (domPort 112) }

/-- A device with the request at P129, window 255 (configuration and status as given), and decoder 15 UP over internal address 0. -/
def brgDev (t : Tlp) (gen cfg status idec : Nat) : Dev :=
  let d := regs [(R.BRG_WIN_CFG, 255, cfg), (R.BRG_WIN_STATUS, 255, status), (R.BRG_WIN_SIZE, 255, 1),
    (R.CXP_IDEC_CFG, 0x200 + 15, 120), (R.CXP_IDEC_SIZE, 0x200 + 15, 1), (R.CXP_IDEC_STATUS, 0x200 + 15, idec)]
  { d with path := { d.path with inbox := [brgItem t gen] } }

/-- The request as P129 takes it up, and whether its generation is retired. -/
def taken (d : Dev) (t : Tlp) (gen : Nat) : Dev := d.brgTake (brgItem t gen)

theorem wit_BridgeRequestsComplete :
    let wr := brgTlp .memWr 0x60 1 15 [1, 2, 3, 4]
    let rd := brgTlp .memRd 0x20 1 15 []
    let fl := brgTlp .memRd 0x20 1 0 []
    let io := brgTlp .ioRd 0x02 1 15 []
    let at4 := brgTlp .atomic 0x6c 1 15 [1, 2, 3, 4]
    let bad := brgTlp .atomic 0x6c 1 15 []
    let lk := brgTlp .memRdLk 0x21 1 15 []
    let ms := brgTlp .msg 0x30 0 0 []
    (∀ t ∈ [wr, rd, fl, io, at4, bad, lk, ms], (brgDev t 0 0x63f 0 2).brgHead = some (brgItem t 0, 255, 4096) ∧ (brgDev t 0 0x63f 0 2).failsafe = false ∧
      (taken (brgDev t 0 0x63f 0 2) t 0).retired (some (domPort 112)) 0 = false ∧ (taken (brgDev t 0 0x63f 0 2) t 0).retired (some (domPort 112)) 1 = true) ∧
    tcls wr ≠ 1 ∧ wr.kind = .memWr ∧ tcls ms ≠ 1 ∧ ms.kind ≠ .memWr ∧ tcls rd = 1 ∧ rd.kind = .memRd ∧ zeroLen rd = false ∧
    zeroLen fl = true ∧ fl.kind = .memRd ∧ tcls fl = 1 ∧ tcls io = 1 ∧ io.kind ≠ .memRd ∧ io.kind ≠ .atomic ∧ io.kind ≠ .memRdLk ∧
    at4.kind = .atomic ∧ lk.kind = .memRdLk ∧
    (taken (brgDev wr 0 0x63f 2 2) wr 0).rb R.BRG_WIN_STATUS 255 1 = true ∧ (taken (brgDev wr 0 0x63f 0 2) wr 0).rb R.BRG_WIN_STATUS 255 1 = false ∧
    (let d := taken (brgDev at4 0 0x63f 0 2) at4 0
     let a := d.winBase 255 + 4096
     d.rb R.BRG_WIN_CFG 255 9 = true ∧ atomSize at4 = 4 ∧ a % (max 4 1) = 0 ∧ d.rb R.BRG_WIN_STATUS 255 1 = false ∧ d.winUp 255 = true ∧
     atomSize bad = 0 ∧ (taken (brgDev at4 0 0x43f 0 2) at4 0).rb R.BRG_WIN_CFG 255 9 = false ∧
     (taken (brgDev at4 0 0x63f 0 1) at4 0).winUp 255 = false ∧ d.rb R.BRG_WIN_CFG 255 10 = true ∧
     (taken (brgDev lk 0 0x23f 0 2) lk 0).rb R.BRG_WIN_CFG 255 10 = false) := by decide +kernel

/-- No request at P129, and the block in fail-safe. -/
theorem wit_BridgeRequestsComplete_none :
    State.reset.dev.brgHead = none ∧ (regs [(R.SAF_SAF_STATE, 0, 2)]).failsafe = true := by decide +kernel

theorem wit_BridgeLinesAndAnswersComplete :
    let l : BLine := ⟨9, 0, 255, false, [], false, true, false⟩
    let b := (ownDev 0).setBrg { State.reset.dev.brg with lines := [l], seqs := [(63, ⟨112, 0, false⟩)], reqs := [] }
    let e (w : M2SWhy) (wr : Bool) : M2S := ⟨1, 65535, 120, none, wr, w, none, 129, 0, 0, 50000⟩
    let m (w : M2SWhy) (wr : Bool) : Dev := b.setCxp { b.cxp with m2s := [e w wr] }
    let r : BReq := ⟨3, .atomic, 255, brgItem (brgTlp .atomic 0x6c 1 15 [1, 2, 3, 4]) 0, 0, 4, 2, [], false, false, none⟩
    let at4 := (m (.atomWr 3) true).setBrg { b.brg with reqs := [r] }
    let late := { b with saf := { b.saf with tagsHeld := [(4096 + 65535, 9)] } }
    let k := b.awn 64 (selReg 0x900) 255
    let c := Acc.core true
    b.brg.lines.find? (fun l => l.id == 9) = some l ∧ b.failsafe = false ∧ b.lineFree l = true ∧ b.idecAt (64 * l.addr) = none ∧
    (m (.line 9) true).brgOut 120 65535 true = some (e (.line 9) true) ∧ (e (.line 9) true).why = .line 9 ∧
    at4.brgOut 120 65535 true = some (e (.atomWr 3) true) ∧ (at4.rmM2s 1).brg.reqs.find? (fun x => x.id == 3) = some r ∧
    (m (.read 3 0) false).brgOut 120 65535 false = some (e (.read 3 0) false) ∧ late.linkLive 120 = true ∧ late.fenced 120 = false ∧ late.portContained 120 = false ∧
    (late.saf.tagsHeld.any fun e => e.1 == 4096 + 65535) = true ∧ late.brgOut 120 65535 true = none ∧ late.brgOut 120 65535 false = none ∧
    b.brg.seqs.find 63 = some ⟨112, 0, false⟩ ∧ k.may c R.BRG_WIN_CTRL true = true ∧ k.instOf c 0x900 R.BRG_WIN_CTRL.off = 255 ∧
    k.may c R.BRG_PEL_CTRL true = true := by decide +kernel

/-- Stable 63 with upstream port 112, and downstream port 120 in slot 247, both CXL links in L0; HDM decoder 7 over the first 256 MiB. -/
def hostDev : Dev :=
  let up (p : Nat) : List (Reg × Nat × Nat) :=
    [(R.PRT0_LINK_STATUS, p, status16 16 4 + 0x4000), (R.ISO_PORT_OWN, 0x100 + p, 1 + 256 * 63), (R.LAN_CL_REFCLK (p / 8), 0, 3)]
  regs (up 112 ++ up 120 ++ [(R.PRT0_PORT_CFG, 112, 0x861), (R.PRT0_PORT_CFG, 120, 0x860), (R.ISO_STB_CFG, 63, 1),
    (R.PRT5_VSLOT_DATA, 256 * 63 + 247, 1 + 16 * 120), (R.CXP_PORT_CXL_STATUS, 0x178, 0x180 + 1), (R.CXP_PORT_CXL_STATUS, 0x170, 0x180),
    (hdmAttr, hdmInst 63 7, 1024), (hdmSizeLo, hdmInst 63 7, 268435456), (hdmTgtLo, hdmInst 63 7, 120)])

theorem wit_PoolMessagesAndDecodersComplete :
    let d := hostDev
    let m (w : M2SWhy) (p : Nat) (wr : Bool) : M2S := ⟨1, 65535, p, none, wr, w, some 63, 112, 0, 0, 50000⟩
    let host (wr : Bool) := d.setCxp { d.cxp with m2s := [m .host 120 wr] }
    let bi := d.setCxp { d.cxp with m2s := [m .bi 112 false] }
    d.failsafe = false ∧ d.owner 112 = some 63 ∧ d.linkLive 112 = true ∧ d.isCxl 112 = true ∧ d.isUp 112 = true ∧ d.discards 112 = false ∧
    d.hdmPort 63 (4503599627370495 / 64 * 64) = none ∧ d.hdmPort 63 (268435455 / 64 * 64) = some 120 ∧
    d.linkLive 120 = true ∧ d.isCxl 120 = true ∧ d.discards 120 = false ∧
    (∀ wr : Bool, (host wr).cxp.m2s.find? (fun e => e.why == .host && e.port == 120 && e.ld == none && e.tag == 65535 &&
      e.write == wr && !((host wr).path.items.any fun i => i.src == .m2s e.id)) = some (m .host 120 wr)) ∧
    bi.cxp.m2s.find? (fun e => e.why == .bi && e.port == 112 && e.tag == 65535) = some (m .bi 112 false) ∧ d.cachePort 63 = some 120 ∧
    (∀ b : Bool, d.rb R.CXP_PORT_CXL_STATUS 0x178 (if b then 8 else 7) = true ∧
      (d.wn R.CXP_PORT_CXL_STATUS 0x178 1).rb R.CXP_PORT_CXL_STATUS 0x178 (if b then 8 else 7) = false) ∧
    d.owner 120 = some 63 ∧ d.upPort 63 = some 112 ∧ d.rf R.CXP_CXP_CTRL 0 15 0 * 1000000 ≠ 0 ∧ d.portContained 120 = false ∧ d.fenced 120 = false ∧
    (d.wn R.CXP_CXP_CTRL 0 0).rf R.CXP_CXP_CTRL 0 15 0 * 1000000 = 0 := by
  decide +kernel

theorem wit_PoolMessagesAndDecodersComplete_decoders :
    let i (n sent : Nat) : Dev := (hostDev.wn R.CXP_IDEC_CFG (0x200 + 15) 120).wn R.CXP_IDEC_SIZE (0x200 + 15) sent |>.wn R.CXP_IDEC_STATUS (0x200 + 15) n
    let s := (i 1 1).setCxp { hostDev.cxp with progSent := [15] }
    let c := Acc.core true
    let a (d : Dev) := d.awn 64 (selReg 0x800) (0x200 + 15)
    (i 1 1).idecReach 15 = true ∧ (i 1 1).cxp.progSent.contains 15 = false ∧ (i 1 1).loftRoom 1 = true ∧ s.idecReach 15 = true ∧ s.cxp.progSent.contains 15 = true ∧
    s.idecState 15 = 1 ∧ (a (i 1 1)).may c R.CXP_IDEC_CTRL true = true ∧ (a (i 1 1)).instOf c 0x800 R.CXP_IDEC_CTRL.off - 0x200 = 15 ∧
    (a (i 1 1)).idecSize 15 ≠ 0 ∧ (a (i 1 0)).may c R.CXP_IDEC_CTRL true = true ∧ (a (i 1 0)).idecSize 15 = 0 ∧
    (i 2 1).linkLive 120 = true ∧ (i 2 1).idecsOf 120 none = [15] := by decide +kernel
/-! ### The fabric-manager API -/

/-- Firmware runs, and stable 62 is the fabric manager's. -/
def fmDev (d : Dev) : Dev := { d.wn R.ISO_ISO_CTRL 0 (1 + 2 * 62) with boot := { d.boot with phase := .firmware } }

/-- A fabric manager over SMBus and over its stable; a port of each kind of device; a bound LD. -/
theorem wit_FabricManagerCommandsComplete :
    let d := fmDev hostDev
    let free := fmDev State.reset.dev
    let mld := fmDev ((hostDev.wn R.CXP_PORT_CXL_STATUS 0x178 (2 + 4 * 16)).wn (R.CXP_LD_BIND 15) 0x178 (1 + 2 * 63))
    (∀ a ∈ [Acc.smbus, .ctl 62], ∀ x ∈ [d, free, mld], (x.fmPath a).isSome = true ∧ x.pathUp ((x.fmPath a).getD 9) = true ∧ x.fwRuns = true ∧
      x.cxp.fmBusy = none) ∧
    127 < 128 ∧ free.ownMode 127 = 0 ∧ free.isFabric 127 = false ∧ free.isUp 127 = false ∧ mld.isMld 120 = true ∧ mld.isFabric 120 = false ∧
    mld.isUp 120 = false ∧ 63 < 64 ∧ 15 < 16 ∧ 0x800 ∉ State.reset.plock ∧ mld.boundLd 120 63 = some 15 ∧
    (d.upPort 63).isSome = true ∧ fmOpcodes.contains 65535 = false ∧ 65535 < 65536 ∧
    (8 ≤ 8 ∧ 20 ≤ 20) ∧ ¬ (8 ≤ 7 ∧ 7 ≤ 20) ∧ ¬ (8 ≤ 21 ∧ 21 ≤ 20) ∧ ([127, 128].any fun p => decide (128 ≤ p)) = true ∧
    ([0, 127].any fun p => decide (128 ≤ p)) = false ∧ ([63, 64].any fun p => decide (64 ≤ p)) = true ∧
    ([0, 63].any fun p => decide (64 ≤ p)) = false ∧ d.ownMode 120 ≠ 0 ∧ d.isUp 112 = true ∧ d.isMld 120 = false ∧
    d.boundLd 120 63 = none ∧ (d.upPort 0).isSome = false := by decide +kernel

theorem wit_ForwardedFabricCommandsComplete :
    let d := fmDev ((hostDev.wn R.CXP_PORT_CXL_STATUS 0x178 (2 + 4 * 16 + 512)))
    let busy := d.setCxp { d.cxp with fmBusy := some (0, 0x5300) }
    d.fmPath .smbus = some 0 ∧ d.pathUp 0 = true ∧ d.fwRuns = true ∧ d.cxp.fmBusy = none ∧ busy.cxp.fmBusy = some (0, 0x5300) ∧
    busy.fwRuns = true ∧ d.fmDevice 120 = true ∧ ¬ (0x5600 ≤ 0x55ff ∧ 0x55ff ≤ 0x5605) ∧ ¬ (0x5600 ≤ 0x5606 ∧ 0x5606 ≤ 0x5605) ∧
    d.fmLd 120 15 = true ∧ d.rb R.CXP_PORT_CXL_STATUS 0x178 9 = true ∧
    d.fmDevice 127 = false ∧ d.fmLd 127 15 = false ∧
    (let n := d.wn R.CXP_PORT_CXL_STATUS 0x178 2
     n.fmPath .smbus = some 0 ∧ n.cxp.fmBusy = none ∧ n.fmDevice 120 = true ∧ n.rb R.CXP_PORT_CXL_STATUS 0x178 9 = false) ∧
    d.fmPath (.ctl 63) = none ∧ busy.fmPath .smbus = some 0 ∧ busy.pathUp 0 = true ∧
    (let off := { d with pwr := { d.pwr with perst := true } }
     off.fmPath .smbus = some 0 ∧ off.pathUp 0 = false) ∧
    (State.reset.dev.fmPath .smbus = some 0 ∧ State.reset.dev.pathUp 0 = true ∧ State.reset.dev.fwRuns = false) := by decide +kernel

/-! ### DMA -/

/-- Channel 63 of stable 63 in a state with a ring of 65,535 entries; the control function is bus master. -/
def chDev (state : Nat) : Dev :=
  let d := hostDev.setCfg 63 1 1 4
  (((d.wn R.DMA_CH_OWN 63 (1 + 2 * 63)).wn R.DMA_CH_STATUS 63 state).wn R.DMA_CH_RING_SIZE 63 65535).awn 64 (selReg 0xa00) 63

theorem wit_ChannelRegisterWritesComplete :
    let c := Acc.core true
    let h := regs []
    (∀ n < 4, (chDev n).may c R.DMA_CH_TAIL true = true ∧ (chDev n).instOf c 0xa00 R.DMA_CH_TAIL.off = 63 ∧ (chDev n).chState 63 = n ∧
      (chDev n).may c R.DMA_CH_RING_SIZE true = true ∧ (chDev n).may c R.DMA_CH_CTRL true = true) ∧
    (chDev 0).chSize 63 ≤ (65535 : Word).toNat % 65536 ∧ (65534 : Word).toNat % 65536 < (chDev 0).chSize 63 ∧
    (chDev 0).chCanStart 63 = true ∧ (chDev 3).chCanStart 63 = true ∧ (chDev 1).chCanStart 63 = false ∧ h.chCanStart 0 = false := by
  decide +kernel

/-- A completion at P128 of tag 9, and the tag of a fetch or a read. -/
def cplItem : Item :=
  let e := mkEval (some 63) (.port 0 128) 0
  mkItem { Tlp.blank with kind := .cpl, tag := 9, rid := 256 } 120 .ext e e
def tag1 (rid gen : Nat) (fetch orphan late : Bool) : DTag := ⟨63, rid, gen, 4, fetch, orphan, 0, late, 50000⟩
def cplDev (l : List (Nat × DTag)) : Dev :=
  { (chDev 2) with path := { (chDev 2).path with inbox := [cplItem] }, dma := { (chDev 2).dma with tags := l } }

theorem wit_ChannelWorkCompletes :
    let one (t : DTag) : Dev := cplDev [(9, t)]
    let taken (t : DTag) : Dev := { one t with path := { (one t).path with inbox := [] } }
    let x (op : Nat) : DDesc := ⟨65534, op, 0, 0, 0, 0, 0, 0, 0, []⟩
    let f (op : Nat) : Dev := (chDev 2).setChan 63 { (chDev 2).chan 63 with fetched := [x op] }
    let live := (chDev 2).setChan 63 { (chDev 2).chan 63 with live := [x 1] }
    (cplDev []).dmaInbox 63 false = some cplItem ∧ (cplDev []).dma.tags.find 9 = none ∧
    (∀ b : Bool, (one (tag1 256 0 b false false)).dmaInbox 63 b = some cplItem ∧
      (one (tag1 256 0 b false false)).dma.tags.find 9 = some (tag1 256 0 b false false) ∧
      (one (tag1 0 0 b false false)).dmaInbox 63 b = some cplItem ∧ (one (tag1 256 0 b false true)).dmaInbox 63 b = some cplItem ∧
      (one (tag1 256 1 b false false)).dmaInbox 63 b = some cplItem ∧ (one (tag1 256 0 b true false)).dmaInbox 63 b = some cplItem) ∧
    (tag1 0 0 true false false).rid ≠ cplItem.tlp.rid ∧ (tag1 256 0 true false false).rid = cplItem.tlp.rid ∧
    (tag1 256 0 true false true).timedOut = true ∧ (taken (tag1 256 1 true false false)).retired (some (domChan 63)) 1 = true ∧
    (taken (tag1 256 0 true true false)).retired (some (domChan 63)) 0 = false ∧
    (∀ op < 4, ((f op).chan 63).fetched = [x op] ∧ (f op).mayBegin 63 (x op) = true ∧ (x op).op = op) ∧
    (live.chan 63).live = [x 1] ∧ live.descDone 63 (x 1) = true ∧
    (cplDev []).dmaInbox 63 true = none ∧ (chDev 2).dmaInbox 63 false = none ∧
    (let d := (chDev 1).setChan 63 { (chDev 1).chan 63 with fetched := [x 0] }
     (d.chan 63).fetched = [x 0] ∧ d.mayBegin 63 (x 0) = false) ∧
    (let y : DDesc := { x 0 with w1 := 64 }
     let d := (chDev 2).setChan 63 { (chDev 2).chan 63 with live := [y] }
     (d.chan 63).live = [y] ∧ d.descDone 63 y = false) := by decide +kernel

/-! ### Safety -/

theorem wit_MonitorsComplete :
    let d := ownDev 0
    let x (l : List (Nat × Nat)) : Disagree := ⟨some 63, 120, l, 0⟩
    let dis (l : List (Nat × Nat)) (f : List (Nat × Nat × Nat)) : Dev := { d with saf := { d.saf with disq := [x l], flips := f } }
    let c := Acc.core true
    let inj (kind s : Nat) : Dev := ((d.wn R.SAF_SAF_CTRL 0 1).wn R.SAF_INJ_CFG 0 (kind + 4096 * s)).wn R.SAF_INJ_BIT 0 1023
    d.rf R.SAF_SCRUB_CFG 0 15 0 ≠ 0 ∧ d.clockRuns = true ∧ d.rf R.SAF_ST_CFG 0 15 0 ≠ 0 ∧
    (dis [(0, 1)] [(0, 1, 5)]).saf.disq = [x [(0, 1)]] ∧ (dis [(0, 1)] [(0, 1, 5)]).dirtyEntries.any [(0, 1)].contains = true ∧
    (dis [(0, 1)] []).dirtyEntries.any [(0, 1)].contains = false ∧
    d.may c R.SAF_INJ_CTRL true = true ∧ (d.wn R.SAF_SAF_CTRL 0 0).rb R.SAF_SAF_CTRL 0 0 = false ∧
    (∀ k < 8, (inj k 3).may c R.SAF_INJ_CTRL true = true ∧ (inj k 3).rb R.SAF_SAF_CTRL 0 0 = true ∧ (inj k 3).rf R.SAF_INJ_CFG 0 3 0 = k ∧
      (inj k 3).rf R.SAF_INJ_CFG 0 15 12 = 3 ∧ (inj k 4).rf R.SAF_INJ_CFG 0 15 12 = 4) ∧
    (inj 8 0).rf R.SAF_INJ_CFG 0 3 0 = 8 ∧ (inj 7 5).rf R.SAF_INJ_CFG 0 15 12 = 5 ∧
    (d.wn R.SAF_SCRUB_CFG 0 0).rf R.SAF_SCRUB_CFG 0 15 0 = 0 ∧ (d.wn R.SAF_ST_CFG 0 0).rf R.SAF_ST_CFG 0 15 0 = 0 ∧
    d.may c R.SAF_SAF_CMD true = true ∧ 15 < 16 := by decide +kernel

theorem wit_MonitorsComplete_timeouts :
    let d := chDev 2
    let t (orphan late : Bool) : Dev := { d with dma := { d.dma with tags := [(9, tag1 256 0 false orphan late)] } }
    let up := (d.wn R.CXP_IDEC_STATUS (0x200 + 15) 2)
    let held (code : Nat) (d : Dev) : Dev := { d with saf := { d.saf with tagsHeld := [(code, 100)] } }
    (t true false).dma.tags.find 9 = some (tag1 256 0 false true false) ∧ (t false false).dma.tags.find 9 = some (tag1 256 0 false false false) ∧
    (let d := (t false false).advanceTo (0 + 50000)
     let d := (d.setTags (d.dma.tags.insert 9 { tag1 256 0 false false false with timedOut := true })).holdTag 9 (0 + 2 * 50000)
     let d := d.ctoCount (d.chOwner 63) 128 9
     d.retired (some (domChan 63)) 0 = false ∧ d.retired (some (domChan 63)) 1 = true ∧ d.chOwner 63 = some 63) ∧
    (let m := d.setCxp { d.cxp with fmBusy := some (0, 0x5300) }
     16 ≤ 16 ∧ m.cxp.fmBusy = some (0, 0x5300)) ∧
    8191 < 8192 ∧ 8192 ≤ 8192 ∧ (held 8192 d).saf.tagsHeld.find? (fun e => e.1 == 8192) = some (8192, 100) ∧
    15 < 16 ∧ up.idecState 15 = 2 ∧
    (held 4096 d).saf.tagsHeld.find? (fun e => e.1 == 4096) = some (4096, 100) ∧ 4096 ≤ 4096 ∧
    (held 9 (t false true)).saf.tagsHeld.find? (fun e => e.1 == 9) = some (9, 100) ∧ 9 < 4096 ∧
    (let d := (held 9 (t false true)).advanceTo 100
     d.dma.tags.find 9 = some (tag1 256 0 false false true)) ∧ (tag1 256 0 false false true).timedOut = true := by decide +kernel

theorem wit_ContainmentAndReleaseComplete :
    let d := hostDev
    let c := Acc.core true
    let p (d : Dev) (n : Nat) := d.awn 64 (selReg (selPage 0x202)) n
    let flush := (p d 120).wn R.PRT6_FLUSH_STATE 120 1
    let con := d.wn R.PRT2_ERR_STATUS 120 1
    let st (d : Dev) := d.awn 64 (selReg 0xc00) 63
    let scon := (st d).wn R.SAF_STB_SAF_STATUS 63 1
    let names (d : Dev) (e : Nat × Nat) : Bool := (d.entryStables e.1 e.2).contains 63 || (d.chkView.entryStables e.1 e.2).contains 63
    let bad := { scon with saf := { scon.saf with flips := [(3, 120, 8)], bad := [(3, 120, false), (3, 120, true)] } }
    (p d 120).may c R.PRT2_ERR_CTRL true = true ∧ (p d 120).instOf c 0x202 R.PRT2_ERR_CTRL.off = 120 ∧ flush.flushing 120 = true ∧
    (p d 120).flushing 120 = false ∧ (p d 130).may c R.PRT2_ERR_CTRL true = true ∧ (p d 130).instOf c 0x202 R.PRT2_ERR_CTRL.off = 130 ∧
    d.isDown 120 = true ∧ d.ownMode 120 = 1 ∧ d.owner 120 = some 63 ∧ con.portContained 120 = true ∧ con.isDown 120 = true ∧
    (d.wn R.ISO_PORT_OWN 0x178 2).ownMode 120 ≠ 1 ∧ (st d).may c R.SAF_STB_SAF_CTRL true = true ∧
    (st d).instOf c 0xc00 R.SAF_STB_SAF_CTRL.off = 63 ∧ (st d).stbContained 63 = false ∧ scon.stbContained 63 = true ∧
    scon.failsafe = false ∧ ((scon.scrub (names scon)).dirtyEntries.any (names (scon.scrub (names scon)))) = false ∧
    ((bad.scrub (names bad)).dirtyEntries.any (names (bad.scrub (names bad)))) = true ∧ d.may c R.PRT2_PPL_CTRL true = true ∧
    d.may c R.SAF_FLOG_CTRL true = true ∧ flush.queueOf 120 = [] ∧ d.flushing 120 = false ∧ d.owner 120 ≠ some 62 ∧ d.portContained 120 = false ∧
    (scon.wn R.SAF_SAF_STATE 0 2).failsafe = true := by decide +kernel
/-! ### Configuration requests and functions -/

/-- A configuration request of stable 63's host at P130, to bus-device-function byte `df`, register `reg`. -/
def cfgItem (kind : TKind) (fmt df reg : Nat) (ep : Bool) : Item :=
  let e := mkEval (some 63) .func 0
  mkItem { Tlp.blank with kind := kind, fmtType := fmt, tgt := df, reg := reg, fbe := 15, ep := ep, rid := 9, tag := 1, data := [1, 2, 3, 4] } 112 .ext e e
def cfgDev (d : Dev) (i : Item) : Dev := { d with path := { d.path with inbox := [i] } }

/-- The device after the request has been taken up and matched against its ledger entry. -/
def cfgAns (d : Dev) (i : Item) : Dev × Bool := Dev.ledgerAnswer { d with path := { d.path with inbox := d.path.inbox.erase i } } i 130

theorem wit_ConfigurationRequestsComplete :
    let d := hostDev
    let rd := cfgItem .cfgRd 0x04 0 4 false
    let none' := cfgItem .cfgRd 0x05 7 4 false
    let wr := cfgItem .cfgWr 0x44 0 4 false
    let bad := cfgItem .cfgWr 0x44 0 4 true
    let pl := cfgItem .cfgWr 0x44 0 0x3c false
    let ghost : Led := ⟨130, 9, 1, 112, some 63, none, none, none, 0, 4, 0, true, .ext, 0, true⟩
    let late := { d with fn := { d.fn with readyAt := [(4 * 63, 2 ^ 64)] } }
    let yard (w : Nat) : Dev := cfgDev (d.wn R.DEV_YARD_CFG 0 w) wr
    (cfgDev d rd).cfgHead = some rd ∧ rd.stb = some 63 ∧ (cfgAns ((cfgDev d rd).setLedger [ghost]) rd).2 = false ∧
    (cfgAns (cfgDev d rd) rd).2 = true ∧ (cfgDev d none').cfgHead = some none' ∧
    (cfgAns (cfgDev d none') none').1.cfgFn 63 none'.tlp = none ∧ (cfgAns (cfgDev d rd) rd).1.cfgFn 63 rd.tlp = some 0 ∧
    (cfgAns (cfgDev late rd) rd).1.fnBusy 63 0 = true ∧ (cfgAns (cfgDev d rd) rd).1.fnBusy 63 0 = false ∧ rd.tlp.kind = .cfgRd ∧
    wr.tlp.kind ≠ .cfgRd ∧ bad.tlp.ep = true ∧ wr.tlp.ep = false ∧ (cfgDev d bad).cfgHead = some bad ∧ (cfgDev d wr).cfgHead = some wr ∧
    (cfgAns (cfgDev d wr) wr).1.cfgFn 63 wr.tlp = some 0 ∧ isRouting 0 (wr.tlp.reg / 4) wr.tlp.fbe = true ∧
    (cfgDev d pl).cfgHead = some pl ∧ (cfgAns (cfgDev d pl) pl).1.cfgFn 63 pl.tlp = some 0 ∧ isRouting 0 (pl.tlp.reg / 4) pl.tlp.fbe = false ∧
    (cfgDev d wr).routingWrite wr 63 = true ∧ (cfgDev d wr).yardEn = false ∧ (yard (1 + 512 * 7)).routingWrite wr 63 = true ∧
    (yard (1 + 512 * 7)).yardEn = true ∧ (yard (1 + 512 * 7)).isHead = false ∧ (yard 1).isHead = true ∧ (yard 1).cfgHead = some wr ∧
    d.cfgHead = none ∧ (cfgDev d rd).routingWrite rd 63 = false ∧ (cfgDev d bad).routingWrite bad 63 = true ∧
    d.hdmOn 63 7 = true ∧ wr.tlp.kind = .cfgWr ∧
    63 < 64 ∧ 6 < 8 ∧ d.barSize 63 0 4 ≠ 0 ∧ d.hdmWaits 63 6 = false ∧ d.hdmOn 63 6 = false ∧ d.hdmBad 63 6 0x200 = true ∧
    ((((d.wn hdmSizeLo (hdmInst 63 6) 268435456).wn hdmBaseLo (hdmInst 63 6) 268435456).wn hdmTgtLo (hdmInst 63 6) 120).hdmBad 63 6 0x200) = false := by
  decide +kernel

/-- Of a port of another member the free value of log entry 60 decides which of two answers is given. -/
theorem wit_FunctionCommandsComplete :
    let d := (hostDev.setCfg 63 1 1 4).setCfg 63 2 1 4
    let d := ((d.setCfg 63 255 1 4).wn R.PRT3_IDE_POL 120 1).wn R.PRT5_FN_CFG 63 1
    let f (ph : BootPh) : Dev := { d with boot := { d.boot with phase := ph } }
    let late := { d with fn := { d.fn with readyAt := [(4 * 63 + 2, 5)] } }
    let con := d.wn R.PRT2_ERR_STATUS 130 1
    let sess (n : Nat) : Dev := { f .firmware with fn := { d.fn with sess := [(63, n)] } }
    63 < 64 ∧ (d.upPort 63).isSome = true ∧ (∀ fn ∈ [1, 2, 255], d.hasFn 63 fn = true ∧ d.cmdBit 63 fn 2 = true) ∧ 8 ≤ 255 ∧ (d.slotAt 63 255).isSome = true ∧
    d.portOfFn 63 255 = some 120 ∧ d.ownMode 120 = 1 ∧
    ((d.wn R.ISO_PORT_OWN 0x178 2).wn R.CXP_PORT_CXL_STATUS 0x178 2).portOfFn 63 255 = some 120 ∧ (d.wn R.ISO_PORT_OWN 0x178 2).ownMode 120 ≠ 1 ∧
    d.owner 112 = some 63 ∧ d.isUp 112 = true ∧ d.dlUp 112 = true ∧ d.may (.core true) R.PRT5_FN_CTRL true = true ∧
    2 < 3 ∧ late.fn.readyAt.getD (4 * 63 + 2) 0 ≠ 2 ^ 64 ∧ d.fn.doe.contains 63 = false ∧ con.portContained 130 = true ∧
    (f .firmware).portContained 130 = false ∧ (f .firmware).fwRuns = true ∧ d.fwRuns = false ∧ d.kmOk 63 248 = some 120 ∧ d.kmOk 63 1 = none ∧
    (d.kmFar 63 1).1 = none ∧ d.rb R.PRT0_LINK_STATUS 120 13 = true ∧
    (d.wf R.PRT0_LINK_STATUS 120 13 13 0).rb R.PRT0_LINK_STATUS 120 13 = false ∧ d.hasFn 63 3 = false ∧ d.cmdBit 63 0 2 = false ∧
    (d.upPort 62).isSome = false ∧
    (let y := (d.wn R.DEV_YARD_CFG 0 1).wn R.PRT5_VSLOT_DATA (256 * 63 + 247) (1 + 2 * 7 + 16 * 120)
     y.slotAt 63 255 = some (7, 120) ∧ y.isHead = true ∧ 7 ≠ y.me) ∧
    (∀ n ∈ [3, 4], (sess n).fwRuns = true ∧ (sess n).fn.sess.getD 63 0 = n ∧ (sess n).sessions < 64) := by decide +kernel

/-! ### Events, interrupts and counters -/

theorem wit_EventAndCounterCommandsComplete :
    let c := Acc.core true
    let d := (hostDev.setCfg 63 1 1 4).setCfg 63 1 36 0x80000000
    let pend := { d with ev := { d.ev with pba := [(63, 63)] }, fn := { d.fn with msix := [(1024 * 63 + 4 * 63 + 3, 0)] } }
    let gap := { d with ev := { d.ev with msixGap := [(256 * 63 + 63, 0)] } }
    let storm (on : Bool) : Dev :=
      { d with ev := { d.ev with storm := [(evKey 64 2047, ⟨0, 9, 5⟩)], cause := [(evKey 64 2047, on)], unmask := [(evKey 64 2047, true)] } }
    let r : EvRec := ⟨1, 0, false, none, 0, 0, 0⟩
    let q := { d.wn R.DEV_MCTP_NOTIFY 0 0x109 with ev := { d.ev with fmq := ⟨[r], false⟩, notifyAt := 1 } }
    let t := d.awn 64 (selReg 0x12) 0x10f
    let ten := (d.wn R.ISO_PERM_DATA 0x12 0x3ff).awn 63 (selReg 0x12) 0x10f
    d.msixReady 63 63 = false ∧ d.ev.msixGap.find (256 * 63 + 63) = none ∧
    pend.msixReady 63 63 = true ∧ pend.msixFree 63 63 = true ∧ gap.ev.msixGap.find (256 * 63 + 63) = some 0 ∧ 63 < 64 ∧
    d.isHeadless 63 = false ∧ (d.upPort 63).isSome = true ∧ d.failsafe = false ∧
    d.may c ⟨0x200, 0x48⟩ true = true ∧ isForceReg 0x200 0x48 = true ∧ d.may c ⟨0x200, 0x40⟩ true = true ∧ isCauseReg 0x200 0x40 = true ∧
    d.may c ⟨0x11, 0x3fc⟩ true = true ∧ isForceReg 0x11 0x3fc = true ∧ d.may c ⟨0x11, 0x1fc⟩ true = true ∧ isCauseReg 0x11 0x1fc = true ∧
    (storm true).ev.storm.find (evKey 64 2047) = some ⟨0, 9, 5⟩ ∧ 5 ≠ 0 ∧ 64 ≤ 64 ∧ 2047 < 2048 ∧
    (let e := (storm true).advanceTo 5; Dev.evPending { e with ev := { e.ev with storm := e.ev.storm.erase (evKey 64 2047) } } 64 2047 = true) ∧
    (let e := (storm false).advanceTo 5; Dev.evPending { e with ev := { e.ev with storm := e.ev.storm.erase (evKey 64 2047) } } 64 2047 = false) ∧
    d.may .smbus R.EVT_FMQ_POP true = true ∧ d.may c R.EVT_ENQ_POP true = true ∧ q.rf R.DEV_MCTP_NOTIFY 0 23 8 ≠ 0 ∧ q.ev.fmq.recs ≠ [] ∧
    q.ev.notifyAt ≠ 0 ∧ q.rf R.DEV_MCTP_NOTIFY 0 7 0 ≠ 0 ∧ d.may c (talCtrl 0x200) true = true ∧ 7 < 8 ∧ d.may c (talEvsel 0x200 7) true = true ∧
    t.may c R.TAL_TS_UNIT true = true ∧ t.may c R.TAL_TS_SEL true = true ∧ t.tenant c = none ∧ ten.tenant (.ctl 63) = some 63 := by decide +kernel

/-! ### Power states and supplies -/

theorem wit_PerformanceLevelCommandsComplete :
    let c := Acc.core true
    let d := State.reset.dev.awn 64 (selReg 0x13) 63
    let sync (n : Nat) : Dev := { (d.setCyc 0 (dom1 .locked)) with pwr := { d.pwr with step := .sync, target := n, syncCyc := some 9 } }
    let ramp (ack : Bool) : Dev := { d with regs := [(regKey 0x13 0 R.PWR_AVS_TARGET.off, 0x10320)], pwr := { d.pwr with avsAck := ack } }
    let str := { d with pwr := { d.pwr with stretchAt := some 0 } }
    d.may c R.PWR_PL_CTRL true = true ∧ d.may c R.PWR_STB_HINT true = true ∧ d.instOf c 0x13 R.PWR_STB_HINT.off = 63 ∧
    (sync 0).pwr.step = .sync ∧ (sync 0).syncReached = true ∧ ((sync 0).pwr.entry = 0 ∨ (sync 0).entering = true) ∧
    (sync 0).pwr.target = (sync 0).plCur ∧ (sync 3).pwr.target ≠ (sync 3).plCur ∧ (sync 3).syncReached = true ∧ (ramp true).ramping = true ∧
    (ramp false).ramping = true ∧ (ramp false).pwr.avsAck = false ∧ 15 < 16 ∧ d.clockRuns = true ∧ d.pwr.off = false ∧
    d.rb R.PWR_DRP_STATUS 0 15 = false ∧ str.pwr.stretchAt = some 0 ∧ (str.wn R.PWR_DRP_CFG 0 0x10000).rf R.PWR_DRP_CFG 0 31 16 ≠ 0 ∧
    str.pwr.stretchLong = false ∧ d.pwr.step ≠ .sync ∧ ({ d with regs := [(regKey 0x13 0 R.PWR_AVS_TARGET.off, 0x320)] } : Dev).ramping = false ∧ d.pwr.stretchAt = none := by decide +kernel

theorem wit_SleepAndSupplyCommandsComplete :
    let c := Acc.core true
    let d := State.reset.dev
    let s (n : Nat) : Dev := (d.wn R.PWR_SLEEP_STATUS 0 n).wn R.PWR_SLEEP_CFG 0 (0x3f0000 + 256)
    let en := { s 1 with pwr := { d.pwr with entry := 1 } }
    let ent := { (en.wn R.PWR_WAKE_TIME_LO 0 7) with now := 7 }
    let tm (n : Nat) : Dev := ((s n).wn R.PWR_WAKE_TIME_LO 0 7).wn R.CYC_DOM_CTRL 7 (268435456 + 3)
    let l1 (n : Nat) : Dev := ((linkDev 0 (status16 16 7) 11 ps16).wn R.PWR_SLEEP_STATUS 0 n).wn R.PWR_SLEEP_CFG 0 0x3f0000
    let fab := (fabDev 3 0xffff Link.reset).wn (unitCtrl 0x200) 120 1
    let off (r : Nat) : Dev := { d with pwr := { d.pwr with rails := r } }
    d.may c R.PWR_SLEEP_CTRL true = true ∧ d.entering = false ∧ (s 1).may c R.PWR_SLEEP_CTRL true = true ∧ (s 1).entering = true ∧
    d.rf R.PWR_SLEEP_STATUS 0 2 0 = 0 ∧ (s 1).rf R.PWR_SLEEP_STATUS 0 2 0 ≠ 0 ∧ d.pwr.entry = 0 ∧
    (d.wn R.SAF_SAF_STATE 0 2).failsafe = true ∧ fab.failsafe = false ∧ fab.pwr.entry = 0 ∧
    (fab.physPorts.any fun p => fab.isFabric p && fab.portEn p) = true ∧ (d.physPorts.any fun p => d.isFabric p && d.portEn p) = false ∧
    en.entering = true ∧ en.sleepReady = true ∧ max en.now en.idleEnd ≤ en.entryLimit ∧ en.wakeTime = 0 ∧
    ent.entering = true ∧ ent.sleepReady = true ∧ max ent.now ent.idleEnd ≤ ent.entryLimit ∧ ent.wakeEn 4 = true ∧
    ent.wakeTime ≠ 0 ∧ ent.wakeTime ≤ max ent.now ent.idleEnd ∧
    (∀ n ∈ [1, 2], ∀ src ∈ [1, 2, 3, 4], (tm n).wakeEn src = true ∧ (tm n).rf R.PWR_SLEEP_STATUS 0 2 0 = n ∧
      (tm n).rb R.CYC_DOM_CTRL 7 28 = true ∧ (tm n).domOn 7 = true ∧ (tm n).domCtl 7 2 1 = 1 ∧ (tm n).wakeTime ≠ 0) ∧
    (∀ n ∈ [1, 2], (l1 n).wakeEn 5 = true ∧ (l1 n).pwr.off = false ∧ (l1 n).lstate 120 = 7 ∧ (l1 n).rf R.PWR_SLEEP_STATUS 0 2 0 = n) ∧
    d.clockRuns = true ∧ (s 2).clockRuns = false ∧ (s 2).wakeEn 5 = true ∧ (s 3).rf R.PWR_SLEEP_STATUS 0 2 0 = 3 ∧
    (off 0).pwr.therm = false ∧ (off 0).pwr.off = false ∧ (off 1).pwr.enCore = true ∧ (off 3).pwr.enSds = true ∧ 15 < 16 ∧ 2 < 3 := by
  decide +kernel

/-- L1 exits: of a running device, of one that enters sleep or is asleep, with the wake source enabled or not. -/
theorem wit_SleepAndSupplyCommandsComplete_l1 :
    let d := State.reset.dev
    let s (n : Nat) : Dev := (d.wn R.PWR_SLEEP_STATUS 0 n).wn R.PWR_SLEEP_CFG 0 (0x3f0000 + 256)
    let en := { s 1 with pwr := { d.pwr with entry := 1 } }
    let l1 (n : Nat) : Dev := ((linkDev 0 (status16 16 7) 11 ps16).wn R.PWR_SLEEP_STATUS 0 n).wn R.PWR_SLEEP_CFG 0 0x3f0000
    (l1 2).entering = false ∧ (l1 2).clockRuns = false ∧ d.wakeEn 5 = false ∧ d.entering = false ∧
    (let n := { l1 1 with pwr := { d.pwr with entry := 1 } }
     n.entering = true ∧ n.wakeEn 5 = true ∧ n.lstate 120 = 7 ∧ n.rf R.PWR_SLEEP_STATUS 0 2 0 = 1) ∧
    (en.wn R.PWR_SLEEP_CFG 0 256).wakeEn 5 = false ∧ (en.wn R.PWR_SLEEP_CFG 0 256).entering = true ∧
    (s 2 |>.wn R.PWR_SLEEP_CFG 0 256).wakeEn 5 = false ∧ (s 2 |>.wn R.PWR_SLEEP_CFG 0 256).clockRuns = false ∧
    (s 2 |>.wn R.PWR_SLEEP_CFG 0 256).entering = false ∧ (s 2).lstate 120 ≠ 7 ∧
    ({ d with pwr := { d.pwr with therm := true } } : Dev).pwr.therm = true := by decide +kernel
/-! ### Reset, start-up, management and debug -/

theorem wit_StepRunsTheFrontCommand :
    ({ State.reset with pending := [.drainEnd, .perstAssert] } : State).pending = .drainEnd :: [.perstAssert] := by decide +kernel

theorem wit_EmptyQueueLetsOneNanosecondPass : State.reset.pending = [] := by decide +kernel

theorem wit_CommandsLeaveTheQueueAlone : ∃ t, exec .drainEnd State.reset = .next t := ⟨_, rfl⟩

theorem wit_PinsFollowTheirConditionsAfterEveryStep : ∃ t, step State.reset = .next t := ⟨_, rfl⟩

theorem wit_ResetAndStartUpComplete :
    let d := State.reset.dev
    let pg := { d with pwr := { d.pwr with good := false } }
    let low := { d with pwr := { d.pwr with perst := true } }
    let rom (strap : Nat) (tried : List Nat) : Dev := { d with regs := [(regKey 0x14 0 R.BOOT_BOOT_STRAP.off, word strap)], boot := { d.boot with arb := 255, tried := tried } }
    let h (seq svn : Nat) : FlashHdr := ⟨0x4d49484b, 1, seq, svn, 8388607, 1, true, true, true⟩
    let order (d : Dev) (a b : FlashHdr) : List Nat :=
      (if d.rb R.BOOT_BOOT_STRAP 0 5 = false then [0] else if a.seq < b.seq then [1, 0] else [0, 1]).filter fun k => !d.boot.tried.contains k
    let fw := { d with boot := { d.boot with phase := .firmware } }
    let c := Acc.core true
    pg.pwr.good = false ∧ pg.pwr.rails = 7 ∧ pg.pwr.off = false ∧ low.pwr.perst = true ∧ low.pwr.good = true ∧ 62 % 2 = 0 ∧ 63 % 2 = 1 ∧
    (∀ strap ∈ [0, 2, 32], ∀ tried ∈ [[], [1]], (rom strap tried).pwr.perst = false ∧ (rom strap tried).pwr.off = false ∧
      (rom strap tried).boot.coresDown = false ∧ (rom strap tried).boot.phase = .rom ∧ (rom strap tried).bootMode ≠ 1 ∧
      (rom strap tried).bootMode ≠ 3) ∧
    order (rom 0 []) (h 1 0) (h 2 0) = [0] ∧ order (rom 32 []) (h 1 0) (h 2 0) = [1, 0] ∧ order (rom 32 []) (h 2 0) (h 2 0) = [0, 1] ∧
    order (rom 32 [1]) (h 1 0) (h 2 0) = [0] ∧ (rom 32 []).slotCheck (h 1 255) = 0 ∧ (rom 32 []).slotCheck (h 1 254) = 4 ∧
    fw.may c R.BOOT_BOOT_CTRL true = true ∧ fw.boot.phase = .firmware ∧ d.may c R.BOOT_FLASH_CMD true = true ∧
    bit ((0x3ff : Word) ||| 0x100) 9 = true ∧ bit ((0x1ff : Word) ||| 0x100) 9 = false ∧ d.may c R.DEV_YARD_CFG true = true := by decide +kernel

/-- Where nothing of it happens: power is good, PERST_N is high, no path, no authentication, a lockout in progress. -/
theorem wit_ManagementDebugAndPinsComplete_none :
    let d := State.reset.dev
    let low := { d with pwr := { d.pwr with perst := true } }
    let lock := { d with boot := { d.boot with chalAt := some 9 } }
    d.pwr.good = true ∧ d.pwr.perst = false ∧ d.boot.phase ≠ .firmware ∧ d.may (.core true) R.BOOT_BOOT_CTRL true = true ∧
    low.pathUp 0 = false ∧ d.may .debug R.DBG_DBG_CTRL true = true ∧ d.dbgAuth = false ∧ d.boot.halted = false ∧
    lock.may .debug R.DBG_DBG_CTRL true = true ∧ lock.boot.chalAt = some 9 ∧ lock.now < 9 ∧ d.boot.chalAt = none ∧
    ({ d with mgt := { d.mgt with trst := true } } : Dev).mgt.trst = true := by decide +kernel

theorem wit_ManagementDebugAndPinsComplete :
    let d := State.reset.dev
    let fw := { d with boot := { d.boot with phase := .firmware } }
    let f (x : Dev) := x.wn R.ISO_ISO_CTRL 0 1
    d.pathUp 0 = true ∧ (f d).pathUp 1 = true ∧ (254 : Nat) < 255 ∧ (255 : Nat) ≤ 255 ∧ d.fwRuns = false ∧ fw.fwRuns = true ∧ fw.pathUp 0 = true ∧
    1 ≤ 21 ∧ 21 ≤ 21 ∧ 21 < 22 ∧ d.may .debug R.DBG_DBG_CTRL true = true ∧ d.boot.chalAt = none ∧ d.boot.chalOk = false ∧
    { d.boot with chalOk := true }.chalOk = true ∧ d.mgt.trst = false ∧ 31 < 32 ∧ 32 ≤ 63 ∧ 63 < 64 := by decide +kernel

/-- CHALLENGE and VERIFY: the debug fuse is a constant of Config, and for either value of it one clause is met. -/
theorem wit_ManagementDebugAndPinsComplete_fuse :
    (Config.debugFuseOff = false ∧ ∀ t, State.reset.dev.boot.chalAt = some t → t ≤ State.reset.dev.now) ∨ Config.debugFuseOff = true := by
  cases Config.debugFuseOff
  · exact .inl ⟨rfl, fun t h => by simp [State.reset, Dev.reset] at h⟩
  · exact .inr rfl

theorem wit_ManagementDebugAndPinsComplete_debug :
    let d := State.reset.dev
    let au (h : Bool) (ph : BootPh) : Dev := { d.wn R.DBG_DBG_STATUS 0 1 with boot := { d.boot with halted := h, phase := ph, chalAt := some 9 } }
    let c := Acc.core true
    let ten := ((d.wn R.ISO_PERM_DATA 0x16 0x3ff).wn R.SBD_SB_OWN 63 (64 + 63)).awn 63 (selReg 0x16) 63
    let src (s n : Nat) (st : Nat) : Prop :=
      if s < 0x40 then ten.rb R.SBD_SB_OWN s 6 = true ∧ ten.rf R.SBD_SB_OWN s 5 0 = st else if 0x80 ≤ s then ten.owner (s - 0x80) = some n else True
    let core := d.awn 64 (selReg 0x16) 63
    (∀ h : Bool, (au h .firmware).may .debug R.DBG_DBG_CTRL true = true ∧ (au h .firmware).dbgAuth = true ∧ (au h .firmware).boot.halted = h) ∧
    (au true .hold).boot.phase = .hold ∧ (au true .firmware).boot.phase ≠ .hold ∧ (au true .hold).boot.chalAt = some 9 ∧
    core.may c R.SBD_SB_ROUTE true = true ∧ core.may c R.SBD_SB_CLKREQ true = true ∧ core.tenant c = none ∧
    ten.may (.ctl 63) R.SBD_SB_ROUTE true = true ∧ ten.tenant (.ctl 63) = some 63 ∧ ¬ src 0 63 63 ∧ src 63 63 63 ∧ src 0x7f 63 63 ∧
    fld (0x41 : Word) 7 0 ≤ 0x41 ∧ 0x80 ≤ fld (0x80 : Word) 7 0 ∧ 0x41 < fld (0x7f : Word) 7 0 ∧ fld (0x7f : Word) 7 0 < 0x80 ∧
    (let t := core.wn R.SBD_SB_CLKREQ 62 0x100
     (bit (0x100 : Word) 8 && (List.range 64).any fun k => k != 63 && t.rb R.SBD_SB_CLKREQ k 8 &&
       t.rf R.SBD_SB_CLKREQ k 7 0 == fld (0x100 : Word) 7 0) = true) ∧
    (bit (0xff : Word) 8) = false := by decide +kernel

/-! ### The configuration image -/

theorem wit_ConfigurationImageRecordsComplete :
    let d := State.reset.dev
    let k := { d with boot := { d.boot with phase := .kci } }
    let w := { k with boot := { k.boot with waitEnd := some 5000 } }
    let y := k.wn R.DEV_YARD_CFG 0 1
    let rom (d : Dev) (addr : Nat) (w : Word) := d.accWrite [] (.core true) addr 15 [w] Ext.none
    k.boot.phase = .kci ∧ k.pwr.perst = false ∧ k.pwr.off = false ∧ k.boot.coresDown = false ∧ k.kciCommitted = some true ∧
    k.boot.waitEnd = none ∧ inGroup 0x600 = true ∧ y.yardEn = true ∧ y.kciCommitted = some true ∧ inGroup 0xc00 = false ∧ k.yardEn = false ∧
    (rom k (4096 * 0xc00 + 0x80) 1).2.commitBusy 64 0xc00 = false ∧
    (let q := { k with staging := { k.staging with draining := true, epoch := 1 } }
     (rom (q.stage (stg R.ISO_STB_CFG 63 1)) (4096 * 0x600 + 0x80) 1).2.commitBusy 64 0x600 = true) ∧
    (0xffffffff ^^^ 0xffffffff : Nat) = k.boot.crc ^^^ 0xffffffff ∧
    ((k.readWord [] (.core true) 0x40200 15 Ext.none none).1 &&& (0 : Word)) = (0 : Word) ∧
    ((k.readWord [] (.core true) 0x40200 15 Ext.none none).1 &&& (0 : Word)) ≠ (1 : Word) ∧
    (w.boot.waitEnd.getD 0) ≤ 5000 ∧ (k.readWord [] (.core true) 0x40200 15 Ext.none none).2.now < w.boot.waitEnd.getD 0 := by decide +kernel

/-- Records that change nothing, or fail: no image is applied, a WAIT or a commit is in progress, the commit of the last record failed. -/
theorem wit_ConfigurationImageRecordsComplete_none :
    let d := State.reset.dev
    let k := { d with boot := { d.boot with phase := .kci } }
    let w := { k with boot := { k.boot with waitEnd := some 5000 } }
    let c := { k with boot := { k.boot with comWait := some 0x600 } }
    d.boot.phase ≠ .kci ∧ w.boot.waitEnd.isSome = true ∧ k.boot.waitEnd = none ∧
    (let b := (c.stage (stg R.ISO_STB_CFG 63 1)) |>.setErr 0x600 1 0
     ({ b with staging := { b.staging with held := [⟨64, [stg R.ISO_STB_CFG 63 1], none⟩] } } : Dev).kciCommitted = none) ∧
    (c.setErr 0x600 1 0).boot.phase = .kci ∧ (c.setErr 0x600 1 0).boot.waitEnd = none ∧ (c.setErr 0x600 1 0).kciCommitted = some false := by
  decide +kernel

/-! ### Rules that hold of every state -/

theorem wit_ChargesNeverPassTheLimits : ∀ k < 3, (⟨1, 0, 2⟩ : Trio).get k ≤ (⟨1, 0, 9⟩ : Trio).get k := by decide +kernel

theorem wit_EventArraysClearIndependently : 2047 < 2048 ∧ 0 < 2048 ∧ ((63 : Nat) ≠ 64 ∨ (2047 : Nat) ≠ 2047) := by decide +kernel

theorem wit_RaisesSetTheirCauseAndCount :
    (evSev 0x791).isSome = true ∧ 0x791 < 2048 ∧ 0x791 ≠ 0x010 ∧ 0x791 ≠ 0x011 := by decide +kernel

theorem wit_AccessorsStageIndependently :
    (stg R.SAF_CTO_CFG 0 10000).via = (stg R.SAF_CTO_CFG 0 10000).page ∧ (67 : Nat) ≠ (stg R.SAF_CTO_CFG 0 10000).acc := by decide +kernel
/-! ### Worked examples of the spec -/

/-- R352 to R353, the example: three flows of weight 4, 2 and 1, each TLP of 17 units. What is served, in order, and the virtual
time after it. -/
def wfqRun : Nat → Wfq → List (Nat × Nat)
  | 0, _ => []
  | n + 1, q =>
    match q.choose [2, 5, 9] (fun k => if k = 2 then 4 else if k = 5 then 2 else 1) with
    | none => []
    | some k =>
      let cost := 17 * 4096 / (if k = 2 then 4 else if k = 5 then 2 else 1)
      let q := q.serve k cost
      (k, q.v.toNat) :: wfqRun n (q.gain k cost)

theorem test_wfq_example :
    wfqRun 7 (((Wfq.reset.gain 2 17408).gain 5 34816).gain 9 69632) =
      [(2, 17408), (2, 34816), (5, 34816), (2, 52224), (2, 69632), (5, 69632), (9, 69632)] := by decide +kernel

/-- R64: FACT 12 with USER -20 in 0 to 63 saturates at 0; with USER -5 it is 7. -/
theorem test_effective_value :
    effOf 12 (-20) (63 * 65536) = 0x80000000 ∧ effOf 12 (-5) (63 * 65536) = 7 := by decide +kernel

/-- R70: from an estimate of 3,200,000 ns, an interval of 3,201,600 ns at GAIN 4 moves the estimate by 100 ns. -/
theorem test_estimate :
    let d := ((State.reset.dev.setCyc 7 { CycDom.reset with state := .locked, p := 3200000 * 256 }).wn R.CYC_TOL 7 328).wn
      R.CYC_DOM_CTRL 7 (4 * 65536)
    ((d.estimate 7 3201600).cyc1 7).p = 3200100 * 256 := by decide +kernel

/-- R435, R440: a raise of 0x558, ACCESS_FAULT of S12, counts under SRC 3 for INST 12 on ISO and not for INST 11, and in a tally slot that
counts ISO for S12. -/
theorem test_raise_counts :
    let sel (n inst : Nat) (d : Dev) : Dev := d.wn (talEvsel 0x600 n) 0 (65536 * inst + 3)
    let d := ((sel 0 12 (sel 1 11 State.reset.dev)).wn R.TAL_TS_UNIT 0x105 (0x600 * 65536 + 12)).wn R.TAL_TS_SEL 0x105 (65536 + 12 * 1024 + 3)
    (d.raise 0x558).tally.page.getD (8 * 0x600) 0 = 1 ∧ (d.raise 0x558).tally.page.getD (8 * 0x600 + 1) 0 = 0 ∧
      (d.raise 0x558).tally.ts.getD 5 0 = 1 ∧ (d.raise 0x556).tally.ts.getD 5 0 = 0 := by decide +kernel


end Sys2Proof.Tests
end

section
/-! Device time: where `Dev.advanceTo` leaves the clock, and the step on an empty queue (O2). -/

namespace Sys2Proof.Machine

/-! ### Device time -/

/-- Device time never runs back: an advance to an instant that has passed leaves it. What the advance counts on the way (slots, waits,
core clocks, nanoseconds) does not move it. -/
@[simp] theorem Dev.advanceTo_now (d : Dev) (t : Nat) : (d.advanceTo t).now = max d.now t := by
  unfold Dev.advanceTo
  split
  case isTrue h => exact (Nat.max_eq_left h).symm
  case isFalse h =>
    refine Eq.trans ?_ (Nat.max_eq_right (Nat.le_of_not_le h)).symm
    exact (Dev.EvOnly.foldl _ (fun d p => (d.tick_evOnly p 0xffff 2 _ none).trans (Dev.tick_evOnly _ p 0xffff 1 _ none)) _ _).now_eq

/-! ### The step on an empty queue -/

theorem step_of_pending_nil (s : State) (h : s.pending = []) : step s = s.act fun d => d.advanceTo (d.now + 1) := by
  unfold step
  rw [h]

/-- Settles O2: with no command to run the step is the advance by one nanosecond, and the clock then stands one later. -/
theorem emptyQueueLetsOneNanosecondPass : Obligations.EmptyQueueLetsOneNanosecondPass := by
  intro s hempty
  have hnow : (s.dev.advanceTo (s.dev.now + 1)).now = s.dev.now + 1 :=
    (s.dev.advanceTo_now _).trans (Nat.max_eq_right (Nat.le_succ _))
  exact ⟨step_of_pending_nil s hempty, hnow⟩

end Sys2Proof.Machine
end

section
/-! Family 01_architecture: the step and the queue (O1, O3, O4), the quiet device (O8), and the TLP path: reception and contexts (O33),
the shed and egress (O34). -/

namespace Sys2Proof.Machine

/-! ### What every command answers -/

/-- Every command answers a next state that drives the pins of some device: the queue stands, and of the state's own fields only the
page locks may have changed. -/
theorem exec_next (c : Instr) (s : State) :
    ∃ (locks : List Nat) (d : Dev), exec c s = .next (State.pinned { s with plock := locks } d) := by
  cases c
  case talLoRead a page n =>
    by_cases hn : n < 8
    · exact ⟨_, _, if_pos hn⟩
    · exact ⟨_, _, if_neg hn⟩
  case powerGood =>
    by_cases hup : s.dev.pwr.good ∨ s.dev.pwr.rails ≠ 7 ∨ s.dev.pwr.off
    · exact ⟨_, _, if_pos hup⟩
    · exact ⟨_, _, if_neg hup⟩
  -- Every other arm is one lift of an effect on the device (`State.act`, `State.eff` or `State.effL`).
  all_goals exact ⟨_, _, rfl⟩

/-! ### The step -/

theorem step_of_pending_cons (s : State) (c : Instr) (rest : List Instr) (h : s.pending = c :: rest) :
    step s = exec c { s with pending := rest } := by
  unfold step
  rw [h]

/-- Settles O1: the equation of the step on a queue that is not empty. -/
theorem stepRunsTheFrontCommand : Obligations.StepRunsTheFrontCommand :=
  step_of_pending_cons

/-- Settles O3: a step is the advance of time on an empty queue, else a command, and both answer a next state. -/
theorem everyStepIsSafe : Obligations.EveryStepIsSafe := by
  intro s
  match hq : s.pending with
  | [] => exact ⟨_, step_of_pending_nil s hq⟩
  | c :: rest =>
    obtain ⟨locks, d, hexec⟩ := exec_next c { s with pending := rest }
    exact ⟨_, (step_of_pending_cons s c rest hq).trans hexec⟩

/-- Settles O4: every command answers a state with the queue it was given (`exec_next`). -/
theorem commandsLeaveTheQueueAlone : Obligations.CommandsLeaveTheQueueAlone := by
  intro c s t ht
  obtain ⟨locks, d, hexec⟩ := exec_next c s
  obtain rfl := Host.Outcome.next.inj (hexec.symm.trans ht)
  exact State.pinned_pending _ d

/-! ### What settles where nothing is left to follow -/

/-- With no request at the stalls none moves (R267). -/
theorem Dev.pump_of_miss_nil {d : Dev} (rel : Option Nat) (h : d.stall.miss = []) : d.pump rel = d := by
  simp [Dev.pump, h]

/-- With no operation under way the loft issues nothing (R265). -/
theorem Dev.loftPump_of_fetch_nil {d : Dev} (h : d.stall.fetch = []) : d.loftPump = d := by
  simp [Dev.loftPump, h]

theorem Dev.m2sSettle_of_lost_nil {d : Dev} (h : d.cxp.lost = []) : d.m2sSettle = d := by
  simp only [Dev.m2sSettle, h, List.foldl_nil]
  rw [← h]
  rfl

theorem Dev.dpcDue_of_dpc_nil {d : Dev} (h : d.saf.dpc = []) : d.dpcDue = d := by
  simp only [Dev.dpcDue, h, List.foldl_nil]
  rw [← h]

theorem Dev.faultsDue_of_due_nil {d : Dev} (h : d.saf.due = []) : d.faultsDue = d := by
  simp only [Dev.faultsDue, h, List.foldl_nil]
  rw [← h]

theorem Dev.accessRepeat_of_afTimes_nil {d : Dev} (h : d.saf.afTimes = []) : d.accessRepeat = d := by
  have hrec : ({ d with saf := { d.saf with afTimes := [] } } : Dev) = d := by rw [← h]
  simp [Dev.accessRepeat, h, hrec]

/-- With no tainted port to fence none is fenced (R388). -/
theorem Dev.taintFence_of_filter_nil {d : Dev}
    (h : (d.physPorts.filter fun p => d.isDown p && d.rb R.PRT2_ERR_STATUS p 4 && d.rb R.PRT2_ERR_CFG p 1 && !d.portContained p) = []) :
    d.taintFence = d := by
  rw [Dev.taintFence, h, List.foldl_nil]

theorem Dev.sweepMarked_of_filter_nil {d : Dev} (h : (d.path.items.filter fun i => i.marked) = []) : d.sweepMarked = d := by
  have hnone : ∀ i ∈ d.path.items, i.marked = false := by simpa using h
  unfold Dev.sweepMarked
  dsimp only
  rw [List.filter_eq_nil_iff.2 fun i hi => by simp [hnone i hi], List.foldl_nil]

/-- A device that stands alone has no yard to follow. -/
theorem Dev.yardSync_of_alone {d : Dev} (h : d.yardEn = false) : d.yardSync = d := by
  simp [Dev.yardSync, h]

theorem Dev.isHead_of_alone {d : Dev} (h : d.yardEn = false) : d.isHead = false := by
  simp [Dev.isHead, h]

theorem Dev.chRunAll_of_chan_nil {d : Dev} (h : d.dma.chan = []) : d.chRunAll = d := by
  simp [Dev.chRunAll, h]

/-- Where no injected error waits none lands, whatever stood before (R396). -/
theorem Dev.injWatch_of_inj_none {d : Dev} (old : Dev) (h : d.saf.inj = none) : d.injWatch old = d := by
  simp [Dev.injWatch, h]

/-- Nothing follows at the end of a command in a still device. -/
theorem Dev.after_of_still {d : Dev} (h : d.still) : d.after = d := by
  obtain ⟨-, -, hlost, hdpc, hdue, haf, hmark, htaint, halone, hchan, -⟩ := h
  simp [Dev.after, Dev.m2sSettle_of_lost_nil hlost, Dev.dpcDue_of_dpc_nil hdpc, Dev.faultsDue_of_due_nil hdue,
    Dev.accessRepeat_of_afTimes_nil haf, Dev.taintFence_of_filter_nil htaint, Dev.sweepMarked_of_filter_nil hmark,
    Dev.yardSync_of_alone halone, Dev.isHead_of_alone halone, Dev.chRunAll_of_chan_nil hchan]

/-- In a still device nothing but the pins can follow. -/
theorem State.settled_of_still (s : State) {d : Dev} (h : d.still) : s.settled d = s.pinned d := by
  have ⟨hmiss, hfetch, _, _, _, _, _, _, _, _, hinj⟩ := h
  rw [State.settled, Dev.pump_of_miss_nil none hmiss, Dev.loftPump_of_fetch_nil hfetch, Dev.after_of_still h,
    Dev.injWatch_of_inj_none s.dev hinj]

/-- Pins that stand as their conditions say need no driving. -/
theorem State.pinned_of_driven (s : State) {d : Dev} (hpad : d.padSync = d) (hpin : d.pinHolds) :
    s.pinned d = { s with dev := d } := by
  rw [State.pinned, hpad, Dev.settle_of_pinHolds d hpin]

/-- Settles O8: each part of the settling finds nothing to do, and the pins stand. -/
theorem quietDeviceSettlesToItself : Obligations.QuietDeviceSettlesToItself := by
  rintro s d ⟨hstill, hpad, hpin⟩
  have hpinned := s.pinned_of_driven hpad hpin
  exact ⟨(s.settled_of_still hstill).trans hpinned, hpinned⟩

/-! ### Reception (R11, R68, R179, R191, R323, R392) -/

/-- A TLP that fails its IDE check is counted, reported and dropped; its credits return (R392). -/
theorem exec_tlpReceive_ideBad (s : State) {p : Nat} {t : Tlp} (hlive : s.dev.linkLive p = true) (hmem : isMem t = false) :
    exec (.tlpReceive p t true) s =
      .next (s.settled (((s.dev.bump R.PRT3_IDE_CNT_FAIL p).aerPort p 28 (some t)).creditBack p t)) := by
  change execTlpReceive p t true s = _
  simp [execTlpReceive, State.eff, hlive, hmem]

theorem exec_tlpReceive_received (s : State) {p : Nat} {t : Tlp} (hlive : s.dev.linkLive p = true) (hmem : isMem t = false) :
    exec (.tlpReceive p t false) s = .next (s.settled (s.dev.receive p t)) := by
  change execTlpReceive p t false s = _
  simp [execTlpReceive, State.eff, hlive, hmem]

theorem exec_unlock_upstream (s : State) {p : Nat} (rid : Nat) (hlive : s.dev.linkLive p = true) (hup : s.dev.isUp p = true) :
    exec (.unlock p rid) s =
      .next (s.settled (s.dev.receive p { Tlp.blank with fmtType := 0x33, rtype := 3, code := 0, rid := rid })) := by
  change execUnlock p rid s = _
  simp [execUnlock, State.eff, hlive, hup]

/-- The device that has just received something: a reception counts for the sleep rules. -/
def Dev.heard (d : Dev) : Dev := { d with pwr := { d.pwr with lastRx := d.now } }

/-- The request, completion or message as it waits for its context, with the generation of its domain (R191, R267). -/
def Dev.parkedOf (d : Dev) (p : Nat) (t : Tlp) (sl : Option Nat) : Parked :=
  { tlp := t, port := p, key := d.ctxKey p t, since := d.now, held := false, noEntry := true, waits := false, shared := false
    refuse := none, gen := d.genOf (d.domOfReq p sl t), dom := d.domOfReq p sl t, ready := false }

/-- A port that is fenced, contained or unassigned discards and counts what it receives (R191, R230). -/
theorem Dev.receive_of_discards {d : Dev} {p : Nat} (t : Tlp) (h : d.discards p = true) :
    d.receive p t = (d.heard.bump R.PRT6_PD_CNT_FENCE p).creditBack p t :=
  if_pos h

/-- A cycle mark ends at the port (R68). -/
theorem Dev.receive_of_cycleVdm {d : Dev} {p : Nat} {t : Tlp} (h : d.discards p = false) (hvdm : isCycleVdm t = true) :
    d.receive p t = (d.heard.cycleVdm p t d.heard.now).creditBack p t :=
  (if_neg (ne_true_of_eq_false h)).trans (if_pos hvdm)

/-- A PTM ResponseD on an upstream port makes its PTM relationship valid and ends there (log entry 69). -/
theorem Dev.receive_of_ptmTime {d : Dev} {p : Nat} {t : Tlp} (h : d.discards p = false) (hvdm : isCycleVdm t = false)
    (hptm : isPtmTime t = true) (hup : d.isUp p = true) :
    d.receive p t = (d.heard.setPst p { d.heard.pst p with ptm := true }).creditBack p t :=
  (if_neg (ne_true_of_eq_false h)).trans <| (if_neg (ne_true_of_eq_false hvdm)).trans <| if_pos (Bool.and_eq_true_iff.2 ⟨hptm, hup⟩)

/-- Any other TLP is counted where it is poisoned, and queued for its context (R191, R267). -/
theorem Dev.receive_queues {d : Dev} {p : Nat} {t : Tlp} (h : d.discards p = false) (hvdm : isCycleVdm t = false)
    (hptm : isPtmTime t = false ∨ d.isUp p = false) :
    d.receive p t =
      (let (sl, st) := d.heard.srcOf p t
       let d := if t.ep then (d.heard.bump R.PRT2_CNT_POISON p).aerIn st p 12 t else d.heard
       (d.setStall { d.stall with miss := d.stall.miss ++ [d.parkedOf p t sl] }).pump none) :=
  (if_neg (ne_true_of_eq_false h)).trans <| (if_neg (ne_true_of_eq_false hvdm)).trans <|
    if_neg (ne_true_of_eq_false (Bool.and_eq_false_iff.2 hptm))

/-! ### Contexts and policers (R267, R363, R364) -/

/-- A context that is on die lets the requests that wait for it go (R267). -/
theorem exec_contextArrival_onDie (s : State) {key : Nat} (h : (s.dev.onDie key).isSome = true) :
    exec (.contextArrival key) s = .next (s.settled (s.dev.pump (some key))) := by
  change execContextArrival key s = _
  simp [execContextArrival, State.eff, h]

/-- A context that has been evicted since is looked up again for the requests that wait for it (R267). -/
theorem exec_contextArrival_evicted (s : State) {key : Nat} (h : s.dev.onDie key = none) :
    exec (.contextArrival key) s = .next (s.settled (if s.dev.stranded key then s.dev.lookAgain key else s.dev)) := by
  change execContextArrival key s = _
  simp [execContextArrival, State.eff, h]

/-- The device at the instant of the refill that makes a context's policer positive: now, where the policer holds nothing or never
refills (R363). -/
def Dev.atRefill (d : Dev) (key : Nat) (c : Ctx) : Dev :=
  let rate := fld (d.pairVal R.SCH_PP_RATE (0x2000 + c.polProfile)) 20 0
  if d.polHolds key = true ∧ rate ≠ 0 ∧ d.polCap c.polProfile ≠ 0 then
    d.advanceTo (c.lastRefill + 64 * cdiv (1 - c.tokens).toNat rate) else d

/-- A refill releases the oldest held request of a context on die (R363, R364). -/
theorem exec_policerRelease_onDie (s : State) {key i : Nat} {k : Parked} {c : Ctx}
    (hheld : (s.dev.stall.miss.findIdx? fun k : Parked => k.held && k.key == key) = some i) (hctx : s.dev.onDie key = some c)
    (hk : (s.dev.atRefill key c).stall.miss[i]? = some k) (hfree : (s.dev.atRefill key c).polHolds key = false) :
    exec (.policerRelease key) s = .next (s.settled (((s.dev.atRefill key c).proceed i k).1.pump (some key))) := by
  simp only [Dev.atRefill] at hk hfree ⊢
  change execPolicerRelease key s = _
  simp [execPolicerRelease, State.eff, hheld, hctx, and_assoc, hk, hfree]

/-- A held request whose context has been evicted since is looked up again. -/
theorem exec_policerRelease_evicted (s : State) {key i : Nat}
    (hheld : (s.dev.stall.miss.findIdx? fun k : Parked => k.held && k.key == key) = some i) (hctx : s.dev.onDie key = none) :
    exec (.policerRelease key) s = .next (s.settled (if s.dev.stranded key then s.dev.lookAgain key else s.dev)) := by
  change execPolicerRelease key s = _
  simp [execPolicerRelease, State.eff, hheld, hctx]

/-! ### DL_Down (R191) -/

/-- The device whose partner at a port has acknowledged the oldest TLPs of the replay buffer. -/
def Dev.replayed (d : Dev) (p acked : Nat) : Dev :=
  { d with path := { d.path with replay := Tbl.put d.path.replay p [] ((d.path.replay.getD p []).drop acked) } }

theorem exec_dlDown (s : State) {p : Nat} (acked : Nat) (surprise : Bool) (hp : p < 128) (hfab : s.dev.isFabric p = false)
    (hup : s.dev.dlUp p = true) :
    exec (.dlDown p surprise acked) s = .next (s.settled ((s.dev.replayed p acked).dlDownAt p 1 surprise true)) := by
  change execDlDown p surprise acked s = _
  simp [execDlDown, State.eff, Dev.replayed, Nat.not_le.2 hp, hfab, hup]

/-- Settles O33: one clause for each command, and for each case of a reception. -/
theorem receptionAndContextsComplete : Obligations.ReceptionAndContextsComplete := by
  refine fun s => ⟨?ide, ?unlock, ?receive, ?arrival, ?release, ?evicted, ?dlDown⟩
  case ide => exact fun p t hlive hmem => ⟨exec_tlpReceive_ideBad s hlive hmem, exec_tlpReceive_received s hlive hmem⟩
  case unlock => exact fun p rid hlive hup => exec_unlock_upstream s rid hlive hup
  case receive =>
    exact fun p t => ⟨Dev.receive_of_discards t, Dev.receive_of_cycleVdm, Dev.receive_of_ptmTime, Dev.receive_queues⟩
  case arrival => exact fun key => ⟨exec_contextArrival_onDie s, exec_contextArrival_evicted s⟩
  case release => exact fun key i k c hheld hctx hk hfree => exec_policerRelease_onDie s hheld hctx hk hfree
  case evicted => exact fun key i hheld hctx => exec_policerRelease_evicted s hheld hctx
  case dlDown => exact fun p acked surprise hp hfab hup => exec_dlDown s acked surprise hp hfab hup

/-! ### The shed (R176) -/

/-- A TLP whose turn it is at the shed is tried there, but in fail-safe. -/
theorem exec_shedGrant_first (s : State) {id : Nat} {i : Item} (hi : s.dev.item id = some i) (hstage : i.stage = .store)
    (hfirst : s.dev.firstWaiting i = true) (hsafe : s.dev.failsafe = false) :
    exec (.shedGrant id) s = .next (s.settled (s.dev.tryGrant i)) := by
  change execShedGrant id s = _
  simp [execShedGrant, State.eff, hi, hstage, hfirst, hsafe]

/-! ### Selection (R13, R352, R353) -/

/-- The credits that the partner of a PCIe or CXL port grants are taken. -/
def Dev.takeCredits (d : Dev) (p credits : Nat) : Dev :=
  if p < 128 ∧ d.isFabric p = false then
    { d with sched := { d.sched with noCred := Tbl.put d.sched.noCred p 0 (7 - credits % 8) } } else d

/-- Stage 8's try of what the scheduler selects at a port, but in Recovery. -/
def Dev.egressLive (d : Dev) (p flt : Nat) : Dev := if d.lstate p = 5 then d else d.egress p flt

/-- What a selection does before P130 serves what is handed over: the link leaves L1, the credits are taken, and stage 8 tries. -/
def Dev.selection (d : Dev) (p credits flt : Nat) : Dev := ((d.l1Leave p).takeCredits p credits).egressLive p flt

/-- A selection, but in fail-safe, at any port; P130 then serves the accesses handed over. -/
theorem exec_egressSelection_eq (s : State) {p : Nat} (credits flt : Nat) (x : Ext) (hp : p < 131) (hsafe : s.dev.failsafe = false) :
    exec (.egressSelection p credits flt x) s = s.effL fun locks d =>
      if p = 130 then (d.selection p credits flt).barServeAll locks x else (locks, d.selection p credits flt) := by
  change execEgressSelection p credits flt x s = _
  simp [execEgressSelection, State.effL, State.eff, Dev.selection, Dev.takeCredits, Dev.egressLive, Nat.not_le.2 hp, hsafe]

theorem exec_egressSelection_link (s : State) {p : Nat} (credits flt : Nat) (x : Ext) (hp : p < 131) (hsafe : s.dev.failsafe = false)
    (hne : p ≠ 130) : exec (.egressSelection p credits flt x) s = .next (s.settled (s.dev.selection p credits flt)) := by
  rw [exec_egressSelection_eq s credits flt x hp hsafe, State.effL_next, if_neg hne]

theorem exec_egressSelection_p130 (s : State) {p : Nat} (credits flt : Nat) (x : Ext) (hp : p < 131) (hsafe : s.dev.failsafe = false)
    (heq : p = 130) :
    exec (.egressSelection p credits flt x) s = .next (State.settled
      { s with plock := ((s.dev.selection p credits flt).barServeAll s.plock x).1 }
      ((s.dev.selection p credits flt).barServeAll s.plock x).2) := by
  rw [exec_egressSelection_eq s credits flt x hp hsafe, State.effL_next, if_pos heq]

/-! ### The end of a transmission (R173, R177, R353) -/

/-- The gate of an item has closed. -/
def Dev.gateLate (d : Dev) (i : Item) : Bool :=
  match i.gateClose with
  | some c => decide (c < d.now)
  | none => false

theorem Dev.gateLate_iff (d : Dev) (i : Item) : d.gateLate i = true ↔ ∃ c, i.gateClose = some c ∧ c < d.now := by
  unfold Dev.gateLate
  cases i.gateClose <;> simp

/-- A gate that closed before the end of a transmission counts at the port that was scheduled. -/
def Dev.overrun (d : Dev) (p : Nat) (i : Item) : Dev :=
  let e := ((d.bundleOf p).bind d.bundleLead).getD p
  (d.bump R.SCH_CNT_OVERRUN e i.schedStb).schEvent 0 e (i.schedStb.getD 0) i.tlp.tc 0

/-- The device with an overrun counted where the gate had closed. -/
def Dev.gateCounted (d : Dev) (p : Nat) (i : Item) : Dev := if ∃ c, i.gateClose = some c ∧ c < d.now then d.overrun p i else d

/-- The replay buffer of a PCIe or CXL port holds a TLP behind others until it is acknowledged. -/
def Dev.keepSent (d : Dev) (p : Nat) (i : Item) (others : List Sent) : Dev :=
  if d.isFabric p then d
  else { d with path := { d.path with
    replay := Tbl.put d.path.replay p [] (others ++ [⟨i.tlp, i.stb, i.ingress, i.src, !i.copies.isEmpty⟩]) } }

/-- The copy of an item at a port has been sent. -/
def Dev.copySent (d : Dev) (p : Nat) (i : Item) : Dev :=
  d.updItem i.id fun j => { j with copies := j.copies.map fun c => if c.port = p ∧ c.st = .sending then { c with st := .sent } else c }

/-- An item with copies ends once all of them have. -/
def Dev.copiesOver (d : Dev) (i : Item) : Dev :=
  match d.item i.id with
  | some j => if j.copies.all fun c => c.st == .sent || c.st == .discarded then d.dropItem j else d
  | none => d

/-- A transmission ends by its carriage code: nullified, or held for a replay and ended. -/
def Dev.endSent (d : Dev) (p : Nat) (bad : Bool) (i : Item) (others : List Sent) : Dev :=
  if (bad ∨ i.ccrc ≠ carriageCrc i.tlp) ∧ !d.isFabric p then d.nullify p i
  else if i.copies.isEmpty then (d.keepSent p i others).dropItem i
  else ((d.keepSent p i others).copySent p i).copiesOver i

theorem Dev.endSent_bad {d : Dev} {p : Nat} {bad : Bool} {i : Item} (others : List Sent)
    (hbad : bad = true ∨ i.ccrc ≠ carriageCrc i.tlp) (hfab : d.isFabric p = false) : d.endSent p bad i others = d.nullify p i := by
  rw [Dev.endSent, if_pos ⟨hbad, by rw [hfab]; rfl⟩]

theorem Dev.endSent_good {d : Dev} {p : Nat} {bad : Bool} {i : Item} (others : List Sent)
    (hgood : (bad = false ∧ i.ccrc = carriageCrc i.tlp) ∨ d.isFabric p = true) :
    d.endSent p bad i others =
      if i.copies.isEmpty then (d.keepSent p i others).dropItem i else ((d.keepSent p i others).copySent p i).copiesOver i := by
  have hkept : ¬((bad ∨ i.ccrc ≠ carriageCrc i.tlp) ∧ !d.isFabric p) := by
    rintro ⟨hbad, hfab⟩
    rcases hgood with ⟨rfl, hcrc⟩ | hlink
    · exact hbad.elim Bool.false_ne_true fun h => h hcrc
    · rw [hlink] at hfab
      exact Bool.false_ne_true hfab
  rw [Dev.endSent, if_neg hkept]

theorem Dev.copiesOver_of_item {d : Dev} {i j : Item} (hj : d.item i.id = some j) :
    d.copiesOver i = if j.copies.all fun c => c.st == .sent || c.st == .discarded then d.dropItem j else d := by
  rw [Dev.copiesOver, hj]

/-- What is still in the replay buffer of a port when the last cell of a TLP has been read. -/
def Dev.unacked (d : Dev) (p t acked : Nat) (i : Item) : List Sent :=
  (((d.advanceTo t).gateCounted p i).path.replay.getD p []).drop acked

/-- The device in which the last cell of a TLP has been read at an instant, and its carriage code is still to be verified. -/
def Dev.lastCell (d : Dev) (p t acked : Nat) (i : Item) : Dev := ((d.advanceTo t).gateCounted p i).replayed p acked

/-- The effect of TRANSMIT_COMPLETE. -/
def Dev.transmitEnd (d : Dev) (p t : Nat) (bad : Bool) (acked : Nat) : Dev :=
  match d.sendingItem p with
  | none => d
  | some i =>
    let d := d.advanceTo t
    let d := if d.gateLate i then d.overrun p i else d
    (d.replayed p acked).endSent p bad i ((d.path.replay.getD p []).drop acked)

theorem exec_transmitComplete_eq (s : State) (p t : Nat) (bad : Bool) (acked : Nat) :
    exec (.transmitComplete p t bad acked) s = .next (s.settled (s.dev.transmitEnd p t bad acked)) := by
  change execTransmitComplete p t bad acked s = _
  unfold execTransmitComplete Dev.transmitEnd Dev.gateLate Dev.endSent Dev.copiesOver
  rfl

section
variable {p : Nat} (t acked : Nat) {bad : Bool} {i : Item}

theorem Dev.transmitEnd_of_sending {d : Dev} (hi : d.sendingItem p = some i) :
    d.transmitEnd p t bad acked = (d.lastCell p t acked i).endSent p bad i (d.unacked p t acked i) := by
  rw [Dev.transmitEnd, hi]
  simp only [Dev.gateLate_iff]
  rfl

variable {s : State} (hi : s.dev.sendingItem p = some i)
include hi

/-- A bad carriage code nullifies the TLP but on a fabric link (R173, R177). -/
theorem exec_transmitComplete_nullified (hbad : bad = true ∨ i.ccrc ≠ carriageCrc i.tlp)
    (hfab : (s.dev.lastCell p t acked i).isFabric p = false) :
    exec (.transmitComplete p t bad acked) s = .next (s.settled ((s.dev.lastCell p t acked i).nullify p i)) := by
  rw [exec_transmitComplete_eq, Dev.transmitEnd_of_sending t acked hi, Dev.endSent_bad _ hbad hfab]

variable (hgood : (bad = false ∧ i.ccrc = carriageCrc i.tlp) ∨ (s.dev.lastCell p t acked i).isFabric p = true)
include hgood

/-- A TLP that was sent well is held for a replay and ends (R177, R353). -/
theorem exec_transmitComplete_single (hcopies : i.copies = []) :
    exec (.transmitComplete p t bad acked) s =
      .next (s.settled (((s.dev.lastCell p t acked i).keepSent p i (s.dev.unacked p t acked i)).dropItem i)) := by
  rw [exec_transmitComplete_eq, Dev.transmitEnd_of_sending t acked hi, Dev.endSent_good _ hgood, if_pos (List.isEmpty_iff.2 hcopies)]

/-- Of a TLP with copies, the copy has been sent, and the TLP ends once all have (R177, R353). -/
theorem exec_transmitComplete_copies (hcopies : i.copies ≠ []) {j : Item}
    (hj : (((s.dev.lastCell p t acked i).keepSent p i (s.dev.unacked p t acked i)).copySent p i).item i.id = some j) :
    exec (.transmitComplete p t bad acked) s = .next (s.settled
      (let d := ((s.dev.lastCell p t acked i).keepSent p i (s.dev.unacked p t acked i)).copySent p i
       if j.copies.all fun c => c.st == .sent || c.st == .discarded then d.dropItem j else d)) := by
  rw [exec_transmitComplete_eq, Dev.transmitEnd_of_sending t acked hi, Dev.endSent_good _ hgood,
    if_neg (mt List.isEmpty_iff.1 hcopies), Dev.copiesOver_of_item hj]

end

/-! ### Cut-through underrun (R172) -/

theorem exec_ctUnderrun_cut (s : State) {p : Nat} {i : Item} (hi : s.dev.sendingItem p = some i) (hcut : i.cut = true) :
    exec (.ctUnderrun p) s = .next (s.settled
      (((((s.dev.emit (.nullified p i.tlp)).updItem i.id fun i => { i with stage := .resend, cut := false }).bump R.SWC_CT_UNDERRUN p
        i.stb).raise 0x487).schedHead p i.flow)) := by
  change execCtUnderrun p s = _
  simp [execCtUnderrun, State.eff, hi, hcut]

/-- Settles O34: one clause for each command, and for each end of a transmission. -/
theorem shedAndEgressComplete : Obligations.ShedAndEgressComplete := by
  refine fun s => ⟨?shed, ?selection, ?transmission, ?underrun⟩
  case shed => exact fun id i hi hstage hfirst hsafe => exec_shedGrant_first s hi hstage hfirst hsafe
  case selection =>
    exact fun p credits flt x hp hsafe =>
      ⟨exec_egressSelection_link s credits flt x hp hsafe, exec_egressSelection_p130 s credits flt x hp hsafe⟩
  case transmission =>
    exact fun p t acked bad i hi =>
      ⟨exec_transmitComplete_nullified t acked hi, fun hgood =>
        ⟨exec_transmitComplete_single t acked hi hgood, fun hcopies j => exec_transmitComplete_copies t acked hi hgood hcopies⟩⟩
  case underrun => exact fun p i hi hcut => exec_ctUnderrun_cut s hi hcut

end Sys2Proof.Machine
end

section
/-! Family 03_cycle_timebase: marks (O9, O10), the period estimate (O11), schedule entries (O12) and the registers of the timebase with the
end of a calibration window (O13). -/

namespace Sys2Proof.Machine

/-! ### Fields of registers -/

/-- A number of which the digits [lo + k − 1 : lo] are replaced, taken apart at those digits. -/
theorem sub_add_digits (n lo k v : Nat) :
    n - n / 2 ^ lo % 2 ^ k * 2 ^ lo + v * 2 ^ lo = n % 2 ^ lo + 2 ^ lo * (v + 2 ^ k * (n / 2 ^ lo / 2 ^ k)) := by
  have hn := Nat.mod_add_div n (2 ^ lo)
  have hq := Nat.mod_add_div (n / 2 ^ lo) (2 ^ k)
  generalize n / 2 ^ lo % 2 ^ k = m at hq ⊢
  generalize n / 2 ^ lo / 2 ^ k = q at hq ⊢
  rw [← hq] at hn
  generalize n % 2 ^ lo = a at hn ⊢
  rw [Nat.mul_add, Nat.mul_comm (2 ^ lo) m] at hn
  rw [Nat.mul_add, Nat.mul_comm (2 ^ lo) v]
  omega

/-- A field reads what was written to it. -/
theorem fld_setFld_same (w : Word) {hi lo v : Nat} (hlo : lo ≤ hi) (hhi : hi < 32) (hv : v < 2 ^ (hi + 1 - lo)) :
    fld (setFld w hi lo v) hi lo = v := by
  unfold fld setFld
  dsimp only
  generalize hk : hi + 1 - lo = k at hv ⊢
  have h32 : 2 ^ 32 = 2 ^ lo * 2 ^ (32 - lo) := by rw [← Nat.pow_add]; congr 1; omega
  have hdvd : 2 ^ k ∣ 2 ^ (32 - lo) := Nat.pow_dvd_pow 2 (by omega)
  rw [BitVec.toNat_ofNat, Nat.mod_eq_of_lt hv, sub_add_digits, h32, Nat.mod_mul_right_div_self, Nat.mod_mod_of_dvd _ hdvd,
    Nat.add_mul_div_left _ _ (Nat.two_pow_pos lo), Nat.div_eq_of_lt (Nat.mod_lt _ (Nat.two_pow_pos lo)), Nat.zero_add,
    Nat.add_mul_mod_self_left, Nat.mod_eq_of_lt hv]

theorem fld_lt (w : Word) (hi lo : Nat) : fld w hi lo < 2 ^ (hi + 1 - lo) := Nat.mod_lt _ (Nat.two_pow_pos _)

theorem Dev.rf_wf_same (d : Dev) (r : Reg) (i : Nat) {hi lo v : Nat} (hlo : lo ≤ hi) (hhi : hi < 32) (hv : v < 2 ^ (hi + 1 - lo)) :
    (d.wf r i hi lo v).rf r i hi lo = v := by
  rw [Dev.rf, Dev.wf, Dev.rd_wr_same, fld_setFld_same _ hlo hhi hv]

/-! ### Registers that are held apart -/

/-- Registers at offsets that differ within the page are held apart, whatever their instances. -/
theorem regKey_ne_of_off {p q i j a b : Nat} (ha : a < 4096) (hb : b < 4096) (h : a ≠ b) : regKey p i a ≠ regKey q j b := by
  unfold regKey
  omega

/-- The instances of a register are held apart. -/
theorem regKey_ne_of_inst (p a : Nat) {i j : Nat} (h : i ≠ j) : regKey p i a ≠ regKey p j a := by
  unfold regKey
  omega

/-- An accessor's copies of registers at different offsets are held apart. -/
theorem aKey_ne_of_off {p q x y a b : Nat} (ha : a < 4096) (hb : b < 4096) (h : a ≠ b) : aKey x p a ≠ aKey y q b := by
  unfold aKey
  omega

/-- A write of an accessor's own copy leaves its copies at other offsets alone. -/
theorem Dev.ard_awr_other (d : Dev) {x y : Nat} {r q : Reg} (w : Word) (hq : q.off < 4096) (hr : r.off < 4096) (h : q.off ≠ r.off) :
    (d.awr x r w).ard y q = d.ard y q := by
  unfold Dev.ard Dev.awr; exact Tbl.getD_put_other _ _ _ _ (aKey_ne_of_off hq hr h)

/-- The words of an entry are held apart. -/
theorem entW_off_ne {j k : Nat} (h : j ≠ k) : (R.CYC_ENT_W k).off ≠ (R.CYC_ENT_W j).off := by
  unfold R.CYC_ENT_W
  dsimp only
  omega

theorem entW_off_lt {k : Nat} (h : k < 4) : (R.CYC_ENT_W k).off < 4096 := by
  unfold R.CYC_ENT_W
  dsimp only
  omega

theorem Dev.rd_wr_entW_other (d : Dev) {i j k : Nat} (w : Word) (hj : j < 4) (hk : k < 4) (h : j ≠ k) :
    (d.wr (R.CYC_ENT_W j) i w).rd (R.CYC_ENT_W k) i = d.rd (R.CYC_ENT_W k) i :=
  d.rd_wr_other w (regKey_ne_of_off (entW_off_lt hk) (entW_off_lt hj) (entW_off_ne h))

theorem Dev.ard_awr_entW_other (d : Dev) {x j k : Nat} (w : Word) (hj : j < 4) (hk : k < 4) (h : j ≠ k) :
    (d.awr x (R.CYC_ENT_W j) w).ard x (R.CYC_ENT_W k) = d.ard x (R.CYC_ENT_W k) :=
  d.ard_awr_other w (entW_off_lt hk) (entW_off_lt hj) (entW_off_ne h)

/-! ### Domains -/

theorem Dev.cyc1_setCyc_same {d : Dev} {dom : Nat} (c : CycDom) (h : dom < d.cyc.doms.length) : (d.setCyc dom c).cyc1 dom = c := by
  simp [Dev.cyc1, Dev.setCyc, h]

theorem Dev.cyc1_raise (d : Dev) (n dom : Nat) : (d.raise n).cyc1 dom = d.cyc1 dom := by
  rw [Dev.cyc1, Dev.raise_cyc]
  rfl

/-! ### What a raise counts -/

/-- What a part of a raise may do: it counts no raise, and what follows it are the event controller's own EV_STORM and EVQ_OVERFLOW
(R432, R433). -/
def Dev.FollowsOnly (d : Dev) (r : Dev × List (Nat × Word)) : Prop :=
  r.1.ev.count = d.ev.count ∧ ∀ f ∈ r.2, f.1 = 0x010 ∨ f.1 = 0x011

theorem Dev.settle_count (d : Dev) : d.settle.ev.count = d.ev.count := by
  rw [Dev.settle_ev]

theorem Dev.pbaSet_count (d : Dev) (s v : Nat) : (d.pbaSet s v).ev.count = d.ev.count := by
  unfold Dev.pbaSet; split <;> rfl

theorem Dev.fmVector_count (d : Dev) (v : Nat) : (d.fmVector v).ev.count = d.ev.count := by
  unfold Dev.fmVector; split
  · exact d.pbaSet_count _ v
  · rfl

theorem Dev.notify_count (d : Dev) : d.notify.ev.count = d.ev.count := by
  unfold Dev.notify; dsimp only; split <;> rfl

theorem Dev.pushFm_count (d : Dev) (n : Nat) (r : EvRec) : (d.pushFm n r).1.ev.count = d.ev.count := by
  unfold Dev.pushFm
  simp only [Dev.fmVector_count]
  split
  · rw [Dev.notify_count]
  · rfl

theorem Dev.deliverMgmt_followsOnly (d : Dev) (n : Nat) (i : RaiseInfo) : d.FollowsOnly (d.deliverMgmt n i) := by
  unfold Dev.deliverMgmt
  dsimp only
  generalize EvRec.mk n ((evSev n).getD 0) i.forced i.stable 0 i.detail i.time = r
  have hfm : (if d.toFm n = true then d.pushFm n r else (d, false)).1.ev.count = d.ev.count := by
    split
    · exact d.pushFm_count n r
    · rfl
  refine ⟨?_, fun f hf => .inr ?_⟩
  · generalize (if d.toFm n = true then d.pushFm n r else (d, false)) = f at hfm ⊢
    dsimp only
    split <;> exact hfm
  · have hovf : ∀ b : Bool, ∀ f ∈ (if b = true then [((0x011 : Nat), (0 : Word))] else []), f.1 = 0x011 := by decide
    exact (List.mem_append.1 hf).elim (hovf _ f) (hovf _ f)

theorem Dev.deliver_followsOnly (d : Dev) (arr n : Nat) : d.FollowsOnly (d.deliver arr n) := by
  unfold Dev.deliver
  dsimp only
  generalize hx : ({ d with ev := { d.ev with storm := Tbl.put d.ev.storm (evKey arr n) ⟨0, 0, 0⟩ (d.stormStep arr n).2.1 } } : Dev) = x
  have hcount : x.ev.count = d.ev.count := by rw [← hx]
  generalize hl : (if (d.stormStep arr n).2.2 = true then
    [((0x010 : Nat), word (n + if arr < 64 then 2048 * arr + 131072 else 0))] else []) = l
  have hstorm : ∀ f ∈ l, f.1 = 0x010 ∨ f.1 = 0x011 := by
    rw [← hl]
    split <;> simp
  split
  · exact ⟨hcount, hstorm⟩
  · split
    · obtain ⟨hm, hfol⟩ := x.deliverMgmt_followsOnly n (d.ev.info.getD n ⟨0, 0, none, false⟩)
      exact ⟨hm.trans hcount, fun f hf => (List.mem_append.1 hf).elim (hstorm f) (hfol f)⟩
    · refine ⟨?_, hstorm⟩
      unfold Dev.deliverStable
      split
      · exact hcount
      · exact (x.pbaSet_count _ _).trans hcount

theorem Dev.raiseIn_followsOnly (d : Dev) (arr n : Nat) : d.FollowsOnly (d.raiseIn arr n) := by
  unfold Dev.raiseIn
  split
  · split <;> exact ⟨rfl, by simp⟩
  · dsimp only
    split
    · exact Dev.deliver_followsOnly _ arr n
    · exact ⟨rfl, by simp⟩

/-- A raise in each of several arrays, with what follows it. -/
def Dev.raiseIns (r : Dev × List (Nat × Word)) (arrs : List Nat) (n : Nat) : Dev × List (Nat × Word) :=
  arrs.foldl (fun acc arr => ((acc.1.raiseIn arr n).1, acc.2 ++ (acc.1.raiseIn arr n).2)) r

theorem Dev.raiseIns_followsOnly (n : Nat) (arrs : List Nat) {d : Dev} {r : Dev × List (Nat × Word)} (h : d.FollowsOnly r) :
    d.FollowsOnly (Dev.raiseIns r arrs n) := by
  induction arrs generalizing r with
  | nil => exact h
  | cons arr arrs ih =>
    obtain ⟨hc, hf⟩ := h
    obtain ⟨hc', hf'⟩ := r.1.raiseIn_followsOnly arr n
    exact ih ⟨hc'.trans hc, fun f hm => (List.mem_append.1 hm).elim (hf f) (hf' f)⟩

/-- The events of the controller that follow a raise are raised in the management array in turn. -/
def Dev.raiseFollow (fuel : Nat) (d : Dev) (follow : List (Nat × Word)) : Dev :=
  follow.foldl (fun d f => Dev.raiseArrs fuel d [64] f.1 ⟨f.2, d.now, none, false⟩) d

/-- A raise of a defined source adds 1 to its count (R421), and what follows it are events of the controller. -/
theorem Dev.raiseArrs_succ (fuel : Nat) (d : Dev) (arrs : List Nat) {n : Nat} (i : RaiseInfo) (h : (evSev n).isSome = true) :
    ∃ (e : Dev) (follow : List (Nat × Word)),
      Dev.raiseArrs (fuel + 1) d arrs n i = (Dev.raiseFollow fuel e follow).settle ∧
      e.ev.count = Tbl.put d.ev.count n 0 ((d.ev.count.getD n 0 + 1) % 65536) ∧ ∀ f ∈ follow, f.1 = 0x010 ∨ f.1 = 0x011 := by
  obtain ⟨sev, hsev⟩ := Option.isSome_iff_exists.1 h
  let d' : Dev := { d with ev := { d.ev with
    count := Tbl.put d.ev.count n 0 ((d.ev.count.getD n 0 + 1) % 65536)
    info := if arrs.contains 64 then Tbl.put d.ev.info n ⟨0, 0, none, false⟩ i else d.ev.info } }
  obtain ⟨hc, hf⟩ := Dev.raiseIns_followsOnly n arrs (d := d'.tickRaise n arrs) (r := (d'.tickRaise n arrs, [])) ⟨rfl, by simp⟩
  refine ⟨_, _, ?_, hc, hf⟩
  rw [Dev.raiseArrs, hsev]
  rfl

section
variable {m : Nat} (h10 : m ≠ 0x010) (h11 : m ≠ 0x011)
include h10 h11

/-- What follows a raise keeps the count of every source but the controller's, where each raise at its depth does. -/
theorem Dev.raiseFollow_count_other {fuel : Nat}
    (ih : ∀ (d : Dev) (arrs : List Nat) (n : Nat) (i : RaiseInfo), m ≠ n →
      (Dev.raiseArrs fuel d arrs n i).ev.count.getD m 0 = d.ev.count.getD m 0)
    {follow : List (Nat × Word)} (hfol : ∀ f ∈ follow, f.1 = 0x010 ∨ f.1 = 0x011) (d : Dev) :
    (Dev.raiseFollow fuel d follow).ev.count.getD m 0 = d.ev.count.getD m 0 := by
  induction follow generalizing d with
  | nil => rfl
  | cons f follow ihl =>
    have hne : m ≠ f.1 := by
      rcases hfol f List.mem_cons_self with h | h
      · rw [h]
        exact h10
      · rw [h]
        exact h11
    exact (ihl (fun g hg => hfol g (List.mem_cons_of_mem f hg)) _).trans (ih d [64] f.1 _ hne)

/-- A raise keeps the count of every source but its own and the controller's. -/
theorem Dev.raiseArrs_count_other (fuel : Nat) (d : Dev) (arrs : List Nat) (n : Nat) (i : RaiseInfo) (hm : m ≠ n) :
    (Dev.raiseArrs fuel d arrs n i).ev.count.getD m 0 = d.ev.count.getD m 0 := by
  induction fuel generalizing d arrs n i with
  | zero => rfl
  | succ fuel ih =>
    cases hsev : evSev n with
    | none => rw [Dev.raiseArrs, hsev]
    | some sev =>
      obtain ⟨e, follow, heq, hcount, hfol⟩ := Dev.raiseArrs_succ fuel d arrs i (Option.isSome_iff_exists.2 ⟨sev, hsev⟩)
      rw [heq, Dev.settle_count, Dev.raiseFollow_count_other h10 h11 ih hfol, hcount, Tbl.getD_put_other _ _ _ _ hm]

/-- A raise of a defined source but the controller's own adds 1 to its count, modulo 2^16 (R421). -/
theorem Dev.raiseArrs_count_same (fuel : Nat) (d : Dev) (arrs : List Nat) (i : RaiseInfo) (h : (evSev m).isSome = true) :
    (Dev.raiseArrs (fuel + 1) d arrs m i).ev.count.getD m 0 = (d.ev.count.getD m 0 + 1) % 65536 := by
  obtain ⟨e, follow, heq, hcount, hfol⟩ := Dev.raiseArrs_succ fuel d arrs i h
  rw [heq, Dev.settle_count, Dev.raiseFollow_count_other h10 h11 (Dev.raiseArrs_count_other h10 h11 fuel) hfol, hcount,
    Tbl.getD_put_same]

theorem Dev.raise_count_same (d : Dev) (h : (evSev m).isSome = true) :
    (d.raise m).ev.count.getD m 0 = (d.ev.count.getD m 0 + 1) % 65536 := by
  rw [Dev.raise, Dev.raiseFor, Dev.raiseWith]
  exact Dev.raiseArrs_count_same h10 h11 3 d _ _ h

end

/-! ### Marks -/

/-- A pin takes the level of an edge. -/
def Dev.pinEdge (d : Dev) (pin : Nat) (rising : Bool) : Dev :=
  let levels := (bitsOf 8 d.cyc.pins).filter (· != pin)
  { d with cyc := { d.cyc with pins := ofBits (if rising then pin :: levels else levels) } }

/-- A domain that takes its marks from an edge of a pin is marked, and may wake. -/
def Dev.edgeMark (pin : Nat) (rising : Bool) (t : Nat) (d : Dev) (dom : Nat) : Dev :=
  if d.rf R.CYC_DOM_CTRL dom 2 1 = 1 ∧ d.rf R.CYC_DOM_CTRL dom 5 3 = pin ∧ d.rf R.CYC_DOM_CTRL dom 6 6 = (if rising then 0 else 1)
  then (d.mark dom t).wake 3 dom else d

theorem exec_cycInEdge (s : State) {pin : Nat} (rising : Bool) (t : Nat) (hpin : pin < 8) :
    exec (.cycInEdge pin rising t) s =
      .next (s.settled ((List.range 8).foldl (Dev.edgeMark pin rising t) ((s.dev.advanceTo t).pinEdge pin rising))) := by
  change execCycInEdge pin rising t s = _
  unfold execCycInEdge
  rw [Nat.mod_eq_of_lt hpin]
  cases rising <;> rfl

/-- A message is formed as R68 says, and arrives on the upstream port that is the source of the enabled domain that it names. -/
def Dev.TakesMark (d : Dev) (port : Nat) (t : Tlp) : Prop :=
  let b13 := t.vdw / 256 % 256
  t.rtype = 4 ∧ t.vid = vendorId ∧ t.data = [] ∧ b13 < 8 ∧ t.vdw / 65536 = 0 ∧ d.isUp port = true ∧
    d.rf R.CYC_DOM_CTRL (b13 % 8) 2 1 = 2 ∧ d.rf R.CYC_DOM_CTRL (b13 % 8) 15 8 = port ∧ d.rb R.CYC_DOM_CTRL (b13 % 8) 0 = true

theorem Dev.not_takesMark_iff (d : Dev) (port : Nat) (t : Tlp) :
    ¬ d.TakesMark port t ↔
      t.rtype ≠ 4 ∨ t.vid ≠ vendorId ∨ t.data ≠ [] ∨ 8 ≤ t.vdw / 256 % 256 ∨ t.vdw / 65536 ≠ 0 ∨ d.isUp port = false ∨
        d.rf R.CYC_DOM_CTRL (t.vdw / 256 % 256 % 8) 2 1 ≠ 2 ∨ d.rf R.CYC_DOM_CTRL (t.vdw / 256 % 256 % 8) 15 8 ≠ port ∨
        d.rb R.CYC_DOM_CTRL (t.vdw / 256 % 256 % 8) 0 = false := by
  simp only [Dev.TakesMark, Classical.not_and_iff_not_or_not, Nat.not_lt, Bool.not_eq_true, ne_eq]

section
variable {d : Dev} {port : Nat} {t : Tlp} {time : Nat}

theorem Dev.cycleVdm_of_other (h : t.vdw % 256 ≠ 0xc1) : d.cycleVdm port t time = d.advanceTo time := by
  unfold Dev.cycleVdm
  exact if_pos h

variable (h : t.vdw % 256 = 0xc1)
include h

theorem Dev.cycleVdm_of_takesMark (hm : (d.advanceTo time).TakesMark port t) :
    d.cycleVdm port t time = (d.advanceTo time).mark (t.vdw / 256 % 256) time := by
  obtain ⟨hrt, hvid, hdata, hlt, hz, hup, hsrc, hport, hon⟩ := hm
  rw [Nat.mod_eq_of_lt hlt] at hsrc hport hon
  unfold Dev.cycleVdm
  simp [h, hrt, hvid, hdata, hlt, hz, hup, hsrc, hport, hon, Dev.domCtl, Dev.domOn, Nat.mod_eq_of_lt hlt]

theorem Dev.cycleVdm_of_not_takesMark (hm : ¬ (d.advanceTo time).TakesMark port t) :
    d.cycleVdm port t time = (d.advanceTo time).markDiscard (t.vdw / 256 % 256 % 8) := by
  unfold Dev.cycleVdm
  dsimp only
  rw [if_neg (fun hne => hne h), if_neg]
  intro hform
  simp only [Bool.and_eq_true, beq_iff_eq, decide_eq_true_eq, List.isEmpty_iff, Dev.domOn, Dev.domCtl] at hform
  obtain ⟨⟨⟨⟨⟨⟨⟨⟨hrt, hvid⟩, hdata⟩, hlt⟩, hz⟩, hup⟩, hsrc⟩, hport⟩, hon, -⟩ := hform
  exact hm ⟨hrt, hvid, hdata, hlt, hz, hup, hsrc, hport, hon⟩

end

/-- The device in which the last message of a link arrived at an instant (R457). -/
def Dev.heardAt (d : Dev) (time : Nat) : Dev := { d with pwr := { d.pwr with lastRx := max d.now time } }

/-- The credits of a message that a port engine takes return, whatever becomes of it. -/
theorem exec_cycleMarkVdm (s : State) {port : Nat} {t : Tlp} (time : Nat) (hlive : s.dev.linkLive port = true)
    (hdisc : s.dev.discards port = false) (hvdm : isCycleVdm t = true) :
    exec (.cycleMarkVdm port t time) s = .next (s.settled (((s.dev.heardAt time).cycleVdm port t time).creditBack port t)) := by
  change execCycleMarkVdm port t time s = _
  simp only [execCycleMarkVdm, State.eff, hlive, hdisc, hvdm]
  rfl

theorem exec_ptmMark (s : State) {dom : Nat} (master t : Nat) (hdom : dom < 8) :
    exec (.ptmMark dom master t) s = .next (s.pinned (
      if s.dev.rf R.CYC_DOM_CTRL dom 2 1 = 3 ∧ s.dev.ptmValid (s.dev.rf R.CYC_DOM_CTRL dom 15 8) ∧
          ((master : Int) - (s.dev.rd64 R.CYC_PTM_BASE_LO R.CYC_PTM_BASE_HI dom : Int)) %
            (s.dev.rd64 R.CYC_NOM_PERIOD_LO R.CYC_NOM_PERIOD_HI dom : Int) = 0
      then s.dev.mark dom t else s.dev)) := by
  change execPtmMark dom master t s = _
  unfold execPtmMark
  rw [Nat.mod_eq_of_lt hdom]
  rfl

/-- A domain loses its mark at an instant: HOLDOVER with LOSS, and a synthetic mark (R73). -/
def Dev.loseMark (d : Dev) (dom t : Nat) : Dev :=
  ((d.setCyc dom { d.cyc1 dom with state := .holdover, loss := true, synth := 0 }).raise (0x041 + 8 * dom)).synthetic dom t

theorem exec_markLossTimeout (s : State) {dom t0 : Nat} (hdom : dom < 8)
    (hstate : (s.dev.cyc1 dom).state = .acquire ∨ (s.dev.cyc1 dom).state = .locked) (hlast : (s.dev.cyc1 dom).lastReal = some t0) :
    exec (.markLossTimeout dom) s = .next (s.pinned (
      (s.dev.advanceTo (t0 + cdiv (3 * (s.dev.cyc1 dom).p) 512)).loseMark dom (t0 + cdiv (3 * (s.dev.cyc1 dom).p) 512))) := by
  change execMarkLossTimeout dom s = _
  unfold execMarkLossTimeout
  rw [Nat.mod_eq_of_lt hdom, State.act_eq]
  dsimp only
  rw [hlast]
  rcases hstate with h | h <;> rw [h] <;> rfl

theorem exec_syntheticMark (s : State) {dom : Nat} (hdom : dom < 8)
    (hstate : (s.dev.cyc1 dom).state = .holdover ∨ (s.dev.cyc1 dom).state = .freerun) :
    exec (.syntheticMark dom) s = .next (s.pinned (
      let t := (s.dev.cyc1 dom).tStart + cdiv (s.dev.cycP dom) 256
      (s.dev.advanceTo t).synthetic dom t)) := by
  change execSyntheticMark dom s = _
  unfold execSyntheticMark
  rw [Nat.mod_eq_of_lt hdom, State.act_eq]
  dsimp only
  rcases hstate with h | h <;> rw [h]

theorem exec_cycleSaturate (s : State) {dom : Nat} (hdom : dom < 8) (hrun : (s.dev.cyc1 dom).running = true)
    (hstate : (s.dev.cyc1 dom).state = .acquire ∨ (s.dev.cyc1 dom).state = .locked) :
    exec (.cycleSaturate dom) s = .next (s.pinned (
      let d := (s.dev.advanceTo ((s.dev.cyc1 dom).tStart + cdiv (s.dev.cyc1 dom).p 256)).entDue dom
      d.setCyc dom { d.cyc1 dom with saturated := true })) := by
  change execCycleSaturate dom s = _
  unfold execCycleSaturate
  rw [Nat.mod_eq_of_lt hdom, State.act_eq]
  dsimp only
  rw [if_pos ⟨hrun, hstate⟩]

/-- Settles O9: one clause for each command that carries marks; a message marks its domain exactly where R68 has it (`Dev.TakesMark`). -/
theorem markCommandsComplete : Obligations.MarkCommandsComplete := by
  refine fun s => ⟨?edge, ?message, ?ptm, ?loss, ?synthetic, ?saturate⟩
  case edge => exact fun pin rising t hpin => exec_cycInEdge s rising t hpin
  case message =>
    intro port time t hlive hdisc hvdm d b13
    have hexec := exec_cycleMarkVdm s time hlive hdisc hvdm
    refine ⟨fun h => ?_, fun h => ⟨?_, fun hbad => ?_⟩⟩
    · rw [hexec, Dev.cycleVdm_of_other h]
      rfl
    · rintro ⟨hrt, hvid, hdata, hlt, hz, hup, hsrc, hport, hon⟩
      have hb13 : t.vdw / 256 % 256 % 8 = b13 := Nat.mod_eq_of_lt hlt
      rw [hexec, Dev.cycleVdm_of_takesMark h]
      · rfl
      · rw [Dev.TakesMark, hb13]
        exact ⟨hrt, hvid, hdata, hlt, hz, hup, hsrc, hport, hon⟩
    · have hno : ¬ ((s.dev.heardAt time).advanceTo time).TakesMark port t := (Dev.not_takesMark_iff d port t).2 hbad
      rw [hexec, Dev.cycleVdm_of_not_takesMark h hno]
      rfl
  case ptm => exact fun dom master t hdom => exec_ptmMark s master t hdom
  case loss => exact fun dom t0 hdom hstate hlast => exec_markLossTimeout s hdom hstate hlast
  case synthetic => exact fun dom hdom hstate => exec_syntheticMark s hdom hstate
  case saturate => exact fun dom hdom hrun hstate => exec_cycleSaturate s hdom hrun hstate

/-- A mark that comes too soon is discarded, and nothing else (R69). -/
theorem Dev.mark_of_tooSoon {d : Dev} {dom t t0 : Nat} (hon : ((d.runDue t dom).advanceTo t).domOn dom = true)
    (hlast : (((d.runDue t dom).advanceTo t).cyc1 dom).lastReal = some t0)
    (hsoon : t - ((d.runDue t dom).advanceTo t).rf R.CYC_MARK_DELAY dom 15 0 < t0 + 1000) :
    d.mark dom t = ((d.runDue t dom).advanceTo t).markDiscard dom := by
  simp [Dev.mark, hon, hlast, hsoon]

/-- A discard keeps every register but CNT_DISCARD of its domain. -/
theorem Dev.markDiscard_rd_other (d : Dev) {dom i : Nat} {r : Reg}
    (h : regKey r.page i r.off ≠ regKey 0x20 dom R.CYC_CNT_DISCARD.off) : (d.markDiscard dom).rd r i = d.rd r i := by
  rw [Dev.markDiscard, Dev.raise_rd]
  exact d.rd_bumpBy_other 1 none h

theorem Dev.markDiscard_count (d : Dev) (dom : Nat) :
    (d.markDiscard dom).rn R.CYC_CNT_DISCARD dom = (d.rn R.CYC_CNT_DISCARD dom + 1) % 4294967296 := by
  rw [Dev.markDiscard, Dev.rn, Dev.raise_rd]
  exact d.rn_bump_same R.CYC_CNT_DISCARD dom none

theorem Dev.markDiscard_cyc (d : Dev) (dom : Nat) : (d.markDiscard dom).cyc = d.cyc := by
  simp [Dev.markDiscard]

/-- Settles O10: the mark is a discard (`Dev.mark_of_tooSoon`), which counts and raises and keeps the rest. -/
theorem markTooSoonIsDiscarded : Obligations.MarkTooSoonIsDiscarded := by
  intro d dom t t0 e hon hlast hsoon
  rw [Dev.mark_of_tooSoon hon hlast hsoon]
  exact ⟨rfl, e.markDiscard_count dom, e.markDiscard_cyc dom, fun r i h => e.markDiscard_rd_other h⟩

/-! ### The period estimate (R70) -/

/-- The difference of an interval of i ns from the estimate, in units of P. -/
def Dev.intervalDiff (d : Dev) (dom i : Nat) : Int := 256 * (i : Int) - ((d.cyc1 dom).p : Int)

/-- The difference that CYC_TOL tolerates, times 2^16. -/
def Dev.tolerated (d : Dev) (dom : Nat) : Nat := (d.cyc1 dom).p * d.rf R.CYC_TOL dom 15 0

/-- An interval in tolerance: P moves by the difference shifted right by GAIN, which rounds down whichever sign it has. -/
def Dev.trackPeriod (d : Dev) (dom i : Nat) : Dev :=
  d.setCyc dom { d.cyc1 dom with
    p := (((d.cyc1 dom).p : Int) + Int.fdiv (d.intervalDiff dom i) (2 ^ d.rf R.CYC_DOM_CTRL dom 19 16)).toNat
    outl := 0, intol := min ((d.cyc1 dom).intol + 1) 15 }

/-- An outlier. -/
def Dev.countOutlier (d : Dev) (dom : Nat) : Dev :=
  d.setCyc dom { d.cyc1 dom with outl := (d.cyc1 dom).outl + 1, intol := 0 }

/-- The outlier that reaches OUTLIER_LIMIT: P is the interval, in ACQUIRE. -/
def Dev.takePeriod (d : Dev) (dom i : Nat) : Dev :=
  d.setCyc dom { d.cyc1 dom with p := 256 * i, outl := 0, intol := 0, state := .acquire }

theorem Dev.estimate_eq (d : Dev) (dom i : Nat) :
    d.estimate dom i =
      if (d.intervalDiff dom i).natAbs * 65536 ≤ d.tolerated dom then d.trackPeriod dom i
      else if d.rf R.CYC_DOM_CTRL dom 27 24 ≠ 0 ∧ d.rf R.CYC_DOM_CTRL dom 27 24 ≤ (d.cyc1 dom).outl + 1 then
        (d.takePeriod dom i).raise (0x045 + 8 * dom)
      else d.countOutlier dom := by
  have hdiff : ((256 * i : Nat) : Int) - ((d.cyc1 dom).p : Int) = d.intervalDiff dom i := by rw [Int.natCast_mul]; rfl
  have hgain : ((2 ^ d.domCtl dom 19 16 : Nat) : Int) = 2 ^ d.rf R.CYC_DOM_CTRL dom 19 16 := by rw [Int.natCast_pow]; rfl
  have hpos : (0 : Int) ≤ 2 ^ d.rf R.CYC_DOM_CTRL dom 19 16 := hgain ▸ Int.natCast_nonneg _
  unfold Dev.estimate Dev.trackPeriod
  simp only [hdiff, hgain, Int.fdiv_eq_ediv_of_nonneg _ hpos]
  rfl

section
variable {d : Dev} {dom i : Nat}

theorem Dev.estimate_of_inTolerance (h : (d.intervalDiff dom i).natAbs * 65536 ≤ d.tolerated dom) :
    d.estimate dom i = d.trackPeriod dom i := by
  rw [Dev.estimate_eq, if_pos h]

variable (h : d.tolerated dom < (d.intervalDiff dom i).natAbs * 65536)
include h

theorem Dev.estimate_of_outlier (hlim : d.rf R.CYC_DOM_CTRL dom 27 24 = 0 ∨ (d.cyc1 dom).outl + 1 < d.rf R.CYC_DOM_CTRL dom 27 24) :
    d.estimate dom i = d.countOutlier dom := by
  have hbelow : ¬ (d.rf R.CYC_DOM_CTRL dom 27 24 ≠ 0 ∧ d.rf R.CYC_DOM_CTRL dom 27 24 ≤ (d.cyc1 dom).outl + 1) :=
    fun ⟨hne, hle⟩ => hlim.elim hne (Nat.not_lt.2 hle)
  rw [Dev.estimate_eq, if_neg (Nat.not_le.2 h), if_neg hbelow]

theorem Dev.estimate_of_outlierLimit (hne : d.rf R.CYC_DOM_CTRL dom 27 24 ≠ 0)
    (hle : d.rf R.CYC_DOM_CTRL dom 27 24 ≤ (d.cyc1 dom).outl + 1) :
    d.estimate dom i = (d.takePeriod dom i).raise (0x045 + 8 * dom) := by
  rw [Dev.estimate_eq, if_neg (Nat.not_le.2 h), if_pos ⟨hne, hle⟩]

end

/-- OUTLIER_RESET is a defined source of every domain. -/
theorem evSev_outlierReset : ∀ dom < 8, (evSev (0x045 + 8 * dom)).isSome = true := by decide

/-- Settles O11: the three outcomes of the estimator. -/
theorem estimateFollowsTheInterval : Obligations.EstimateFollowsTheInterval := by
  intro d dom i hdom hlen c e lim diff
  have he : e = (d.estimate dom i).cyc1 dom := rfl
  refine ⟨fun h => ?_, fun h hlim => ?_, fun h hne hle => ?_⟩
  · rw [he, Dev.estimate_of_inTolerance h, Dev.trackPeriod, Dev.cyc1_setCyc_same _ hlen]
    exact ⟨rfl, rfl, rfl, rfl⟩
  · rw [he, Dev.estimate_of_outlier h hlim, Dev.countOutlier, Dev.cyc1_setCyc_same _ hlen]
    exact ⟨rfl, rfl, rfl, rfl⟩
  · rw [he, Dev.estimate_of_outlierLimit h hne hle, Dev.cyc1_raise, Dev.takePeriod, Dev.cyc1_setCyc_same _ hlen]
    exact ⟨rfl, rfl, rfl, rfl, Dev.raise_count_same (by omega) (by omega) _ (evSev_outlierReset dom hdom)⟩

/-! ### Entries that fall due (R75) -/

theorem Dev.entFalls_of_due {d : Dev} {dom idx action : Nat} (hdom : dom < 8) (hrun : (d.cyc1 dom).running = true)
    (hexec : d.execRuns = true) (hleft : (d.entLeft dom).contains idx = true) (haction : fld (d.ent dom idx 0) 19 16 = action) :
    d.entFalls dom idx action = d.runDue (max d.now (d.entDueAt dom idx)) dom := by
  unfold Dev.entFalls
  rw [Nat.mod_eq_of_lt hdom]
  exact if_pos ⟨hrun, hexec, hleft, haction⟩

/-! ### What an entry does (R82) -/

/-- An entry is done for this cycle. -/
def Dev.entDone (d : Dev) (dom i : Nat) : Dev := d.setCyc dom { d.cyc1 dom with done := (d.cyc1 dom).done ++ [i] }

/-- The action of an entry that is done, by its code. -/
def Dev.entAct (d : Dev) (dom i : Nat) (atMark : Bool) : Nat → Dev
  | 1 => d.actGate dom i atMark
  | 2 => d.actCalWin dom i
  | 3 => d.actSnap dom i
  | 4 => d.actProfile dom i
  | 5 => d.actArm dom i
  | _ => d

theorem Dev.entRun_eq {d : Dev} {dom i action : Nat} (atMark : Bool) (h : fld (d.ent dom i 0) 19 16 = action) :
    d.entRun dom i atMark = (d.entDone dom i).entAct dom i atMark action := by
  rw [← h]
  rfl

/-- An action for a stable executes where the stable is bound to the domain and has joined its cycle (R83). -/
theorem Dev.joined_iff (d : Dev) (dom s : Nat) : d.joined dom s = true ↔ d.domOf s = dom ∧ s ∉ d.cyc.unjoined := by
  simp [Dev.joined]

/-- An action may execute for whoever owns what it names: an owner must have joined the domain's cycle. -/
def Dev.ownerJoined (d : Dev) (dom : Nat) (owner : Option Nat) : Bool :=
  match owner with
  | some s => d.joined dom s
  | none => true

theorem Dev.ownerJoined_of_all {d : Dev} {dom : Nat} {owner : Option Nat} (h : ∀ s, owner = some s → d.joined dom s = true) :
    d.ownerJoined dom owner = true := by
  cases owner with
  | none => rfl
  | some s => exact h s rfl

theorem Dev.ownerJoined_of_not {d : Dev} {dom : Nat} {owner : Option Nat} (h : ∃ s, owner = some s ∧ ¬ d.joined dom s = true) :
    d.ownerJoined dom owner = false := by
  obtain ⟨s, rfl, hj⟩ := h
  exact Bool.eq_false_iff.2 hj

/-! ### GATE -/

theorem Dev.actGate_of_not_joined {d : Dev} {dom i : Nat} (atMark : Bool) (h : ¬ d.joined dom (fld (d.ent dom i 1) 5 0) = true) :
    d.actGate dom i atMark = d.entSkip dom := by
  simp [Dev.actGate, h]

/-- Of the registers, a gate load changes the gate mask at its port alone. -/
theorem Dev.gateLoad_regs (d : Dev) (s p mask : Nat) (entry : Option (Nat × Nat)) :
    (d.gateLoad s p mask entry).regs = (d.gateMaskSet s p mask).regs := by
  refine foldl_keeps (P := fun e : Dev => e.regs = (d.gateMaskSet s p mask).regs) (fun e tc he => ?_) _ _ rfl
  split
  · exact he
  · split
    · exact he
    · exact he

theorem Dev.gateLoad_rd (d : Dev) (s p mask : Nat) (entry : Option (Nat × Nat)) (r : Reg) (i : Nat) :
    (d.gateLoad s p mask entry).rd r i = (d.gateMaskSet s p mask).rd r i := by
  unfold Dev.rd
  rw [Dev.gateLoad_regs]

/-- The gate mask of a stable in the register file at a port (R358). -/
def Dev.gateReg (d : Dev) (s p : Nat) : Nat := d.rf (R.SCH_GATE (s / 4)) p (8 * (s % 4) + 7) (8 * (s % 4))

theorem Dev.gateReg_gateLoad_same (d : Dev) (s p : Nat) {mask : Nat} (hmask : mask < 256) (entry : Option (Nat × Nat)) :
    (d.gateLoad s p mask entry).gateReg s p = mask := by
  rw [Dev.gateReg, Dev.rf, Dev.gateLoad_rd]
  exact d.rf_wf_same _ p (by omega) (by omega) (by rw [show 8 * (s % 4) + 7 + 1 - 8 * (s % 4) = 8 by omega]; exact hmask)

theorem Dev.gateReg_gateLoad_other (d : Dev) (s : Nat) {p q : Nat} (mask : Nat) (entry : Option (Nat × Nat)) (h : q ≠ p) :
    (d.gateLoad s p mask entry).gateReg s q = d.gateReg s q := by
  rw [Dev.gateReg, Dev.rf, Dev.gateLoad_rd, Dev.gateMaskSet, Dev.wf, Dev.rd_wr_other _ _ (regKey_ne_of_inst _ _ h)]
  rfl

/-- A gate load keeps the entries. -/
theorem Dev.ent_gateLoad (d : Dev) {s : Nat} (hs : s < 64) (p mask : Nat) (entry : Option (Nat × Nat)) (dom i : Nat) {k : Nat}
    (hk : k < 4) : (d.gateLoad s p mask entry).ent dom i k = d.ent dom i k := by
  have hgate : (R.SCH_GATE (s / 4)).off < 4096 := by unfold R.SCH_GATE; dsimp only; omega
  have hoff : (R.CYC_ENT_W k).off ≠ (R.SCH_GATE (s / 4)).off := by unfold R.SCH_GATE R.CYC_ENT_W; dsimp only; omega
  rw [Dev.ent, Dev.gateLoad_rd]
  exact Dev.rd_wr_other d _ (regKey_ne_of_off (entW_off_lt hk) hgate hoff)

/-- A GATE action loads the mask of its entry at each of several ports. -/
def Dev.gateLoads (d : Dev) (dom i s : Nat) (entry : Option (Nat × Nat)) (ports : List Nat) : Dev :=
  ports.foldl (fun d p => d.gateLoad s p (fld (d.ent dom i 2) 7 0) entry) d

/-- After the loads the mask stands at each of the ports, and where it stood already. -/
theorem Dev.gateReg_gateLoads (dom i : Nat) {s : Nat} (hs : s < 64) (entry : Option (Nat × Nat)) (p : Nat) (ports : List Nat) (d : Dev)
    (h : p ∈ ports ∨ d.gateReg s p = fld (d.ent dom i 2) 7 0) :
    (d.gateLoads dom i s entry ports).gateReg s p = fld (d.ent dom i 2) 7 0 := by
  induction ports generalizing d with
  | nil => exact h.resolve_left List.not_mem_nil
  | cons q ports ih =>
    have hent := d.ent_gateLoad hs q (fld (d.ent dom i 2) 7 0) entry dom i (k := 2) (by decide)
    have hstep := ih (d.gateLoad s q (fld (d.ent dom i 2) 7 0) entry)
    rw [hent] at hstep
    refine hstep ?_
    by_cases hq : p = q
    · subst hq
      exact .inr (d.gateReg_gateLoad_same s p (fld_lt _ 7 0) entry)
    · rw [d.gateReg_gateLoad_other s _ entry hq]
      exact h.imp_left fun hmem => (List.mem_cons.1 hmem).resolve_left hq

/-- The ports that a GATE entry names: one, or all. -/
def gatePorts (t : Nat) : List Nat := if t = 255 then List.range 131 else if t < 131 then [t] else []

theorem mem_gatePorts {t p : Nat} (hp : p < 131) (h : t = p ∨ t = 255) : p ∈ gatePorts t := by
  unfold gatePorts
  rcases h with rfl | rfl
  · rw [if_neg (by omega), if_pos hp]
    exact List.mem_singleton_self t
  · rw [if_pos rfl]
    exact List.mem_range.2 hp

theorem Dev.actGate_of_joined {d : Dev} {dom i : Nat} (atMark : Bool) (h : d.joined dom (fld (d.ent dom i 1) 5 0) = true) :
    d.actGate dom i atMark =
      d.gateLoads dom i (fld (d.ent dom i 1) 5 0) (if atMark then none else some (dom, i)) (gatePorts (fld (d.ent dom i 1) 15 8)) := by
  simp only [Dev.actGate, h]
  rfl

theorem Dev.gateReg_actGate {d : Dev} {dom i p : Nat} (atMark : Bool) (h : d.joined dom (fld (d.ent dom i 1) 5 0) = true) (hp : p < 131)
    (ht : fld (d.ent dom i 1) 15 8 = p ∨ fld (d.ent dom i 1) 15 8 = 255) :
    (d.actGate dom i atMark).gateReg (fld (d.ent dom i 1) 5 0) p = fld (d.ent dom i 2) 7 0 := by
  rw [Dev.actGate_of_joined atMark h]
  exact Dev.gateReg_gateLoads dom i (fld_lt _ 5 0) _ p _ d (.inl (mem_gatePorts hp ht))

/-! ### CAL_WIN -/

/-- A domain opens a window on a port up to an end phase. -/
def Dev.winOpen (d : Dev) (dom p e : Nat) : Dev :=
  (d.setPst p { d.pst p with
    wins := (d.pst p).wins ++ [(dom, e)], winAt := if (d.pst p).wins.isEmpty then d.now else (d.pst p).winAt }).wf
    R.CAL_CAL_PSTATUS p 3 3 1

theorem Dev.actCalWin_eq (d : Dev) (dom i : Nat) :
    d.actCalWin dom i =
      if !d.ownerJoined dom (d.owner (fld (d.ent dom i 1) 7 0)) then d.entSkip dom
      else if fld (d.ent dom i 2) 15 0 = 0 ∨ (d.block (fld (d.ent dom i 1) 7 0)).isNone then d
      else d.winOpen dom (fld (d.ent dom i 1) 7 0) (fld (d.ent dom i 0) 15 0 + fld (d.ent dom i 2) 15 0) := rfl

theorem Dev.actCalWin_of_not_joined {d : Dev} {dom i : Nat}
    (h : ∃ s, d.owner (fld (d.ent dom i 1) 7 0) = some s ∧ ¬ d.joined dom s = true) : d.actCalWin dom i = d.entSkip dom := by
  rw [Dev.actCalWin_eq, Dev.ownerJoined_of_not h]
  rfl

theorem Dev.actCalWin_of_joined {d : Dev} {dom i : Nat} (h : ∀ s, d.owner (fld (d.ent dom i 1) 7 0) = some s → d.joined dom s = true)
    (hdur : fld (d.ent dom i 2) 15 0 ≠ 0) (hblock : (d.block (fld (d.ent dom i 1) 7 0)).isSome = true) :
    d.actCalWin dom i = d.winOpen dom (fld (d.ent dom i 1) 7 0) (fld (d.ent dom i 0) 15 0 + fld (d.ent dom i 2) 15 0) := by
  have hopen : ¬ (fld (d.ent dom i 2) 15 0 = 0 ∨ (d.block (fld (d.ent dom i 1) 7 0)).isNone = true) :=
    not_or.2 ⟨hdur, by simpa [Option.isSome_iff_ne_none] using hblock⟩
  rw [Dev.actCalWin_eq, Dev.ownerJoined_of_all h]
  exact if_neg hopen

theorem Dev.winOpen_wins (d : Dev) (dom p e : Nat) : ((d.winOpen dom p e).pst p).wins = (d.pst p).wins ++ [(dom, e)] := by
  simp only [Dev.winOpen, Dev.pst, Dev.wf_ports, Dev.setPst, Tbl.getD_put_same]

/-! ### TAL_SNAP (R442) -/

/-- Two devices that differ in the number of free values drawn alone. -/
def Dev.FreeOnly (d e : Dev) : Prop := e = { d with free := e.free }

theorem Dev.FreeOnly.trans {d e f : Dev} (h : d.FreeOnly e) (k : e.FreeOnly f) : d.FreeOnly f := by
  unfold Dev.FreeOnly at *
  rw [h] at k
  exact k

theorem Dev.FreeOnly.now_eq {d e : Dev} (h : d.FreeOnly e) : e.now = d.now := by
  rw [h]

/-- Reading a tally slot draws at most free values. -/
theorem Dev.tsNow_freeOnly (d : Dev) (k : Nat) : d.FreeOnly (d.tsNow k).2 := by
  unfold Dev.tsNow Dev.farCount
  dsimp only
  split
  · rfl
  · split <;> rfl

/-- A slot whose unit has no other members below it reads as its count. -/
theorem Dev.tsNow_of_local {d : Dev} {k : Nat} {u : Word} (hu : d.rd R.TAL_TS_UNIT (0x100 + k) = u)
    (hfar : d.farUnit (fld u 28 16) (fld u 15 0) = false) : (d.tsNow k).1 = d.tally.ts.getD k 0 := by
  simp [Dev.tsNow, Dev.farCount, hu, hfar]

/-- What a unit has below it does not depend on the free values drawn. -/
theorem Dev.farUnit_setFree (d : Dev) (n page inst : Nat) : ({ d with free := n } : Dev).farUnit page inst = d.farUnit page inst := rfl

/-- So a slot reads as its count whatever free values were drawn before. -/
theorem Dev.FreeOnly.tsNow_of_local {d e : Dev} (h : d.FreeOnly e) {k : Nat} {u : Word} (hu : d.rd R.TAL_TS_UNIT (0x100 + k) = u)
    (hfar : d.farUnit (fld u 28 16) (fld u 15 0) = false) : (e.tsNow k).1 = d.tally.ts.getD k 0 := by
  rw [h]
  exact Dev.tsNow_of_local (d := { d with free := e.free }) hu ((d.farUnit_setFree e.free _ _).trans hfar)

/-- One slot is copied. -/
def snapSlot (pos : Word) (tag : Nat) (r : Tbl TalSnapS × Dev) (k : Nat) : Tbl TalSnapS × Dev :=
  (r.1.insert k ⟨[(r.2.tsNow k).1], (r.2.tsNow k).2.now, pos, tag⟩, (r.2.tsNow k).2)

/-- The slots of a unit. -/
def Dev.slotsOf (d : Dev) (u : Word) : List Nat := (List.range 256).filter fun k => d.rd R.TAL_TS_UNIT (0x100 + k) == u

/-- A table holds the copy of a slot's value, taken with a position and a tag: of a unit without other members below it, its count. -/
def Dev.Snapped (d : Dev) (u pos : Word) (tag : Nat) (t : Tbl TalSnapS) (k : Nat) : Prop :=
  ∃ v, t.find k = some ⟨[v], d.now, pos, tag⟩ ∧ (d.farUnit (fld u 28 16) (fld u 15 0) = false → v = d.tally.ts.getD k 0)

/-- One copy: the slot's own entry is its value, and no other entry changes. -/
theorem Dev.snapped_snapSlot (d : Dev) {u pos : Word} (tag : Nat) (r : Tbl TalSnapS × Dev) {j k : Nat}
    (hr : d.FreeOnly r.2) (hj : d.rd R.TAL_TS_UNIT (0x100 + j) = u)
    (h : k = j ∨ d.Snapped u pos tag r.1 k) : d.Snapped u pos tag (snapSlot pos tag r j).1 k := by
  by_cases hkj : k = j
  · subst hkj
    refine ⟨(r.2.tsNow k).1, ?_, fun hfar => ?_⟩
    · have hnow : (r.2.tsNow k).2.now = d.now := (hr.trans (r.2.tsNow_freeOnly k)).now_eq
      rw [snapSlot, Tbl.find_insert_same, hnow]
    · exact hr.tsNow_of_local hj hfar
  · obtain ⟨v, hv, hlocal⟩ := h.resolve_left hkj
    exact ⟨v, (Tbl.find_insert_other _ _ hkj).trans hv, hlocal⟩

/-- After the copies every slot of the list holds its copy, and every slot that held one already; the device has drawn free values. -/
theorem Dev.snapped_snapSlots (d : Dev) {u pos : Word} (tag : Nat) (l : List Nat) (hl : ∀ k ∈ l, d.rd R.TAL_TS_UNIT (0x100 + k) = u)
    (r : Tbl TalSnapS × Dev) (hr : d.FreeOnly r.2) :
    (∀ k, k ∈ l ∨ d.Snapped u pos tag r.1 k → d.Snapped u pos tag (l.foldl (snapSlot pos tag) r).1 k) ∧
    d.FreeOnly (l.foldl (snapSlot pos tag) r).2 := by
  induction l generalizing r with
  | nil => exact ⟨fun k h => h.resolve_left List.not_mem_nil, hr⟩
  | cons j l ih =>
    have hr' : d.FreeOnly (snapSlot pos tag r j).2 := hr.trans (r.2.tsNow_freeOnly j)
    obtain ⟨hsnap, hdev⟩ := ih (fun k hk => hl k (List.mem_cons_of_mem j hk)) (snapSlot pos tag r j) hr'
    refine ⟨fun k h => hsnap k ?_, hdev⟩
    by_cases hk : k ∈ l
    · exact .inl hk
    · exact .inr (d.snapped_snapSlot tag r hr (hl j List.mem_cons_self)
        (h.imp_left fun hm => (List.mem_cons.1 hm).resolve_right hk))

/-- The cycle position that a snapshot carries. -/
def Dev.snapPos (d : Dev) (dom : Nat) : Word := word (d.phase dom + 65536 * ((d.cyc1 dom).cycle % 65536))

/-- The copies that an entry makes of the tally slots, with the device after the free values drawn. -/
def Dev.snapSlots (d : Dev) (dom i : Nat) : Tbl TalSnapS × Dev :=
  (d.slotsOf (d.ent dom i 1)).foldl (snapSlot (d.snapPos dom) (fld (d.ent dom i 2) 7 0)) (d.tally.tsSnap, d)

/-- The copies of the slot-class counters of a port. -/
def Dev.snapPort (d : Dev) (u pos : Word) (tag : Nat) : Tbl TalSnapS :=
  if fld u 28 16 = 0x200 ∧ fld u 31 29 = d.me ∧ fld u 15 0 < 128 then
    d.tally.slotSnap.insert (fld u 15 0) ⟨(List.range 9).map fun c => d.tally.slot.getD (fld u 15 0 * 16 + c) 0, d.now, pos, tag⟩
  else d.tally.slotSnap

theorem Dev.actSnap_tally (d : Dev) (dom i : Nat) :
    (d.actSnap dom i).tally.tsSnap = (d.snapSlots dom i).1 ∧
    (d.actSnap dom i).tally.slotSnap =
      (d.snapSlots dom i).2.snapPort (d.ent dom i 1) (d.snapPos dom) (fld (d.ent dom i 2) 7 0) := ⟨rfl, rfl⟩

theorem Dev.snapSlots_spec (d : Dev) (dom i : Nat) :
    (∀ k < 256, d.rd R.TAL_TS_UNIT (0x100 + k) = d.ent dom i 1 →
      d.Snapped (d.ent dom i 1) (d.snapPos dom) (fld (d.ent dom i 2) 7 0) (d.snapSlots dom i).1 k) ∧
    d.FreeOnly (d.snapSlots dom i).2 := by
  have hl : ∀ k ∈ d.slotsOf (d.ent dom i 1), d.rd R.TAL_TS_UNIT (0x100 + k) = d.ent dom i 1 := by
    intro k hk
    simpa using (List.mem_filter.1 hk).2
  obtain ⟨hsnap, hdev⟩ := d.snapped_snapSlots (pos := d.snapPos dom) (fld (d.ent dom i 2) 7 0) _ hl (d.tally.tsSnap, d) rfl
  exact ⟨fun k hk hu => hsnap k (.inl (List.mem_filter.2 ⟨List.mem_range.2 hk, beq_iff_eq.2 hu⟩)), hdev⟩

/-- A snapshot of a port of this device copies its nine slot-class counters. -/
theorem Dev.actSnap_slotSnap {d : Dev} {dom i : Nat} (hpage : fld (d.ent dom i 1) 28 16 = 0x200) (hme : fld (d.ent dom i 1) 31 29 = d.me)
    (hport : fld (d.ent dom i 1) 15 0 < 128) :
    (d.actSnap dom i).tally.slotSnap.find (fld (d.ent dom i 1) 15 0) =
      some ⟨(List.range 9).map fun c => d.tally.slot.getD (fld (d.ent dom i 1) 15 0 * 16 + c) 0, d.now, d.snapPos dom,
        fld (d.ent dom i 2) 7 0⟩ := by
  rw [(d.actSnap_tally dom i).2, (d.snapSlots_spec dom i).2, Dev.snapPort, if_pos ⟨hpage, hme, hport⟩, Tbl.find_insert_same]

/-! ### SHAPER_PROFILE and DMA_ARM -/

theorem Dev.actProfile_of_not_joined {d : Dev} {dom i : Nat} (h : ¬ d.joined dom (fld (d.ent dom i 1) 5 0) = true) :
    d.actProfile dom i = d.entSkip dom := if_neg h

theorem Dev.actProfile_selects {d : Dev} {dom i : Nat} (h : d.joined dom (fld (d.ent dom i 1) 5 0) = true) :
    (d.actProfile dom i).rf R.SCH_STB_PROFILE (0x100 + fld (d.ent dom i 1) 5 0) 1 0 = fld (d.ent dom i 2) 1 0 := by
  unfold Dev.actProfile
  dsimp only
  rw [if_pos h, Dev.rf_wf_same _ _ _ (by decide) (by decide) (fld_lt _ 1 0)]

theorem Dev.actArm_eq (d : Dev) (dom i : Nat) :
    d.actArm dom i =
      if d.ownerJoined dom (d.chOwner (fld (d.ent dom i 1) 5 0)) then d.chArm (fld (d.ent dom i 1) 5 0) (bit (d.ent dom i 2) 0)
      else d.entSkip dom := rfl

theorem Dev.actArm_of_joined {d : Dev} {dom i : Nat} (h : ∀ s, d.chOwner (fld (d.ent dom i 1) 5 0) = some s → d.joined dom s = true) :
    d.actArm dom i = d.chArm (fld (d.ent dom i 1) 5 0) (bit (d.ent dom i 2) 0) := by
  rw [Dev.actArm_eq, if_pos (Dev.ownerJoined_of_all h)]

theorem Dev.actArm_of_not_joined {d : Dev} {dom i : Nat}
    (h : ∃ s, d.chOwner (fld (d.ent dom i 1) 5 0) = some s ∧ ¬ d.joined dom s = true) : d.actArm dom i = d.entSkip dom := by
  rw [Dev.actArm_eq, Dev.ownerJoined_of_not h]
  rfl

/-- Settles O12: the commands let the entries due execute; what an entry does is one lemma for each action, of the device in which the
entry is done. -/
theorem scheduleEntriesExecute : Obligations.ScheduleEntriesExecute := by
  refine ⟨?commands, ?actions⟩
  case commands =>
    intro s dom idx hdom hrun hexec hleft due
    have hdue {action : Nat} (haction : fld (s.dev.ent dom idx 0) 19 16 = action) :
        s.act (fun d => d.entFalls dom idx action) = .next (s.pinned due) := by
      rw [State.act_eq, Dev.entFalls_of_due hdom hrun hexec hleft haction]
    exact ⟨hdue, hdue, hdue, hdue, hdue, hdue⟩
  case actions =>
    intro d0 dom i atMark d target arg skipped mine
    have hmine (s : Nat) : mine s ↔ d.joined dom s = true := (d.joined_iff dom s).symm
    have hrun {action : Nat} (h : fld (d0.ent dom i 0) 19 16 = action) := Dev.entRun_eq atMark h
    simp only [hmine]
    refine ⟨fun h => ?nop, fun h => ?gateSkip, fun h => ?gate, fun h => ?winSkip, fun h => ?win, fun h => ?snap, fun h => ?profile,
      fun h => ?profileSkip, fun h => ?arm, fun h => ?armSkip⟩ <;> rw [hrun h]
    case nop => rfl
    case gateSkip => exact fun hj => Dev.actGate_of_not_joined atMark hj
    case gate => exact fun hj p hp ht => Dev.gateReg_actGate atMark hj hp ht
    case winSkip => exact fun hj => Dev.actCalWin_of_not_joined hj
    case win =>
      intro hj hdur hblock
      refine (congrArg (fun e : Dev => (e.pst (fld target 7 0)).wins) (Dev.actCalWin_of_joined hj hdur hblock)).trans ?_
      exact d.winOpen_wins dom _ _
    case snap => exact ⟨(d.snapSlots_spec dom i).1, fun hpage hme hport => Dev.actSnap_slotSnap hpage hme hport⟩
    case profile => exact fun hj => Dev.actProfile_selects hj
    case profileSkip => exact fun hj => Dev.actProfile_of_not_joined hj
    case arm => exact fun hj => Dev.actArm_of_joined hj
    case armSkip => exact fun hj => Dev.actArm_of_not_joined hj

/-! ### The entry cursor (R79, R81) -/

theorem exec_entryWrite (s : State) {a : Acc} (data : Word) (h : s.dev.may a (R.CYC_ENT_W 3) true = true) :
    exec (.entryWrite a data) s = .next (s.pinned (s.dev.wEntW3 a (s.dev.instOf a 0x20 (R.CYC_ENT_W 3).off))) := by
  change execEntryWrite a data s = _
  rw [execEntryWrite, State.act_eq, Dev.guardW_may _ _ _ _ h]
  rfl

/-- The entry of a domain at an accessor's cursor. -/
def Dev.entCursor (d : Dev) (a : Acc) (dom : Nat) : Nat := d.arn (winAcc (accIdx a) dom) R.CYC_ENT_IDX % 1024

/-- The cursor stands at an entry of a range. -/
def Dev.EntHeld (d : Dev) (a : Acc) (dom b n : Nat) : Prop := b ≤ d.entCursor a dom ∧ d.entCursor a dom < b + n

/-- The device with an accessor's held words written to the entry at its cursor. -/
def Dev.entPut (d : Dev) (a : Acc) (dom : Nat) : Dev :=
  let acc := winAcc (accIdx a) dom
  let k := 1024 * dom + d.entCursor a dom
  (((d.wr (R.CYC_ENT_W 0) k (d.ard acc (R.CYC_ENT_W 0))).wr (R.CYC_ENT_W 1) k (d.ard acc (R.CYC_ENT_W 1))).wr
    (R.CYC_ENT_W 2) k (d.ard acc (R.CYC_ENT_W 2))).wr (R.CYC_ENT_W 3) k 0

theorem Dev.wEntW3_of_held {d : Dev} {a : Acc} {dom : Nat}
    (h : d.EntHeld a dom (d.cyc1 dom).base (d.cyc1 dom).count ∨ ∃ b n, (d.cyc1 dom).pend = some (b, n) ∧ d.EntHeld a dom b n) :
    d.wEntW3 a dom = d.wr R.CYC_ENT_STATUS dom 1 := by
  simp only [Dev.EntHeld, Dev.entCursor] at h
  unfold Dev.wEntW3
  dsimp only
  rw [if_pos]
  rcases h with ⟨hlo, hhi⟩ | ⟨b, n, hp, hlo, hhi⟩
  · simp [hlo, hhi]
  · simp [hp, hlo, hhi]

theorem Dev.wEntW3_of_free {d : Dev} {a : Acc} {dom : Nat} (hforce : ¬ d.EntHeld a dom (d.cyc1 dom).base (d.cyc1 dom).count)
    (hpend : ∀ b n, (d.cyc1 dom).pend = some (b, n) → ¬ d.EntHeld a dom b n) :
    d.wEntW3 a dom = (d.entPut a dom).awn (winAcc (accIdx a) dom) R.CYC_ENT_IDX ((d.entCursor a dom + 1) % 1024) := by
  simp only [Dev.EntHeld, Dev.entCursor] at hforce hpend
  unfold Dev.wEntW3
  dsimp only
  rw [if_neg]
  · rfl
  · rcases hp : (d.cyc1 dom).pend with _ | ⟨b, n⟩
    · simpa using hforce
    · simpa [hforce] using hpend b n hp

/-- The entry takes the accessor's held words. -/
theorem Dev.rd_entPut (d : Dev) (a : Acc) (dom : Nat) {k : Nat} (hk : k < 3) :
    (d.entPut a dom).rd (R.CYC_ENT_W k) (1024 * dom + d.entCursor a dom) = d.ard (winAcc (accIdx a) dom) (R.CYC_ENT_W k) := by
  match k, hk with
  | 0, _ | 1, _ | 2, _ => simp [Dev.entPut, Dev.rd_wr_entW_other]

theorem exec_entryRead (s : State) {a : Acc} (h : s.dev.may a (R.CYC_ENT_W 0) false = true) :
    exec (.entryRead a) s = .next (s.pinned (
      (s.dev.rEntW0 a (s.dev.instOf a 0x20 (R.CYC_ENT_W 0).off)).2.emit
        (.reply (accIdx a) [(s.dev.rEntW0 a (s.dev.instOf a 0x20 (R.CYC_ENT_W 0).off)).1]))) := by
  change execEntryRead a s = _
  rw [execEntryRead, State.act_eq, Dev.guardR_may _ _ _ _ h]
  rfl

/-- A read of ENT_W0 loads the entry at the cursor in the accessor's held words. -/
theorem Dev.ard_rEntW0 (d : Dev) (a : Acc) (dom : Nat) {k : Nat} (hk : k < 4) :
    (d.rEntW0 a dom).2.ard (winAcc (accIdx a) dom) (R.CYC_ENT_W k) = d.rd (R.CYC_ENT_W k) (1024 * dom + d.entCursor a dom) := by
  have hwords : List.range 4 = [0, 1, 2, 3] := rfl
  match k, hk with
  | 0, _ | 1, _ | 2, _ | 3, _ => simp [Dev.rEntW0, hwords, Dev.ard_awr_entW_other, Dev.entCursor]

/-- It answers the word 0 that it has loaded, and changes the accessor's copies alone. -/
theorem Dev.rEntW0_answer (d : Dev) (a : Acc) (dom : Nat) :
    (d.rEntW0 a dom).1 = (d.rEntW0 a dom).2.ard (winAcc (accIdx a) dom) (R.CYC_ENT_W 0) := rfl

theorem Dev.rEntW0_frame (d : Dev) (a : Acc) (dom : Nat) : (d.rEntW0 a dom).2 = { d with aregs := (d.rEntW0 a dom).2.aregs } := rfl

/-! ### The position (R85) -/

theorem exec_posPhaseRead (s : State) {a : Acc} (h : s.dev.may a R.CYC_POS_PHASE false = true) :
    exec (.posPhaseRead a) s = .next (s.pinned (
      (s.dev.rPosPhase a (s.dev.instOf a 0x20 R.CYC_POS_PHASE.off)).2.emit
        (.reply (accIdx a) [word (s.dev.phase (s.dev.instOf a 0x20 R.CYC_POS_PHASE.off))]))) := by
  change execPosPhaseRead a s = _
  rw [execPosPhaseRead, State.act_eq, Dev.guardR_may _ _ _ _ h]
  rfl

/-- A read of POS_PHASE latches the cycle number and the device time for the accessor, and changes nothing else. -/
theorem Dev.rPosPhase_latches (d : Dev) (a : Acc) (dom : Nat) :
    let e := (d.rPosPhase a dom).2
    let acc := winAcc (accIdx a) dom
    e.ard acc R.CYC_POS_CYCLE = word (d.cyc1 dom).cycle ∧ e.ard acc R.CYC_POS_TIME_LO = word d.now ∧
      e.ard acc R.CYC_POS_TIME_HI = word (d.now / 4294967296) ∧ e = { d with aregs := e.aregs } := by
  refine ⟨?_, ?_, Dev.ard_awr_same _ _ _ _, rfl⟩
  · exact (Dev.ard_awr_other _ _ (by decide) (by decide) (by decide)).trans <|
      (Dev.ard_awr_other _ _ (by decide) (by decide) (by decide)).trans (Dev.ard_awr_same _ _ _ _)
  · exact (Dev.ard_awr_other _ _ (by decide) (by decide) (by decide)).trans (Dev.ard_awr_same _ _ _ _)

/-! ### The end of a calibration window (R82, R101) -/

/-- The windows of a port are closed. -/
def Dev.winsShut (d : Dev) (port : Nat) : Dev :=
  (d.setPst port { d.pst port with wins := [] }).wf R.CAL_CAL_PSTATUS port 3 3 0

/-- A width that the partner asked for is taken up, unless a procedure runs on the port. -/
def Dev.widenAsked (d : Dev) (port : Nat) (st : PortSt) : Dev :=
  match st.l0pReq with
  | some w => if st.proc.isNone then d.l0pWiden port w else d
  | none => d

theorem Dev.widenAsked_of_stands (d : Dev) (port : Nat) {st : PortSt} (h : st.l0pReq = none ∨ st.proc ≠ none) :
    d.widenAsked port st = d := by
  unfold Dev.widenAsked
  split
  case h_1 w hw =>
    have hproc : st.proc.isNone ≠ true := by simpa [hw] using h
    exact if_neg hproc
  case h_2 => rfl

theorem Dev.widenAsked_of_asked (d : Dev) (port : Nat) {st : PortSt} {w : Nat} (hw : st.l0pReq = some w) (hproc : st.proc = none) :
    d.widenAsked port st = d.l0pWiden port w := by
  simp [Dev.widenAsked, hw, hproc]

theorem exec_calWinEnd (s : State) {port e : Nat} (he : s.dev.winEnd port = some e) :
    exec (.calWinEnd port) s =
      .next (s.pinned (((s.dev.advanceTo e).winsShut port).widenAsked port ((s.dev.advanceTo e).pst port))) := by
  change execCalWinEnd port s = _
  rw [execCalWinEnd, State.act_eq, he]
  rfl

/-- Settles O13: one clause for each command; the cursor, the held words and the latches are the accessor's own, one set for each
domain (`winAcc`). -/
theorem cycleRegistersComplete : Obligations.CycleRegistersComplete := by
  refine ⟨?entryWrite, ?entryRead, ?posRead, ?winEnd⟩
  case entryWrite =>
    intro s a data hmay dom acc i c held
    refine ⟨exec_entryWrite s data hmay, Dev.wEntW3_of_held, fun hforce hpend => ?_⟩
    rw [Dev.wEntW3_of_free hforce hpend]
    refine ⟨fun k hk => s.dev.rd_entPut a dom hk, ?_⟩
    rw [Dev.arn, Dev.awn, Dev.ard_awr_same, word, BitVec.toNat_ofNat]
    exact Nat.mod_eq_of_lt (by omega)
  case entryRead =>
    intro s a hmay dom acc i
    refine ⟨(s.dev.rEntW0 a dom).2, ?_, fun k hk => s.dev.ard_rEntW0 a dom hk, s.dev.rEntW0_frame a dom⟩
    rw [exec_entryRead s hmay, Dev.rEntW0_answer, Dev.ard_rEntW0 _ _ _ (by decide)]
    rfl
  case posRead =>
    intro s a hmay dom acc
    exact ⟨_, exec_posPhaseRead s hmay, s.dev.rPosPhase_latches a dom⟩
  case winEnd =>
    intro s port e he d closed
    rw [exec_calWinEnd s he]
    refine ⟨fun h => ?_, fun w hw hproc => ?_⟩
    · rw [Dev.widenAsked_of_stands _ port h]
      rfl
    · rw [Dev.widenAsked_of_asked _ port hw hproc]
      rfl

end Sys2Proof.Machine
end

section
/-! Family 06_mirkel_link: packets, acknowledgement, replay, credits and the census of a fabric link (O27), and the formation of a
yard (O32). -/

namespace Sys2Proof.Machine

/-! ### Guards of commands -/

theorem or_ne_true {a b : Bool} (ha : a ≠ true) (hb : b ≠ true) : (a || b) ≠ true :=
  fun h => (Bool.or_eq_true_iff.1 h).elim ha hb

theorem not_ne_true {b : Bool} (h : b = true) : (!b) ≠ true := by
  rw [h]
  decide

/-! ### Commands of a link in service -/

/-- What a command that the block settles after answers, from what it does to the device. -/
theorem State.eff_of_eq {s : State} {f : Dev → Dev} {d : Dev} (h : f s.dev = d) : s.eff f = .next (s.settled d) :=
  h ▸ s.eff_eq f

@[simp] theorem Dev.lnk_setLnk_same (d : Dev) (p : Nat) (l : Link) : (d.setLnk p l).lnk p = l :=
  Tbl.getD_put_same _ _ _ _

/-- A fabric link in service: the state in which packets and the control symbols of R150–R157 count. -/
def Dev.LinkActive (d : Dev) (p : Nat) : Prop := d.isFabric p = true ∧ d.lkState p = 3

/-- Some commands rule out a link not in service, others ask for one that is (`serves`). -/
theorem Dev.LinkActive.not_idle {d : Dev} {p : Nat} (h : d.LinkActive p) : (!d.isFabric p || d.lkState p != 3) ≠ true := by
  rw [h.1, h.2]
  decide

theorem Dev.LinkActive.serves {d : Dev} {p : Nat} (h : d.LinkActive p) : (d.isFabric p && d.lkState p == 3) = true := by
  rw [h.1, h.2]
  decide

/-! ### What a received packet does (R150–R152) -/

/-- How far a packet's number is ahead of the number expected. -/
def Link.ahead (l : Link) (pk : Packet) : Nat := (pk.seq % 65536 + 65536 - l.expect) % 65536

/-- The link accepts a packet of the expected number: an ACK goes at the ACK_COUNTth, and what can leave the receive buffer does. -/
def Dev.packetAccept (d : Dev) (p : Nat) (pk : Packet) : Dev :=
  let l := d.lnk p
  let d := d.setLnk p { l with
    expect := (l.expect + 1) % 65536, gap := false, sinceAck := l.sinceAck + 1
    firstAt := if l.firstAt = 0 then d.now + 1 else l.firstAt, rx := l.rx ++ [pk] }
  let d := if pk.ctl then d else d.heard
  let k := d.rf R.MKL_LK_CFG (lkInst p) 25 18
  (if k ≠ 0 ∧ k ≤ l.sinceAck + 1 then d.ackSend p else d).rxDrain p

/-- A packet beyond a gap is discarded; the gap is answered with NAK once. -/
def Dev.gapNak (d : Dev) (p : Nat) : Dev :=
  let l := d.lnk p
  if l.gap then d else (d.setLnk p { l with gap := true }).sym p 2 [(l.expect + 65535) % 65536]

/-- A duplicate is counted and acknowledged: at once where ACK_NS is 0, else with the packets that wait for their ACK. -/
def Dev.duplicateAck (d : Dev) (p : Nat) : Dev :=
  let l := d.lnk p
  let d := d.bump R.MKL_LK_CNT_DUP (lkInst p)
  if d.rf R.MKL_LK_TIMING (lkInst p) 7 0 = 0 then d.ackSend p
  else d.setLnk p { l with firstAt := if l.firstAt = 0 then d.now + 1 else l.firstAt }

/-- The replay timer expires: the expiry is counted, and the link holds at REPLAY_LIMIT of them in a row, else replays (R152, R158). -/
def Dev.replayExpire (d : Dev) (p : Nat) : Dev :=
  let l := d.lnk p
  let d := d.advanceTo (l.timerAt - 1 + 100 * d.rf R.MKL_LK_CFG (lkInst p) 14 5)
  let d := (d.setLnk p { l with expiries := l.expiries + 1, timerAt := d.now + 1 }).bump R.MKL_LK_CNT_TIMEOUT (lkInst p)
  if d.rf R.MKL_LK_CFG (lkInst p) 17 15 ≤ l.expiries + 1 then d.mklHold p false else d.replayAll p

/-- What is left in the replay buffer after an acknowledgement. -/
theorem Dev.ackTo_replay (d : Dev) (p n : Nat) :
    ((d.ackTo p n).lnk p).replay =
      (d.lnk p).replay.dropWhile fun e => decide ((n % 65536 + 65536 - e.pk.seq) % 65536 < 16384) := by
  unfold Dev.ackTo
  dsimp only
  split
  case isTrue hlen => exact ((List.dropWhile_suffix _).eq_of_length hlen).symm
  case isFalse => rw [Dev.lnk_setLnk_same]

/-- A cumulative limit after a CREDIT: it moves on to the value sent, modulo 2^24, unless that lies behind it (R154). -/
def limitUp (cur x : Nat) : Nat :=
  let dlt := (x % 16777216 + 16777216 - cur % 16777216) % 16777216
  if dlt < 8388608 then cur + dlt else cur

/-- The limits that a CREDIT raises, and the packets of the replay buffer that they now allow, charged and sent. -/
def Dev.creditTake (d : Dev) (p x y z : Nat) : Dev :=
  let l := d.lnk p
  let lim : Trio := ⟨limitUp l.limit.p x, limitUp l.limit.n y, limitUp l.limit.c z⟩
  let r := chargeFit l.replay l.charged lim
  (d.setLnk p { l with limit := lim, replay := r.1, charged := r.2.2 }).resendPkts p r.2.1

/-- Of class `k`, what a CENSUS_RSP reports of it: freed or held under the present accounting (R156, log entry 92). -/
def Dev.censusGot (d : Dev) (p k : Nat) : Nat :=
  ((d.lnk p).freed.get k + (d.rxHeld p k - (d.lnk p).old.get k)) % 16777216

/-- The transmitter numbers a census and sends what it has charged (R156). -/
def Dev.censusStart (d : Dev) (p : Nat) : Dev :=
  let l := d.lnk p
  (d.setLnk p { l with census := (l.census + 1) % 256, marked := l.charged }).sym p 4
    [(l.census + 1) % 256, l.charged.p % 16777216, l.charged.n % 16777216, l.charged.c % 16777216]

section
variable {s : State} {p : Nat} (hact : s.dev.LinkActive p)
include hact

theorem exec_packetReceived_expected {pk : Packet} (h : (s.dev.lnk p).ahead pk = 0) :
    exec (.packetReceived p pk) s = .next (s.settled (s.dev.packetAccept p pk)) := by
  change execPacketReceived p pk s = _
  exact State.eff_of_eq <| (if_neg hact.not_idle).trans <| if_pos h

theorem exec_packetReceived_ahead {pk : Packet} (h0 : 1 ≤ (s.dev.lnk p).ahead pk) (h : (s.dev.lnk p).ahead pk ≤ 16383) :
    exec (.packetReceived p pk) s = .next (s.settled (s.dev.gapNak p)) := by
  change execPacketReceived p pk s = _
  exact State.eff_of_eq <| (if_neg hact.not_idle).trans <| (if_neg (Nat.ne_of_gt h0)).trans <| if_pos h

theorem exec_packetReceived_duplicate {pk : Packet} (h : 49153 ≤ (s.dev.lnk p).ahead pk) :
    exec (.packetReceived p pk) s = .next (s.settled (s.dev.duplicateAck p)) := by
  have h0 : (s.dev.lnk p).ahead pk ≠ 0 := by omega
  have h1 : ¬ (s.dev.lnk p).ahead pk ≤ 16383 := by omega
  change execPacketReceived p pk s = _
  exact State.eff_of_eq <| (if_neg hact.not_idle).trans <| (if_neg h0).trans <| (if_neg h1).trans <| if_pos h

theorem exec_packetReceived_protocol {pk : Packet} (h : 16384 ≤ (s.dev.lnk p).ahead pk) (h' : (s.dev.lnk p).ahead pk ≤ 49152) :
    exec (.packetReceived p pk) s = .next (s.settled ((s.dev.mklProtocol p).mklHold p false)) := by
  have h0 : (s.dev.lnk p).ahead pk ≠ 0 := by omega
  have h1 : ¬ (s.dev.lnk p).ahead pk ≤ 16383 := by omega
  have h2 : ¬ 49153 ≤ (s.dev.lnk p).ahead pk := by omega
  change execPacketReceived p pk s = _
  exact State.eff_of_eq <| (if_neg hact.not_idle).trans <| (if_neg h0).trans <| (if_neg h1).trans <| if_neg h2

theorem exec_ackTimer_due (hfirst : (s.dev.lnk p).firstAt ≠ 0) (hns : s.dev.rf R.MKL_LK_TIMING (lkInst p) 7 0 ≠ 0) :
    exec (.ackTimer p) s = .next (s.settled
      ((s.dev.advanceTo ((s.dev.lnk p).firstAt - 1 + 10 * s.dev.rf R.MKL_LK_TIMING (lkInst p) 7 0)).ackSend p)) := by
  have hpos : 10 * s.dev.rf R.MKL_LK_TIMING (lkInst p) 7 0 ≠ 0 := by omega
  change execAckTimer p s = _
  exact State.eff_of_eq <| if_neg <|
    or_ne_true (or_ne_true hact.not_idle (mt beq_iff_eq.1 hfirst)) (mt beq_iff_eq.1 hpos)

theorem exec_ack_active (k : Nat) : exec (.ack p k) s = .next (s.settled (s.dev.ackTo p k)) := by
  change execAck p k s = _
  exact State.eff_of_eq <| if_pos hact.serves

theorem exec_nak_active (k : Nat) :
    exec (.nak p k) s = .next (s.settled (((s.dev.bump R.MKL_LK_CNT_NAK (lkInst p)).ackTo p k).replayAll p)) := by
  change execNak p k s = _
  exact State.eff_of_eq <| if_pos hact.serves

theorem exec_replayTimeout_pending (h : (s.dev.lnk p).replay ≠ []) :
    exec (.replayTimeout p) s = .next (s.settled (s.dev.replayExpire p)) := by
  change execReplayTimeout p s = _
  exact State.eff_of_eq <| if_neg (or_ne_true hact.not_idle (mt List.isEmpty_iff.1 h))

theorem exec_credit_active (x y z : Nat) : exec (.credit p x y z) s = .next (s.settled (s.dev.creditTake p x y z)) := by
  change execCredit p x y z s = _
  exact State.eff_of_eq <| if_neg hact.not_idle

theorem exec_creditReturnTimer_active :
    exec (.creditReturnTimer p) s = .next (s.settled
      ((s.dev.advanceTo (if (s.dev.lnk p).unsent = 0 then (s.dev.lnk p).creditAt + 1000
        else min ((s.dev.lnk p).freedAt - 1 + 50) ((s.dev.lnk p).creditAt + 1000))).creditSend p)) := by
  change execCreditReturnTimer p s = _
  exact State.eff_of_eq <| if_neg hact.not_idle

theorem exec_censusTimer_due {ms : Nat} (hms : s.dev.rf R.MKL_LK_TIMING (lkInst p) 23 16 = ms) (hne : ms ≠ 0) :
    exec (.censusTimer p) s = .next (s.settled
      ((s.dev.advanceTo ((s.dev.now / (1000000 * ms) + 1) * (1000000 * ms))).censusStart p)) := by
  subst hms
  change execCensusTimer p s = _
  exact State.eff_of_eq <| if_neg (or_ne_true hact.not_idle (mt beq_iff_eq.1 hne))

theorem exec_censusMark_answered (k : Nat) (h : (s.dev.lnk p).gap = false) :
    exec (.censusMark p k) s = .next (s.settled
      (s.dev.sym p 5 [k % 256, s.dev.censusGot p 0, s.dev.censusGot p 1, s.dev.censusGot p 2])) := by
  change execCensusMark p k s = _
  exact State.eff_of_eq <| if_neg (or_ne_true hact.not_idle (ne_true_of_eq_false h))

theorem exec_censusRsp_current (x y z : Nat) :
    exec (.censusRsp p (s.dev.lnk p).census x y z) s = .next (s.settled
      (((s.dev.censusClass p 0 x).censusClass p 1 y).censusClass p 2 z)) := by
  change execCensusRsp p _ x y z s = _
  exact State.eff_of_eq <| if_pos (Bool.and_eq_true_iff.2 ⟨hact.serves, beq_self_eq_true _⟩)

end

/-- While a gap is pending a census is not answered (R156). -/
theorem exec_censusMark_gap {s : State} {p : Nat} (k : Nat) (h : (s.dev.lnk p).gap = true) :
    exec (.censusMark p k) s = .next (s.settled s.dev) := by
  change execCensusMark p k s = _
  exact State.eff_of_eq <| if_pos (Bool.or_eq_true_iff.2 (.inr h))

/-- Settles O27: one clause for each command, and for each distance of a packet's number from the number expected. -/
theorem packetsCreditsAndCensusComplete : Obligations.PacketsCreditsAndCensusComplete := by
  intro s p hfab hlk l n
  have hact : s.dev.LinkActive p := ⟨hfab, hlk⟩
  refine ⟨?packet, ?ackTimer, ?ack, ?replay, ?credit, ?creditReturn, ?censusTimer, ?censusMark, ?censusRsp⟩
  case packet =>
    exact fun pk => ⟨exec_packetReceived_expected hact, exec_packetReceived_ahead hact, exec_packetReceived_duplicate hact,
      exec_packetReceived_protocol hact⟩
  case ackTimer => exact exec_ackTimer_due hact
  case ack => exact fun k => ⟨exec_ack_active hact k, s.dev.ackTo_replay p k, exec_nak_active hact k⟩
  case replay => exact exec_replayTimeout_pending hact
  case credit => exact exec_credit_active hact
  case creditReturn => exact exec_creditReturnTimer_active hact
  case censusTimer => exact fun ms => exec_censusTimer_due hact
  case censusMark => exact fun k => ⟨exec_censusMark_answered hact k, exec_censusMark_gap k⟩
  case censusRsp => exact exec_censusRsp_current hact

/-! ### IDENT and TOPO (R159, R161, R474) -/

/-- The link comes into service with an admitted partner; the head notes whether the member is at epoch 0, and may start the first commit
or an automatic join. -/
def Dev.identAdmit (d : Dev) (p m yard epoch pport token : Nat) : Dev :=
  let d := d.fabricUp p m yard pport token
  let d := if d.isHead then d.freshSet m (epoch == 0) else d
  (d.headCheck).rxDrain p

/-- IDENT names the partner that the held link had, at the epoch of this member and before HOLD_TIME has passed (R159). -/
def Dev.SamePartner (d : Dev) (p m epoch pport token : Nat) : Prop :=
  let l := d.lnk p
  l.lastPartner = some (m + 8 * pport) ∧ l.lastTok = token ∧ epoch = d.staging.epoch.toNat ∧
    d.now ≤ l.holdAt + 10000 * d.rf R.MKL_LK_TIMING (lkInst p) 15 8

/-- The head takes the neighbours of a member into its map. -/
def Dev.topoNote (d : Dev) (m : Nat) (near : List Nat) : Dev :=
  { d with yard := { d.yard with links := (d.yard.links.filter fun e : Nat × Nat => e.1 != m) ++ near.map fun n => (m, n) } }

section
variable {s : State} {p m yard epoch pport token : Nat} (hfab : s.dev.isFabric p = true)
include hfab

theorem exec_ident_admitted (hlk : s.dev.lkState p = 2) (hadm : s.dev.admits p m yard = true) :
    exec (.ident p m yard epoch pport token) s = .next (s.settled (s.dev.identAdmit p m yard epoch pport token)) := by
  change execIdent p m yard epoch pport token s = _
  exact State.eff_of_eq <| (if_neg (not_ne_true hfab)).trans <| (if_pos hlk).trans <| if_pos hadm

theorem exec_ident_refused (hlk : s.dev.lkState p = 2) (hadm : s.dev.admits p m yard = false) :
    exec (.ident p m yard epoch pport token) s =
      .next (s.settled ((((s.dev.setLkState p 6).report p 0).mklProtocol p).raise 0x006)) := by
  change execIdent p m yard epoch pport token s = _
  exact State.eff_of_eq <| (if_neg (not_ne_true hfab)).trans <| (if_pos hlk).trans <| if_neg (ne_true_of_eq_false hadm)

theorem exec_ident_resumed (hlk : s.dev.lkState p = 4) (hsame : s.dev.SamePartner p m epoch pport token) :
    exec (.ident p m yard epoch pport token) s = .next (s.settled
      ((s.dev.setLnk p { s.dev.lnk p with same := true }).sym p 13 [((s.dev.lnk p).expect + 65535) % 65536])) := by
  change execIdent p m yard epoch pport token s = _
  exact State.eff_of_eq <| (if_neg (not_ne_true hfab)).trans <| (if_neg (hlk ▸ by decide)).trans <| (if_pos hlk).trans <| if_pos hsame

theorem exec_ident_flushed (hlk : s.dev.lkState p = 4) (hother : ¬ s.dev.SamePartner p m epoch pport token) :
    exec (.ident p m yard epoch pport token) s = .next (s.settled ((s.dev.mklFlush p).rxDrain p)) := by
  change execIdent p m yard epoch pport token s = _
  exact State.eff_of_eq <| (if_neg (not_ne_true hfab)).trans <| (if_neg (hlk ▸ by decide)).trans <| (if_pos hlk).trans <| if_neg hother

end

theorem exec_topo_head {s : State} {m : Nat} (near : List Nat) (fresh : Bool) (hhead : s.dev.isHead = true) (hm : m ≠ s.dev.me) :
    exec (.topo m near fresh) s = .next (s.settled (((s.dev.topoNote m near).freshSet m fresh).headCheck)) := by
  change execTopo m near fresh s = _
  exact State.eff_of_eq <| if_neg (or_ne_true (not_ne_true hhead) (mt of_decide_eq_true hm))

/-! ### The end of FORM_TO (R475) -/

theorem exec_yardFormTimeout_head {s : State} {t : Nat} (hkci : s.dev.boot.kciDone = some t) (hhead : s.dev.isHead = true)
    (hform : s.dev.rb R.DEV_YARD_STATUS 0 0 = false) :
    exec .yardFormTimeout s = .next (s.settled
      ((s.dev.advanceTo (t + 10000000 * s.dev.rf R.DEV_YARD_CFG 0 31 24)).formTry true)) := by
  change execYardFormTimeout s = _
  refine State.eff_of_eq ?_
  rw [hkci]
  exact if_neg (or_ne_true (not_ne_true hhead) (ne_true_of_eq_false hform))

/-- Settles O32: IDENT on an idle and on a held link, TOPO, and the end of FORM_TO. -/
theorem yardFormationComplete : Obligations.YardFormationComplete := by
  refine fun s => ⟨?ident, ?topo, ?formTo⟩
  case ident =>
    exact fun p m yard epoch pport token hfab =>
      ⟨exec_ident_admitted hfab, exec_ident_refused hfab, fun hlk => ⟨exec_ident_resumed hfab hlk, exec_ident_flushed hfab hlk⟩⟩
  case topo => exact fun m near fresh => exec_topo_head near fresh
  case formTo => exact fun t => exec_yardFormTimeout_head

end Sys2Proof.Machine
end

section
/-! Family 07_switch_core_and_shed: reads at cursors and clears of logs (O17), the periodic work of the scheduler and the shed (O35), and
containment and release (O47). -/

namespace Sys2Proof.Machine

/-! ### Single words by an accessor that may make the access (R31, R32, R250, R377) -/

theorem Dev.may_iff (d : Dev) (a : Acc) (r : Reg) (wr : Bool) :
    d.may a r wr = true ↔ d.canAccess a = true ∧ d.carriedTo a = none ∧ d.accessDec a r.page r.off wr = .ok ∧
      d.chkView.accessDec a r.page r.off wr = .ok := by
  simp [Dev.may, and_assoc]

/-- A register stands at a whole word of its page. -/
abbrev Reg.Aligned (r : Reg) : Prop := r.off < 4096 ∧ r.off % 4 = 0

/-- The address of a register in the management space (R31). -/
def Reg.addr (r : Reg) : Nat := 4096 * r.page + r.off

section
variable {r : Reg} (hr : r.Aligned)
include hr

theorem Reg.Aligned.addr_page : r.addr / 4096 = r.page := by
  have hlt := hr.1
  unfold Reg.addr
  omega

theorem Reg.Aligned.addr_off : r.addr % 4096 = r.off := by
  have hlt := hr.1
  unfold Reg.addr
  omega

theorem Reg.Aligned.not_partial : ¬ partialAcc r.addr 15 = true := by
  have h4 := hr.2
  have haddr : r.addr % 4 = 0 := by
    unfold Reg.addr
    omega
  simp [partialAcc, haddr]

end

section
variable {d : Dev} {a : Acc} {r : Reg} {wr : Bool} (h : d.may a r wr = true)
include h

theorem Dev.accessible_one_of_may : d.accessible a 1 = true := by
  obtain ⟨hcan, -, -, -⟩ := (d.may_iff a r wr).1 h
  simp [Dev.accessible, Dev.isBlock, hcan]

theorem Dev.elsewhere_of_may (addr : Nat) : d.elsewhere a addr = none := by
  obtain ⟨-, hhere, -, -⟩ := (d.may_iff a r wr).1 h
  simp [Dev.elsewhere, hhere]

theorem Dev.bothDecide_wordDec_of_may : (d.bothDecide fun d => d.wordDec a r.page r.off wr none) = some .ok := by
  obtain ⟨-, -, hdec, hchk⟩ := (d.may_iff a r wr).1 h
  exact d.bothDecide_ok _ hdec hchk

end

/-- A single word is no block access. -/
theorem Dev.blockStart_one (d : Dev) (a : Acc) (addr : Nat) (wr : Bool) : d.blockStart a addr 1 wr = (none, d) := by
  simp [Dev.blockStart, Dev.isBlock]

section
variable {d : Dev} {a : Acc} {r : Reg} (hr : r.Aligned) (lk : List Nat)
include hr

theorem Dev.readWord_of_may (h : d.may a r false = true) :
    d.readWord lk a r.addr 15 Ext.none none = d.regRead lk a r.page r.off (d.instOf a r.page r.off) := by
  unfold Dev.readWord
  simp only [hr.addr_page, hr.addr_off, if_neg hr.not_partial, Dev.bothDecide_wordDec_of_may h]
  rfl

theorem Dev.writeWord_of_may (h : d.may a r true = true) (w : Word) :
    d.writeWord lk a r.addr 15 w Ext.none none = d.regWrite lk a r.page r.off (d.instOf a r.page r.off) w Ext.none := by
  unfold Dev.writeWord
  simp only [hr.addr_page, hr.addr_off, if_neg hr.not_partial, Dev.elsewhere_of_may h, Dev.bothDecide_wordDec_of_may h]
  rfl

theorem Dev.accLoad_of_may (h : d.may a r false = true) :
    d.accLoad lk a r.addr 15 1 Ext.none =
      (d.regRead lk a r.page r.off (d.instOf a r.page r.off)).2.emit
        (.reply (accIdx a) [(d.regRead lk a r.page r.off (d.instOf a r.page r.off)).1]) := by
  rw [← Dev.readWord_of_may hr lk h]
  simp [Dev.accLoad, Dev.accRead, Dev.accessible_one_of_may h, Dev.elsewhere_of_may h, Dev.blockStart_one]

theorem Dev.accWrite_of_may (h : d.may a r true = true) (w : Word) :
    d.accWrite lk a r.addr 15 [w] Ext.none = d.regWrite lk a r.page r.off (d.instOf a r.page r.off) w Ext.none := by
  rw [← Dev.writeWord_of_may hr lk h w]
  simp [Dev.accWrite, Dev.accessible_one_of_may h, Dev.blockStart_one]

end

/-- A read that is made answers the accessor with what the register reads as. -/
theorem State.peek_of_may {s : State} {a : Acc} {r : Reg} (hr : r.Aligned) (h : s.dev.may a r false = true) {v : Word} {e : Dev}
    (hread : s.dev.regRead s.plock a r.page r.off (s.dev.instOf a r.page r.off) = (v, e)) :
    s.peek a r.addr = .next (s.settled (e.emit (.reply (accIdx a) [v]))) := by
  rw [State.peek, State.effL_next, Dev.accLoad_of_may hr _ h, hread]

/-- A write that is made, and sets no page lock, does what the register's write does. -/
theorem State.poke_of_may {s : State} {a : Acc} {r : Reg} (hr : r.Aligned) (h : s.dev.may a r true = true) {w : Word} {e : Dev}
    (hwrite : s.dev.regWrite s.plock a r.page r.off (s.dev.instOf a r.page r.off) w Ext.none = (s.plock, e)) :
    s.poke a r.addr w = .next (s.settled e) := by
  rw [State.poke, State.effL_next, Dev.accWrite_of_may hr _ h, hwrite]

/-- A register whose write is an action, in the part of its page that its block defines (R36). -/
theorem Dev.regWrite_of_action {d e : Dev} {page off inst : Nat} {w : Word} {x : Ext} {a : Acc} (lk : List Nat)
    (hshown : d.windowZero page off inst = false) (hperm : ¬ (page = 0x600 ∧ off = 0x124)) (hblock : ¬ (off < 0x100 ∨ 0xf00 ≤ off))
    (hact : (d.systemWrite a page off inst w x <|> d.portWrite a page off inst w <|> d.coreWrite a page off inst w) = some e) :
    d.regWrite lk a page off inst w x = (lk, e) := by
  rw [Dev.regWrite, if_neg (ne_true_of_eq_false hshown), if_neg hperm, if_neg hblock, hact, Option.getD_some]

/-! ### Reads at a cursor (R213, R244) -/

section
variable (d : Dev) (acc : Nat) (idx : Reg) (size : Nat) (w : Nat → Reg)

/-- The entry at an accessor's cursor is loaded into its holding words, which stand apart. -/
theorem Dev.ard_loadEntry (hw : ∀ k < 4, (w k).off < 4096) (hne : ∀ j < 4, ∀ k < 4, j ≠ k → (w j).off ≠ (w k).off) {k : Nat}
    (hk : k < 4) :
    (d.loadEntry acc idx size w).2.ard acc (w k) = d.rd (w k) (d.arn acc idx % size) := by
  have hother (e : Dev) (v : Word) {j k : Nat} (hj : j < 4) (hk : k < 4) (h : j ≠ k) :
      (e.awr acc (w j) v).ard acc (w k) = e.ard acc (w k) :=
    e.ard_awr_other v (hw k hk) (hw j hj) (hne k hk j hj h.symm)
  have hwords : List.range 4 = [0, 1, 2, 3] := rfl
  match k, hk with
  | 0, _ | 1, _ | 2, _ | 3, _ => simp [Dev.loadEntry, hwords, hother]

theorem Dev.loadEntry_frame : (d.loadEntry acc idx size w).2 = { d with aregs := (d.loadEntry acc idx size w).2.aregs } := rfl

end

theorem winW_off_lt : ∀ k < 4, (R.RTE_WIN_W k).off < 4096 := by decide

theorem winW_off_ne : ∀ j < 4, ∀ k < 4, j ≠ k → (R.RTE_WIN_W j).off ≠ (R.RTE_WIN_W k).off := by decide

theorem Dev.countHidden_of_unwindowed {d : Dev} {a : Acc} {page off : Nat} (h : winKind page off = .none) :
    d.countHidden a page off = false := by
  unfold Dev.countHidden
  cases d.tenant a <;> simp [h]

theorem Dev.dropHidden_of_ne {d : Dev} {a : Acc} {page off inst : Nat} (h : page ≠ 0x206) : d.dropHidden a page off inst = false := by
  unfold Dev.dropHidden
  cases d.ctlStable a <;> simp [h]

/-- A register whose block says what it reads as, in the part of its page that the block defines (R36). -/
theorem Dev.regRead_of_page {d : Dev} {a : Acc} {page off inst : Nat} {v : Word × Dev} (lk : List Nat) (hwin : winKind page off = .none)
    (hshown : d.windowZero page off inst = false) (hdrop : page ≠ 0x206) (hevt : page ≠ 0x11) (hlo : 0x100 ≤ off)
    (hcommon : d.commonRead a page off inst = none) (hpage : d.pageRead a page off inst = some v) :
    d.regRead lk a page off inst = v := by
  have hctrl : off ≠ 0x28 := by omega
  have hcause : isCauseReg page off = false := by simp [isCauseReg, hevt]; omega
  have hmask : isMaskReg page off = false := by simp [isMaskReg, hevt]; omega
  have hforce : isForceReg page off = false := by simp [isForceReg, hevt]; omega
  simp [Dev.regRead, hshown, Dev.countHidden_of_unwindowed hwin, Dev.dropHidden_of_ne hdrop, hctrl, hcause, hmask, hforce, hcommon, hpage]

theorem Dev.regRead_winW0 (d : Dev) (lk : List Nat) (a : Acc) (inst : Nat) :
    d.regRead lk a 0x500 0x108 inst = d.loadEntry (accIdx a) R.RTE_WIN_IDX 8192 R.RTE_WIN_W :=
  Dev.regRead_of_page lk rfl rfl (by decide) (by decide) (by decide) rfl rfl

theorem Dev.regRead_fltW0 (d : Dev) (lk : List Nat) (a : Acc) (inst : Nat) : d.regRead lk a 0x600 0x12c inst = d.fltRead a :=
  Dev.regRead_of_page lk rfl rfl (by decide) (by decide) (by decide) rfl rfl

/-- A read of WIN_W0 loads the entry in force at the cursor and answers its word 0 (R213). -/
theorem exec_winEntryRead_made {s : State} {a : Acc} (h : s.dev.may a (R.RTE_WIN_W 0) false = true) :
    let e := s.dev.loadEntry (accIdx a) R.RTE_WIN_IDX 8192 R.RTE_WIN_W
    exec (.winEntryRead a) s = .next (s.settled (e.2.emit (.reply (accIdx a) [e.1]))) :=
  State.peek_of_may (r := R.RTE_WIN_W 0) (by decide) h (s.dev.regRead_winW0 s.plock a _)

/-- A read of FLT_W0 latches the upper time bits of the log entry at the cursor and answers its word 0 (R244). -/
theorem exec_fltW0Read_made {s : State} {a : Acc} (h : s.dev.may a ⟨0x600, 0x12c⟩ false = true) :
    exec (.fltW0Read a) s = .next (s.settled ((s.dev.fltRead a).2.emit (.reply (accIdx a) [(s.dev.fltRead a).1]))) :=
  State.peek_of_may (r := ⟨0x600, 0x12c⟩) (by decide) h (s.dev.regRead_fltW0 s.plock a _)

/-- Of a log entry that the accessor sees, FLT_W0 answers word 0. -/
theorem Dev.fltRead_of_seen {d : Dev} {a : Acc} {e : AccFault}
    (h : d.seen a d.logs.flt (d.arn (accIdx a) R.ISO_FLT_IDX % 16) (fun e => e.stable) = some e) :
    d.fltRead a = (e.word 0, d.awr (accIdx a) R.ISO_FLT_TIME_HI (hi32 e.time)) := by
  simp [Dev.fltRead, h, orZero]

/-! ### Clears of logs and the water marks (R197, R198, R217, R244) -/

section
variable {s : State} {a : Acc}

theorem exec_errLogClear_made (h : s.dev.may a ⟨0x500, 0x158⟩ true = true) : exec (.errLogClear a) s = .next (s.settled s.dev.routeLogClear) :=
  State.poke_of_may (r := ⟨0x500, 0x158⟩) (by decide) h (Dev.regWrite_of_action _ rfl (by decide) (by decide) rfl)

theorem exec_fltClear_made (h : s.dev.may a ⟨0x600, 0x148⟩ true = true) : exec (.fltClear a) s = .next (s.settled s.dev.fltLogClear) :=
  State.poke_of_may (r := ⟨0x600, 0x148⟩) (by decide) h (Dev.regWrite_of_action _ rfl (by decide) (by decide) rfl)

theorem exec_wmReset_made (h : s.dev.may a ⟨0x440, 0x11c⟩ true = true) : exec (.wmReset a) s = .next (s.settled s.dev.wmReset) :=
  State.poke_of_may (r := ⟨0x440, 0x11c⟩) (by decide) h (Dev.regWrite_of_action _ rfl (by decide) (by decide) rfl)

theorem exec_pdClear_port (h : s.dev.may a ⟨0x206, 0x100⟩ true = true) (hport : s.dev.instOf a 0x206 0x100 < 128) :
    exec (.pdClear a) s = .next (s.settled (s.dev.dropLogClear (s.dev.instOf a 0x206 0x100))) :=
  have hshown : s.dev.windowZero 0x206 0x100 (s.dev.instOf a 0x206 0x100) = false := decide_eq_false (Nat.not_le.2 hport)
  State.poke_of_may (r := ⟨0x206, 0x100⟩) (by decide) h (Dev.regWrite_of_action _ hshown (by decide) (by decide) rfl)

theorem exec_pdClear_internal (h : s.dev.may a ⟨0x206, 0x100⟩ true = true) (hport : 128 ≤ s.dev.instOf a 0x206 0x100) :
    exec (.pdClear a) s = .next (s.settled s.dev) :=
  have hzero : s.dev.windowZero 0x206 0x100 (s.dev.instOf a 0x206 0x100) = true := decide_eq_true hport
  State.poke_of_may (r := ⟨0x206, 0x100⟩) (by decide) h (if_pos hzero)

end

/-- The high-water mark of a stable is the cells that it holds. -/
def Dev.peakReset (d : Dev) (s : Nat) : Dev := d.wn R.SHD_STABLE_PEAK (0x200 + s) (d.stOf s)

/-- The mark is that of the cells held. -/
def Dev.PeakIsHeld (d : Dev) (k : Nat) : Prop := d.rd R.SHD_STABLE_PEAK (0x200 + k) = word (d.stOf k)

theorem Dev.wmReset_eq (d : Dev) : d.wmReset = (List.range 64).foldl Dev.peakReset (d.wn R.SHD_FREE_MIN 0 d.poolF) := rfl

/-- After a reset of several marks, those hold, and every mark that held before (a reset moves no cell). -/
theorem Dev.peakIsHeld_foldl (k : Nat) (l : List Nat) (d : Dev) (h : k ∈ l ∨ d.PeakIsHeld k) : (l.foldl Dev.peakReset d).PeakIsHeld k := by
  induction l generalizing d with
  | nil => exact h.resolve_left List.not_mem_nil
  | cons s l ih =>
    refine ih _ ?_
    by_cases hk : k = s
    · subst hk
      exact .inr (d.rd_wr_same _ _ _)
    · refine h.imp (fun hm => (List.mem_cons.1 hm).resolve_left hk) fun hheld => ?_
      exact (d.rd_wr_other _ (regKey_ne_of_inst _ _ (by omega))).trans hheld

theorem Dev.wmReset_path (d : Dev) : d.wmReset.path = d.path :=
  foldl_keeps (P := fun e : Dev => e.path = d.path) (f := Dev.peakReset) (fun _ _ he => he) _ _ rfl

theorem Dev.wmReset_peak (d : Dev) {k : Nat} (hk : k < 64) : d.wmReset.rd R.SHD_STABLE_PEAK (0x200 + k) = word (d.stOf k) := by
  have hheld : d.wmReset.PeakIsHeld k := Dev.peakIsHeld_foldl k _ _ (.inl (List.mem_range.2 hk))
  have hcells : d.wmReset.stOf k = d.stOf k := by rw [Dev.stOf, Dev.wmReset_path, Dev.stOf]
  exact hheld.trans (congrArg word hcells)

theorem Dev.wmReset_freeMin (d : Dev) : d.wmReset.rd R.SHD_FREE_MIN = word d.poolF := by
  rw [Dev.wmReset_eq]
  refine foldl_keeps (P := fun e : Dev => e.rd R.SHD_FREE_MIN = word d.poolF) (fun e s he => ?_) _ _ (d.rd_wr_same _ _ _)
  exact (e.rd_wr_other _ (regKey_ne_of_off (by decide) (by decide) (by decide))).trans he

/-- Settles O17: one clause for each command. -/
theorem entryReadsAndLogClearsComplete : Obligations.EntryReadsAndLogClearsComplete := by
  refine fun s a => ⟨?win, ?flt, exec_errLogClear_made, exec_fltClear_made, ?drops, exec_pdClear_internal, ?marks⟩
  case win =>
    exact fun h => ⟨_, exec_winEntryRead_made h, fun k hk => s.dev.ard_loadEntry _ _ _ _ winW_off_lt winW_off_ne hk,
      s.dev.loadEntry_frame _ _ _ _⟩
  case flt =>
    intro h e hseen
    have hexec := exec_fltW0Read_made h
    rw [Dev.fltRead_of_seen hseen] at hexec
    exact ⟨_, hexec, s.dev.ard_awr_same _ _ _, rfl⟩
  case drops => exact fun h hport => ⟨_, exec_pdClear_port h hport, Tbl.find_erase_same _ _, rfl⟩
  case marks => exact fun h => ⟨_, exec_wmReset_made h, s.dev.wmReset_freeMin, fun k hk => s.dev.wmReset_peak hk⟩

/-! ### Periodic work (R199, R357, R367) -/

/-- A whole millisecond at which the cell count agrees changes nothing else (R199). -/
theorem exec_cellCensus_agrees (s : State) :
    exec (.cellCensus false) s = .next (s.settled (s.dev.advanceTo ((s.dev.now / 1000000 + 1) * 1000000))) := by
  change execCellCensus false s = _
  exact State.eff_of_eq (if_neg Bool.false_ne_true)

/-- A count that does not agree raises its event and a fault of the shed (R199). -/
theorem exec_cellCensus_mismatch (s : State) {d : Dev} (hd : d = s.dev.advanceTo ((s.dev.now / 1000000 + 1) * 1000000)) :
    exec (.cellCensus true) s = .next (s.settled ((d.raise 0x482).fault 0x13 none none none (d.unitRef (.block 0x440)) 0)) := by
  subst hd
  change execCellCensus true s = _
  exact State.eff_of_eq (if_pos rfl)

/-- Every enabled shaper is refilled. -/
def Dev.refillAll (d : Dev) : Dev :=
  ((d.listed R.SCH_SH_CFG).filter fun e => bit e.2 0).foldl (fun d e => d.shRefill (e.1 - 0x1000)) d

theorem exec_shaperRefill (s : State) :
    exec .shaperRefill s = .next (s.settled (s.dev.advanceTo ((s.dev.now / 64 + 1) * 64)).refillAll) := rfl

/-- A stable's queue at a port stalls at an instant: it is said once, until the next selection (R367). -/
def Dev.stallSaid (d : Dev) (p st said tc t : Nat) : Dev :=
  let d := d.advanceTo t
  Dev.schEvent { d with sched := { d.sched with stalled := Tbl.put d.sched.stalled p 0 said } } 3 p st tc 0

theorem exec_queueStall_due {s : State} {p st since : Nat} {i : Item} (hi : (s.dev.queueOf p).find? (fun i => i.flow == st) = some i)
    (hus : s.dev.rf R.SCH_SCH_CTRL 0 15 0 ≠ 0) (hst : st < 64) (hsince : s.dev.sched.lastSel.getD (p * 128 + st) 0 = since)
    (hsel : since ≠ 0) (hsaid : (s.dev.sched.stalled.getD p 0).testBit st = false) :
    exec (.queueStall p st) s = .next (s.settled (s.dev.stallSaid p st (s.dev.sched.stalled.getD p 0 + 2 ^ st) i.tlp.tc
      (since - 1 + 1000 * s.dev.rf R.SCH_SCH_CTRL 0 15 0))) := by
  subst hsince
  change execQueueStall p st s = _
  refine State.eff_of_eq ?_
  rw [hi]
  refine if_neg ?_
  simp [hus, Nat.not_le.2 hst, hsel, hsaid]

/-- Settles O35: one clause for each command. -/
theorem periodicSchedulerWorkCompletes : Obligations.PeriodicSchedulerWorkCompletes := by
  refine fun s => ⟨?census, exec_shaperRefill s, ?stall⟩
  case census =>
    intro d hd
    exact ⟨hd ▸ exec_cellCensus_agrees s, exec_cellCensus_mismatch s hd⟩
  case stall => exact fun p st since i => exec_queueStall_due

/-! ### Containment and release of ports (R381, R386, R388, R393, R404) -/

/-- A command that is a guarded write which may be made answers what the write does to the device. -/
theorem State.eff_guardW_may {s : State} {a : Acc} {r : Reg} {f : Nat → Dev → Dev} (h : s.dev.may a r true = true) :
    (s.eff fun d => d.guardW a r f) = .next (s.settled (f (s.dev.instOf a r.page r.off) s.dev)) :=
  State.eff_of_eq (s.dev.guardW_may a r f h)

theorem Dev.portReleaseReq_of_flushing {d : Dev} {p : Nat} (hp : p < 128) (h : d.flushing p = true) :
    d.portReleaseReq p = (d.wf R.PRT2_ERR_STATUS p 5 5 1).wf R.PRT2_ERR_CTRL p 1 1 1 :=
  if_pos ⟨hp, h⟩

theorem Dev.portReleaseReq_of_idle {d : Dev} {p : Nat} (h : 128 ≤ p ∨ d.flushing p = false) : d.portReleaseReq p = d.portRelease p :=
  if_neg fun ⟨hp, hf⟩ => h.elim (Nat.not_le.2 hp) (ne_true_of_eq_false · hf)

section
variable {s : State} {a : Acc} (h : s.dev.may a R.PRT2_ERR_CTRL true = true)
include h

theorem exec_portContain_made :
    exec (.portContain a) s = .next (s.settled (s.dev.portContainReq (s.dev.instOf a 0x202 R.PRT2_ERR_CTRL.off))) :=
  State.eff_guardW_may h

theorem exec_portRelease_made :
    exec (.portRelease a) s = .next (s.settled (s.dev.portReleaseReq (s.dev.instOf a 0x202 R.PRT2_ERR_CTRL.off))) :=
  State.eff_guardW_may h

theorem exec_portUntaint_made :
    let p := s.dev.instOf a 0x202 R.PRT2_ERR_CTRL.off
    exec (.portUntaint a) s = .next (s.settled (if p < 128 then s.dev.portUntaint p else s.dev)) :=
  State.eff_guardW_may h

end

/-! ### A host's DPC (R386, R393, R404) -/

/-- A host's own port: one that its stable owns. -/
def Dev.OwnPort (d : Dev) (st p : Nat) : Prop := d.ownMode p = 1 ∧ d.owner p = some st

theorem Dev.not_ownPort {d : Dev} {st p : Nat} (h : d.ownMode p ≠ 1 ∨ d.owner p ≠ some st) : ¬ d.OwnPort st p :=
  fun ⟨hmode, howner⟩ => h.elim (· hmode) (· howner)

theorem Dev.dpcRelease_heard {d : Dev} {st p : Nat} (hdown : d.isDown p = true) (hown : d.OwnPort st p) (hc : d.portContained p = true) :
    d.dpcRelease st p = d.portReleaseReq p :=
  if_pos ⟨hown.1, hown.2, hdown, hc⟩

theorem Dev.dpcRelease_ignored {d : Dev} {st p : Nat} (h : ¬ d.OwnPort st p ∨ d.portContained p = false) : d.dpcRelease st p = d :=
  if_neg fun ⟨hmode, howner, _, hc⟩ => h.elim (· ⟨hmode, howner⟩) (ne_true_of_eq_false · hc)

/-- The trigger fences the port: its function's DPC is noted, with the reason of a software trigger. -/
theorem Dev.dpcSoft_own {d : Dev} {st p : Nat} (hdown : d.isDown p = true) (hown : d.OwnPort st p) :
    d.dpcSoft st p = { d with saf := { d.saf with dpc := d.saf.dpc ++ [(p, 39)] } } :=
  (if_neg (not_ne_true hdown)).trans (if_pos hown)

/-- On another's port the trigger contains the slices of the host's stable there. -/
theorem Dev.dpcSoft_other {d : Dev} {st p : Nat} (hdown : d.isDown p = true) (hother : ¬ d.OwnPort st p) :
    d.dpcSoft st p = ((d.portSlices p).filter fun e => d.sliceStable e.1 == st).foldl (fun d e => d.sliceContain e.1) d :=
  (if_neg (not_ne_true hdown)).trans (if_neg hother)

theorem exec_dpcRelease (s : State) (st p : Nat) : exec (.dpcRelease st p) s = .next (s.settled (s.dev.dpcRelease st p)) := rfl

theorem exec_dpcSoftwareTrigger (s : State) (st p : Nat) :
    exec (.dpcSoftwareTrigger st p) s = .next (s.settled (s.dev.dpcSoft st p)) := rfl

/-! ### Containment and release of stables (R381, R386) -/

/-- A duplicated entry names a stable, in the primary or in the check copy. -/
def Dev.entryNames (d : Dev) (st : Nat) (e : Nat × Nat) : Bool :=
  (d.entryStables e.1 e.2).contains st || (d.chkView.entryStables e.1 e.2).contains st

/-- The device in which the entries that name a stable have been scrubbed. -/
def Dev.scrubFor (d : Dev) (st : Nat) : Dev := d.scrub (d.entryNames st)

/-- The containment of a stable ends, and with it that of the ports held under it. -/
def Dev.stableFree (d : Dev) (st : Nat) : Dev :=
  let d := d.wf R.SAF_STB_SAF_STATUS st 1 0 0
  Dev.raise { d with saf := { d.saf with portWide := d.saf.portWide.filter fun p => d.owner p != some st } } 0x795

theorem Dev.stableRelease_eq (d : Dev) (st : Nat) :
    d.stableRelease st =
      if !d.stbContained st ∨ d.failsafe then d
      else if (d.scrubFor st).dirtyEntries.any ((d.scrubFor st).entryNames st) then (d.scrubFor st).wf R.SAF_STB_SAF_STATUS st 1 1 1
      else (d.scrubFor st).stableFree st := rfl

theorem Dev.stableRelease_ignored {d : Dev} {st : Nat} (h : d.stbContained st = false ∨ d.failsafe = true) : d.stableRelease st = d := by
  rw [Dev.stableRelease_eq, if_pos (h.imp_left fun hfree => by rw [hfree]; rfl)]

section
variable {d : Dev} {st : Nat} (hc : d.stbContained st = true) (hsafe : d.failsafe = false)
include hc hsafe

theorem Dev.stableRelease_scrubs :
    d.stableRelease st =
      if (d.scrubFor st).dirtyEntries.any ((d.scrubFor st).entryNames st) then (d.scrubFor st).wf R.SAF_STB_SAF_STATUS st 1 1 1
      else (d.scrubFor st).stableFree st := by
  have hheld : ¬ (((!d.stbContained st) = true) ∨ d.failsafe = true) := not_or.2 ⟨not_ne_true hc, ne_true_of_eq_false hsafe⟩
  rw [Dev.stableRelease_eq, if_neg hheld]

theorem Dev.stableRelease_refused (hdirty : (d.scrubFor st).dirtyEntries.any ((d.scrubFor st).entryNames st) = true) :
    d.stableRelease st = (d.scrubFor st).wf R.SAF_STB_SAF_STATUS st 1 1 1 := by
  rw [Dev.stableRelease_scrubs hc hsafe, if_pos hdirty]

theorem Dev.stableRelease_done (hclean : (d.scrubFor st).dirtyEntries.any ((d.scrubFor st).entryNames st) = false) :
    d.stableRelease st = (d.scrubFor st).stableFree st := by
  rw [Dev.stableRelease_scrubs hc hsafe, if_neg (ne_true_of_eq_false hclean)]

end

section
variable {s : State} {a : Acc} (h : s.dev.may a R.SAF_STB_SAF_CTRL true = true)
include h

theorem exec_stableContain_made :
    exec (.stableContain a) s = .next (s.settled (s.dev.containStable (s.dev.instOf a 0xc00 R.SAF_STB_SAF_CTRL.off) 0)) :=
  State.eff_guardW_may h

theorem exec_stableRelease_made :
    exec (.stableRelease a) s = .next (s.settled (s.dev.stableRelease (s.dev.instOf a 0xc00 R.SAF_STB_SAF_CTRL.off))) :=
  State.eff_guardW_may h

end

/-! ### Logs of containment and the end of a flush (R191, R389, R398) -/

theorem exec_pplClear_made {s : State} {a : Acc} (h : s.dev.may a R.PRT2_PPL_CTRL true = true) :
    exec (.pplClear a) s = .next (s.settled s.dev.pplClear) :=
  State.eff_guardW_may h

theorem exec_flogClear_made {s : State} {a : Acc} (h : s.dev.may a R.SAF_FLOG_CTRL true = true) :
    exec (.flogClear a) s = .next (s.settled s.dev.flogClear) :=
  State.eff_guardW_may h

/-- A flush ends: it counts and raises its event, and a release that waited takes effect (R191). -/
def Dev.flushEnd (d : Dev) (p : Nat) : Dev :=
  let d := d.wf R.PRT6_FLUSH_STATE p 0 0 0
  let d := (d.wf R.PRT6_FLUSH_STATE p 31 16 (d.rf R.PRT6_FLUSH_STATE p 31 16 + 1)).raise 0x484
  if d.rb R.PRT2_ERR_STATUS p 5 then d.portRelease p else d

theorem exec_portFlushEnd_drained {s : State} {p : Nat} (hf : s.dev.flushing p = true) (hq : s.dev.queueOf p = []) :
    exec (.portFlushEnd p) s = .next (s.settled (s.dev.flushEnd p)) := by
  have hdrained : ¬ (((!s.dev.flushing p) = true) ∨ (!(s.dev.queueOf p).isEmpty) = true) :=
    not_or.2 ⟨not_ne_true hf, not_ne_true (List.isEmpty_iff.2 hq)⟩
  change execPortFlushEnd p s = _
  exact State.eff_of_eq (if_neg hdrained)

theorem exec_portFlushEnd_early {s : State} {p : Nat} (h : s.dev.flushing p = false ∨ s.dev.queueOf p ≠ []) :
    exec (.portFlushEnd p) s = .next (s.settled s.dev) := by
  have hearly : ((!s.dev.flushing p) = true) ∨ (!(s.dev.queueOf p).isEmpty) = true := by
    simpa using h
  change execPortFlushEnd p s = _
  exact State.eff_of_eq (if_pos hearly)

/-- Settles O47: the register commands of a port, a host's DPC, those of a stable, the two logs, and the end of a flush. -/
theorem containmentAndReleaseComplete : Obligations.ContainmentAndReleaseComplete := by
  refine fun s a => ⟨fun h => ?port, fun st p hdown => ?dpc, fun h => ?stable, exec_pplClear_made, exec_flogClear_made,
    fun p => exec_portFlushEnd_drained, fun p => exec_portFlushEnd_early⟩
  case port =>
    have hrel := exec_portRelease_made h
    refine ⟨exec_portContain_made h, fun hp hf => ?_, fun hidle => ?_, exec_portUntaint_made h⟩
    · rw [hrel, Dev.portReleaseReq_of_flushing hp hf]
    · rw [hrel, Dev.portReleaseReq_of_idle hidle]
  case dpc =>
    have hrel := exec_dpcRelease s st p
    have htrig := exec_dpcSoftwareTrigger s st p
    refine ⟨fun hmode howner => ⟨?_, fun hc => ?_⟩, fun h => ?_, fun h => ?_⟩
    · rw [htrig, Dev.dpcSoft_own hdown ⟨hmode, howner⟩]
    · rw [hrel, Dev.dpcRelease_heard hdown ⟨hmode, howner⟩ hc]
    · rw [hrel, Dev.dpcRelease_ignored ((or_assoc.2 h).imp_left Dev.not_ownPort)]
    · rw [htrig, Dev.dpcSoft_other hdown (Dev.not_ownPort h)]
  case stable =>
    have hrel := exec_stableRelease_made h
    refine ⟨exec_stableContain_made h, fun hfree => ?_, fun hc hsafe => ⟨fun hdirty => ?_, fun hclean => ?_⟩⟩
    · rw [hrel, Dev.stableRelease_ignored hfree]
    · exact hrel.trans (by rw [Dev.stableRelease_refused hc hsafe hdirty]; rfl)
    · exact hrel.trans (by rw [Dev.stableRelease_done hc hsafe hclean]; rfl)

end Sys2Proof.Machine
end

section
/-! Family 08_routing_and_windows: writes that stage a table entry at a cursor and writes of permission words (O16), configuration requests
and commits of HDM decoders (O48). -/

namespace Sys2Proof.Machine

/-! ### Staged words (R38, R53) -/

/-- A word staged for the commit of its own page is what the accessor then reads. -/
theorem Dev.rwsRead_stage_same (d : Dev) (acc page inst off : Nat) (v : Word) :
    (d.stage ⟨acc, page, page, inst, off, v⟩).rwsRead acc page inst off = v := by
  simp [Dev.rwsRead, Dev.stage]

/-- The staged words that a read takes: those of the accessor for this register, for the commit of its page. -/
def Stg.readBy (acc page inst off : Nat) (x : Stg) : Bool := x.acc == acc && x.via == page && (x.page == page && x.inst == inst && x.off == off)

/-- A staged word for another offset of the page is none that a read takes, and replaces none. -/
theorem Dev.stage_filter_readBy_other (d : Dev) (acc via page inst : Nat) {off o : Nat} (v : Word) (h : off ≠ o) :
    (d.stage ⟨acc, via, page, inst, off, v⟩).staging.staged.filter (Stg.readBy acc page inst o) =
      d.staging.staged.filter (Stg.readBy acc page inst o) := by
  have hnew : ¬ Stg.readBy acc page inst o ⟨acc, via, page, inst, off, v⟩ = true := by simp [Stg.readBy, h]
  rw [Dev.stage, List.filter_append, List.filter_filter, List.filter_cons_of_neg hnew, List.filter_nil, List.append_nil]
  refine List.filter_congr fun y _ => ?_
  by_cases hoff : y.off = o
  · simp [Stg.same, hoff, h.symm]
  · simp [Stg.readBy, hoff]

/-- A staged word leaves what the accessor reads at another offset alone. -/
theorem Dev.rwsRead_stage_other (d : Dev) (acc via page inst : Nat) {off o : Nat} (v : Word) (h : off ≠ o) :
    (d.stage ⟨acc, via, page, inst, off, v⟩).rwsRead acc page inst o = d.rwsRead acc page inst o := by
  have hsame := d.stage_filter_readBy_other acc via page inst v h
  unfold Stg.readBy at hsame
  simp only [Dev.rwsRead, hsame]
  rfl

/-- Several words of one entry staged, in order. -/
def Dev.stageWords (d : Dev) (acc page inst : Nat) (vals : List (Nat × Word)) : Dev :=
  vals.foldl (fun d e => d.stage ⟨acc, page, page, inst, e.1, e.2⟩) d

theorem Dev.stageWords_regs (d : Dev) (acc page inst : Nat) (vals : List (Nat × Word)) : (d.stageWords acc page inst vals).regs = d.regs :=
  foldl_keeps (P := fun e : Dev => e.regs = d.regs) (f := fun d (e : Nat × Word) => d.stage ⟨acc, page, page, inst, e.1, e.2⟩)
    (fun _ _ he => he) _ _ rfl

theorem Dev.stageWords_aregs (d : Dev) (acc page inst : Nat) (vals : List (Nat × Word)) :
    (d.stageWords acc page inst vals).aregs = d.aregs :=
  foldl_keeps (P := fun e : Dev => e.aregs = d.aregs) (f := fun d (e : Nat × Word) => d.stage ⟨acc, page, page, inst, e.1, e.2⟩)
    (fun _ _ he => he) _ _ rfl

theorem Dev.rwsRead_stageWords_other (acc page inst : Nat) {o : Nat} (vals : List (Nat × Word)) (d : Dev) (h : o ∉ vals.map Prod.fst) :
    (d.stageWords acc page inst vals).rwsRead acc page inst o = d.rwsRead acc page inst o := by
  induction vals generalizing d with
  | nil => rfl
  | cons e vals ih =>
    obtain ⟨hhead, htail⟩ := List.ne_and_not_mem_of_not_mem_cons h
    exact (ih _ htail).trans (d.rwsRead_stage_other _ _ _ _ _ hhead.symm)

/-- Of words staged at different offsets each is read back. -/
theorem Dev.rwsRead_stageWords_mem (acc page inst : Nat) {o : Nat} {v : Word} (vals : List (Nat × Word)) (d : Dev)
    (hnd : (vals.map Prod.fst).Nodup) (hmem : (o, v) ∈ vals) : (d.stageWords acc page inst vals).rwsRead acc page inst o = v := by
  induction vals generalizing d with
  | nil => exact absurd hmem List.not_mem_nil
  | cons e vals ih =>
    obtain ⟨hfresh, hrest⟩ := List.nodup_cons.1 hnd
    rcases List.mem_cons.1 hmem with rfl | htail
    · exact (Dev.rwsRead_stageWords_other _ _ _ vals _ hfresh).trans (d.rwsRead_stage_same _ _ _ _ _)
    · exact ih _ hrest htail

/-! ### Entries at a cursor (R213) -/

theorem Dev.arn_awn_same (d : Dev) (acc : Nat) (r : Reg) {n : Nat} (h : n < 4294967296) : (d.awn acc r n).arn acc r = n := by
  rw [Dev.arn, Dev.awn, Dev.ard_awr_same, word, BitVec.toNat_ofNat, Nat.mod_eq_of_lt h]

/-- The words are staged for the entry at the cursor, no register in force changes, and the cursor moves on, wrapping at the end of the
table. -/
structure Dev.StagesEntry (old new : Dev) (acc : Nat) (idx : Reg) (size : Nat) (vals : List (Nat × Word)) : Prop where
  cursor : new.arn acc idx = (old.arn acc idx % size + 1) % size
  word : ∀ o v, (o, v) ∈ vals → new.rwsRead acc idx.page (old.arn acc idx % size) o = v
  regs : new.regs = old.regs

theorem Dev.stageEntry_eq (d : Dev) (acc : Nat) (idx : Reg) (size : Nat) (vals : List (Nat × Word)) :
    d.stageEntry acc idx size vals =
      (d.stageWords acc idx.page (d.arn acc idx % size) vals).awn acc idx ((d.arn acc idx % size + 1) % size) := rfl

theorem Dev.stageEntry_stages (d : Dev) (acc : Nat) (idx : Reg) {size : Nat} {vals : List (Nat × Word)} (hsize : 0 < size)
    (hfit : size ≤ 4294967296) (hnd : (vals.map Prod.fst).Nodup) :
    d.StagesEntry (d.stageEntry acc idx size vals) acc idx size vals where
  cursor := Dev.arn_awn_same _ _ _ (Nat.lt_of_lt_of_le (Nat.mod_lt _ hsize) hfit)
  word _ _ hmem := Dev.rwsRead_stageWords_mem _ _ _ vals d hnd hmem
  regs := d.stageWords_regs _ _ _ _

/-- A held word written first leaves the cursor where it is. -/
theorem Dev.awr_stageEntry_stages (d : Dev) (acc : Nat) {idx r : Reg} (w : Word) {size : Nat} {vals : List (Nat × Word)} (hsize : 0 < size)
    (hfit : size ≤ 4294967296) (hnd : (vals.map Prod.fst).Nodup) (hidx : idx.off < 4096) (hr : r.off < 4096) (hne : idx.off ≠ r.off) :
    d.StagesEntry ((d.awr acc r w).stageEntry acc idx size vals) acc idx size vals := by
  have hcur : (d.awr acc r w).arn acc idx = d.arn acc idx := congrArg BitVec.toNat (d.ard_awr_other w hidx hr hne)
  obtain ⟨hcursor, hword, hregs⟩ := (d.awr acc r w).stageEntry_stages acc idx hsize hfit hnd
  rw [hcur] at hcursor hword
  exact ⟨hcursor, hword, hregs⟩

theorem Dev.winEntryW_stages (d : Dev) (acc : Nat) (w : Word) :
    d.StagesEntry (d.winEntryW acc w) acc R.RTE_WIN_IDX 8192
      [(0x108, d.ard acc (R.RTE_WIN_W 0) &&& 0xfffff000), (0x10c, d.ard acc (R.RTE_WIN_W 1)), (0x110, d.ard acc (R.RTE_WIN_W 2)),
        (0x114, w &&& 0x3ff7ffff)] :=
  d.awr_stageEntry_stages acc _ (by decide) (by decide) (by decide : [0x108, 0x10c, 0x110, 0x114].Nodup) (by decide) (by decide) (by decide)

theorem Dev.xingEntryW_stages (d : Dev) (acc : Nat) (w : Word) :
    d.StagesEntry (d.xingEntryW acc w) acc R.RTE_XING_IDX 1024
      [(0x124, d.ard acc (R.RTE_XING_W 0) &&& 0xfffff000), (0x128, d.ard acc (R.RTE_XING_W 1)),
        (0x12c, d.ard acc (R.RTE_XING_W 2) &&& 0x000f3f3f), (0x130, 0)] :=
  d.awr_stageEntry_stages acc _ (by decide) (by decide) (by decide : [0x124, 0x128, 0x12c, 0x130].Nodup) (by decide) (by decide) (by decide)

theorem Dev.ruleEntryW_stages (d : Dev) (acc : Nat) (w : Word) :
    d.StagesEntry (d.ruleEntryW acc w) acc R.ISO_RULE_IDX 16384
      [(0x108, d.ard acc (R.ISO_RULE_W 0) &&& 0xfffff03f), (0x10c, d.ard acc (R.ISO_RULE_W 1)), (0x110, d.ard acc (R.ISO_RULE_W 2)),
        (0x114, w &&& 0x00ffffff)] :=
  d.awr_stageEntry_stages acc _ (by decide) (by decide) (by decide : [0x108, 0x10c, 0x110, 0x114].Nodup) (by decide) (by decide) (by decide)

theorem Dev.pinEntryW_stages (d : Dev) (acc : Nat) (w : Word) :
    d.StagesEntry (d.pinEntryW acc w) acc R.STL_PIN_IDX 2048 [(0x134, d.ard acc R.STL_PIN_W0), (0x138, w)] :=
  d.stageEntry_stages acc _ (by decide) (by decide) (by decide : [0x134, 0x138].Nodup)

section
variable {s : State} {a : Acc} (w : Word)

theorem exec_winEntryWrite_made (h : s.dev.may a (R.RTE_WIN_W 3) true = true) :
    exec (.winEntryWrite a w) s = .next (s.settled (s.dev.winEntryW (accIdx a) w)) :=
  State.poke_of_may (r := R.RTE_WIN_W 3) (by decide) h (Dev.regWrite_of_action _ rfl (by decide) (by decide) rfl)

theorem exec_xingEntryWrite_made (h : s.dev.may a (R.RTE_XING_W 3) true = true) :
    exec (.xingEntryWrite a w) s = .next (s.settled (s.dev.xingEntryW (accIdx a) w)) :=
  State.poke_of_may (r := R.RTE_XING_W 3) (by decide) h (Dev.regWrite_of_action _ rfl (by decide) (by decide) rfl)

theorem exec_ruleEntryWrite_made (h : s.dev.may a (R.ISO_RULE_W 3) true = true) :
    exec (.ruleEntryWrite a w) s = .next (s.settled (s.dev.ruleEntryW (accIdx a) w)) :=
  State.poke_of_may (r := R.ISO_RULE_W 3) (by decide) h (Dev.regWrite_of_action _ rfl (by decide) (by decide) rfl)

theorem exec_pinEntryWrite_made (h : s.dev.may a R.STL_PIN_W1 true = true) :
    exec (.pinEntryWrite a w) s = .next (s.settled (s.dev.pinEntryW (accIdx a) w)) :=
  State.poke_of_may (r := R.STL_PIN_W1) (by decide) h (Dev.regWrite_of_action _ rfl (by decide) (by decide) rfl)

theorem exec_vslotDataWrite_made (h : s.dev.may a ⟨0x205, 0x194⟩ true = true) :
    exec (.vslotDataWrite a w) s = .next (s.settled (s.dev.vslotW (accIdx a) w)) :=
  State.poke_of_may (r := ⟨0x205, 0x194⟩) (by decide) h (Dev.regWrite_of_action _ rfl (by decide) (by decide) rfl)

theorem exec_permDataWrite_made (h : s.dev.may a R.ISO_PERM_DATA true = true) :
    exec (.permDataWrite a w) s = .next (s.settled (s.dev.permW s.plock (accIdx a) w)) :=
  State.poke_of_may (r := R.ISO_PERM_DATA) (by decide) h rfl

end

/-! ### Virtual slots (R402) -/

theorem Dev.vslotW_of_slot {d : Dev} {acc : Nat} (w : Word) (h : d.arn acc R.PRT5_VSLOT_IDX % 256 < 248) :
    d.vslotW acc w = (d.stage ⟨acc, 0x205, 0x205, 256 * (d.arn acc R.PRT5_FN_IDX % 64) + d.arn acc R.PRT5_VSLOT_IDX % 256, 0x194,
      w &&& 0xfff⟩).awn acc R.PRT5_VSLOT_IDX ((d.arn acc R.PRT5_VSLOT_IDX % 256 + 1) % 248) :=
  if_neg (Nat.not_le.2 h)

theorem Dev.vslotW_of_no_slot {d : Dev} {acc : Nat} (w : Word) (h : 248 ≤ d.arn acc R.PRT5_VSLOT_IDX % 256) : d.vslotW acc w = d := if_pos h

/-! ### Permission words (R250, R257) -/

theorem bit_setFld_one (w : Word) {i : Nat} (hi : i < 32) : bit (setFld w i i 1) i = true := by
  have hone : 1 < 2 ^ (i + 1 - i) := by simp
  have hfld := fld_setFld_same w (Nat.le_refl i) hi hone
  rw [fld, Nat.add_sub_cancel_left, Nat.pow_one] at hfld
  rw [bit, Nat.testBit_eq_decide_div_mod_eq, hfld, decide_eq_true rfl]

/-- A sticky bit of SEL_STATUS is set for the accessor. -/
theorem Dev.bit_sticky (d : Dev) (acc page : Nat) {i : Nat} (hi : i < 32) : bit ((d.sticky acc page i).ard acc (selStatus page)) i = true := by
  rw [Dev.sticky, Dev.ard_awr_same, bit_setFld_one _ hi]

section
variable (d : Dev) (lk : List Nat) (acc : Nat) (w : Word)

/-- The page that PERM_IDX of an accessor names. -/
def Dev.permPage : Nat := d.arn acc R.ISO_PERM_IDX % 8192

/-- The cursor of PERM_DATA, moved on. -/
def Dev.permNext : Dev := d.awn acc R.ISO_PERM_IDX ((d.permPage acc + 1) % 8192)

/-- A permission word that a write does not set: of a page that is not populated, and of page ISO without the write permissions of FM and
ENRUEZ_P. -/
def permRefused (page : Nat) (w : Word) : Prop := pagePopulated page = false ∨ (page = 0x600 ∧ (bit w 3 = false ∨ bit w 5 = false))

theorem permRefused_iff (page : Nat) (w : Word) :
    (!pagePopulated page || (page == 0x600 && !(bit w 3 && bit w 5))) = true ↔ permRefused page w := by
  simp [permRefused]

theorem not_permRefused_of_populated {page : Nat} {w : Word} (hpop : pagePopulated page = true)
    (hkeep : page ≠ 0x600 ∨ (bit w 3 = true ∧ bit w 5 = true)) : ¬ permRefused page w := by
  rcases hkeep with hne | ⟨h3, h5⟩ <;> simp [permRefused, *]

variable {d lk acc w}

theorem Dev.permW_of_locked (h : 0x600 ∈ lk) : d.permW lk acc w = (d.permNext acc).sticky acc 0x600 3 :=
  if_pos (List.contains_iff_mem.2 h)

theorem Dev.permW_of_refused (hlk : 0x600 ∉ lk) (h : permRefused (d.permPage acc) w) : d.permW lk acc w = d.permNext acc :=
  (if_neg (mt List.contains_iff_mem.1 hlk)).trans (if_pos ((permRefused_iff _ _).2 h))

theorem Dev.permW_of_taken (hlk : 0x600 ∉ lk) (h : ¬ permRefused (d.permPage acc) w) :
    d.permW lk acc w = (d.permNext acc).wr R.ISO_PERM_DATA (d.permPage acc) (w &&& 0x3ff) :=
  (if_neg (mt List.contains_iff_mem.1 hlk)).trans (if_neg (mt (permRefused_iff _ _).1 h))

theorem Dev.permNext_cursor : (d.permNext acc).arn acc R.ISO_PERM_IDX = (d.permPage acc + 1) % 8192 :=
  Dev.arn_awn_same _ _ _ (Nat.lt_trans (Nat.mod_lt _ (by decide)) (by decide))

theorem Dev.permW_cursor : (d.permW lk acc w).arn acc R.ISO_PERM_IDX = (d.permPage acc + 1) % 8192 := by
  by_cases hlk : 0x600 ∈ lk
  · rw [Dev.permW_of_locked hlk, ← Dev.permNext_cursor]
    exact congrArg BitVec.toNat (Dev.ard_awr_other _ _ (by decide) (by decide) (by decide))
  by_cases href : permRefused (d.permPage acc) w
  · rw [Dev.permW_of_refused hlk href, Dev.permNext_cursor]
  · rw [Dev.permW_of_taken hlk href, ← Dev.permNext_cursor]
    rfl

theorem Dev.permW_regs_of_locked (h : 0x600 ∈ lk) : (d.permW lk acc w).regs = d.regs := by
  rw [Dev.permW_of_locked h]
  rfl

theorem Dev.permW_regs_of_refused (h : permRefused (d.permPage acc) w) : (d.permW lk acc w).regs = d.regs := by
  by_cases hlk : 0x600 ∈ lk
  · exact Dev.permW_regs_of_locked hlk
  · rw [Dev.permW_of_refused hlk h]
    rfl

end

/-- Settles O16: the four tables by `Dev.StagesEntry`, the virtual slots and the permission words by the cases of their writes. -/
theorem entryWritesStageTheEntry : Obligations.EntryWritesStageTheEntry := by
  refine fun s a w => ⟨?win, ?xing, ?rule, ?pin, ?slot, ?noSlot, ?perm⟩
  case win =>
    intro h
    obtain ⟨hcursor, hword, hregs⟩ := s.dev.winEntryW_stages (accIdx a) w
    exact ⟨_, exec_winEntryWrite_made w h, hcursor, hword _ _ (by simp), hword _ _ (by simp), hword _ _ (by simp), hword _ _ (by simp), hregs⟩
  case xing =>
    intro h
    obtain ⟨hcursor, hword, hregs⟩ := s.dev.xingEntryW_stages (accIdx a) w
    exact ⟨_, exec_xingEntryWrite_made w h, hcursor, hword _ _ (by simp), hword _ _ (by simp), hword _ _ (by simp), hregs⟩
  case rule =>
    intro h
    obtain ⟨hcursor, hword, hregs⟩ := s.dev.ruleEntryW_stages (accIdx a) w
    exact ⟨_, exec_ruleEntryWrite_made w h, hcursor, hword _ _ (by simp), hword _ _ (by simp), hword _ _ (by simp), hword _ _ (by simp), hregs⟩
  case pin =>
    intro h
    obtain ⟨hcursor, hword, hregs⟩ := s.dev.pinEntryW_stages (accIdx a) w
    exact ⟨_, exec_pinEntryWrite_made w h, hcursor, hword _ _ (by simp), hword _ _ (by simp), hregs⟩
  case slot =>
    intro h hk
    have hexec := exec_vslotDataWrite_made w h
    rw [Dev.vslotW_of_slot w hk] at hexec
    exact ⟨_, hexec, Dev.arn_awn_same _ _ _ (Nat.lt_trans (Nat.mod_lt _ (by decide)) (by decide)), Dev.rwsRead_stage_same _ _ _ _ _ _, rfl⟩
  case noSlot =>
    intro h hk
    rw [exec_vslotDataWrite_made w h, Dev.vslotW_of_no_slot w hk]
  case perm =>
    refine fun h => ⟨_, exec_permDataWrite_made w h, Dev.permW_cursor, ?taken, Dev.permW_regs_of_refused, ?locked⟩
    case taken =>
      intro hlk hpop hkeep
      rw [Dev.permW_of_taken hlk (not_permRefused_of_populated hpop hkeep)]
      exact Dev.rd_wr_same _ _ _ _
    case locked =>
      intro hlk
      refine ⟨Dev.permW_regs_of_locked hlk, ?_⟩
      rw [Dev.permW_of_locked hlk]
      exact Dev.bit_sticky _ _ _ (by decide)

/-! ### Configuration requests taken up (R202, R203, R401) -/

/-- The oldest request taken from the inbox of P130 and matched against its ledger entry. -/
def Dev.cfgMatch (d : Dev) (i : Item) : Dev × Bool :=
  Dev.ledgerAnswer { d with path := { d.path with inbox := d.path.inbox.erase i } } i 130

/-- A member alone, or the head of a yard, adopts the write of a routing field itself. -/
def Dev.adoptsWrite (d : Dev) (i : Item) (st : Nat) : Bool := (!d.yardEn || d.isHead) && d.routingWrite i st

/-- A member that is not the head carries the write of a routing field to the head. -/
def Dev.forwardsWrite (d : Dev) (i : Item) (st : Nat) : Bool := d.yardEn && !d.isHead && d.routingWrite i st

theorem Dev.adoptsWrite_iff (d : Dev) (i : Item) (st : Nat) :
    d.adoptsWrite i st = true ↔ d.routingWrite i st = true ∧ (d.yardEn = false ∨ d.isHead = true) := by
  simp [Dev.adoptsWrite, and_comm]

theorem Dev.forwardsWrite_iff (d : Dev) (i : Item) (st : Nat) :
    d.forwardsWrite i st = true ↔ d.routingWrite i st = true ∧ d.yardEn = true ∧ d.isHead = false := by
  simp [Dev.forwardsWrite, and_comm]

section
variable {s : State} {e : Dev}

theorem exec_configRequest_of_take (h : s.dev.cfgTake (fun _ _ _ => true) = e) : exec .configRequest s = .next (s.settled e) :=
  State.eff_of_eq (f := fun d => d.cfgTake (fun _ _ _ => true)) h

theorem exec_routingFieldWrite_of_take (h : s.dev.cfgTake Dev.adoptsWrite = e) : exec .routingFieldWrite s = .next (s.settled e) :=
  State.eff_of_eq (f := fun d => d.cfgTake Dev.adoptsWrite) h

theorem exec_routingFieldForward_of_take (h : s.dev.cfgTake Dev.forwardsWrite = e) : exec .routingFieldForward s = .next (s.settled e) :=
  State.eff_of_eq (f := fun d => d.cfgTake Dev.forwardsWrite) h

end

section
variable {d : Dev} {p : Dev → Item → Nat → Bool}

theorem Dev.cfgTake_of_no_head (h : d.cfgHead = none) : d.cfgTake p = d := by
  rw [Dev.cfgTake, h]

variable {i : Item} {st : Nat} (hhead : d.cfgHead = some i) (hstb : i.stb = some st)
include hhead hstb

theorem Dev.cfgTake_of_head :
    d.cfgTake p = if p d i st = true then if (d.cfgMatch i).2 = true then (d.cfgMatch i).1.cfgServe i st else (d.cfgMatch i).1 else d := by
  simp only [Dev.cfgTake, hhead, hstb]
  cases p d i st <;> rfl

theorem Dev.cfgTake_of_left (hp : ¬ p d i st = true) : d.cfgTake p = d := by
  rw [Dev.cfgTake_of_head hhead hstb, if_neg hp]

theorem Dev.cfgTake_of_unmatched (hp : p d i st = true) (hmatch : (d.cfgMatch i).2 = false) : d.cfgTake p = (d.cfgMatch i).1 := by
  rw [Dev.cfgTake_of_head hhead hstb, if_pos hp, if_neg (ne_true_of_eq_false hmatch)]

theorem Dev.cfgTake_of_matched (hp : p d i st = true) (hmatch : (d.cfgMatch i).2 = true) {e : Dev}
    (hserve : (d.cfgMatch i).1.cfgServe i st = e) : d.cfgTake p = e := by
  rw [Dev.cfgTake_of_head hhead hstb, if_pos hp, if_pos hmatch, hserve]

end

/-! ### What serves a configuration request (R401, R417) -/

/-- The completion of a configuration request without data. -/
def Dev.cfgAnswer (d : Dev) (i : Item) (st status : Nat) : Dev := d.completeStatus i.tlp (some st) i.ingress 130 .mgmt status

/-- A write of a routing field that waits for its commit. -/
def Dev.cfgAwait (d : Dev) (i : Item) (st fn : Nat) : Dev :=
  let c : CfgWait := ⟨st, i.tlp.rid, i.tlp.tag⟩
  Dev.commitCfg { d with fn := { d.fn with cfgWait := d.fn.cfgWait ++ [(c, i.tlp, i.ingress)] } }
    (d.cfgStg st fn (i.tlp.reg / 4) i.tlp.fbe (dataWord i.tlp.data)) c

section
variable {d : Dev} {i : Item} {st : Nat}

theorem Dev.cfgServe_of_absent (h : d.cfgFn st i.tlp = none) : d.cfgServe i st = d.cfgAnswer i st 1 := by
  simp only [Dev.cfgServe, h, Dev.cfgAnswer]

variable {fn : Nat} (hfn : d.cfgFn st i.tlp = some fn)
include hfn

theorem Dev.cfgServe_of_busy (hbusy : d.fnBusy st fn = true) :
    d.cfgServe i st = (d.cfgAnswer i st 2).bump R.PRT5_CNT_RRS st (some st) := by
  simp only [Dev.cfgServe, hfn, if_pos hbusy, Dev.cfgAnswer]

variable (hidle : d.fnBusy st fn = false)
include hidle

theorem Dev.cfgServe_of_read (hread : i.tlp.kind = .cfgRd) :
    d.cfgServe i st = d.completeData i.tlp (some st) i.ingress 130 .mgmt i.tlp.addr (bytesOf 4 (d.cfgRead st fn (i.tlp.reg / 4) st).toNat) := by
  simp only [Dev.cfgServe, hfn, if_neg (ne_true_of_eq_false hidle), if_pos hread]

variable (hwrite : i.tlp.kind ≠ .cfgRd)
include hwrite

theorem Dev.cfgServe_of_poisoned (hep : i.tlp.ep = true) : d.cfgServe i st = d.cfgAnswer i st 1 := by
  simp only [Dev.cfgServe, hfn, if_neg (ne_true_of_eq_false hidle), if_neg hwrite, if_pos hep, Dev.cfgAnswer]

variable (hep : i.tlp.ep = false)
include hep

theorem Dev.cfgServe_of_routing (hrt : isRouting fn (i.tlp.reg / 4) i.tlp.fbe = true) : d.cfgServe i st = d.cfgAwait i st fn := by
  simp only [Dev.cfgServe, hfn, if_neg (ne_true_of_eq_false hidle), if_neg hwrite, if_neg (ne_true_of_eq_false hep), if_pos hrt, Dev.cfgAwait]

theorem Dev.cfgServe_of_plain (hrt : isRouting fn (i.tlp.reg / 4) i.tlp.fbe = false) :
    d.cfgServe i st = (d.cfgPlain st fn (i.tlp.reg / 4) i.tlp.fbe (dataWord i.tlp.data)).cfgAnswer i st 0 := by
  simp only [Dev.cfgServe, hfn, if_neg (ne_true_of_eq_false hidle), if_neg hwrite, if_neg (ne_true_of_eq_false hep),
    if_neg (ne_true_of_eq_false hrt), Dev.cfgAnswer]

end

/-! ### HDM decoder commits (R298) -/

/-- The control value that a commit writes: Commit is set, and the bits from 10 on are not written. -/
def hdmCommitCtl (w : Word) : Word := word ((w ||| 0x200).toNat % 1024)

theorem bit_hdmCommitCtl (w : Word) : bit (hdmCommitCtl w) 9 = true := by
  have hfit : (w ||| 0x200).toNat % 1024 < 2 ^ 32 := Nat.lt_trans (Nat.mod_lt _ (by decide)) (by decide)
  have hset : (0x200 : Word).toNat.testBit 9 = true := by decide
  rw [bit, hdmCommitCtl, word, BitVec.toNat_ofNat, Nat.mod_eq_of_lt hfit, show 1024 = 2 ^ 10 from rfl, Nat.testBit_mod_two_pow,
    BitVec.toNat_or, Nat.testBit_or, hset, Bool.or_true]
  rfl

section
variable {d : Dev} {st k : Nat} (w : Word)

theorem Dev.hdmCtl_commit_of_waits (h : d.hdmWaits st k = true) : d.hdmCtl st k (w ||| 0x200) = d := if_pos h

theorem Dev.hdmCtl_commit_of_on (hw : d.hdmWaits st k = false) (hon : d.hdmOn st k = true) : d.hdmCtl st k (w ||| 0x200) = d :=
  (if_neg (ne_true_of_eq_false hw)).trans ((if_pos hon).trans (if_pos (.inl (bit_hdmCommitCtl w))))

theorem Dev.hdmCtl_commit_of_taken (h : d.hdmWaits st k = true ∨ d.hdmOn st k = true) : d.hdmCtl st k (w ||| 0x200) = d := by
  by_cases hw : d.hdmWaits st k = true
  · exact Dev.hdmCtl_commit_of_waits w hw
  · exact Dev.hdmCtl_commit_of_on w (eq_false_of_ne_true hw) (h.resolve_left hw)

section
variable (hw : d.hdmWaits st k = false) (hon : d.hdmOn st k = false)
include hw hon

/-- Of a decoder that is neither committed nor waits, the commit fails or is staged. -/
theorem Dev.hdmCtl_commit_of_free :
    d.hdmCtl st k (w ||| 0x200) =
      if d.hdmBad st k (hdmCommitCtl w) = true then
        (d.wr hdmAttr (hdmInst st k) (hdmCommitCtl w ||| 0x800)).cxpEvent 3 ((d.upPort st).getD 0) 0 0 [st]
      else (d.wr hdmAttr (hdmInst st k) (hdmCommitCtl w)).commitFields st
        [⟨st, 0x500, 0x1000, hdmInst st k, 16, hdmCommitCtl w ||| 0x400⟩] :=
  (if_neg (ne_true_of_eq_false hw)).trans ((if_neg (ne_true_of_eq_false hon)).trans (if_neg (not_ne_true (bit_hdmCommitCtl w))))

theorem Dev.hdmCtl_commit_of_bad (hbad : d.hdmBad st k (hdmCommitCtl w) = true) :
    d.hdmCtl st k (w ||| 0x200) =
      (d.wr hdmAttr (hdmInst st k) (hdmCommitCtl w ||| 0x800)).cxpEvent 3 ((d.upPort st).getD 0) 0 0 [st] :=
  (Dev.hdmCtl_commit_of_free w hw hon).trans (if_pos hbad)

theorem Dev.hdmCtl_commit_of_good (hgood : d.hdmBad st k (hdmCommitCtl w) = false) :
    d.hdmCtl st k (w ||| 0x200) = (d.wr hdmAttr (hdmInst st k) (hdmCommitCtl w)).commitFields st
      [⟨st, 0x500, 0x1000, hdmInst st k, 16, hdmCommitCtl w ||| 0x400⟩] :=
  (Dev.hdmCtl_commit_of_free w hw hon).trans (if_neg (ne_true_of_eq_false hgood))

end

end

theorem exec_hdmDecoderCommit_eq (s : State) (st k : Nat) (w : Word) :
    exec (.hdmDecoderCommit st k w) s = .next (s.settled
      (if 64 ≤ st ∨ 8 ≤ k ∨ s.dev.barSize st 0 4 = 0 then s.dev else s.dev.hdmCtl st k (w ||| 0x200))) := rfl

theorem exec_hdmDecoderCommit_taken {s : State} {st k : Nat} (w : Word) (h : s.dev.hdmWaits st k = true ∨ s.dev.hdmOn st k = true) :
    exec (.hdmDecoderCommit st k w) s = .next (s.settled s.dev) := by
  rw [exec_hdmDecoderCommit_eq, Dev.hdmCtl_commit_of_taken w h, ite_self]

theorem exec_hdmDecoderCommit_present {s : State} {st k : Nat} (w : Word) (hst : st < 64) (hk : k < 8) (hbar : s.dev.barSize st 0 4 ≠ 0) :
    exec (.hdmDecoderCommit st k w) s = .next (s.settled (s.dev.hdmCtl st k (w ||| 0x200))) := by
  rw [exec_hdmDecoderCommit_eq, if_neg (not_or.2 ⟨Nat.not_le.2 hst, not_or.2 ⟨Nat.not_le.2 hk, hbar⟩⟩)]

/-- Settles O48: which request is taken up (`Dev.cfgTake`), how it is served (`Dev.cfgServe`), and the commit of a decoder. -/
theorem configurationRequestsComplete : Obligations.ConfigurationRequestsComplete := by
  refine fun s => ⟨?requests, ?noRequest, fun st k w => exec_hdmDecoderCommit_taken w, ?commit⟩
  case requests =>
    intro i st hhead hstb
    have hadopt := s.dev.adoptsWrite_iff i st
    have hforward := s.dev.forwardsWrite_iff i st
    refine ⟨?unmatched, ?matched, ?notAlone, ?notCarried, ?routingUnmatched, ?routingMatched⟩
    case unmatched => exact fun hmatch => exec_configRequest_of_take (Dev.cfgTake_of_unmatched hhead hstb rfl hmatch)
    case matched =>
      intro hmatch
      have hserved {e : Dev} (hserve : (s.dev.cfgMatch i).1.cfgServe i st = e) : exec .configRequest s = .next (s.settled e) :=
        exec_configRequest_of_take (Dev.cfgTake_of_matched hhead hstb rfl hmatch hserve)
      refine ⟨fun habsent => hserved (Dev.cfgServe_of_absent habsent), fun fn hfn => ⟨?busy, ?idle⟩⟩
      case busy => exact fun hbusy => hserved (Dev.cfgServe_of_busy hfn hbusy)
      case idle =>
        intro hidle
        exact ⟨fun hread => hserved (Dev.cfgServe_of_read hfn hidle hread),
          fun hwrite hep => hserved (Dev.cfgServe_of_poisoned hfn hidle hwrite hep),
          fun hwrite hep hrt => hserved (Dev.cfgServe_of_routing hfn hidle hwrite hep hrt),
          fun hwrite hep hrt => hserved (Dev.cfgServe_of_plain hfn hidle hwrite hep hrt)⟩
    case notAlone => exact fun h => exec_routingFieldWrite_of_take (Dev.cfgTake_of_left hhead hstb (mt hadopt.1 h))
    case notCarried => exact fun h => exec_routingFieldForward_of_take (Dev.cfgTake_of_left hhead hstb (mt hforward.1 h))
    case routingUnmatched =>
      exact fun hmatch =>
        ⟨fun h => exec_routingFieldWrite_of_take (Dev.cfgTake_of_unmatched hhead hstb (hadopt.2 h) hmatch),
          fun h => exec_routingFieldForward_of_take (Dev.cfgTake_of_unmatched hhead hstb (hforward.2 h) hmatch)⟩
    case routingMatched =>
      intro fn hmatch hfn hidle hrt hkind
      have hwrite : i.tlp.kind ≠ .cfgRd := by
        rw [hkind]
        decide
      have hadopted {e : Dev} (h : s.dev.adoptsWrite i st = true) (hserve : (s.dev.cfgMatch i).1.cfgServe i st = e) :
          exec .routingFieldWrite s = .next (s.settled e) :=
        exec_routingFieldWrite_of_take (Dev.cfgTake_of_matched hhead hstb h hmatch hserve)
      have hforwarded {e : Dev} (h : s.dev.forwardsWrite i st = true) (hserve : (s.dev.cfgMatch i).1.cfgServe i st = e) :
          exec .routingFieldForward s = .next (s.settled e) :=
        exec_routingFieldForward_of_take (Dev.cfgTake_of_matched hhead hstb h hmatch hserve)
      exact ⟨fun h => ⟨fun hep => hadopted (hadopt.2 h) (Dev.cfgServe_of_poisoned hfn hidle hwrite hep),
          fun hep => hadopted (hadopt.2 h) (Dev.cfgServe_of_routing hfn hidle hwrite hep hrt)⟩,
        fun h => ⟨fun hep => hforwarded (hforward.2 h) (Dev.cfgServe_of_poisoned hfn hidle hwrite hep),
          fun hep => hforwarded (hforward.2 h) (Dev.cfgServe_of_routing hfn hidle hwrite hep hrt)⟩⟩
  case noRequest =>
    exact fun hnone => ⟨exec_configRequest_of_take (Dev.cfgTake_of_no_head hnone),
      exec_routingFieldWrite_of_take (Dev.cfgTake_of_no_head hnone), exec_routingFieldForward_of_take (Dev.cfgTake_of_no_head hnone)⟩
  case commit =>
    intro st k w hst hk hbar hw hon
    rw [exec_hdmDecoderCommit_present w hst hk hbar]
    exact ⟨fun hbad => congrArg _ (congrArg s.settled (Dev.hdmCtl_commit_of_bad w hw hon hbad)),
      fun hgood => congrArg _ (congrArg s.settled (Dev.hdmCtl_commit_of_good w hw hon hgood))⟩

end Sys2Proof.Machine
end

section
/-! Family 10_stalls_loft_and_slices: the loft's reads, writebacks and initialisation (O36), context operations, generations and slices
(O37), and dirty-page logs, traps and the refusal log (O38). -/

namespace Sys2Proof.Machine

/-! ### Reads and writes of the loft that have come back (R265, R270) -/

/-- The device answers the operations of the loft: it is not in fail-safe, and the loft serves. -/
def Dev.LoftServes (d : Dev) : Prop := d.failsafe = false ∧ d.loftOk = true

/-- What comes back for an operation is taken up unless the device is in fail-safe or the loft does not serve. -/
theorem Dev.LoftServes.not_idle {d : Dev} (h : d.LoftServes) : ¬ (d.failsafe = true ∨ (!d.loftOk) = true) :=
  not_or.2 ⟨ne_true_of_eq_false h.1, not_ne_true h.2⟩

section
variable {s : State} {key : Nat}

theorem exec_loftSetReadDone_late (ok : Bool) (bad : List Nat) (h : s.dev.opFor key (fun f => f.step == 1 && s.dev.loftBack f) = none) :
    exec (.loftSetReadDone key ok bad) s = .next (s.settled (s.dev.loftLate key)) := by
  change execLoftSetReadDone key ok bad s = _
  exact State.eff_of_eq (by simp only [h])

theorem exec_loftContextReadDone_late (ok poison : Bool) (data : List Byte)
    (h : s.dev.opFor key (fun f => f.step == 2 && s.dev.loftBack f) = none) :
    exec (.loftContextReadDone key ok poison data) s = .next (s.settled (s.dev.loftLate key)) := by
  change execLoftContextReadDone key ok poison data s = _
  exact State.eff_of_eq (by simp only [h])

theorem exec_writebackDone_late (h : s.dev.opFor key (fun f => f.why == .writeback && s.dev.loftBack f) = none) :
    exec (.writebackDone key) s = .next (s.settled (s.dev.loftLate key)) := by
  change execWritebackDone key s = _
  exact State.eff_of_eq (by simp only [h])

variable {f : Fetch} (hserve : s.dev.LoftServes)
include hserve

section
variable (bad : List Nat) (hop : s.dev.opFor key (fun f => f.step == 1 && s.dev.loftBack f) = some f)
include hop

theorem exec_loftSetReadDone_ok : exec (.loftSetReadDone key true bad) s = .next (s.settled (s.dev.setRead f bad)) := by
  change execLoftSetReadDone key true bad s = _
  exact State.eff_of_eq (by simp only [hop, if_neg hserve.not_idle, if_true])

theorem exec_loftSetReadDone_error : exec (.loftSetReadDone key false bad) s = .next (s.settled s.dev.loftFail) := by
  change execLoftSetReadDone key false bad s = _
  exact State.eff_of_eq (by simp only [hop, if_neg hserve.not_idle, Bool.false_eq_true, if_false])

end

section
variable (data : List Byte) (hop : s.dev.opFor key (fun f => f.step == 2 && s.dev.loftBack f) = some f)
include hop

theorem exec_loftContextReadDone_error (poison : Bool) :
    exec (.loftContextReadDone key false poison data) s = .next (s.settled s.dev.loftFail) := by
  change execLoftContextReadDone key false poison data s = _
  exact State.eff_of_eq (by simp only [hop, if_neg hserve.not_idle, Bool.not_false, if_true])

theorem exec_loftContextReadDone_bad {poison : Bool} (h : poison = true ∨ s.dev.copyGood key (8 * f.set + f.way) data = false) :
    exec (.loftContextReadDone key true poison data) s = .next (s.settled (s.dev.ctxBad f)) := by
  change execLoftContextReadDone key true poison data s = _
  have hbad : poison = true ∨ (!s.dev.copyGood key (8 * f.set + f.way) data) = true := h.imp_right fun h => by rw [h]; rfl
  exact State.eff_of_eq (by simp only [hop, if_neg hserve.not_idle, Bool.not_true, Bool.false_eq_true, if_false, if_pos hbad])

theorem exec_loftContextReadDone_good (h : s.dev.copyGood key (8 * f.set + f.way) data = true) :
    exec (.loftContextReadDone key true false data) s = .next (s.settled (s.dev.fill f data)) := by
  change execLoftContextReadDone key true false data s = _
  exact State.eff_of_eq
    (by simp only [hop, if_neg hserve.not_idle, h, Bool.not_true, Bool.false_eq_true, or_self, if_false])

end

/-- The written victim is entered in its loft way, or in a free way of its set, and leaves the eviction buffer (R265). -/
theorem exec_writebackDone_way {n id : Nat} {c : Ctx}
    (hop : s.dev.opFor key (fun f => f.why == .writeback && s.dev.loftBack f) = some f)
    (hvictim : s.dev.stall.evict.find? (fun e => e.2.key == key) = some (n, c))
    (hway : (s.dev.loftWay key <|> s.dev.loftFree (s.dev.loftSetOf key)) = some id) :
    exec (.writebackDone key) s = .next (s.settled (
      let d := s.dev.setStall { s.dev.stall with
        evict := dropFirst (fun e => e.2.key == key) s.dev.stall.evict, ctxErr := s.dev.stall.ctxErr.erase key }
      ((d.rmOp f).putLoft id { c with pinned := false }).runInvalidations)) := by
  change execWritebackDone key s = _
  exact State.eff_of_eq (by simp only [hop, hvictim, if_neg hserve.not_idle, hway])

end

/-! ### What the first read decides (R270, R271, R274) -/

section
variable {d : Dev} {f : Fetch} {bad : List Nat}

section
variable {id : Nat} (hway : d.loftWay f.key = some id)
include hway

theorem Dev.setRead_of_bad (hbad : bad.contains (id % 8) = true) : d.setRead f bad = d.ctxBad f := by
  simp only [Dev.setRead, hway, if_pos hbad]

variable (hgood : bad.contains (id % 8) = false)
include hgood

theorem Dev.setRead_of_answered {c : Ctx} {a : Nat} (hc : d.stall.loft.find id = some c) (hwhy : f.why = .lookup a ∨ f.why = .create a) :
    d.setRead f bad = ((d.rmOp f).opEnd a (foundWord c false)).runInvalidations := by
  rcases hwhy with hwhy | hwhy <;> simp only [Dev.setRead, hway, if_neg (ne_true_of_eq_false hgood), hwhy, hc]

/-- The way of a present key is read next. -/
theorem Dev.setRead_of_wanted (hwhy : f.why = .request ∨ f.why = .pin) :
    d.setRead f bad = d.setStall { d.stall with fetch := d.stall.fetch.map fun g =>
      if g == f then { g with step := 2, way := id % 8, since := d.now, cto := d.ctoNs, sent := false } else g } := by
  rcases hwhy with hwhy | hwhy <;> simp only [Dev.setRead, hway, if_neg (ne_true_of_eq_false hgood), hwhy]

end

section
variable (habsent : d.loftWay f.key = none)
include habsent

theorem Dev.setRead_of_absent_lookup {a : Nat} (hwhy : f.why = .lookup a) :
    d.setRead f bad = ((d.errRunEnd.rmOp f).opEnd a 0).runInvalidations := by
  simp only [Dev.setRead, habsent, hwhy]

theorem Dev.setRead_of_absent_made (hwhy : f.why = .pin ∨ ∃ a, f.why = .create a) : d.setRead f bad = d.errRunEnd.createLoft f := by
  rcases hwhy with hwhy | ⟨a, hwhy⟩ <;> simp only [Dev.setRead, habsent, hwhy]

section
variable (hwhy : f.why = .request)
include hwhy

/-- A request is refused with LOFT_ERR (3) where the copy of its key was bad. -/
theorem Dev.setRead_of_absent_ctxErr (herr : d.errRunEnd.stall.ctxErr.contains f.key = true) :
    d.setRead f bad = ((d.errRunEnd.rmOp f).opRefused f 3).runInvalidations := by
  simp only [Dev.setRead, habsent, hwhy, if_pos herr]

variable (herr : d.errRunEnd.stall.ctxErr.contains f.key = false)
include herr

theorem Dev.setRead_of_absent_auto (hauto : d.errRunEnd.ctxAuto f.key = true) : d.setRead f bad = d.errRunEnd.createLoft f := by
  simp only [Dev.setRead, habsent, hwhy, if_neg (ne_true_of_eq_false herr), if_pos hauto]

/-- A request is refused with NO_CTX (4) where contexts are not made by themselves. -/
theorem Dev.setRead_of_absent_noCtx (hauto : d.errRunEnd.ctxAuto f.key = false) :
    d.setRead f bad = ((d.errRunEnd.rmOp f).opRefused f 4).runInvalidations := by
  simp only [Dev.setRead, habsent, hwhy, if_neg (ne_true_of_eq_false herr), if_neg (ne_true_of_eq_false hauto)]

end

end

end

/-! ### What a good copy does (R265) -/

/-- The context that a good copy brings on die for an operation. -/
def Dev.filled (d : Dev) (f : Fetch) (b : List Byte) : Ctx :=
  let c := d.refill (ctxOfBytes b)
  { c with ctxId := 8 * f.set + f.way, cntMiss := c.cntMiss + d.missesOf f.key, lastUse := d.now }

/-- The operation ends, and its context is placed on die. -/
def Dev.placeFilled (d : Dev) (f : Fetch) (b : List Byte) : Except Bool Dev := (d.rmOp f).place (d.filled f b) (f.port / 8)

section
variable {d : Dev} {f : Fetch} {b : List Byte}

theorem Dev.fill_of_placed {e : Dev} (h : d.errRunEnd.placeFilled f b = .ok e) :
    d.fill f b = ((e.setStall { e.stall with ctxErr := e.stall.ctxErr.erase f.key }).readyParked f.key).runInvalidations := by
  simp only [Dev.placeFilled, Dev.filled] at h
  simp only [Dev.fill, h]

theorem Dev.fill_of_waits (h : d.errRunEnd.placeFilled f b = .error true) : d.fill f b = d.errRunEnd := by
  simp only [Dev.placeFilled, Dev.filled] at h
  simp only [Dev.fill, h]

theorem Dev.fill_of_no_way (h : d.errRunEnd.placeFilled f b = .error false) :
    d.fill f b = ((d.errRunEnd.rmOp f).opRefused f 1).runInvalidations := by
  simp only [Dev.placeFilled, Dev.filled] at h
  simp only [Dev.fill, h]

end

/-! ### INIT (R264) -/

/-- The loft under the generation that INIT gives it. -/
def Dev.loftGenNext (d : Dev) : Dev := d.wf R.STL_LOFT_STATUS 0 31 16 (d.loftGen + 1)

/-- The writes of INIT run: until they complete the loft counts as failed (log entry 98), and what waits for it is refused. -/
def Dev.loftInitRuns (d : Dev) : Dev :=
  let e := ((d.wf R.STL_LOFT_STATUS 0 2 0 6).wf R.STL_LOFT_STATUS 0 3 3 0).wr R.STL_LOFT_CTRL 0 1
  if d.rb R.STL_LOFT_STATUS 0 1 then e.loftEndOps else e.loftEndOps.raise 0x5c2

section
variable {d : Dev} (hidle : d.rb R.STL_LOFT_STATUS 0 2 = false)
include hidle

theorem Dev.loftInit_of_reached (hon : d.loftGenNext.loftOn = true) (hreach : d.loftGenNext.loftReach = true)
    (hsafe : d.loftGenNext.failsafe = false) : d.loftInit = d.loftGenNext.loftInitRuns :=
  (if_neg (ne_true_of_eq_false hidle)).trans (if_pos ⟨hon, hreach, congrArg not hsafe⟩)

theorem Dev.loftInit_of_unreached
    (h : d.loftGenNext.loftOn = false ∨ d.loftGenNext.loftReach = false ∨ d.loftGenNext.failsafe = true) :
    d.loftInit = ((d.loftGenNext.wf R.STL_LOFT_STATUS 0 0 0 0).wf R.STL_LOFT_STATUS 0 3 3 1).loftFail :=
  (if_neg (ne_true_of_eq_false hidle)).trans <| if_neg fun ⟨hon, hreach, hsafe⟩ =>
    h.elim (ne_true_of_eq_false · hon) (Or.elim · (ne_true_of_eq_false · hreach) (not_ne_true · hsafe))

end

theorem exec_loftInit_made {s : State} {a : Acc} (h : s.dev.may a R.STL_LOFT_CTRL true = true) :
    exec (.loftInit a) s = .next (s.settled s.dev.loftInit) :=
  State.eff_guardW_may h

section
variable {s : State} (hbusy : s.dev.rb R.STL_LOFT_STATUS 0 2 = true)
include hbusy

theorem exec_loftInitDone_error : exec (.loftInitDone false) s = .next (s.settled s.dev.loftFail) := by
  change execLoftInitDone false s = _
  exact State.eff_of_eq (if_neg (not_ne_true hbusy))

theorem exec_loftInitDone_ok :
    exec (.loftInitDone true) s = .next (s.settled (
      let d := (s.dev.wf R.STL_LOFT_STATUS 0 2 0 1).wr R.STL_LOFT_CTRL 0 0
      d.setStall { d.stall with loft := [], ctxErr := [], errRun := 0 })) := by
  change execLoftInitDone true s = _
  exact State.eff_of_eq (if_neg (not_ne_true hbusy))

end

/-- Settles O36: the first read by the present or absent key, the second by what `place` answers, the write of a victim, the late answers,
and INIT with its end. -/
theorem loftReadsAndWritesComplete : Obligations.LoftReadsAndWritesComplete := by
  refine fun s => ⟨?setRead, ?contextRead, ?writeback, ?late, ?init, fun hbusy => ⟨exec_loftInitDone_error hbusy, exec_loftInitDone_ok hbusy⟩⟩
  case setRead =>
    rintro key f bad hop hsafe hok rfl
    have hserve : s.dev.LoftServes := ⟨hsafe, hok⟩
    have hread {e : Dev} (h : s.dev.setRead f bad = e) : exec (.loftSetReadDone f.key true bad) s = .next (s.settled e) :=
      h ▸ exec_loftSetReadDone_ok hserve bad hop
    refine ⟨exec_loftSetReadDone_error hserve bad hop, fun id hway hbad => hread (Dev.setRead_of_bad hway hbad),
      fun id c a hway hgood hc hwhy => hread (Dev.setRead_of_answered hway hgood hc hwhy),
      fun id hway hgood hwhy => hread (Dev.setRead_of_wanted hway hgood hwhy), fun habsent => ⟨?lookup, ?made, ?request⟩⟩
    case lookup => exact fun a hwhy => hread (Dev.setRead_of_absent_lookup habsent hwhy)
    case made => exact fun hwhy => hread (Dev.setRead_of_absent_made habsent hwhy)
    case request =>
      exact fun hwhy => ⟨fun herr => hread (Dev.setRead_of_absent_ctxErr habsent hwhy herr),
        fun herr hauto => hread (Dev.setRead_of_absent_auto habsent hwhy herr hauto),
        fun herr hauto => hread (Dev.setRead_of_absent_noCtx habsent hwhy herr hauto)⟩
  case contextRead =>
    rintro key f poison data hop hsafe hok rfl
    have hserve : s.dev.LoftServes := ⟨hsafe, hok⟩
    refine ⟨exec_loftContextReadDone_error hserve data hop poison, exec_loftContextReadDone_bad hserve data hop, ?good⟩
    rintro rfl hgood
    have hfill {e : Dev} (h : s.dev.fill f data = e) : exec (.loftContextReadDone f.key true false data) s = .next (s.settled e) :=
      h ▸ exec_loftContextReadDone_good hserve data hop hgood
    exact ⟨fun e hplaced => hfill (Dev.fill_of_placed hplaced), fun hwaits => hfill (Dev.fill_of_waits hwaits),
      fun hnone => hfill (Dev.fill_of_no_way hnone)⟩
  case writeback =>
    intro key f n id c hop hvictim hsafe hok hway
    refine exec_writebackDone_way ⟨hsafe, hok⟩ hop hvictim ?_
    obtain hway | ⟨hnone, hfree⟩ := hway
    · rw [hway]; rfl
    · rw [hnone, hfree]; rfl
  case late =>
    exact fun key ok poison bad data =>
      ⟨exec_loftSetReadDone_late ok bad, exec_loftContextReadDone_late ok poison data, exec_writebackDone_late⟩
  case init =>
    intro a hmay hidle
    have hinit {e : Dev} (h : s.dev.loftInit = e) : exec (.loftInit a) s = .next (s.settled e) := h ▸ exec_loftInit_made hmay
    exact ⟨fun hon hreach hsafe => hinit (Dev.loftInit_of_reached hidle hon hreach hsafe),
      fun h => hinit (Dev.loftInit_of_unreached hidle h)⟩

/-! ### CTX_OP (R288) -/

section
variable {s : State} {a : Acc} (h : s.dev.may a R.STL_CTX_OP true = true)
include h

theorem exec_ctxLookup_made : exec (.ctxLookup a) s = .next (s.settled (s.dev.ctxOp a 1)) := State.eff_guardW_may h

theorem exec_ctxInvalidate_made : exec (.ctxInvalidate a) s = .next (s.settled (s.dev.ctxOp a 2)) := State.eff_guardW_may h

theorem exec_ctxCreate_made : exec (.ctxCreate a) s = .next (s.settled (s.dev.ctxOp a 4)) := State.eff_guardW_may h

end

/-- A tenant names the key of a port that its stable does not own. -/
def Dev.foreignKey (d : Dev) (a : Acc) : Bool :=
  let key := d.ctxKeyOf (accIdx a)
  match d.tenant a with
  | some st => !(d.ownMode (keyPort key) == 1 && d.owner (keyPort key) == some st)
  | none => false

section
variable {d : Dev} {a : Acc} {op : Nat} (hop : op = 1 ∨ op = 2 ∨ op = 4) (hidle : d.stall.opBusy.getD (accIdx a) 0 = 0)
include hop hidle

/-- One operation of an idle accessor is taken up: refused of a foreign key, else carried out. -/
theorem Dev.ctxOp_of_idle :
    d.ctxOp a op =
      if d.foreignKey a = true then d.opEnd (accIdx a) 0x80000000 else d.ctxStart (accIdx a) (d.ctxKeyOf (accIdx a)) op := by
  have htaken : ¬ (d.stall.opBusy.getD (accIdx a) 0 ≠ 0 ∨ op = 0) := by omega
  have hone : ¬ (op ≠ 1 ∧ op ≠ 2 ∧ op ≠ 4) := by omega
  change (if d.stall.opBusy.getD (accIdx a) 0 ≠ 0 ∨ op = 0 then d
    else if d.foreignKey a = true ∨ (op ≠ 1 ∧ op ≠ 2 ∧ op ≠ 4) then d.opEnd (accIdx a) 0x80000000
    else d.ctxStart (accIdx a) (d.ctxKeyOf (accIdx a)) op) = _
  rw [if_neg htaken]
  simp only [or_iff_left hone]

theorem Dev.ctxOp_of_foreign (h : d.foreignKey a = true) : d.ctxOp a op = d.opEnd (accIdx a) 0x80000000 :=
  (Dev.ctxOp_of_idle hop hidle).trans (if_pos h)

theorem Dev.ctxOp_of_own (h : d.foreignKey a = false) : d.ctxOp a op = d.ctxStart (accIdx a) (d.ctxKeyOf (accIdx a)) op :=
  (Dev.ctxOp_of_idle hop hidle).trans (if_neg (ne_true_of_eq_false h))

end

/-- The context of a key on die, or in an eviction buffer. -/
def Dev.nearCtx (d : Dev) (key : Nat) : Option Ctx := (d.onDie key) <|> (d.stall.evict.find? fun e => e.2.key == key).map (·.2)

/-- A key is pinned: its context on die is, or a pin entry names it. -/
def Dev.keyPinned (d : Dev) (key : Nat) : Bool := (d.onDie key).any (·.pinned) || d.pinKeys.contains key

/-- An operation of an accessor runs. -/
def Dev.opRuns (d : Dev) (acc op : Nat) : Dev := d.setStall { d.stall with opBusy := d.stall.opBusy.insert acc op }

section
variable {d : Dev} (acc : Nat) {key : Nat}

theorem Dev.ctxStart_invalidate_of_pinned (h : d.keyPinned key = true) : d.ctxStart acc key 2 = d.opEnd acc 0x80000000 := if_pos h

theorem Dev.ctxStart_invalidate_of_unpinned (h : d.keyPinned key = false) :
    d.ctxStart acc key 2 = ((d.opRuns acc 2).addOp key (.invalidate acc) 0).runInvalidations := if_neg (ne_true_of_eq_false h)

theorem Dev.ctxStart_of_near {op : Nat} {c : Ctx} (hop : op ≠ 2) (hnear : (d.recall key).nearCtx key = some c) :
    d.ctxStart acc key op = (d.recall key).opEnd acc (foundWord c true) := by
  rw [Dev.nearCtx] at hnear
  simp only [Dev.ctxStart, if_neg hop, hnear]

section
variable (hfar : (d.recall key).nearCtx key = none)
include hfar

/-- A lookup of a key that is not near asks the loft, while the loft serves. -/
theorem Dev.ctxStart_lookup_of_far :
    d.ctxStart acc key 1 =
      if (d.recall key).loftOk = true then ((d.recall key).opRuns acc 1).addOp key (.lookup acc) 1 else (d.recall key).opEnd acc 0 := by
  rw [Dev.nearCtx] at hfar
  simp [Dev.ctxStart, hfar, Dev.opRuns]

theorem Dev.ctxStart_create_of_sliceless (h : (d.recall key).sliceless key = true) :
    d.ctxStart acc key 4 = (d.recall key).opEnd acc 0x80000000 := by
  rw [Dev.nearCtx] at hfar
  simp [Dev.ctxStart, hfar, h]

variable (hslice : (d.recall key).sliceless key = false) {e : Dev}
include hslice

/-- Event 0x5c1 reports that there is no room (1). -/
theorem Dev.ctxStart_create_of_refused {r : Nat} (habsent : (d.recall key).absent key true = (e, some r)) :
    d.ctxStart acc key 4 = (if r = 1 then e.raise 0x5c1 else e).opEnd acc 0x80000000 := by
  rw [Dev.nearCtx] at hfar
  simp [Dev.ctxStart, hfar, hslice, habsent]

variable (habsent : (d.recall key).absent key true = (e, none))
include habsent

theorem Dev.ctxStart_create_of_loftOn (hon : e.loftOn = true) :
    d.ctxStart acc key 4 = (e.opRuns acc 4).addOp key (.create acc) 1 := by
  rw [Dev.nearCtx] at hfar
  simp [Dev.ctxStart, hfar, hslice, habsent, hon, Dev.opRuns]

theorem Dev.ctxStart_create_of_loftOff {c : Ctx} (hoff : e.loftOn = false) (hmade : e.onDie key = some c) :
    d.ctxStart acc key 4 = e.opEnd acc (foundWord c true) := by
  rw [Dev.nearCtx] at hfar
  simp [Dev.ctxStart, hfar, hslice, habsent, hoff, hmade]

end

end

/-! ### Generations, slices and the ledger (R276, R279, R282) -/

/-- ADV advances the generation of an OWNED downstream port. -/
theorem Dev.portGenAdv_of_own {d : Dev} {p : Nat} (hp : p < 128) (hown : d.ownMode p = 1) (hdown : d.isDown p = true) :
    d.portGenAdv p = d.advanceDom (domPort p) := if_pos ⟨hp, hown, hdown⟩

theorem exec_portGenAdv_made {s : State} {a : Acc} (h : s.dev.may a R.STL_PORT_GEN_CTRL true = true) :
    exec (.portGenAdv a) s = .next (s.settled (s.dev.portGenAdv (s.dev.instOf a 0x700 R.STL_PORT_GEN_CTRL.off))) :=
  State.eff_guardW_may h

/-- A held advance takes effect when nothing of the generation before is in use (R279). -/
theorem exec_genAdvanceRelease_due {s : State} {dom : Nat} (hpend : (s.dev.gen dom).pend = true)
    (hgone : s.dev.genInUse dom (((s.dev.gen dom).g + 255) % 256) = false) :
    exec (.genAdvanceRelease dom) s = .next (s.settled ((s.dev.setGen dom ⟨((s.dev.gen dom).g + 1) % 256, false⟩).markGen dom)) := by
  change execGenAdvanceRelease dom s = _
  exact State.eff_of_eq (if_pos (Bool.and_eq_true_iff.2 ⟨hpend, congrArg not hgone⟩))

section
variable (d : Dev) (k : Nat)

/-- A slice is contained, with an Internal Error of its stable, unless it is already. -/
def Dev.sliceContainReq : Dev := if d.slice.contained.contains k then d else (d.sliceContain k).internalErr [d.sliceStable k]

theorem Dev.sliceCtrl_genAdv : d.sliceCtrl k 1 = d.advanceDom (domSlice k) := rfl

theorem Dev.sliceCtrl_contain : d.sliceCtrl k 2 = d.sliceContainReq k := by
  have hbits : bit 2 0 = false ∧ bit 2 1 = true ∧ bit 2 2 = false := by decide
  cases hc : d.slice.contained.contains k <;> simp only [Dev.sliceCtrl, hbits, Dev.sliceContainReq, hc] <;> rfl

theorem Dev.sliceRelease_of_active (h : d.slice.contained.contains k = false) : d.sliceRelease k = d :=
  if_neg (ne_true_of_eq_false h)

theorem Dev.sliceRelease_of_contained (h : d.slice.contained.contains k = true) :
    d.sliceRelease k =
      (Dev.headFree { d with slice := { d.slice with contained := d.slice.contained.filter (· != k) } } (256 + k)).advanceDom (domSlice k) :=
  if_pos h

theorem Dev.sliceCtrl_release : d.sliceCtrl k 4 = d.sliceRelease k := by
  have hbits : bit 4 0 = false ∧ bit 4 1 = false ∧ bit 4 2 = true := by decide
  cases hc : d.slice.contained.contains k with
  | true =>
    simp only [Dev.sliceCtrl, hbits, hc]
    rfl
  | false =>
    rw [Dev.sliceRelease_of_active d k hc]
    simp only [Dev.sliceCtrl, hbits, hc]
    rfl

end

section
variable {s : State} {a : Acc} (h : s.dev.may a R.SLC_SLICE_CTRL true = true)
include h

theorem exec_sliceGenAdv_made :
    exec (.sliceGenAdv a) s = .next (s.settled (s.dev.advanceDom (domSlice (s.dev.instOf a 0x780 R.SLC_SLICE_CTRL.off)))) :=
  (State.eff_guardW_may h).trans (congrArg _ (congrArg s.settled (s.dev.sliceCtrl_genAdv _)))

theorem exec_sliceContain_made :
    exec (.sliceContain a) s = .next (s.settled (s.dev.sliceContainReq (s.dev.instOf a 0x780 R.SLC_SLICE_CTRL.off))) :=
  (State.eff_guardW_may h).trans (congrArg _ (congrArg s.settled (s.dev.sliceCtrl_contain _)))

theorem exec_sliceRelease_made :
    exec (.sliceRelease a) s = .next (s.settled (s.dev.sliceRelease (s.dev.instOf a 0x780 R.SLC_SLICE_CTRL.off))) :=
  (State.eff_guardW_may h).trans (congrArg _ (congrArg s.settled (s.dev.sliceCtrl_release _)))

end

/-- An entry of the ledger that has passed LED_TO is freed, counted and reported at the instant at which it did (R282). -/
theorem exec_ledgerTimeout_due {s : State} {egress rid tag : Nat} {l : Led}
    (hl : s.dev.slice.ledger.find? (fun l => l.egress == egress && l.rid == rid && l.tag == tag) = some l)
    (hlim : s.dev.rf R.PRT4_LED_TO 0 15 0 * 1000000 ≠ 0) :
    exec (.ledgerTimeout egress rid tag) s = .next (s.settled (
      let d := s.dev.advanceTo (l.time + s.dev.rf R.PRT4_LED_TO 0 15 0 * 1000000)
      ((d.setLedger (d.slice.ledger.erase l)).bump R.PRT4_LED_CNT_TIMEOUT).raiseFor 0x5c6 l.stable.toList)) := by
  change execLedgerTimeout egress rid tag s = _
  exact State.eff_of_eq (by simp only [hl, if_neg hlim])

/-- Settles O37: the operations on contexts by the key's owner and by where its context is, then generations, slices and the ledger. -/
theorem contextOperationsAndSlicesComplete : Obligations.ContextOperationsAndSlicesComplete := by
  refine fun s a => ⟨fun hmay hidle => ⟨fun hforeign => ?foreign, fun hown => ?own⟩, fun hmay hp hown hdown => ?port,
    fun dom => exec_genAdvanceRelease_due, fun hmay => ?slice, fun egress rid tag l => exec_ledgerTimeout_due⟩
  case foreign =>
    have hrefused {op : Nat} (hop : op = 1 ∨ op = 2 ∨ op = 4) : s.dev.ctxOp a op = s.dev.opEnd (accIdx a) 0x80000000 :=
      Dev.ctxOp_of_foreign hop hidle hforeign
    exact ⟨hrefused (op := 1) (by decide) ▸ exec_ctxLookup_made hmay, hrefused (op := 2) (by decide) ▸ exec_ctxInvalidate_made hmay,
      hrefused (op := 4) (by decide) ▸ exec_ctxCreate_made hmay⟩
  case own =>
    have hstart {op : Nat} {e : Dev} (hop : op = 1 ∨ op = 2 ∨ op = 4) (h : s.dev.ctxStart (accIdx a) (s.dev.ctxKeyOf (accIdx a)) op = e) :
        s.dev.ctxOp a op = e :=
      (Dev.ctxOp_of_own hop hidle hown).trans h
    have hlookup {e : Dev} (h : s.dev.ctxStart (accIdx a) (s.dev.ctxKeyOf (accIdx a)) 1 = e) :
        exec (.ctxLookup a) s = .next (s.settled e) := hstart (by decide) h ▸ exec_ctxLookup_made hmay
    have hinvalidate {e : Dev} (h : s.dev.ctxStart (accIdx a) (s.dev.ctxKeyOf (accIdx a)) 2 = e) :
        exec (.ctxInvalidate a) s = .next (s.settled e) := hstart (by decide) h ▸ exec_ctxInvalidate_made hmay
    have hcreate {e : Dev} (h : s.dev.ctxStart (accIdx a) (s.dev.ctxKeyOf (accIdx a)) 4 = e) :
        exec (.ctxCreate a) s = .next (s.settled e) := hstart (by decide) h ▸ exec_ctxCreate_made hmay
    refine ⟨fun hpin => hinvalidate (Dev.ctxStart_invalidate_of_pinned _ hpin),
      fun hfree => hinvalidate (Dev.ctxStart_invalidate_of_unpinned _ hfree), ?_⟩
    exact ⟨fun c hnear => ⟨hlookup (Dev.ctxStart_of_near _ (by decide) hnear), hcreate (Dev.ctxStart_of_near _ (by decide) hnear)⟩,
      fun hfar hslice => hcreate (Dev.ctxStart_create_of_sliceless _ hfar hslice),
      fun hfar hok => hlookup ((Dev.ctxStart_lookup_of_far _ hfar).trans (if_neg (ne_true_of_eq_false hok))),
      fun hfar hok => hlookup ((Dev.ctxStart_lookup_of_far _ hfar).trans (if_pos hok)),
      fun e r hfar hslice habsent => hcreate (Dev.ctxStart_create_of_refused _ hfar hslice habsent),
      fun e hfar hslice habsent hon => hcreate (Dev.ctxStart_create_of_loftOn _ hfar hslice habsent hon),
      fun e c hfar hslice habsent hoff hmade => hcreate (Dev.ctxStart_create_of_loftOff _ hfar hslice habsent hoff hmade)⟩
  case port => exact Dev.portGenAdv_of_own hp hown hdown ▸ exec_portGenAdv_made hmay
  case slice =>
    have hrelease {e : Dev} (h : s.dev.sliceRelease (s.dev.instOf a 0x780 R.SLC_SLICE_CTRL.off) = e) :
        exec (.sliceRelease a) s = .next (s.settled e) := h ▸ exec_sliceRelease_made hmay
    exact ⟨exec_sliceGenAdv_made hmay, exec_sliceContain_made hmay, fun hc => hrelease (Dev.sliceRelease_of_contained _ _ hc),
      fun hc => hrelease (Dev.sliceRelease_of_active _ _ hc)⟩

/-! ### Dirty-page logs (R284, R286) -/

theorem exec_dlgSizeWrite_made {s : State} {a : Acc} (w : Word) (h : s.dev.may a R.SLC_DLG_SIZE true = true) :
    exec (.dlgSizeWrite a w) s = .next (s.settled (s.dev.dlgSize (s.dev.instOf a 0x780 R.SLC_DLG_SIZE.off) w)) :=
  State.eff_guardW_may h

section
variable {s : State} {a : Acc} (h : s.dev.may a R.SLC_DLG_CTRL true = true)
include h

theorem exec_filterClear_made :
    exec (.filterClear a) s = .next (s.settled (s.dev.dlgFilterClear (s.dev.instOf a 0x780 R.SLC_DLG_CTRL.off))) :=
  State.eff_guardW_may h

theorem exec_sync_made : exec (.sync a) s = .next (s.settled (s.dev.dlgSync (s.dev.instOf a 0x780 R.SLC_DLG_CTRL.off))) :=
  State.eff_guardW_may h

end

/-- The record writes of a group of dirty-page logs that are outstanding. -/
def Dev.dirtyIds (d : Dev) (g : Nat) : List Nat := (d.slice.dirtyOut.filter fun e : Nat × Nat => e.2 == g).map fun e => e.1

section
variable {d : Dev} {i : Nat}

theorem Dev.dlgSync_of_written (h : d.dirtyIds (i - 0x1000) = []) : d.dlgSync i = d :=
  if_pos (List.isEmpty_iff.2 h)

/-- SYNC reads 1 while record writes of the group are outstanding, and waits for them. -/
theorem Dev.dlgSync_of_outstanding (h : d.dirtyIds (i - 0x1000) ≠ []) :
    d.dlgSync i =
      Dev.wf { d with slice := { d.slice with syncWait := d.slice.syncWait.insert (i - 0x1000) (d.dirtyIds (i - 0x1000)) } }
        R.SLC_DLG_CTRL i 1 1 1 :=
  if_neg (mt List.isEmpty_iff.1 h)

end

/-! ### Traps (R287) -/

theorem exec_trapPop_made {s : State} {a : Acc} (h : s.dev.may a R.SLC_TRAP_POP true = true) :
    exec (.trapPop a) s = .next (s.settled s.dev.trapPop) :=
  State.eff_guardW_may h

theorem exec_trapCplGo_made {s : State} {a : Acc} (h : s.dev.may a R.SLC_TRAP_CPL_GO true = true) :
    exec (.trapCplGo a) s = .next (s.settled (s.dev.trapGo a)) :=
  State.eff_guardW_may h

/-- A trapped request completed without data, and its entry freed. -/
def Dev.trapStatus (d : Dev) (x : Trap) (status : Nat) : Dev :=
  (d.completeStatus x.req (some x.stable) x.ingress 130 .mgmt status).trapFree x

section
variable {d : Dev} {a : Acc} {x : Trap} (hx : d.slice.traps.find? (fun x => x.id == d.arn (accIdx a) R.SLC_TRAP_CPL_ID) = some x)
include hx

section
variable (hsts : d.rf R.SLC_TRAP_CPL_STS 0 2 0 = 0)
include hsts

theorem Dev.trapGo_of_read (hread : x.write = false) :
    d.trapGo a =
      (d.completeData x.req (some x.stable) x.ingress 130 .mgmt 0 (bytesOf 4 (d.rn R.SLC_TRAP_CPL_DATA))).trapFree x := by
  simp [Dev.trapGo, hx, hsts, hread]

theorem Dev.trapGo_of_write (hwrite : x.write = true) : d.trapGo a = d.trapStatus x 0 := by
  simp [Dev.trapGo, hx, hsts, hwrite, Dev.trapStatus]

end

/-- A status other than success is CA (4), and any other in TRAP_CPL_STS counts as UR (1). -/
theorem Dev.trapGo_of_status (hsts : d.rf R.SLC_TRAP_CPL_STS 0 2 0 ≠ 0) :
    d.trapGo a = d.trapStatus x (if d.rf R.SLC_TRAP_CPL_STS 0 2 0 = 4 then 4 else 1) := by
  by_cases hca : d.rf R.SLC_TRAP_CPL_STS 0 2 0 = 4
  · simp [Dev.trapGo, hx, hca, Dev.trapStatus]
  · simp [Dev.trapGo, hx, hsts, hca, Dev.trapStatus]

end

/-- A trap that nobody has completed in time gets UR, with an event (R287). -/
theorem exec_trapTimeout_due {s : State} {id : Nat} {x : Trap} (hx : s.dev.slice.traps.find? (fun x => x.id == id) = some x) :
    exec (.trapTimeout id) s = .next (s.settled (
      let d := s.dev.advanceTo (x.since + 1000000 * s.dev.rf R.SLC_TRAP_CFG 0 31 16)
      ((d.completeStatus x.req (some x.stable) x.ingress 130 .mgmt 1).raise 0x5c9).trapFree x)) := by
  change execTrapTimeout id s = _
  exact State.eff_of_eq (by simp only [hx])

/-! ### The refusal log (R273) -/

theorem exec_rfClear_made {s : State} {a : Acc} (h : s.dev.may a R.STL_RF_CTRL true = true) :
    exec (.rfClear a) s = .next (s.settled s.dev.rfClear) :=
  State.eff_guardW_may h

section
variable {d : Dev} {a : Acc}

/-- A read of RF_W0 answers the word of the entry and latches the upper half of its time for the accessor. -/
theorem Dev.rRf_zero_of_entry {e : Refused} (h : d.rfEntry a = some e) :
    d.rRf a 0 = (e.word 0, d.awn (accIdx a) R.STL_RF_TIME_HI (e.time / 4294967296)) := by
  simp only [Dev.rRf, h, if_true]

theorem Dev.rRf_zero_of_no_entry (h : d.rfEntry a = none) : d.rRf a 0 = (0, d.awn (accIdx a) R.STL_RF_TIME_HI 0) := by
  simp only [Dev.rRf, h, if_true]

end

theorem exec_rfW0Read_made {s : State} {a : Acc} {w : Word} {e : Dev} (h : s.dev.may a (R.STL_RF_W 0) false = true)
    (hread : s.dev.rRf a 0 = (w, e)) : exec (.rfW0Read a) s = .next (s.settled (e.emit (.reply (accIdx a) [w]))) := by
  change execRfW0Read a s = _
  refine State.eff_of_eq ?_
  rw [Dev.guardR_may _ _ _ _ h, hread]

/-- Settles O38: one clause for each register command, the completion of a trap by its status, and a trap not completed in time. -/
theorem dirtyLogsAndTrapsComplete : Obligations.DirtyLogsAndTrapsComplete := by
  refine fun s a => ⟨exec_dlgSizeWrite_made, fun h => ⟨exec_filterClear_made h, ?sync⟩, exec_trapPop_made, fun x h hx => ?complete,
    fun id x => exec_trapTimeout_due, exec_rfClear_made, fun h => ?read⟩
  case sync =>
    have hsync {e : Dev} (hd : s.dev.dlgSync (s.dev.instOf a 0x780 R.SLC_DLG_CTRL.off) = e) : exec (.sync a) s = .next (s.settled e) :=
      hd ▸ exec_sync_made h
    exact ⟨fun hnone => hsync (Dev.dlgSync_of_written hnone), fun hsome => hsync (Dev.dlgSync_of_outstanding hsome)⟩
  case complete =>
    have hgo {e : Dev} (hd : s.dev.trapGo a = e) : exec (.trapCplGo a) s = .next (s.settled e) := hd ▸ exec_trapCplGo_made h
    exact ⟨fun hsts hread => hgo (Dev.trapGo_of_read hx hsts hread), fun hsts hwrite => hgo (Dev.trapGo_of_write hx hsts hwrite),
      fun hsts => hgo (Dev.trapGo_of_status hx hsts)⟩
  case read =>
    exact ⟨fun e he => exec_rfW0Read_made h (Dev.rRf_zero_of_entry he), fun hnone => exec_rfW0Read_made h (Dev.rRf_zero_of_no_entry hnone)⟩

end Sys2Proof.Machine
end

section
/-! Family 11_cxl_pooling: messages of the pool's hosts and devices, internal decoders and health (O41), and the commands of the fabric
manager, answered at once (O42) or forwarded to a device (O43). -/

namespace Sys2Proof.Machine

/-! ### CXL links (R293, R294) -/

/-- The block takes messages of a port: it is not in fail-safe, and the port's link is live and a CXL link. -/
structure Dev.CxlListens (d : Dev) (p : Nat) : Prop where
  serves : d.failsafe = false
  live : d.linkLive p = true
  cxl : d.isCxl p = true

section
variable {d : Dev} {p : Nat} (h : d.CxlListens p)
include h

/-- The guard of a command about a port's message, whatever else it asks of the port. -/
theorem Dev.CxlListens.not_idle {q : Prop} (hq : ¬ q) :
    ¬ (d.failsafe = true ∨ (!d.linkLive p) = true ∨ (!d.isCxl p) = true ∨ q) := by
  simp only [h.serves, h.live, h.cxl, hq, Bool.false_eq_true, Bool.not_true, or_self, not_false_eq_true]

end

/-! ### Requests of hosts (R294, R299) -/

/-- The TLP that a CXL.mem request is carried as: a line, with its byte mask and data where it writes. -/
def m2sTlp (write : Bool) (hpa tag mask : Nat) (data : List Byte) (poison : Bool) : Tlp :=
  { Tlp.blank with kind := if write then .m2sWr else .m2sRd, addr := hpa, len := 16, tag := tag, ep := poison
                   reg := if write then mask else 0, data := if write then padTo 64 data else [] }

/-- What the block notes of a host's request that comes in on `port`. -/
def Dev.m2sNote (d : Dev) (st port : Nat) (write : Bool) (hpa tag : Nat) : M2S :=
  ⟨d.cxp.nextId, tag, (d.hdmDecode st hpa).getD 0, none, write, .host, some st, port, hpa, d.now, d.ctoNs⟩

/-- The LD through which a stable has the device at a port, where that is an MLD. -/
def Dev.m2sLd (d : Dev) (st q : Nat) : Option Nat := if d.isMld q then d.boundLd q st else none

/-- The evaluation of a host's request under the tables of `x`. -/
def Dev.m2sEval (x : Dev) (st port hpa : Nat) (dom : Option Nat) (t : Tlp) : Eval :=
  let st' := x.owner port
  let r : RouteRes := ⟨match st'.bind fun s => x.hdmPort s hpa with
    | some q => .port x.me q
    | none => .err 1, none, hpa, false⟩
  ⟨st', st', r.dest, none, hpa, x.verdict (st'.getD st) port t true r, x.genOf dom, false⟩

/-- A host's request is noted as outstanding at the vPPB `q`, and goes on its way there. -/
def Dev.m2sSend (d : Dev) (st port q hpa : Nat) (t : Tlp) (e : M2S) : Dev :=
  let ld := d.m2sLd st q
  let dom := ld.map fun l => domLd q l
  let d := d.setCxp { d.cxp with nextId := e.id + 1, m2s := d.cxp.m2s ++ [{ e with port := q, ld := ld }] }
  let ev (x : Dev) : Eval := x.m2sEval st port hpa dom { t with ld := ld }
  d.addItem { mkItem { t with ld := ld } port (.m2s e.id) (ev d) (ev d.chkView) with dom := dom }

section
variable {s : State} {p st : Nat} (hown : s.dev.owner p = some st) (h : s.dev.CxlListens p) (hup : s.dev.isUp p = true)
  (hdisc : s.dev.discards p = false) (write : Bool) (hpa tag mask : Nat) (data : List Byte) (poison : Bool)
include hown h hup hdisc

theorem exec_m2sRequest_miss (hq : s.dev.hdmPort st (hpa / 64 * 64) = none) :
    exec (.m2sRequest p write hpa tag mask data poison) s = .next (s.settled
      ((s.dev.setCxp { s.dev.cxp with nextId := s.dev.cxp.nextId + 1 }).hdmMiss (s.dev.m2sNote st p write (hpa / 64 * 64) tag) st
        (m2sTlp write (hpa / 64 * 64) tag mask data poison))) := by
  have hgo := h.not_idle (not_or.2 ⟨not_ne_true hup, ne_true_of_eq_false hdisc⟩)
  change execM2sRequest p write hpa tag mask data poison s = _
  refine State.eff_of_eq ?_
  simp only [hown, if_neg hgo, hq]
  rfl

theorem exec_m2sRequest_sent {q : Nat} (hq : s.dev.hdmPort st (hpa / 64 * 64) = some q) :
    exec (.m2sRequest p write hpa tag mask data poison) s = .next (s.settled
      (s.dev.m2sSend st p q (hpa / 64 * 64) (m2sTlp write (hpa / 64 * 64) tag mask data poison)
        (s.dev.m2sNote st p write (hpa / 64 * 64) tag))) := by
  have hgo := h.not_idle (not_or.2 ⟨not_ne_true hup, ne_true_of_eq_false hdisc⟩)
  change execM2sRequest p write hpa tag mask data poison s = _
  refine State.eff_of_eq ?_
  simp only [hown, if_neg hgo, hq, Dev.m2sSend, Dev.m2sLd]
  -- The model takes the cases of the LD to name its domain; in each the two sides agree.
  generalize (if s.dev.isMld q = true then s.dev.boundLd q st else none) = ld
  cases ld <;> rfl

end

/-! ### Responses, and messages between devices and hosts (R293, R294) -/

/-- The request of a host that a device's response answers: sent, and not yet answered. -/
def Dev.m2sAnswered (d : Dev) (p kind tag : Nat) (ld : Option Nat) : Option M2S :=
  d.cxp.m2s.find? fun e => e.why == .host && e.port == p && e.ld == ld && e.tag == tag && e.write == (kind == 0) &&
    !(d.path.items.any fun i => i.src == .m2s e.id)

/-- A back-invalidate snoop of a device, noted until the host at `up` answers it. -/
def Dev.biNote (d : Dev) (st port up tag : Nat) : Dev :=
  d.setCxp { d.cxp with nextId := d.cxp.nextId + 1
                        m2s := d.cxp.m2s ++ [⟨d.cxp.nextId, tag, up, none, false, .bi, some st, port, 0, d.now, 0⟩] }

section
variable {s : State} {p : Nat} (h : s.dev.CxlListens p)
include h

section
variable (hdisc : s.dev.discards p = false) (tag : Nat) (ld : Option Nat) (data : List Byte) (poison : Bool)
include hdisc

/-- Kind 0 is a response without data (NDR), and kind 1 one with data (DRS). -/
theorem exec_s2mResponse_returned {kind : Nat} {e : M2S} (hkind : kind ≤ 1) (he : s.dev.m2sAnswered p kind tag ld = some e) :
    exec (.s2mResponse p kind tag ld data poison) s = .next (s.settled
      ((s.dev.rmM2s e.id).sendS2m e (if kind = 1 then padTo 64 data else []) poison)) := by
  have hgo := h.not_idle (ne_true_of_eq_false hdisc)
  rw [Dev.m2sAnswered] at he
  change execS2mResponse p kind tag ld data poison s = _
  exact State.eff_of_eq ((if_neg hgo).trans <| (if_pos hkind).trans (by rw [he]))

variable {st : Nat} (hown : s.dev.owner p = some st) (hup : s.dev.isUp p = true)
include hown hup

/-- Kind 2 is a host's answer to the snoop of a device. -/
theorem exec_s2mResponse_snoop {e : M2S} (he : s.dev.cxp.m2s.find? (fun e => e.why == .bi && e.port == p && e.tag == tag) = some e) :
    exec (.s2mResponse p 2 tag ld data poison) s = .next (s.settled ((s.dev.rmM2s e.id).cxlForward p st e.ingress 1 tag data)) := by
  have hgo := h.not_idle (ne_true_of_eq_false hdisc)
  change execS2mResponse p 2 tag ld data poison s = _
  refine State.eff_of_eq ((if_neg hgo).trans <| (if_neg (by decide)).trans ?_)
  simp only [hown, if_neg (not_ne_true hup), if_true, he]

/-- Kind 3 is a host's CXL.cache message. -/
theorem exec_s2mResponse_cache {q : Nat} (hq : s.dev.cachePort st = some q) :
    exec (.s2mResponse p 3 tag ld data poison) s = .next (s.settled (s.dev.cxlForward p st q 2 tag data)) := by
  have hgo := h.not_idle (ne_true_of_eq_false hdisc)
  change execS2mResponse p 3 tag ld data poison s = _
  refine State.eff_of_eq ((if_neg hgo).trans <| (if_neg (by decide)).trans ?_)
  simp only [hown, if_neg (not_ne_true hup), hq]
  rfl

end

section
variable (hfence : s.dev.fenced p = false) (hcont : s.dev.portContained p = false) (tag : Nat) (data : List Byte)
include hfence hcont

theorem exec_biMessage_unused (cache : Bool) (hused : s.dev.rb R.CXP_PORT_CXL_STATUS (0x100 + p) (if cache then 8 else 7) = false) :
    exec (.biMessage p cache tag data) s = .next (s.settled
      ((s.dev.bump R.CXP_PORT_CNT_DENIED (0x100 + p)).cxpEvent 6 p 0 0 (s.dev.boundStables p))) := by
  have hgo := h.not_idle (not_or.2 ⟨ne_true_of_eq_false hfence, ne_true_of_eq_false hcont⟩)
  change execBiMessage p cache tag data s = _
  exact State.eff_of_eq ((if_neg hgo).trans (if_pos (by rw [hused]; rfl)))

theorem exec_biMessage_used {cache : Bool} {st up : Nat}
    (hused : s.dev.rb R.CXP_PORT_CXL_STATUS (0x100 + p) (if cache then 8 else 7) = true) (hown : s.dev.owner p = some st)
    (hup : s.dev.upPort st = some up) :
    exec (.biMessage p cache tag data) s = .next (s.settled
      ((if cache then s.dev else s.dev.biNote st p up tag).cxlForward p st up (if cache then 2 else 1) tag data)) := by
  have hgo := h.not_idle (not_or.2 ⟨ne_true_of_eq_false hfence, ne_true_of_eq_false hcont⟩)
  change execBiMessage p cache tag data s = _
  refine State.eff_of_eq ((if_neg hgo).trans <| (if_neg (not_ne_true hused)).trans ?_)
  simp only [hown, hup]
  rfl

end

end

/-! ### Internal decoders (R180, R303) -/

/-- What is written to a decoder's target: its LD, base and size, and its device address. -/
def Dev.idecSend (d : Dev) (k : Nat) : Dev :=
  let d := d.setCxp { d.cxp with prog := d.cxp.prog.insert k (d.now + 1), progSent := d.cxp.progSent ++ [k] }
  d.emit (.m2s (d.idecPort k) 1 [(d.idecLd k).getD 16, d.idecBase k, d.idecSize k, d.rf R.CXP_IDEC_DPA (0x200 + k) 11 0 * 268435456])

section
variable {s : State} {k : Nat}

theorem exec_idecProgram_sent (hreach : s.dev.idecReach k = true) (hnew : s.dev.cxp.progSent.contains k = false)
    (hroom : s.dev.loftRoom 1 = true) : exec (.idecProgram k) s = .next (s.settled (s.dev.idecSend k)) := by
  change execIdecProgram k s = _
  exact State.eff_of_eq (if_neg (not_or.2 ⟨ne_true_of_eq_false hnew, not_or.2 ⟨not_ne_true hreach, not_ne_true hroom⟩⟩))

variable (hsent : s.dev.cxp.progSent.contains k = true)
include hsent

theorem exec_idecCommitted_up (hreach : s.dev.idecReach k = true) :
    exec (.idecCommitted k) s = .next (s.settled (((s.dev.idecEnd k).wf R.CXP_IDEC_STATUS (0x200 + k) 1 0 2).brgPump)) := by
  change execIdecCommitted k s = _
  exact State.eff_of_eq (if_pos (Bool.and_eq_true_iff.2 ⟨hsent, hreach⟩))

variable (hstate : s.dev.idecState k = 1)
include hstate

theorem exec_idecNotCommitted_error (hreach : s.dev.idecReach k = true) :
    exec (.idecNotCommitted k false) s = .next (s.settled (s.dev.idecFail k 6)) := by
  change execIdecNotCommitted k false s = _
  exact State.eff_of_eq <| (if_pos (Bool.and_eq_true_iff.2 ⟨hsent, beq_iff_eq.2 hstate⟩)).trans <|
    (if_neg Bool.false_ne_true).trans (if_pos hreach)

theorem exec_idecNotCommitted_timeout :
    exec (.idecNotCommitted k true) s = .next (s.settled
      ((s.dev.advanceTo (s.dev.cxp.prog.getD k 1 - 1 + 10000000)).idecFail k 5)) := by
  change execIdecNotCommitted k true s = _
  exact State.eff_of_eq <| (if_pos (Bool.and_eq_true_iff.2 ⟨hsent, beq_iff_eq.2 hstate⟩)).trans (if_pos rfl)

end

section
variable {s : State} {a : Acc} (h : s.dev.may a R.CXP_IDEC_CTRL true = true)
include h

theorem exec_recommit_made :
    exec (.recommit a) s = .next (s.settled (s.dev.idecRecommit (s.dev.instOf a 0x800 R.CXP_IDEC_CTRL.off - 0x200))) :=
  State.eff_guardW_may h

end

theorem Dev.idecRecommit_of_disabled {d : Dev} {k : Nat} (h : d.idecSize k = 0) : d.idecRecommit k = d := if_pos h

theorem Dev.idecRecommit_of_enabled {d : Dev} {k : Nat} (h : d.idecSize k ≠ 0) :
    d.idecRecommit k = (d.idecStart k).wr R.CXP_IDEC_CTRL (0x200 + k) 1 := if_neg h

/-! ### Device health (R305, R306) and extents (R309) -/

/-- The decoders of `bad` whose port is up, and that are UP, fail at a health poll. -/
def Dev.healthFail (d : Dev) (bad : List Nat) : Dev :=
  (d.idecs.filter fun k => bad.contains k && d.dlUp (d.idecPort k)).foldl (fun d k => if d.idecState k = 2 then d.idecFail k 4 else d) d

/-- Viral on a port goes on to the upstream port of the stable that owns the port alone. -/
def Dev.viralOn (d : Dev) (p : Nat) : Dev :=
  match (if d.isDown p then d.owner p else none).bind d.upPort with
  | some up => if d.linkLive up then d.emit (.m2s up 2 []) else d
  | none => d

theorem Dev.unitRef_port (d : Dev) (p : Nat) :
    d.unitRef (.port p) = word (d.me * 536870912 + (Unit.port p).place.1 * 65536 + (Unit.port p).place.2) := rfl

section
variable (d : Dev) (e port ld idec : Nat) (named : List Nat)

/-- An event of the pool writes CXP_LAST alone among the registers. -/
theorem Dev.cxpEvent_rd_other {r : Reg} (i : Nat) (hoff : r.off < 4096) (h : r.off ≠ R.CXP_CXP_LAST.off) :
    (d.cxpEvent e port ld idec named).rd r i = d.rd r i := by
  rw [Dev.cxpEvent, Dev.raiseFor_rd, Dev.rd_wr_other _ _ (regKey_ne_of_off hoff (by decide) h)]

theorem Dev.cxpEvent_owner (p : Nat) : (d.cxpEvent e port ld idec named).owner p = d.owner p := by
  have h := d.cxpEvent_rd_other e port ld idec named (r := R.ISO_PORT_OWN) (0x100 + p) (by decide) (by decide)
  have hmode : (d.cxpEvent e port ld idec named).ownMode p = d.ownMode p := by simp only [Dev.ownMode, Dev.rf, h]
  rw [Dev.owner, Dev.owner, hmode, Dev.rf, Dev.rf, h]

theorem Dev.cxpEvent_unitRef_port (p : Nat) : (d.cxpEvent e port ld idec named).unitRef (.port p) = d.unitRef (.port p) := by
  have h := d.cxpEvent_rd_other e port ld idec named (r := R.DEV_YARD_CFG) 0 (by decide) (by decide)
  have hen : (d.cxpEvent e port ld idec named).yardEn = d.yardEn := by simp only [Dev.yardEn, Dev.rb, h]
  have hme : (d.cxpEvent e port ld idec named).me = d.me := by rw [Dev.me, Dev.me, hen, Dev.rf, Dev.rf, h]
  rw [Dev.unitRef_port, Dev.unitRef_port, hme]

end

section
variable {s : State}

theorem exec_healthPoll_off (bad : List Nat) (hint : s.dev.rf R.CXP_CXP_CTRL 0 15 0 * 1000000 = 0) :
    exec (.healthPoll bad) s = .next (s.settled s.dev) := by
  change execHealthPoll bad s = _
  exact State.eff_of_eq (if_pos (.inl hint))

theorem exec_healthPoll_due (hsafe : s.dev.failsafe = false) (bad : List Nat)
    (hint : s.dev.rf R.CXP_CXP_CTRL 0 15 0 * 1000000 ≠ 0) :
    exec (.healthPoll bad) s = .next (s.settled (
      let int := s.dev.rf R.CXP_CXP_CTRL 0 15 0 * 1000000
      (s.dev.advanceTo ((s.dev.now / int + 1) * int)).healthFail bad)) := by
  change execHealthPoll bad s = _
  exact State.eff_of_eq (if_neg (not_or.2 ⟨hint, ne_true_of_eq_false hsafe⟩))

theorem exec_viralReceived_taken {p : Nat} (hlive : s.dev.linkLive p = true) (hcxl : s.dev.isCxl p = true)
    (hcont : s.dev.portContained p = false) :
    exec (.viralReceived p) s = .next (s.settled (
      let d := (s.dev.idecPortFail p 3).viralOn p
      (d.cxpEvent 7 p 0 0 (d.boundStables p)).fault 0x15 (d.owner p) (some p) none (d.unitRef (.port p)) 0)) := by
  change execViralReceived p s = _
  refine State.eff_of_eq
    ((if_neg (not_or.2 ⟨not_ne_true hlive, not_or.2 ⟨not_ne_true hcxl, ne_true_of_eq_false hcont⟩⟩)).trans ?_)
  dsimp only
  rw [Dev.cxpEvent_owner, Dev.cxpEvent_unitRef_port]
  rfl

theorem exec_dcExtentOffer_answered (hsafe : s.dev.failsafe = false) {p k : Nat} {ld : Option Nat} {l : List Nat}
    (hlive : s.dev.linkLive p = true) (hk : s.dev.idecsOf p ld = k :: l) :
    exec (.dcExtentOffer p ld) s = .next (s.settled
      ((s.dev.emit (.m2s p 3 [ld.getD 16, b2n (s.dev.rb R.CXP_IDEC_CFG (0x200 + k) 14)])).cxpEvent 8 p (ld.getD 0) k [])) := by
  change execDcExtentOffer p ld s = _
  refine State.eff_of_eq ?_
  simp only [hk]
  exact if_neg (not_or.2 ⟨ne_true_of_eq_false hsafe, not_ne_true hlive⟩)

end

/-- Settles O41: one clause for each command about a message, a decoder, the health of devices or an extent. -/
theorem poolMessagesAndDecodersComplete : Obligations.PoolMessagesAndDecodersComplete := by
  intro s hsafe
  refine ⟨?request, ?response, ?message, ?decoder, ?recommit, ?health, ?viral, ?extent⟩
  case request =>
    intro p st write hpa tag mask data poison hown hlive hcxl hup hdisc
    have h : s.dev.CxlListens p := ⟨hsafe, hlive, hcxl⟩
    exact ⟨exec_m2sRequest_miss hown h hup hdisc write hpa tag mask data poison,
      fun q => exec_m2sRequest_sent hown h hup hdisc write hpa tag mask data poison⟩
  case response =>
    intro p hlive hcxl hdisc kind tag ld data poison
    have h : s.dev.CxlListens p := ⟨hsafe, hlive, hcxl⟩
    exact ⟨fun e => exec_s2mResponse_returned h hdisc tag ld data poison,
      fun st e hown hup => exec_s2mResponse_snoop h hdisc tag ld data poison hown hup,
      fun st q hown hup => exec_s2mResponse_cache h hdisc tag ld data poison hown hup⟩
  case message =>
    intro p hlive hcxl hfence hcont cache tag data
    have h : s.dev.CxlListens p := ⟨hsafe, hlive, hcxl⟩
    refine ⟨exec_biMessage_unused h hfence hcont tag data cache, fun st up hused hown hup => ⟨?_, ?_⟩⟩
    · rintro rfl
      exact exec_biMessage_used h hfence hcont tag data hused hown hup
    · rintro rfl
      exact exec_biMessage_used h hfence hcont tag data hused hown hup
  case decoder =>
    exact fun k hreach => ⟨exec_idecProgram_sent hreach, fun hsent => ⟨exec_idecCommitted_up hsent hreach,
      fun hstate => exec_idecNotCommitted_error hsent hstate hreach, exec_idecNotCommitted_timeout hsent⟩⟩
  case recommit =>
    intro a h
    have hgo {e : Dev} (he : s.dev.idecRecommit (s.dev.instOf a 0x800 R.CXP_IDEC_CTRL.off - 0x200) = e) :
        exec (.recommit a) s = .next (s.settled e) := he ▸ exec_recommit_made h
    exact ⟨fun hoff => hgo (Dev.idecRecommit_of_disabled hoff), fun hon => hgo (Dev.idecRecommit_of_enabled hon)⟩
  case health => exact fun bad => ⟨exec_healthPoll_off bad, exec_healthPoll_due hsafe bad⟩
  case viral => exact fun p => exec_viralReceived_taken
  case extent => exact fun p k ld l => exec_dcExtentOffer_answered hsafe

/-! ### Messages of the fabric manager (R308, R477) -/

/-- A message of the API reaches the block's firmware: its source is one, its path is up and firmware runs. -/
structure Dev.FmReached (d : Dev) (a : Acc) (path : Nat) : Prop where
  source : d.fmPath a = some path
  up : d.pathUp path = true
  firmware : d.fwRuns = true

section
variable {d : Dev} {a : Acc} {path op : Nat}

theorem Dev.fmApi_of_refused (resume : Bool) (f : Dev → Nat → Dev) (h : d.fmPath a = none) :
    d.fmApi a op resume f = d.bump R.CXP_FMAPI_CNT_REJ := by
  simp only [Dev.fmApi, h]

theorem Dev.fmApi_of_path_down (resume : Bool) (f : Dev → Nat → Dev) (h : d.fmPath a = some path) (hup : d.pathUp path = false) :
    d.fmApi a op resume f = d := by
  simp only [Dev.fmApi, h, hup, Bool.not_false, if_true]

theorem Dev.fmApi_of_no_firmware (resume : Bool) (f : Dev → Nat → Dev) (h : d.fmPath a = some path) (hup : d.pathUp path = true)
    (hfw : d.fwRuns = false) : d.fmApi a op resume f = d.mctpErr := by
  simp only [Dev.fmApi, h, if_neg (not_ne_true hup), hfw, Bool.not_false, if_true]

variable (h : d.FmReached a path)
include h

theorem Dev.FmReached.fmApi_of_idle (resume : Bool) (f : Dev → Nat → Dev) (hidle : d.cxp.fmBusy = none) :
    d.fmApi a op resume f = f d path := by
  simp only [Dev.fmApi, h.source, if_neg (not_ne_true h.up), if_neg (not_ne_true h.firmware), hidle]

theorem Dev.FmReached.fmApi_of_busy {b : Nat × Nat} (f : Dev → Nat → Dev) (hbusy : d.cxp.fmBusy = some b) :
    d.fmApi a op false f = d.fmEnd path op 6 [] := by
  simp only [Dev.fmApi, h.source, if_neg (not_ne_true h.up), if_neg (not_ne_true h.firmware), hbusy, Bool.false_and,
    Bool.false_eq_true, if_false]

theorem Dev.FmReached.fmApi_of_resumed (f : Dev → Nat → Dev) (hbusy : d.cxp.fmBusy = some (path, op)) :
    d.fmApi a op true f = f d path := by
  simp only [Dev.fmApi, h.source, if_neg (not_ne_true h.up), if_neg (not_ne_true h.firmware), hbusy, Bool.true_and, beq_self_eq_true,
    if_true]

end

/-- The command `c` is a message of the API from `a`: it meets the checks of `Dev.fmApi`, and does not end a command in progress. -/
def FmMessage (a : Acc) (c : Instr) (op : Nat) : Prop :=
  ∀ s : State, ∃ f : Dev → Nat → Dev, exec c s = .next (s.settled (s.dev.fmApi a op false f))

namespace FmMessage
variable {s : State} {a : Acc} {c : Instr} {op path : Nat} (hmsg : FmMessage a c op)
include hmsg

theorem exec_of_refused (h : s.dev.fmPath a = none) : exec c s = .next (s.settled (s.dev.bump R.CXP_FMAPI_CNT_REJ)) := by
  obtain ⟨f, hf⟩ := hmsg s
  rw [hf, Dev.fmApi_of_refused _ _ h]

theorem exec_of_path_down (h : s.dev.fmPath a = some path) (hup : s.dev.pathUp path = false) : exec c s = .next (s.settled s.dev) := by
  obtain ⟨f, hf⟩ := hmsg s
  rw [hf, Dev.fmApi_of_path_down _ _ h hup]

theorem exec_of_no_firmware (h : s.dev.fmPath a = some path) (hup : s.dev.pathUp path = true) (hfw : s.dev.fwRuns = false) :
    exec c s = .next (s.settled s.dev.mctpErr) := by
  obtain ⟨f, hf⟩ := hmsg s
  rw [hf, Dev.fmApi_of_no_firmware _ _ h hup hfw]

theorem exec_of_busy {b : Nat × Nat} (h : s.dev.FmReached a path) (hbusy : s.dev.cxp.fmBusy = some b) :
    exec c s = .next (s.settled (s.dev.fmEnd path op 6 [])) := by
  obtain ⟨f, hf⟩ := hmsg s
  rw [hf, h.fmApi_of_busy _ hbusy]

end FmMessage

/-! ### Commands answered at once (R308, R309, R392) -/

section
variable {s : State} {a : Acc} {path : Nat} (h : s.dev.FmReached a path) (hidle : s.dev.cxp.fmBusy = none)
include h hidle

/-- A command answered at once keeps its code and answers with its payload, from what it does to the device. -/
theorem State.eff_fmNow {op code : Nat} {f : Dev → Nat × List Nat × Dev} {l : List Nat} {e : Dev} (hf : f s.dev = (code, l, e)) :
    (s.eff fun d => d.fmNow a op f) = .next (s.settled (e.fmEnd path op code l)) :=
  State.eff_of_eq ((h.fmApi_of_idle _ _ hidle).trans (by rw [hf]))

/-- The same for a command that looks at the page locks and leaves them. -/
theorem State.effL_fmNow {op code : Nat} {f : List Nat → Dev → Nat × List Nat × Dev} {l : List Nat} {e : Dev}
    (hf : f s.plock s.dev = (code, l, e)) :
    (s.effL fun lk d => (lk, d.fmNow a op (f lk))) = .next (s.settled (e.fmEnd path op code l)) :=
  State.eff_fmNow h hidle (f := f s.plock) hf

end


/-! ### Commands for physical ports (5102h, 5103h) -/

/-- PHYSICAL_PORT_CONTROL acts on an UNASSIGNED port that is no fabric port, and has three operations (R309). -/
def Dev.PortControlAble (d : Dev) (port op : Nat) : Prop := port < 128 ∧ d.ownMode port = 0 ∧ d.isFabric port = false ∧ op < 3

/-- PERST# of a port's slot is driven, where the port has a slot. -/
def Dev.slotReset (d : Dev) (port : Nat) (on : Bool) : Dev :=
  match d.portSlot port with
  | some k => (d.setSlot k { d.slot k with resetOn := on }).emit (.pin (.slotReset port) on)
  | none => d

/-- A port's link that is up goes down under a reset. -/
def Dev.resetDown (d : Dev) (port : Nat) : Dev := if d.dlUp port then d.dlDown port 1 false true else d

/-- A configuration request reaches the bridge of a downstream port that is unbound, or an MLD's. -/
def Dev.PpbConfigAble (d : Dev) (port : Nat) : Prop :=
  port < 128 ∧ d.isFabric port = false ∧ d.isUp port = false ∧ (d.ownMode port = 0 ∨ d.isMld port = true)

theorem Dev.not_portControlAble_iff (d : Dev) (port op : Nat) :
    ¬ d.PortControlAble port op ↔ 128 ≤ port ∨ d.ownMode port ≠ 0 ∨ d.isFabric port = true ∨ 3 ≤ op := by
  simp only [Dev.PortControlAble, Classical.not_and_iff_not_or_not, Nat.not_lt, ne_eq, Bool.not_eq_false]

theorem Dev.not_ppbConfigAble_iff (d : Dev) (port : Nat) :
    ¬ d.PpbConfigAble port ↔
      128 ≤ port ∨ d.isFabric port = true ∨ d.isUp port = true ∨ (decide (d.ownMode port ≠ 0) && !d.isMld port) = true := by
  simp only [Dev.PpbConfigAble, Classical.not_and_iff_not_or_not, not_or, Nat.not_lt, Bool.not_eq_false, Bool.and_eq_true,
    decide_eq_true_eq, Bool.not_eq_true', Bool.not_eq_true, ne_eq]

/-! ### Bindings and errors of a virtual switch (5201h–5203h) -/

/-- BIND_VPPB names an LD of an MLD port, the vPPB of that port and a vCS, and nobody holds the lock of the page of bindings (R309). -/
def State.BindAble (s : State) (vcs vppb port ld : Nat) : Prop :=
  port < 128 ∧ s.dev.isMld port = true ∧ vppb = port ∧ vcs < 64 ∧ ld < 16 ∧ 0x800 ∉ s.plock

/-- UNBIND_VPPB names the vPPB of an MLD port and a vCS, and nobody holds the lock of the page of bindings (R309). -/
def State.UnbindAble (s : State) (vcs port : Nat) : Prop := port < 128 ∧ s.dev.isMld port = true ∧ vcs < 64 ∧ 0x800 ∉ s.plock

/-- GENERATE_AER_EVENT names a vCS with an upstream port and a bit of the two AER status registers (R392). -/
def Dev.AerAble (d : Dev) (vcs k : Nat) : Prop := vcs < 64 ∧ (d.upPort vcs).isSome = true ∧ k < 64

theorem State.not_bindAble_iff (s : State) (vcs vppb port ld : Nat) :
    ¬ s.BindAble vcs vppb port ld ↔ 128 ≤ port ∨ (!s.dev.isMld port) = true ∨ vppb ≠ port ∨ 64 ≤ vcs ∨ 16 ≤ ld ∨
      s.plock.contains 0x800 = true := by
  simp only [State.BindAble, Classical.not_and_iff_not_or_not, Classical.not_not, Nat.not_lt, Bool.not_eq_true,
    Bool.not_eq_true', List.contains_iff_mem, ne_eq]

theorem State.not_unbindAble_iff (s : State) (vcs port : Nat) :
    ¬ s.UnbindAble vcs port ↔ 128 ≤ port ∨ (!s.dev.isMld port) = true ∨ 64 ≤ vcs ∨ s.plock.contains 0x800 = true := by
  simp only [State.UnbindAble, Classical.not_and_iff_not_or_not, Classical.not_not, Nat.not_lt, Bool.not_eq_true,
    Bool.not_eq_true', List.contains_iff_mem]

theorem Dev.not_aerAble_iff (d : Dev) (vcs k : Nat) :
    ¬ d.AerAble vcs k ↔ 64 ≤ vcs ∨ (d.upPort vcs).isNone = true ∨ 64 ≤ k := by
  simp only [Dev.AerAble, Classical.not_and_iff_not_or_not, Nat.not_lt, Bool.not_eq_true, Option.isSome_eq_false_iff]

/-- The binding `w` of an LD is staged for accessor 65 and its commit asked for; the answer is Success where the commit was taken. -/
def Dev.bindEnd (d : Dev) (path op port ld : Nat) (w : Word) : Dev :=
  let n := (d.stage ⟨65, 0x800, 0x800, 0x100 + port, 0x340 + 4 * ld, w⟩).commitReq 65 0x800
  n.fmEnd path op (if n.staging.lastErr.getD 0x800 0 % 256 = 0 then 0 else 2) []

section
variable {s : State} {a : Acc} {path : Nat} (h : s.dev.FmReached a path) (hidle : s.dev.cxp.fmBusy = none)
include h hidle

/-- The limit is an exponent of 8 to 20. -/
theorem exec_setResponseMessageLimit_taken {limit : Nat} (hl : 8 ≤ limit ∧ limit ≤ 20) :
    exec (.setResponseMessageLimit a limit) s =
      .next (s.settled ((s.dev.setCxp { s.dev.cxp with msgLimit := limit }).fmEnd path 0x0004 0 [limit])) :=
  State.eff_fmNow h hidle (if_pos hl)

theorem exec_setResponseMessageLimit_invalid {limit : Nat} (hl : ¬ (8 ≤ limit ∧ limit ≤ 20)) :
    exec (.setResponseMessageLimit a limit) s = .next (s.settled (s.dev.fmEnd path 0x0004 2 [])) :=
  State.eff_fmNow h hidle (if_neg hl)

theorem exec_getPhysicalPortState_invalid {ports : List Nat} (hp : (ports.any fun p => decide (128 ≤ p)) = true) :
    exec (.getPhysicalPortState a ports) s = .next (s.settled (s.dev.fmEnd path 0x5101 2 [])) :=
  State.eff_fmNow h hidle (if_pos hp)

theorem exec_getPhysicalPortState_told {ports : List Nat} (hp : (ports.any fun p => decide (128 ≤ p)) = false) :
    exec (.getPhysicalPortState a ports) s = .next (s.settled (s.dev.fmEnd path 0x5101 0 (ports.flatMap s.dev.fmPort))) :=
  State.eff_fmNow h hidle (if_neg (ne_true_of_eq_false hp))

theorem exec_getVirtualCxlSwitchInfo_invalid {vcs : List Nat} (hv : (vcs.any fun st => decide (64 ≤ st)) = true) :
    exec (.getVirtualCxlSwitchInfo a vcs) s = .next (s.settled (s.dev.fmEnd path 0x5200 2 [])) :=
  State.eff_fmNow h hidle (if_pos hv)

theorem exec_getVirtualCxlSwitchInfo_told {vcs : List Nat} (hv : (vcs.any fun st => decide (64 ≤ st)) = false) :
    exec (.getVirtualCxlSwitchInfo a vcs) s = .next (s.settled (s.dev.fmEnd path 0x5200 0 (vcs.flatMap s.dev.fmVcs))) :=
  State.eff_fmNow h hidle (if_neg (ne_true_of_eq_false hv))

theorem exec_physicalPortControl_invalid {port op : Nat} (hable : ¬ s.dev.PortControlAble port op) :
    exec (.physicalPortControl a port op) s = .next (s.settled (s.dev.fmEnd path 0x5102 2 [])) :=
  State.eff_fmNow h hidle (if_pos ((s.dev.not_portControlAble_iff port op).1 hable))

theorem exec_physicalPortControl_assert {port : Nat} (hable : s.dev.PortControlAble port 0) :
    exec (.physicalPortControl a port 0) s =
      .next (s.settled (((s.dev.slotReset port true).resetDown port).fmEnd path 0x5102 0 [])) :=
  State.eff_fmNow h hidle (if_neg (fun hg => (s.dev.not_portControlAble_iff port 0).2 hg hable))

theorem exec_physicalPortControl_deassert {port : Nat} (hable : s.dev.PortControlAble port 1) :
    exec (.physicalPortControl a port 1) s = .next (s.settled ((s.dev.slotReset port false).fmEnd path 0x5102 0 [])) :=
  State.eff_fmNow h hidle (if_neg (fun hg => (s.dev.not_portControlAble_iff port 1).2 hg hable))

theorem exec_physicalPortControl_linkReset {port : Nat} (hable : s.dev.PortControlAble port 2) :
    exec (.physicalPortControl a port 2) s =
      .next (s.settled (((s.dev.emit (.engine port 4 [2])).resetDown port).fmEnd path 0x5102 0 [])) :=
  State.eff_fmNow h hidle (if_neg (fun hg => (s.dev.not_portControlAble_iff port 2).2 hg hable))

theorem exec_sendPpbCxlIoConfigurationRequest_invalid {port : Nat} (reg be : Nat) (write : Bool) (data : Word)
    (hable : ¬ s.dev.PpbConfigAble port) :
    exec (.sendPpbCxlIoConfigurationRequest a port reg be write data) s = .next (s.settled (s.dev.fmEnd path 0x5103 2 [])) :=
  State.eff_fmNow h hidle (if_pos ((s.dev.not_ppbConfigAble_iff port).1 hable))

theorem exec_sendPpbCxlIoConfigurationRequest_write {port : Nat} (reg be : Nat) (data : Word) (hable : s.dev.PpbConfigAble port) :
    exec (.sendPpbCxlIoConfigurationRequest a port reg be true data) s = .next (s.settled (
      let dw := reg / 4 % 1024
      (s.dev.setCfg 64 (8 + port) dw (s.dev.cfgMerge 64 (8 + port) dw be data)).fmEnd path 0x5103 0 [])) :=
  State.eff_fmNow h hidle (if_neg (fun hg => (s.dev.not_ppbConfigAble_iff port).2 hg hable))

theorem exec_sendPpbCxlIoConfigurationRequest_read {port : Nat} (reg be : Nat) (data : Word) (hable : s.dev.PpbConfigAble port) :
    exec (.sendPpbCxlIoConfigurationRequest a port reg be false data) s = .next (s.settled (
      let dw := reg / 4 % 1024
      s.dev.fmEnd path 0x5103 0 [(s.dev.portWord 64 (8 + port) port dw (s.dev.cfg 64 (8 + port) dw)).toNat])) :=
  State.eff_fmNow h hidle (if_neg (fun hg => (s.dev.not_ppbConfigAble_iff port).2 hg hable))

theorem exec_bindVppb_made {vcs vppb port ld : Nat} (hable : s.BindAble vcs vppb port ld) :
    exec (.bindVppb a vcs vppb port ld) s = .next (s.settled (s.dev.bindEnd path 0x5201 port ld (word (1 + 2 * vcs)))) := by
  change execBindVppb a vcs vppb port ld s = _
  exact State.effL_fmNow h hidle (if_neg (fun hg => (s.not_bindAble_iff vcs vppb port ld).2 hg hable))

theorem exec_bindVppb_invalid {vcs vppb port ld : Nat} (hable : ¬ s.BindAble vcs vppb port ld) :
    exec (.bindVppb a vcs vppb port ld) s = .next (s.settled (s.dev.fmEnd path 0x5201 2 [])) := by
  change execBindVppb a vcs vppb port ld s = _
  exact State.effL_fmNow h hidle (if_pos ((s.not_bindAble_iff vcs vppb port ld).1 hable))

theorem exec_unbindVppb_made {vcs port ld : Nat} (hable : s.UnbindAble vcs port) (hld : s.dev.boundLd port vcs = some ld) :
    exec (.unbindVppb a vcs port) s = .next (s.settled (s.dev.bindEnd path 0x5202 port ld 0)) := by
  change execUnbindVppb a vcs port s = _
  exact State.effL_fmNow h hidle ((if_neg (fun hg => (s.not_unbindAble_iff vcs port).2 hg hable)).trans (by rw [hld]; rfl))

theorem exec_unbindVppb_invalid {vcs port : Nat} (hnone : ¬ s.UnbindAble vcs port ∨ s.dev.boundLd port vcs = none) :
    exec (.unbindVppb a vcs port) s = .next (s.settled (s.dev.fmEnd path 0x5202 2 [])) := by
  change execUnbindVppb a vcs port s = _
  refine State.effL_fmNow h hidle ?_
  by_cases hable : s.UnbindAble vcs port
  · exact (if_neg (fun hg => (s.not_unbindAble_iff vcs port).2 hg hable)).trans (by rw [hnone.resolve_left fun hno => hno hable])
  · exact if_pos ((s.not_unbindAble_iff vcs port).1 hable)

theorem exec_generateAerEvent_made {vcs k : Nat} (hable : s.dev.AerAble vcs k) :
    exec (.generateAerEvent a vcs k) s = .next (s.settled ((s.dev.aer vcs 0 k none).fmEnd path 0x5203 0 [])) :=
  State.eff_fmNow h hidle (if_neg (fun hg => (s.dev.not_aerAble_iff vcs k).2 hg hable))

theorem exec_generateAerEvent_invalid {vcs k : Nat} (hable : ¬ s.dev.AerAble vcs k) :
    exec (.generateAerEvent a vcs k) s = .next (s.settled (s.dev.fmEnd path 0x5203 2 [])) :=
  State.eff_fmNow h hidle (if_pos ((s.dev.not_aerAble_iff vcs k).1 hable))

theorem exec_fmapiUnsupported_answered {op : Nat} (hop : fmOpcodes.contains op = false) (hlt : op < 65536) :
    exec (.fmapiUnsupported a op) s = .next (s.settled (s.dev.fmEnd path op 3 [])) := by
  change execFmapiUnsupported a op s = _
  have hnow : ¬ (fmOpcodes.contains op = true ∨ 65536 ≤ op) := not_or.2 ⟨ne_true_of_eq_false hop, Nat.not_le.2 hlt⟩
  exact State.eff_of_eq ((if_neg hnow).trans (h.fmApi_of_idle _ _ hidle))

end

/-- Settles O42: one clause for each command, by the answer of a command answered at once (`State.eff_fmNow`) and the operands it acts
on. -/
theorem fabricManagerCommandsComplete : Obligations.FabricManagerCommandsComplete := by
  intro s a path hsource hup hfw hidle
  have h : s.dev.FmReached a path := ⟨hsource, hup, hfw⟩
  refine ⟨State.eff_fmNow h hidle rfl, State.eff_fmNow h hidle rfl, State.eff_fmNow h hidle rfl, fun _ => ?limit,
    State.eff_fmNow h hidle rfl, fun _ => ?ports, fun port op => ?control, fun port reg be data => ?config, fun _ => ?info,
    fun _ _ _ _ => ?bind, fun _ _ => ?unbind, fun _ _ => ?aer, fun _ => exec_fmapiUnsupported_answered h hidle⟩
  case limit => exact ⟨exec_setResponseMessageLimit_taken h hidle, exec_setResponseMessageLimit_invalid h hidle⟩
  case ports => exact ⟨exec_getPhysicalPortState_invalid h hidle, exec_getPhysicalPortState_told h hidle⟩
  case control =>
    refine ⟨exec_physicalPortControl_invalid h hidle, ?_, ?_, ?_⟩
    · rintro hable rfl
      exact exec_physicalPortControl_assert h hidle hable
    · rintro hable rfl
      exact exec_physicalPortControl_deassert h hidle hable
    · rintro hable rfl
      exact exec_physicalPortControl_linkReset h hidle hable
  case config =>
    exact ⟨exec_sendPpbCxlIoConfigurationRequest_write h hidle reg be data,
      exec_sendPpbCxlIoConfigurationRequest_read h hidle reg be data,
      fun hable write => exec_sendPpbCxlIoConfigurationRequest_invalid h hidle reg be write data hable⟩
  case info => exact ⟨exec_getVirtualCxlSwitchInfo_invalid h hidle, exec_getVirtualCxlSwitchInfo_told h hidle⟩
  case bind => exact ⟨exec_bindVppb_made h hidle, exec_bindVppb_invalid h hidle⟩
  case unbind => exact ⟨fun _ => exec_unbindVppb_made h hidle, exec_unbindVppb_invalid h hidle⟩
  case aer => exact ⟨exec_generateAerEvent_made h hidle, exec_generateAerEvent_invalid h hidle⟩

/-! ### Commands forwarded to a device (R308, R309) -/

/-- A command comes to be in progress, and is forwarded to the device at a port. -/
def Dev.fmBegin (d : Dev) (path op port : Nat) (args : List Nat) : Dev :=
  (d.setCxp { d.cxp with fmBusy := some (path, op), tunnel := d.cxp.tunnel ++ [(port, op)] }).emit (.engine port 8 args)

/-- The command in progress ends with the device's answer. -/
def Dev.fmFinish (d : Dev) (path op code : Nat) (l : List Nat) : Dev :=
  (d.setCxp { d.cxp with fmBusy := none, tunnel := [] }).fmEnd path op code l

section
variable {d : Dev} {a : Acc} {path op port : Nat} {ok : Dev → Bool} {args : List Nat} {after : Dev → Dev} (h : d.FmReached a path)
include h

section
variable (hidle : d.cxp.fmBusy = none)
include hidle

theorem Dev.FmReached.fmForward_of_not_ok (answer : Option (Nat × List Nat)) (hok : ok d = false) :
    d.fmForward a op port ok args answer after = d.fmEnd path op 2 [] := by
  rw [Dev.fmForward, h.fmApi_of_idle _ _ hidle]
  simp only [hidle, hok, Option.isNone_none, Bool.not_false, Bool.and_self, if_true]

theorem Dev.FmReached.fmForward_unanswered (hok : ok d = true) :
    d.fmForward a op port ok args none after = d.fmBegin path op port args := by
  rw [Dev.fmForward, h.fmApi_of_idle _ _ hidle]
  simp only [hidle, hok, Option.isNone_none, Bool.not_true, Bool.and_false, Bool.false_eq_true, if_false, if_true, Dev.fmBegin]

theorem Dev.FmReached.fmForward_answered {code : Nat} {l : List Nat} (hok : ok d = true) :
    d.fmForward a op port ok args (some (code, l)) after =
      let e := (d.fmBegin path op port args).fmFinish path op code l
      if code = 0 then after e else e := by
  rw [Dev.fmForward, h.fmApi_of_idle _ _ hidle]
  simp only [hidle, hok, Option.isNone_none, Bool.not_true, Bool.and_false, Bool.false_eq_true, if_false, if_true, Dev.fmBegin,
    Dev.fmFinish]

end

theorem Dev.FmReached.fmForward_resumed {code : Nat} {l : List Nat} (hmine : d.cxp.fmBusy = some (path, op)) :
    d.fmForward a op port ok args (some (code, l)) after =
      let e := d.fmFinish path op code l
      if code = 0 then after e else e := by
  rw [Dev.fmForward, Option.isSome_some, h.fmApi_of_resumed _ hmine]
  simp only [hmine, Option.isNone_some, Bool.false_and, Bool.false_eq_true, if_false, Dev.fmFinish]

end

/-- The command `c` is forwarded, as `Dev.fmForward` says of its operands: `c none` begins it, and `c (some _)` brings an answer. -/
def Forwards (a : Acc) (op port : Nat) (ok : Dev → Bool) (args : List Nat) (after : Dev → Dev)
    (c : Option (Nat × List Nat) → Instr) : Prop :=
  ∀ (s : State) (answer : Option (Nat × List Nat)), exec (c answer) s = s.eff fun d => d.fmForward a op port ok args answer after

namespace Forwards
variable {s : State} {a : Acc} {path op port : Nat} {ok : Dev → Bool} {args : List Nat} {after : Dev → Dev}
  {c : Option (Nat × List Nat) → Instr}

theorem fmMessage (hc : Forwards a op port ok args after c) : FmMessage a (c none) op :=
  fun s => ⟨_, hc s none⟩

section
variable (hc : Forwards a op port ok args after c) (h : s.dev.FmReached a path) (hidle : s.dev.cxp.fmBusy = none)
include hc h hidle

theorem exec_of_not_ok (hok : ok s.dev = false) (answer : Option (Nat × List Nat)) :
    exec (c answer) s = .next (s.settled (s.dev.fmEnd path op 2 [])) :=
  (hc s answer).trans (State.eff_of_eq (h.fmForward_of_not_ok hidle answer hok))

theorem exec_unanswered (hok : ok s.dev = true) : exec (c none) s = .next (s.settled (s.dev.fmBegin path op port args)) :=
  (hc s none).trans (State.eff_of_eq (h.fmForward_unanswered hidle hok))

theorem exec_answered_success (hok : ok s.dev = true) (l : List Nat) :
    exec (c (some (0, l))) s = .next (s.settled (after ((s.dev.fmBegin path op port args).fmFinish path op 0 l))) :=
  (hc s _).trans (State.eff_of_eq ((h.fmForward_answered hidle hok).trans (if_pos rfl)))

theorem exec_answered_error (hok : ok s.dev = true) {code : Nat} (hcode : code ≠ 0) (l : List Nat) :
    exec (c (some (code, l))) s = .next (s.settled ((s.dev.fmBegin path op port args).fmFinish path op code l)) :=
  (hc s _).trans (State.eff_of_eq ((h.fmForward_answered hidle hok).trans (if_neg hcode)))

end

section
variable (hc : Forwards a op port ok args id c) (h : s.dev.FmReached a path) (code : Nat) (l : List Nat)
include hc h

/-- A command after whose answer nothing is left to do ends alike with each code. -/
theorem exec_answered (hidle : s.dev.cxp.fmBusy = none) (hok : ok s.dev = true) :
    exec (c (some (code, l))) s = .next (s.settled ((s.dev.fmBegin path op port args).fmFinish path op code l)) :=
  (hc s _).trans (State.eff_of_eq ((h.fmForward_answered hidle hok).trans (ite_self _)))

theorem exec_resumed (hmine : s.dev.cxp.fmBusy = some (path, op)) :
    exec (c (some (code, l))) s = .next (s.settled (s.dev.fmFinish path op code l)) :=
  (hc s _).trans (State.eff_of_eq ((h.fmForward_resumed hmine).trans (ite_self _)))

/-- Such a command in each state that it may meet: nothing in progress and a device to go to, itself in progress, and nothing in progress
and no such device. -/
theorem exec_served :
    (s.dev.cxp.fmBusy = none → ok s.dev = true →
      exec (c none) s = .next (s.settled (s.dev.fmBegin path op port args)) ∧
      exec (c (some (code, l))) s = .next (s.settled ((s.dev.fmBegin path op port args).fmFinish path op code l))) ∧
    (s.dev.cxp.fmBusy = some (path, op) → exec (c (some (code, l))) s = .next (s.settled (s.dev.fmFinish path op code l))) ∧
    (s.dev.cxp.fmBusy = none → ok s.dev = false → ∀ answer, exec (c answer) s = .next (s.settled (s.dev.fmEnd path op 2 []))) :=
  ⟨fun hidle hok => ⟨hc.exec_unanswered h hidle hok, hc.exec_answered h code l hidle hok⟩, hc.exec_resumed h code l,
    hc.exec_of_not_ok h⟩

end

end Forwards

/-! ### What each forwarded command is (5300h–5302h, 5600h–5605h) -/

/-- A port has a device that takes the DCD management commands: one with dynamic capacity (R309). -/
def Dev.hasDcd (d : Dev) (port : Nat) : Bool := d.fmDevice port && d.rb R.CXP_PORT_CXL_STATUS (0x100 + port) 9

/-- The operands of a command that names extents of an LD. -/
def extentArgs (ld : Nat) (ext : List (Nat × Nat)) : List Nat := ld :: ext.flatMap fun e => [e.1, e.2]

/-- The command `c` is a DCD management command within a tunnel to a port's device. -/
def ForwardsDcd (a : Acc) (port inner : Nat) (args : List Nat) (after : Dev → Dev) (c : Option (Nat × List Nat) → Instr) : Prop :=
  Forwards a 0x5300 port (fun d => d.hasDcd port) (0x5300 :: inner :: args) after c

/-- A tunnel forwards every command but those of DCD management to any device that takes commands. -/
theorem forwards_tunnelManagementCommand (a : Acc) (port : Nat) {inner : Nat} (args : List Nat)
    (hinner : ¬ (0x5600 ≤ inner ∧ inner ≤ 0x5605)) :
    Forwards a 0x5300 port (fun d => d.fmDevice port) (0x5300 :: inner :: args) id (.tunnelManagementCommand a port inner args) := by
  intro s answer
  change execTunnelManagementCommand a port inner args answer s = _
  exact State.eff_of_eq (if_neg hinner)

theorem forwards_sendLdCxlIoConfigurationRequest (a : Acc) (port ld reg be : Nat) (write : Bool) (data : Word) :
    Forwards a 0x5301 port (fun d => d.fmLd port ld) [0x5301, ld, reg, be, b2n write, data.toNat] id
      (.sendLdCxlIoConfigurationRequest a port ld reg be write data) :=
  fun _ _ => rfl

theorem forwards_sendLdCxlIoMemoryRequest (a : Acc) (port ld addr len : Nat) (write : Bool) (data : List Nat) :
    Forwards a 0x5302 port (fun d => d.fmLd port ld) ([0x5302, ld, addr, len, b2n write] ++ data) id
      (.sendLdCxlIoMemoryRequest a port ld addr len write data) :=
  fun _ _ => rfl

section
variable (a : Acc) (port ld : Nat) (args : List Nat) (ext : List (Nat × Nat))

theorem forwards_getDcdInfo : ForwardsDcd a port 0x5600 [] id (.getDcdInfo a (some port)) := fun _ _ => rfl

theorem forwards_getHostDcRegionConfiguration :
    ForwardsDcd a port 0x5601 args id (.getHostDcRegionConfiguration a (some port) args) := fun _ _ => rfl

theorem forwards_setDcRegionConfiguration :
    ForwardsDcd a port 0x5602 args id (.setDcRegionConfiguration a (some port) args) := fun _ _ => rfl

theorem forwards_getDcRegionExtentLists :
    ForwardsDcd a port 0x5603 args id (.getDcRegionExtentLists a (some port) args) := fun _ _ => rfl

theorem forwards_initiateDcAdd :
    ForwardsDcd a port 0x5604 (extentArgs ld ext) id (.initiateDcAdd a (some port) ld ext) := fun _ _ => rfl

/-- After an answer with Success the extents are released. -/
theorem forwards_initiateDcRelease :
    ForwardsDcd a port 0x5605 (extentArgs ld ext) (fun d => d.dcReleased port ld ext) (.initiateDcRelease a (some port) ld ext) :=
  fun _ _ => rfl

end

/-- Outside a tunnel a DCD management command is answered at once, as unsupported. -/
theorem State.eff_fmDcd_outside {s : State} {a : Acc} {path inner : Nat} {args : List Nat} {answer : Option (Nat × List Nat)}
    {after : Nat → Dev → Dev} (h : s.dev.FmReached a path) (hidle : s.dev.cxp.fmBusy = none) :
    (s.eff fun d => d.fmDcd a inner none args answer after) = .next (s.settled (s.dev.fmEnd path inner 3 [])) := by
  simp only [Dev.fmDcd]
  exact State.eff_fmNow h hidle rfl

/-! ### Each command is a message of the API -/

/-- A command answered at once is a message of the API. -/
theorem FmMessage.of_now {a : Acc} {c : Instr} {op : Nat} {f : Dev → Nat × List Nat × Dev}
    (hc : ∀ s : State, exec c s = s.eff fun d => d.fmNow a op f) : FmMessage a c op :=
  fun s => ⟨_, hc s⟩

theorem fmMessage_bindVppb (a : Acc) (vcs vppb port ld : Nat) : FmMessage a (.bindVppb a vcs vppb port ld) 0x5201 := by
  intro s
  change ∃ f, execBindVppb a vcs vppb port ld s = _
  exact ⟨_, State.effL_eq _ _⟩

theorem fmMessage_unbindVppb (a : Acc) (vcs port : Nat) : FmMessage a (.unbindVppb a vcs port) 0x5202 := by
  intro s
  change ∃ f, execUnbindVppb a vcs port s = _
  exact ⟨_, State.effL_eq _ _⟩

/-- Settles O43: each command is forwarded as `Forwards` says, a DCD management command outside a tunnel is answered at once, and each
command is a message that meets the checks of `Dev.fmApi`. -/
theorem forwardedFabricCommandsComplete : Obligations.ForwardedFabricCommandsComplete := by
  refine ⟨?served, ?unserved⟩
  case served =>
    intro s a path port ld hsource hup hfw
    have h : s.dev.FmReached a path := ⟨hsource, hup, hfw⟩
    refine ⟨fun inner args code l hinner => ?tunnel, fun reg be write data code l => ?config,
      fun addr len write data code l => ?memory, fun args ext code l => ⟨?begun, ?resumed, ?noDcd, ?outside⟩⟩
    case tunnel => exact (forwards_tunnelManagementCommand a port args hinner).exec_served h code l
    case config => exact (forwards_sendLdCxlIoConfigurationRequest a port ld reg be write data).exec_served h code l
    case memory => exact (forwards_sendLdCxlIoMemoryRequest a port ld addr len write data).exec_served h code l
    case begun =>
      intro hidle hdcd
      have hok : s.dev.hasDcd port = true := Bool.and_eq_true_iff.2 hdcd
      have hrelease := forwards_initiateDcRelease a port ld ext
      refine ⟨(forwards_getDcdInfo a port).exec_unanswered h hidle hok,
        (forwards_getHostDcRegionConfiguration a port args).exec_unanswered h hidle hok,
        (forwards_setDcRegionConfiguration a port args).exec_unanswered h hidle hok,
        (forwards_getDcRegionExtentLists a port args).exec_unanswered h hidle hok,
        (forwards_initiateDcAdd a port ld ext).exec_unanswered h hidle hok, hrelease.exec_unanswered h hidle hok, ?_,
        fun hcode => hrelease.exec_answered_error h hidle hok hcode l⟩
      rintro rfl
      exact hrelease.exec_answered_success h hidle hok l
    case resumed =>
      exact fun hmine => ⟨(forwards_getDcdInfo a port).exec_resumed h code l hmine,
        (forwards_getHostDcRegionConfiguration a port args).exec_resumed h code l hmine,
        (forwards_setDcRegionConfiguration a port args).exec_resumed h code l hmine,
        (forwards_getDcRegionExtentLists a port args).exec_resumed h code l hmine,
        (forwards_initiateDcAdd a port ld ext).exec_resumed h code l hmine⟩
    case noDcd =>
      intro hidle hdcd answer
      have hok : s.dev.hasDcd port = false := Bool.eq_false_iff.2 (mt Bool.and_eq_true_iff.1 hdcd)
      simp only [List.forall_mem_cons]
      exact ⟨(forwards_getDcdInfo a port).exec_of_not_ok h hidle hok answer,
        (forwards_getHostDcRegionConfiguration a port args).exec_of_not_ok h hidle hok answer,
        (forwards_setDcRegionConfiguration a port args).exec_of_not_ok h hidle hok answer,
        (forwards_getDcRegionExtentLists a port args).exec_of_not_ok h hidle hok answer,
        (forwards_initiateDcAdd a port ld ext).exec_of_not_ok h hidle hok answer,
        (forwards_initiateDcRelease a port ld ext).exec_of_not_ok h hidle hok answer, List.forall_mem_nil _⟩
    case outside =>
      exact fun hidle _ => ⟨State.eff_fmDcd_outside h hidle, State.eff_fmDcd_outside h hidle, State.eff_fmDcd_outside h hidle,
        State.eff_fmDcd_outside h hidle, State.eff_fmDcd_outside h hidle, State.eff_fmDcd_outside h hidle⟩
  case unserved =>
    intro s a n port ld reg be write data l ext e he
    have hmsg : FmMessage a e.1 e.2 := by
      revert e
      simp only [List.forall_mem_cons]
      exact ⟨.of_now fun _ => rfl, .of_now fun _ => rfl, .of_now fun _ => rfl, .of_now fun _ => rfl, .of_now fun _ => rfl,
        .of_now fun _ => rfl, .of_now fun _ => rfl, .of_now fun _ => rfl, .of_now fun _ => rfl, fmMessage_bindVppb a n port port ld,
        fmMessage_unbindVppb a n port, .of_now fun _ => rfl,
        (forwards_tunnelManagementCommand a port l (by decide)).fmMessage,
        (forwards_sendLdCxlIoConfigurationRequest a port ld reg be write data).fmMessage,
        (forwards_sendLdCxlIoMemoryRequest a port ld reg be write l).fmMessage, (forwards_getDcdInfo a port).fmMessage,
        (forwards_getHostDcRegionConfiguration a port l).fmMessage, (forwards_setDcRegionConfiguration a port l).fmMessage,
        (forwards_getDcRegionExtentLists a port l).fmMessage, (forwards_initiateDcAdd a port ld ext).fmMessage,
        (forwards_initiateDcRelease a port ld ext).fmMessage, List.forall_mem_nil _⟩
    exact ⟨hmsg.exec_of_refused, fun path hsource => ⟨hmsg.exec_of_path_down hsource, hmsg.exec_of_no_firmware hsource,
      fun b hup hfw => hmsg.exec_of_busy ⟨hsource, hup, hfw⟩⟩⟩

end Sys2Proof.Machine
end

section
/-! The pins at the end of every step (O5) and at reset (O6), and what reset leaves (O60). -/

namespace Sys2Proof.Machine

/-! ### The sideband outputs (R462, R484, R485) -/

/-- The sideband outputs that the matrix drives, as a mask. -/
def Dev.padDrive (d : Dev) : Nat := ofBits ((List.range 64).filter d.padDriven)

/-- The driven sideband outputs that the matrix makes high, as a mask. -/
def Dev.padHigh (d : Dev) : Nat := ofBits ((List.range 64).filter fun j => d.padDriven j && d.padLevel j)

/-- The sideband outputs are held, or stand as the matrix gives them. -/
def Dev.PadsStand (d : Dev) : Prop := d.mgt.padsHeld = true ∨ (d.padDrive = d.mgt.drive ∧ d.padHigh = d.mgt.pads)

/-- Outputs that stand need no driving. -/
theorem Dev.padSync_of_padsStand {d : Dev} (h : d.PadsStand) : d.padSync = d :=
  h.elim (fun hheld => if_pos hheld) fun hdriven => ite_eq_left_iff.2 fun _ => if_pos hdriven

/-- Neither the matrix nor its inputs lie in the event controller, the tallies or the emissions. -/
theorem Dev.EvOnly.padDrive_eq {d e : Dev} (h : d.EvOnly e) : e.padDrive = d.padDrive :=
  (congrArg Dev.padDrive (show e = _ from h) : _)

theorem Dev.EvOnly.padHigh_eq {d e : Dev} (h : d.EvOnly e) : e.padHigh = d.padHigh :=
  (congrArg Dev.padHigh (show e = _ from h) : _)

theorem Dev.EvOnly.padsStand {d e : Dev} (h : d.EvOnly e) (hd : d.PadsStand) : e.PadsStand := by
  unfold Dev.PadsStand
  rw [h.mgt_eq, h.padDrive_eq, h.padHigh_eq]
  exact hd

/-- A change of the outputs is reported pin by pin: an output driven anew or with another level, and one driven no longer. -/
def Dev.padReport (old : Dev) (drive pads : Nat) (d : Dev) (j : Nat) : Dev :=
  if drive.testBit j then
    (if old.mgt.drive.testBit j && old.mgt.pads.testBit j == pads.testBit j then d
     else d.emit (.pin (.sideband j) (pads.testBit j)))
  else if old.mgt.drive.testBit j then d.emit (.pin (.sidebandOff j) true) else d

theorem Dev.padReport_evOnly (old : Dev) (drive pads : Nat) (d : Dev) (j : Nat) : d.EvOnly (old.padReport drive pads d j) := by
  unfold Dev.padReport
  split <;> split <;> rfl

/-- Outputs that are not held and do not stand are driven, and each change is reported. -/
theorem Dev.padSync_of_not_padsStand {d : Dev} (h : ¬ d.PadsStand) :
    d.padSync =
      let e := (List.range 64).foldl (d.padReport d.padDrive d.padHigh) d
      { e with mgt := { e.mgt with drive := d.padDrive, pads := d.padHigh } } := by
  obtain ⟨hheld, hdriven⟩ := not_or.1 h
  exact (if_neg hheld).trans (if_neg hdriven)

/-- Once the outputs have been driven they stand. -/
theorem Dev.padSync_padsStand (d : Dev) : d.padSync.PadsStand := by
  by_cases h : d.PadsStand
  · rw [Dev.padSync_of_padsStand h]
    exact h
  · have hrep := Dev.EvOnly.foldl _ (d.padReport_evOnly d.padDrive d.padHigh) (List.range 64) d
    rw [Dev.padSync_of_not_padsStand h]
    exact .inr ⟨hrep.padDrive_eq, hrep.padHigh_eq⟩

/-! ### The end of a step -/

/-- Whatever a command does, its last act is to drive the pins. -/
theorem step_dev_pinned {s t : State} (h : step s = .next t) : ∃ d : Dev, t.dev = d.padSync.settle := by
  match hq : s.pending with
  | [] =>
    obtain rfl := Host.Outcome.next.inj ((step_of_pending_nil s hq).symm.trans h)
    exact ⟨_, rfl⟩
  | c :: rest =>
    obtain ⟨locks, d, hexec⟩ := exec_next c { s with pending := rest }
    obtain rfl := Host.Outcome.next.inj ((hexec.symm.trans (step_of_pending_cons s c rest hq).symm).trans h)
    exact ⟨d, rfl⟩

/-- Settles O5: every step ends in `Dev.padSync` and `Dev.settle`, and driving FAULT_N leaves what the matrix reads. -/
theorem pinsFollowTheirConditionsAfterEveryStep : Obligations.PinsFollowTheirConditionsAfterEveryStep := by
  intro s t ht
  obtain ⟨d, hd⟩ := step_dev_pinned ht
  rw [hd]
  exact ⟨d.padSync.settle_pinHolds, Dev.padSync_of_padsStand (d.padSync.settle_evOnly.padsStand d.padSync_padsStand)⟩

/-- What a command answers, with the device that it settles rewritten. -/
theorem State.next_settled_congr {s : State} {x : Host.Outcome State Fault Refusal} {d e : Dev} (h : x = .next (s.settled d)) (he : d = e) :
    x = .next (s.settled e) :=
  he ▸ h

/-! ### Reset (R466) -/

/-- Settles O6: at reset no source is pending and no output is driven. -/
theorem pinsFollowTheirConditionsAtReset : Obligations.PinsFollowTheirConditionsAtReset := by
  have hpads : State.reset.dev.PadsStand := .inr ⟨by decide, by decide⟩
  exact ⟨by unfold Dev.pinHolds; decide, Dev.padSync_of_padsStand hpads⟩

/-- Settles O60: the tables of the device at reset are empty, so that each index reads as its default. -/
theorem resetLeavesResetValues : Obligations.ResetLeavesResetValues :=
  ⟨rfl, rfl, fun _ _ => rfl, rfl, fun _ _ => ⟨rfl, rfl, rfl⟩, rfl, rfl, rfl⟩

end Sys2Proof.Machine
end

section
/-! Family 17_events_and_tallies: the arrays of events (O57), what a raise sets and counts (O58), and the commands of events, interrupts,
queues and counters (O50). -/

namespace Sys2Proof.Machine

/-! ### Cause bits (R424, R430) -/

theorem evKey_inj {arr arr' n n' : Nat} (hn : n < 2048) (hn' : n' < 2048) : evKey arr n = evKey arr' n' ↔ arr = arr' ∧ n = n' := by
  unfold evKey
  omega

theorem Dev.clearCause_evCause (d : Dev) (arr n : Nat) : (d.clearCause arr n).ev.cause = Tbl.put d.ev.cause (evKey arr n) false false := rfl

theorem Dev.cause_clearCause_same (d : Dev) (arr n : Nat) : (d.clearCause arr n).cause arr n = false := by
  rw [Dev.cause, Dev.clearCause_evCause, Tbl.getD_put_same]

theorem Dev.cause_clearCause_other (d : Dev) {arr arr' n n' : Nat} (hn : n < 2048) (hn' : n' < 2048) (h : arr' ≠ arr ∨ n' ≠ n) :
    (d.clearCause arr n).cause arr' n' = d.cause arr' n' := by
  rw [Dev.cause, Dev.clearCause_evCause, Tbl.getD_put_other _ _ _ _ (mt (evKey_inj hn' hn).1 (not_and_or.2 h))]
  rfl

/-- Settles O57: of the event controller a clear changes the cause table alone, and that at one index. -/
theorem eventArraysClearIndependently : Obligations.EventArraysClearIndependently :=
  fun d arr n hn => ⟨d.cause_clearCause_same arr n, fun _ _ hn' => d.cause_clearCause_other hn hn', fun _ _ => rfl, rfl, rfl⟩

/-! ### Deliveries set no cause bit -/

theorem Dev.settle_cause (d : Dev) : d.settle.ev.cause = d.ev.cause := by
  rw [Dev.settle_ev]

theorem Dev.pbaSet_cause (d : Dev) (s v : Nat) : (d.pbaSet s v).ev.cause = d.ev.cause := by
  unfold Dev.pbaSet; split <;> rfl

theorem Dev.fmVector_cause (d : Dev) (v : Nat) : (d.fmVector v).ev.cause = d.ev.cause := by
  unfold Dev.fmVector; split
  · exact d.pbaSet_cause _ v
  · rfl

theorem Dev.notify_cause (d : Dev) : d.notify.ev.cause = d.ev.cause := by
  unfold Dev.notify; dsimp only; split <;> rfl

theorem Dev.pushFm_cause (d : Dev) (n : Nat) (r : EvRec) : (d.pushFm n r).1.ev.cause = d.ev.cause := by
  unfold Dev.pushFm
  simp only [Dev.fmVector_cause]
  split
  · rw [Dev.notify_cause]
  · rfl

theorem Dev.deliverMgmt_cause (d : Dev) (n : Nat) (i : RaiseInfo) : (d.deliverMgmt n i).1.ev.cause = d.ev.cause := by
  unfold Dev.deliverMgmt
  dsimp only
  generalize EvRec.mk n ((evSev n).getD 0) i.forced i.stable 0 i.detail i.time = r
  have hfm : (if d.toFm n = true then d.pushFm n r else (d, false)).1.ev.cause = d.ev.cause := by
    split
    · exact d.pushFm_cause n r
    · rfl
  generalize (if d.toFm n = true then d.pushFm n r else (d, false)) = f at hfm ⊢
  split <;> exact hfm

theorem Dev.deliverStable_cause (d : Dev) (s n : Nat) : (d.deliverStable s n).ev.cause = d.ev.cause := by
  unfold Dev.deliverStable
  split
  · rfl
  · exact d.pbaSet_cause s _

/-- A delivery leaves every cause bit as it stands. -/
theorem Dev.deliver_cause (d : Dev) (arr n : Nat) : (d.deliver arr n).1.ev.cause = d.ev.cause := by
  unfold Dev.deliver
  dsimp only
  split
  · rfl
  · split
    · exact Dev.deliverMgmt_cause _ n _
    · exact Dev.deliverStable_cause _ arr n

/-! ### What a raise sets (R421, R430) -/

section
variable {n m : Nat} (hn : n < 2048) (hm : m < 2048)
include hn hm

/-- A raise in one array sets the source's cause bit there, and no other. -/
theorem Dev.cause_raiseIn (d : Dev) (arr a : Nat) : (d.raiseIn arr n).1.cause a m = (d.cause a m || decide (a = arr ∧ m = n)) := by
  have hset : ∀ e : Dev, e.ev.cause = Tbl.put d.ev.cause (evKey arr n) false true →
      e.cause a m = (d.cause a m || decide (a = arr ∧ m = n)) := by
    intro e he
    unfold Dev.cause
    rw [he]
    by_cases hsame : a = arr ∧ m = n
    · obtain ⟨rfl, rfl⟩ := hsame
      simp
    · rw [Tbl.getD_put_other _ _ _ _ (mt (evKey_inj hm hn).1 hsame)]
      simp [hsame]
  unfold Dev.raiseIn
  split
  case isTrue hpend =>
    have hcause : d.cause arr n = true := (Bool.and_eq_true_iff.1 hpend).1
    have hstands : d.cause a m = (d.cause a m || decide (a = arr ∧ m = n)) := by
      by_cases hsame : a = arr ∧ m = n
      · obtain ⟨rfl, rfl⟩ := hsame
        simp [hcause]
      · simp [hsame]
    split <;> exact hstands
  case isFalse =>
    dsimp only
    split
    · exact hset _ (Dev.deliver_cause _ arr n)
    · exact hset _ rfl

theorem Dev.cause_raiseIns (arrs : List Nat) (r : Dev × List (Nat × Word)) (a : Nat) :
    (Dev.raiseIns r arrs n).1.cause a m = (r.1.cause a m || decide (a ∈ arrs ∧ m = n)) := by
  induction arrs generalizing r with
  | nil => simp [Dev.raiseIns]
  | cons arr arrs ih =>
    refine (ih ((r.1.raiseIn arr n).1, r.2 ++ (r.1.raiseIn arr n).2)).trans ?_
    rw [Dev.cause_raiseIn hn hm]
    by_cases hsame : m = n <;> simp [hsame, Bool.or_assoc]

end

/-- A raise in its arrays, before the events of the controller that follow it: the count and the record's data, the tallies, then
each array in turn. -/
def Dev.raiseOwn (d : Dev) (arrs : List Nat) (n : Nat) (i : RaiseInfo) : Dev × List (Nat × Word) :=
  let d : Dev := { d with ev := { d.ev with
    count := Tbl.put d.ev.count n 0 ((d.ev.count.getD n 0 + 1) % 65536)
    info := if arrs.contains 64 then Tbl.put d.ev.info n ⟨0, 0, none, false⟩ i else d.ev.info } }
  Dev.raiseIns (d.tickRaise n arrs, []) arrs n

theorem Dev.raiseArrs_of_defined (fuel : Nat) (d : Dev) (arrs : List Nat) {n : Nat} (i : RaiseInfo) (h : (evSev n).isSome = true) :
    Dev.raiseArrs (fuel + 1) d arrs n i = (Dev.raiseFollow fuel (d.raiseOwn arrs n i).1 (d.raiseOwn arrs n i).2).settle := by
  obtain ⟨sev, hsev⟩ := Option.isSome_iff_exists.1 h
  rw [Dev.raiseArrs, hsev]
  rfl

/-- What follows a raise is raised by the controller alone (R432, R433). -/
theorem Dev.raiseOwn_follow (d : Dev) (arrs : List Nat) (n : Nat) (i : RaiseInfo) :
    ∀ f ∈ (d.raiseOwn arrs n i).2, f.1 = 0x010 ∨ f.1 = 0x011 := by
  unfold Dev.raiseOwn
  dsimp only
  generalize Dev.tickRaise _ n arrs = e
  exact (Dev.raiseIns_followsOnly n arrs (d := e) (r := (e, [])) ⟨rfl, by simp⟩).2

theorem Dev.cause_raiseOwn (d : Dev) (arrs : List Nat) (i : RaiseInfo) {n m : Nat} (hn : n < 2048) (hm : m < 2048) (a : Nat) :
    (d.raiseOwn arrs n i).1.cause a m = (d.cause a m || decide (a ∈ arrs ∧ m = n)) :=
  Dev.cause_raiseIns hn hm arrs _ a

section
variable {m : Nat} (h10 : m ≠ 0x010) (h11 : m ≠ 0x011)
include h10 h11

/-- The controller's own raises set their own cause bits alone. -/
theorem Dev.cause_raiseFollow {fuel a : Nat}
    (ih : ∀ (d : Dev) (n : Nat) (i : RaiseInfo), n < 2048 → m ≠ n → (Dev.raiseArrs fuel d [64] n i).cause a m = d.cause a m)
    {follow : List (Nat × Word)} (hfol : ∀ f ∈ follow, f.1 = 0x010 ∨ f.1 = 0x011) (d : Dev) :
    (Dev.raiseFollow fuel d follow).cause a m = d.cause a m := by
  induction follow generalizing d with
  | nil => rfl
  | cons f follow ihl =>
    have hf : f.1 < 2048 ∧ m ≠ f.1 := by
      rcases hfol f List.mem_cons_self with h | h <;> omega
    exact (ihl (fun g hg => hfol g (List.mem_cons_of_mem f hg)) _).trans (ih d f.1 _ hf.1 hf.2)

variable (hm : m < 2048)
include hm

theorem Dev.cause_raiseArrs_other (fuel : Nat) (d : Dev) (arrs : List Nat) {n : Nat} (i : RaiseInfo) (hn : n < 2048) (hmn : m ≠ n) (a : Nat) :
    (Dev.raiseArrs fuel d arrs n i).cause a m = d.cause a m := by
  induction fuel generalizing d arrs n i with
  | zero => rfl
  | succ fuel ih =>
    cases hsev : evSev n with
    | none => rw [Dev.raiseArrs, hsev]
    | some sev =>
      rw [Dev.raiseArrs_of_defined fuel d arrs i (Option.isSome_iff_exists.2 ⟨sev, hsev⟩), Dev.cause, Dev.settle_cause]
      refine (Dev.cause_raiseFollow h10 h11 (fun d n i => ih d [64] i) (d.raiseOwn_follow arrs n i) _).trans ?_
      rw [Dev.cause_raiseOwn d arrs i hn hm]
      simp [hmn]

/-- A raise of a defined source but the controller's own sets its cause bit in each of its arrays. -/
theorem Dev.cause_raiseArrs_same (fuel : Nat) (d : Dev) {arrs : List Nat} (i : RaiseInfo) (h : (evSev m).isSome = true) {a : Nat} (ha : a ∈ arrs) :
    (Dev.raiseArrs (fuel + 1) d arrs m i).cause a m = true := by
  rw [Dev.raiseArrs_of_defined fuel d arrs i h, Dev.cause, Dev.settle_cause]
  refine (Dev.cause_raiseFollow h10 h11 (fun d n i hn hmn => Dev.cause_raiseArrs_other h10 h11 hm fuel d [64] i hn hmn a)
    (d.raiseOwn_follow arrs m i) _).trans ?_
  rw [Dev.cause_raiseOwn d arrs i hm hm]
  simp [ha]

variable (d : Dev)

theorem Dev.cause_raise_same (h : (evSev m).isSome = true) : (d.raise m).cause 64 m = true := by
  rw [Dev.raise, Dev.raiseFor, Dev.raiseWith]
  exact Dev.cause_raiseArrs_same h10 h11 hm 3 d _ h List.mem_cons_self

theorem Dev.cause_raise_other {n : Nat} (hn : n < 2048) (hmn : m ≠ n) (a : Nat) : (d.raise n).cause a m = d.cause a m := by
  rw [Dev.raise, Dev.raiseFor, Dev.raiseWith]
  exact Dev.cause_raiseArrs_other h10 h11 hm 4 d _ _ hn hmn a

omit hm in
theorem Dev.raise_count_other {n : Nat} (hmn : m ≠ n) : (d.raise n).ev.count.getD m 0 = d.ev.count.getD m 0 := by
  rw [Dev.raise, Dev.raiseFor, Dev.raiseWith]
  exact Dev.raiseArrs_count_other h10 h11 4 d _ n _ hmn

end

/-- Settles O58: a raise is `Dev.raiseOwn` for its source, and what follows it are raises of the controller's own events. -/
theorem raisesSetTheirCauseAndCount : Obligations.RaisesSetTheirCauseAndCount :=
  fun d _ hdef hn h10 h11 => ⟨Dev.cause_raise_same h10 h11 hn d hdef, d.raise_count_same h10 h11 hdef,
    fun _ hm hmn hm10 hm11 => ⟨Dev.raise_count_other hm10 hm11 d hmn, fun arr => Dev.cause_raise_other hm10 hm11 hm d hn hmn arr⟩⟩

/-! ### MSI-X and INTx (R407, R408, R431) -/

/-- P130 sends the message of a vector, which is then no longer pending and whose gap begins. -/
def Dev.msixSend (d : Dev) (st v : Nat) : Dev :=
  let addr := (d.msixDw st (4 * v)).toNat / 4 * 4 + 4294967296 * (d.msixDw st (4 * v + 1)).toNat
  let t := mkWrite addr (256 * d.secBus st 0) 0 (bytesOf 4 (d.msixDw st (4 * v + 2)).toNat)
  let gap := d.msixGapUs st
  let gaps := if gap = 0 then d.ev.msixGap else d.ev.msixGap.insert (256 * st + v) (d.now + 1000 * gap)
  Dev.issue { d with ev := { d.ev with pba := d.ev.pba.erase (st, v), msixGap := gaps } } st 130 (.msix st v) t true none

theorem Dev.msixIssue_of_free {d : Dev} {st v : Nat} (hready : d.msixReady st v = true) (hfree : d.msixFree st v = true) :
    d.msixIssue st v = d.msixSend st v :=
  if_neg (or_ne_true (not_ne_true hready) (not_ne_true hfree))

theorem Dev.msixIssue_of_not_free {d : Dev} {st v : Nat} (h : d.msixReady st v = false ∨ d.msixFree st v = false) : d.msixIssue st v = d :=
  if_pos (by simpa using h)

section
variable {s : State} {st v : Nat}

theorem exec_msixMessage : exec (.msixMessage st v) s = .next (s.settled (s.dev.msixIssue st v)) := rfl

theorem exec_msixGapEnd_none (h : s.dev.ev.msixGap.find (256 * st + v) = none) : exec (.msixGapEnd st v) s = .next (s.settled s.dev) := by
  change execMsixGapEnd st v s = _
  exact State.eff_of_eq (by simp only [h])

theorem exec_msixGapEnd_due {t : Nat} (h : s.dev.ev.msixGap.find (256 * st + v) = some t) :
    exec (.msixGapEnd st v) s = .next (s.settled (
      let d := s.dev.advanceTo t
      Dev.msixIssue { d with ev := { d.ev with msixGap := d.ev.msixGap.erase (256 * st + v) } } st v)) := by
  change execMsixGapEnd st v s = _
  exact State.eff_of_eq (by simp only [h])

/-- The wires that have changed since they were last sent are sent, and noted as sent. -/
def Dev.intxSend (d : Dev) (st : Nat) : Dev :=
  let w := d.intxWires st
  let was := d.path.intxOut.getD st 0
  (List.range 4).foldl (fun d i =>
    if w.testBit i = was.testBit i then d else d.sendMsg st (if w.testBit i then 0x20 + i else 0x24 + i) [])
    { d with path := { d.path with intxOut := Tbl.put d.path.intxOut st 0 w } }

theorem exec_intxAssert_live (hst : st < 64) (hlive : s.dev.isHeadless st = false) (hup : (s.dev.upPort st).isSome = true)
    (hsafe : s.dev.failsafe = false) : exec (.intxAssert st) s = .next (s.settled (s.dev.intxSend st)) := by
  have hsync : ¬ (s.dev.isHeadless st = true ∨ (s.dev.upPort st).isNone = true ∨ s.dev.failsafe = true) := by
    simp [hlive, hsafe, Option.isSome_iff_ne_none.1 hup]
  change execIntxAssert st s = _
  exact State.eff_of_eq ((if_pos hst).trans (if_neg hsync))

end

/-! ### The event registers and the storm guard (R424, R426, R432) -/

section
variable {s : State} {a : Acc} {page off : Nat} (hmay : s.dev.may a ⟨page, off⟩ true = true) (w : Word)
include hmay

theorem exec_evForceWrite_made (hreg : isForceReg page off = true) :
    exec (.evForceWrite a page off w) s = .next (s.settled (s.dev.evForce a page off w)) := by
  change execEvForceWrite a page off w s = _
  exact State.eff_of_eq ((if_pos hreg).trans (s.dev.guardW_may a _ _ hmay))

theorem exec_evCauseClear_made (hreg : isCauseReg page off = true) :
    exec (.evCauseClear a page off w) s = .next (s.settled (s.dev.evClear a page off w)) := by
  change execEvCauseClear a page off w s = _
  exact State.eff_of_eq ((if_pos hreg).trans (s.dev.guardW_may a _ _ hmay))

end

section
variable {s : State} {arr src : Nat} {g : Storm}

/-- The device at the end of a guard. -/
def Dev.guardEnd (d : Dev) (arr src t : Nat) : Dev :=
  let d := d.advanceTo t
  { d with ev := { d.ev with storm := d.ev.storm.erase (evKey arr src) } }

/-- A pending source is delivered once, and the controller's own events that follow are raised. -/
def Dev.deliverOnce (d : Dev) (arr src : Nat) : Dev :=
  (d.deliver arr src).2.foldl (fun d f => d.raiseWith f.1 f.2 []) (d.deliver arr src).1

theorem exec_stormQuietEnd_due (hg : s.dev.ev.storm.find (evKey arr src) = some g) (hquiet : g.quietEnd ≠ 0) (harr : arr ≤ 64)
    (hsrc : src < 2048) :
    exec (.stormQuietEnd arr src) s = .next (s.settled (
      let d := s.dev.guardEnd arr src g.quietEnd
      if d.evPending arr src then d.deliverOnce arr src else d)) := by
  have hends : ¬ (g.quietEnd = 0 ∨ 64 < arr ∨ 2048 ≤ src) := by omega
  change execStormQuietEnd arr src s = _
  exact State.eff_of_eq (by simp only [hg]; exact if_neg hends)

end

/-! ### Queues and counters (R433, R434, R440, R441, R444, R478) -/

section
variable {s : State} {a : Acc}

theorem exec_fmqPop_made (h : s.dev.may a R.EVT_FMQ_POP true = true) : exec (.fmqPop a) s = .next (s.settled s.dev.fmqPop) :=
  State.eff_guardW_may h

theorem exec_enqPop_made (h : s.dev.may a R.EVT_ENQ_POP true = true) : exec (.enqPop a) s = .next (s.settled s.dev.enqPop) :=
  State.eff_guardW_may h

theorem exec_notifyRepeat_due (hms : s.dev.rf R.DEV_MCTP_NOTIFY 0 23 8 ≠ 0) (hrecs : s.dev.ev.fmq.recs ≠ [])
    (hat : s.dev.ev.notifyAt ≠ 0) (heid : s.dev.rf R.DEV_MCTP_NOTIFY 0 7 0 ≠ 0) :
    exec .notifyRepeat s = .next (s.settled
      (s.dev.advanceTo (s.dev.ev.notifyAt - 1 + 1000000 * s.dev.rf R.DEV_MCTP_NOTIFY 0 23 8)).notify) := by
  change execNotifyRepeat s = _
  exact State.eff_of_eq (if_neg (by simp [hms, hrecs, hat, heid]))

theorem exec_talClr_made {page : Nat} (w : Word) (h : s.dev.may a (talCtrl page) true = true) :
    exec (.talClr a page w) s = .next (s.settled (s.dev.talCtrlW page w)) :=
  State.eff_guardW_may h

theorem exec_talEvselWrite_made {page n : Nat} (w : Word) (hn : n < 8) (h : s.dev.may a (talEvsel page n) true = true) :
    exec (.talEvselWrite a page n w) s = .next (s.settled (s.dev.talEvselW page n w)) := by
  change execTalEvselWrite a page n w s = _
  exact State.eff_of_eq ((if_pos hn).trans (s.dev.guardW_may a _ _ h))

/-- The value of a tally slot is cleared, and its snapshot is invalid. -/
def Dev.slotClear (d : Dev) (i : Nat) : Dev :=
  { d with tally := { d.tally with ts := d.tally.ts.erase (i - 0x100), tsSnap := d.tally.tsSnap.erase (i - 0x100) } }

/-- What an accessor's write of TS_SEL stores: of a tenant's, that the slot counts its own stable. -/
def selOf (tenant : Option Nat) (w : Word) : Word :=
  match tenant with
  | some st => setFld (setFld (w &&& 0x1ffff) 15 10 st) 16 16 1
  | none => w &&& 0x1ffff

theorem exec_tallySlotWrite_unit (w : Word) (h : s.dev.may a R.TAL_TS_UNIT true = true) :
    exec (.tallySlotWrite a false w) s = .next (s.settled (
      let i := s.dev.instOf a R.TAL_TS_UNIT.page R.TAL_TS_UNIT.off
      (s.dev.slotClear i).wr R.TAL_TS_UNIT i w)) :=
  State.eff_guardW_may h

theorem exec_tallySlotWrite_sel (w : Word) (h : s.dev.may a R.TAL_TS_SEL true = true) :
    exec (.tallySlotWrite a true w) s = .next (s.settled (
      let i := s.dev.instOf a R.TAL_TS_SEL.page R.TAL_TS_SEL.off
      (s.dev.slotClear i).wr R.TAL_TS_SEL i (selOf (s.dev.tenant a) w))) :=
  State.eff_guardW_may h

end

/-- Settles O50: a clause for the interrupts of a vector or stable, and one for each group of registers. -/
theorem eventAndCounterCommandsComplete : Obligations.EventAndCounterCommandsComplete := by
  refine fun s => ⟨fun st v => ?interrupts, fun a page off w hmay => ⟨exec_evForceWrite_made hmay w, fun hreg => ?clear⟩, ?storm,
    fun a => ⟨exec_fmqPop_made, exec_enqPop_made⟩, ?notify, fun a page w => ⟨exec_talClr_made w, fun n => exec_talEvselWrite_made w⟩, ?slot⟩
  case interrupts =>
    refine ⟨fun hready hfree => ?_, fun h => ?_, exec_msixGapEnd_none, fun t => exec_msixGapEnd_due, exec_intxAssert_live⟩
    · rw [exec_msixMessage, Dev.msixIssue_of_free hready hfree]
      rfl
    · rw [exec_msixMessage, Dev.msixIssue_of_not_free h]
  case clear => exact exec_evCauseClear_made hmay w hreg
  case storm =>
    intro arr src g hg hquiet harr hsrc
    have hend := exec_stormQuietEnd_due hg hquiet harr hsrc
    exact ⟨fun hidle => State.next_settled_congr hend (if_neg (ne_true_of_eq_false hidle)),
      fun hpend => State.next_settled_congr hend (if_pos hpend)⟩
  case notify =>
    rintro ms rfl
    exact exec_notifyRepeat_due
  case slot =>
    intro a w
    refine ⟨exec_tallySlotWrite_unit w, fun hmay => ⟨fun hnone => ?_, fun st hst => ?_⟩⟩
    · rw [exec_tallySlotWrite_sel w hmay, hnone]
      rfl
    · rw [exec_tallySlotWrite_sel w hmay, hst]
      rfl

end Sys2Proof.Machine
end

section
/-! Family 12_memory_bridge: requests handed to the bridge (O39), and its lines, answers and window commands (O40). -/

namespace Sys2Proof.Machine

/-! ### Taking up the oldest TLP at P129 (R315, R320, R385) -/

/-- With no TLP at P129, or in fail-safe, the bridge takes nothing up. -/
theorem Dev.brgServe_of_idle {d : Dev} (p : Tlp → Bool) (f : Dev → Item → Nat → Nat → Dev) (h : d.failsafe = true ∨ d.brgHead = none) :
    d.brgServe p f = d := by
  unfold Dev.brgServe
  rcases h with hsafe | hnone
  · split
    · exact if_pos (.inl hsafe)
    · rfl
  · rw [hnone]

/-- What becomes of the head: purged where its generation has retired (R320), else served at its internal address. -/
def Dev.brgServed (d : Dev) (i : Item) (w off : Nat) (f : Dev → Item → Nat → Nat → Dev) : Dev :=
  let e := d.brgTake i
  let a := e.winBase w + off
  if e.retired i.dom i.prim.gen then e.brgStale i w a else f e i w a

/-- A head that a command takes is taken up. -/
theorem Dev.brgServe_of_head {d : Dev} {i : Item} {w off : Nat} (hhead : d.brgHead = some (i, w, off)) (hsafe : d.failsafe = false)
    {p : Tlp → Bool} (f : Dev → Item → Nat → Nat → Dev) (hp : p i.tlp = true) : d.brgServe p f = d.brgServed i w off f := by
  unfold Dev.brgServe
  simp only [hhead]
  exact if_neg (not_or.2 ⟨ne_true_of_eq_false hsafe, not_ne_true hp⟩)

/-! ### What each command does with its TLP (R315, R317, R318, R322–R324) -/

/-- A posted request: a memory write is discarded where its window is fenced, else counted, and held where the target is UP. -/
def Dev.brgPosted (d : Dev) (i : Item) (w a : Nat) : Dev :=
  if i.tlp.kind ≠ .memWr then d
  else if d.rb R.BRG_WIN_STATUS w 1 then d.writeAtOnce i w a 4
  else
    let d := d.bump R.BRG_WIN_CNT_WR w (some (d.rf R.BRG_WIN_CFG w 5 0))
    if d.winUp w then d.brgHold i w a else d.writeAtOnce i w a 1

/-- A non-posted request without a command of its own: a read is entered, another gets UR. -/
def Dev.brgNonPosted (d : Dev) (i : Item) (w a : Nat) : Dev :=
  if i.tlp.kind = .memRd then d.brgEnter i w a (4 * dwLen i.tlp) .read else d.brgAnswer i w 1

/-- An AtomicOp that the window does not execute: atomics are off, the operation is none of the table, or its address is not aligned. -/
def Dev.AtomicUnsupported (d : Dev) (i : Item) (w a : Nat) : Prop :=
  d.rb R.BRG_WIN_CFG w 9 = false ∨ atomSize i.tlp = 0 ∨ a % (max (atomSize i.tlp) 1) ≠ 0

/-- The window is fenced, or its target is not UP. -/
def Dev.WinDown (d : Dev) (w : Nat) : Prop := d.rb R.BRG_WIN_STATUS w 1 = true ∨ d.winUp w = false

/-- An AtomicOp gets UR or CA, or is entered. -/
def Dev.brgAtomic (d : Dev) (i : Item) (w a : Nat) : Dev :=
  let n := atomSize i.tlp
  if !d.rb R.BRG_WIN_CFG w 9 ∨ n = 0 ∨ a % (max n 1) ≠ 0 then d.brgAnswer i w 1
  else if d.rb R.BRG_WIN_STATUS w 1 ∨ !d.winUp w then d.brgAnswer i w 4
  else d.brgEnter i w a n .atomic

/-- The sequence of a locked read's stable begins, where none is active and the target is UP. -/
def Dev.seqBegin (d : Dev) (i : Item) (w : Nat) : Dev :=
  let st := i.stb.getD 0
  if (d.brg.seqs.find st).isNone ∧ d.winUp w then d.setBrg { d.brg with seqs := d.brg.seqs.insert st ⟨i.ingress, d.now, false⟩ } else d

/-- A locked read gets UR where locks are off, else it is entered. -/
def Dev.brgLocked (d : Dev) (i : Item) (w a : Nat) : Dev :=
  if !d.rb R.BRG_WIN_CFG w 10 then d.brgAnswer i w 1 else (d.seqBegin i w).brgEnter i w a (4 * dwLen i.tlp) .lock

section
variable {s : State} (h : s.dev.failsafe = true ∨ s.dev.brgHead = none)
include h

theorem exec_bridgeWrite_idle : exec .bridgeWrite s = .next (s.settled s.dev) := by
  change execBridgeWrite s = _
  exact State.eff_of_eq (Dev.brgServe_of_idle _ _ h)

theorem exec_bridgeRead_idle : exec .bridgeRead s = .next (s.settled s.dev) := by
  change execBridgeRead s = _
  exact State.eff_of_eq (Dev.brgServe_of_idle _ _ h)

theorem exec_bridgeFlushRead_idle : exec .bridgeFlushRead s = .next (s.settled s.dev) := by
  change execBridgeFlushRead s = _
  exact State.eff_of_eq (Dev.brgServe_of_idle _ _ h)

theorem exec_bridgeAtomicop_idle : exec .bridgeAtomicop s = .next (s.settled s.dev) := by
  change execBridgeAtomicop s = _
  exact State.eff_of_eq (Dev.brgServe_of_idle _ _ h)

theorem exec_mrdlk_idle : exec .mrdlk s = .next (s.settled s.dev) := by
  change execMrdlk s = _
  exact State.eff_of_eq (Dev.brgServe_of_idle _ _ h)

end

section
variable {s : State} {i : Item} {w off : Nat} (hhead : s.dev.brgHead = some (i, w, off)) (hsafe : s.dev.failsafe = false)
include hhead hsafe

theorem exec_bridgeWrite_head (hcls : tcls i.tlp ≠ 1) :
    exec .bridgeWrite s = .next (s.settled (s.dev.brgServed i w off Dev.brgPosted)) := by
  change execBridgeWrite s = _
  exact State.eff_of_eq (Dev.brgServe_of_head hhead hsafe _ (by simp [hcls]))

theorem exec_bridgeRead_head (hcls : tcls i.tlp = 1) (hatomic : i.tlp.kind ≠ .atomic) (hlock : i.tlp.kind ≠ .memRdLk)
    (hlen : i.tlp.kind = .memRd → zeroLen i.tlp = false) :
    exec .bridgeRead s = .next (s.settled (s.dev.brgServed i w off Dev.brgNonPosted)) := by
  change execBridgeRead s = _
  exact State.eff_of_eq (Dev.brgServe_of_head hhead hsafe _ (by simpa [hcls, hatomic, hlock] using imp_iff_not_or.1 hlen))

theorem exec_bridgeFlushRead_head (hkind : i.tlp.kind = .memRd) (hlen : zeroLen i.tlp = true) :
    exec .bridgeFlushRead s = .next (s.settled (s.dev.brgServed i w off fun d i w a => d.brgEnter i w a 4 .flush)) := by
  change execBridgeFlushRead s = _
  exact State.eff_of_eq (Dev.brgServe_of_head hhead hsafe _ (by simp [hkind, hlen]))

theorem exec_bridgeAtomicop_head (hkind : i.tlp.kind = .atomic) :
    exec .bridgeAtomicop s = .next (s.settled (s.dev.brgServed i w off Dev.brgAtomic)) := by
  change execBridgeAtomicop s = _
  exact State.eff_of_eq (Dev.brgServe_of_head hhead hsafe _ (by simp [hkind]))

theorem exec_mrdlk_head (hkind : i.tlp.kind = .memRdLk) :
    exec .mrdlk s = .next (s.settled (s.dev.brgServed i w off Dev.brgLocked)) := by
  change execMrdlk s = _
  exact State.eff_of_eq (Dev.brgServe_of_head hhead hsafe _ (by simp [hkind]))

end

theorem Dev.brgPosted_fenced {d : Dev} {i : Item} {w : Nat} (a : Nat) (hkind : i.tlp.kind = .memWr) (h : d.rb R.BRG_WIN_STATUS w 1 = true) :
    d.brgPosted i w a = d.writeAtOnce i w a 4 :=
  (if_neg (not_not_intro hkind)).trans (if_pos h)

theorem Dev.brgPosted_open {d : Dev} {i : Item} {w : Nat} (a : Nat) (hkind : i.tlp.kind = .memWr) (h : d.rb R.BRG_WIN_STATUS w 1 = false) :
    d.brgPosted i w a =
      let d := d.bump R.BRG_WIN_CNT_WR w (some (d.rf R.BRG_WIN_CFG w 5 0))
      if d.winUp w then d.brgHold i w a else d.writeAtOnce i w a 1 :=
  (if_neg (not_not_intro hkind)).trans (if_neg (ne_true_of_eq_false h))

theorem Dev.brgAtomic_unsupported {d : Dev} {i : Item} {w a : Nat} (h : d.AtomicUnsupported i w a) : d.brgAtomic i w a = d.brgAnswer i w 1 :=
  if_pos (h.imp_left fun hoff => by rw [hoff]; rfl)

section
variable {d : Dev} {i : Item} {w a : Nat} (hok : ¬ d.AtomicUnsupported i w a)
include hok

theorem Dev.brgAtomic_supported :
    d.brgAtomic i w a = if d.rb R.BRG_WIN_STATUS w 1 ∨ !d.winUp w then d.brgAnswer i w 4 else d.brgEnter i w a (atomSize i.tlp) .atomic :=
  if_neg fun h => hok (h.imp_left (Bool.not_eq_true' _).mp)

theorem Dev.brgAtomic_down (h : d.WinDown w) : d.brgAtomic i w a = d.brgAnswer i w 4 :=
  (Dev.brgAtomic_supported hok).trans (if_pos (h.imp_right (Bool.not_eq_true' _).mpr))

theorem Dev.brgAtomic_up (h : ¬ d.WinDown w) : d.brgAtomic i w a = d.brgEnter i w a (atomSize i.tlp) .atomic :=
  (Dev.brgAtomic_supported hok).trans (if_neg fun hdown => h (hdown.imp_right (Bool.not_eq_true' _).mp))

end

/-- Settles O39: a head of a retired generation is purged whatever the command; else each command has its own effect, case by case. -/
theorem bridgeRequestsComplete : Obligations.BridgeRequestsComplete := by
  refine ⟨fun s hidle => ?idle, fun s i w off hhead hsafe => ⟨fun hold => ?stale, fun hnew => ?current⟩⟩
  case idle =>
    exact ⟨exec_bridgeWrite_idle hidle, exec_bridgeRead_idle hidle, exec_bridgeFlushRead_idle hidle, exec_bridgeAtomicop_idle hidle,
      exec_mrdlk_idle hidle⟩
  case stale =>
    have hpurge (f : Dev → Item → Nat → Nat → Dev) :
        s.dev.brgServed i w off f = (s.dev.brgTake i).brgStale i w ((s.dev.brgTake i).winBase w + off) := if_pos hold
    refine ⟨fun hcls => ?_, fun hkind hlen _ => ?_, fun hkind hlen hcls => ?_, fun hkind => ?_, fun hkind => ?_⟩
    · rw [exec_bridgeWrite_head hhead hsafe hcls, hpurge]
    · rw [exec_bridgeFlushRead_head hhead hsafe hkind hlen, hpurge]
    · rw [exec_bridgeRead_head hhead hsafe hcls (by simp [hkind]) (by simp [hkind]) fun _ => hlen, hpurge]
    · rw [exec_bridgeAtomicop_head hhead hsafe hkind, hpurge]
    · rw [exec_mrdlk_head hhead hsafe hkind, hpurge]
  case current =>
    have hserve (f : Dev → Item → Nat → Nat → Dev) :
        s.dev.brgServed i w off f = f (s.dev.brgTake i) i w ((s.dev.brgTake i).winBase w + off) := if_neg (ne_true_of_eq_false hnew)
    refine ⟨fun hcls hkind => ?_, fun hcls hkind => ⟨fun hfence => ?_, fun hopen => ?_⟩, fun hcls hkind hlen => ?_,
      fun hcls hread hatomic hlock => ?_, fun hkind hlen => ?_, fun hkind => ⟨fun hbad => ?_, fun hok hdown => ?_, fun hok hup => ?_⟩,
      fun hkind => ⟨fun hoff => ?_, fun hon => ?_⟩⟩
    · rw [exec_bridgeWrite_head hhead hsafe hcls, hserve, Dev.brgPosted, if_pos hkind]
    · rw [exec_bridgeWrite_head hhead hsafe hcls, hserve, Dev.brgPosted_fenced _ hkind hfence]
    · rw [exec_bridgeWrite_head hhead hsafe hcls, hserve, Dev.brgPosted_open _ hkind hopen]
    · rw [exec_bridgeRead_head hhead hsafe hcls (by simp [hkind]) (by simp [hkind]) fun _ => hlen, hserve, Dev.brgNonPosted, if_pos hkind]
    · rw [exec_bridgeRead_head hhead hsafe hcls hatomic hlock fun h => absurd h hread, hserve, Dev.brgNonPosted, if_neg hread]
    · rw [exec_bridgeFlushRead_head hhead hsafe hkind hlen, hserve]
    · rw [exec_bridgeAtomicop_head hhead hsafe hkind, hserve, Dev.brgAtomic_unsupported hbad]
    · rw [exec_bridgeAtomicop_head hhead hsafe hkind, hserve, Dev.brgAtomic_down hok hdown]
    · rw [exec_bridgeAtomicop_head hhead hsafe hkind, hserve, Dev.brgAtomic_up hok hup]
    · rw [exec_mrdlk_head hhead hsafe hkind, hserve, Dev.brgLocked, hoff, Bool.not_false, if_pos rfl]
    · rw [exec_mrdlk_head hhead hsafe hkind, hserve, Dev.brgLocked, hon, Bool.not_true, if_neg Bool.false_ne_true]
      rfl

/-! ### Held lines (R316, R319) -/

/-- The mark under which an error in a line's data is noted. -/
def lineMark (line : Nat) : Nat := 2 ^ 62 + line

/-- The note of an error in a line's data is taken away as the line is issued. -/
def Dev.dropMark (d : Dev) (line : Nat) : Dev :=
  { d with saf := { d.saf with ue := d.saf.ue.filter fun e : Nat × Nat => e.1 != lineMark line } }

/-- A line whose decoder is not UP fails TARGET_DOWN. -/
theorem Dev.lineIssue_of_down {d : Dev} {l : BLine} (ecc : Bool) (h : ∀ k, d.idecAt (64 * l.addr) = some k → d.idecState k ≠ 2) :
    d.lineIssue l ecc = (d.lineFail l 1).brgPump := by
  unfold Dev.lineIssue
  dsimp only
  split
  case h_1 k hk => exact if_pos (by simp [h k hk])
  case h_2 => exact if_pos rfl

theorem exec_lineIssue_free {s : State} {line : Nat} {l : BLine} (ecc : Bool) (hl : s.dev.brg.lines.find? (fun l => l.id == line) = some l)
    (hsafe : s.dev.failsafe = false) (hfree : s.dev.lineFree l = true) :
    exec (.lineIssue line ecc) s = .next (s.settled
      ((s.dev.dropMark line).lineIssue l (ecc || s.dev.saf.ue.any fun e => e.1 == lineMark line))) := by
  change execLineIssue line ecc s = _
  refine State.eff_of_eq ?_
  simp only [hl]
  exact if_neg (not_or.2 ⟨ne_true_of_eq_false hsafe, not_ne_true hfree⟩)

/-! ### Answers of the devices (R315, R317, R322, R390) -/

section
variable {s : State} {port tag : Nat} {e : M2S}

theorem exec_ndr_line {l : Nat} (he : s.dev.brgOut port tag true = some e) (hwhy : e.why = .line l) :
    exec (.ndr port tag) s = .next (s.settled ((s.dev.rmM2s e.id).lineNdr l)) := by
  change execNdr port tag s = _
  exact State.eff_of_eq (by simp only [he, hwhy])

theorem exec_ndr_atomic {r : Nat} {x : BReq} (he : s.dev.brgOut port tag true = some e) (hwhy : e.why = .atomWr r)
    (hx : (s.dev.rmM2s e.id).brg.reqs.find? (fun x => x.id == r) = some x) :
    exec (.ndr port tag) s = .next (s.settled (((s.dev.rmM2s e.id).reqDone x).brgPump)) := by
  change execNdr port tag s = _
  exact State.eff_of_eq (by simp only [he, hwhy, hx])

theorem exec_drs_read {r k : Nat} (data : List Byte) (poison : Bool) (he : s.dev.brgOut port tag false = some e) (hwhy : e.why = .read r k) :
    exec (.drs port tag data poison) s =
      .next (s.settled ((s.dev.rmM2s e.id).reqGot r (e.addr / 64) (padTo 64 data) poison false)) := by
  change execDrs port tag data poison s = _
  exact State.eff_of_eq (by simp only [he, hwhy])

/-- A link over which answers arrive. -/
def Dev.Answers (d : Dev) (port : Nat) : Prop := d.linkLive port = true ∧ d.fenced port = false ∧ d.portContained port = false

/-- An answer to a tag that is held after its timeout counts as late (R390). -/
theorem Dev.brgLate_of_held {d : Dev} (hport : d.Answers port) (hheld : (d.saf.tagsHeld.any fun e => e.1 == 4096 + tag) = true) :
    d.brgLate port tag = d.bump R.SAF_CNT_CTO := by
  obtain ⟨hlive, hfence, hcont⟩ := hport
  exact if_pos (by rw [hlive, hfence, hcont, hheld]; rfl)

section
variable (hport : s.dev.Answers port) (hheld : (s.dev.saf.tagsHeld.any fun e => e.1 == 4096 + tag) = true)
include hport hheld

theorem exec_ndr_late (h : s.dev.brgOut port tag true = none) : exec (.ndr port tag) s = .next (s.settled (s.dev.bump R.SAF_CNT_CTO)) := by
  change execNdr port tag s = _
  exact State.eff_of_eq (by simp only [h, Dev.brgLate_of_held hport hheld])

theorem exec_drs_late (data : List Byte) (poison : Bool) (h : s.dev.brgOut port tag false = none) :
    exec (.drs port tag data poison) s = .next (s.settled (s.dev.bump R.SAF_CNT_CTO)) := by
  change execDrs port tag data poison s = _
  exact State.eff_of_eq (by simp only [h, Dev.brgLate_of_held hport hheld])

end

end

/-! ### Locked sequences and the commands of a window (R314, R323, R329, R330) -/

/-- The window under which a stable's locked sequence acquired its lowest semaphore. -/
def Dev.seqWin (d : Dev) (st : Nat) : Nat :=
  match d.brg.sems.find? fun e => e.2.entry.isNone && e.2.stable == st with
  | some e => d.rf R.BRG_LK_STATE (0x100 + e.1) 15 8
  | none => 0

/-- A locked sequence ends at its time: its semaphores are freed, it stays known as expired, and it is reported. -/
def Dev.seqExpire (d : Dev) (st : Nat) (q : BSeq) : Dev :=
  let w := d.seqWin st
  let d := d.seqFree st
  let d := d.setBrg { d.brg with seqs := d.brg.seqs.insert st { q with expired := true } }
  ((d.wr R.BRG_BRG_LAST 0 (word (w + 256 * st + 16384 * 8))).raise (0x680 + st)).brgPump

theorem exec_lockTimeout_due {s : State} {st : Nat} {q : BSeq} (hq : s.dev.brg.seqs.find st = some q) (hruns : q.expired = false) :
    exec (.lockTimeout st) s =
      .next (s.settled ((s.dev.advanceTo (q.start + 1000 * s.dev.rf R.BRG_BRG_CFG 0 15 0)).seqExpire st q)) := by
  change execLockTimeout st s = _
  refine State.eff_of_eq ?_
  simp only [hq]
  exact if_neg (ne_true_of_eq_false hruns)

section
variable {s : State} {a : Acc}

theorem exec_winUntaint_made (h : s.dev.may a R.BRG_WIN_CTRL true = true) :
    exec (.winUntaint a) s = .next (s.settled (s.dev.winUntaint (s.dev.instOf a 0x900 R.BRG_WIN_CTRL.off))) :=
  State.eff_guardW_may h

theorem exec_winFlush_made (h : s.dev.may a R.BRG_WIN_CTRL true = true) :
    exec (.winFlush a) s = .next (s.settled (s.dev.winFlush (s.dev.instOf a 0x900 R.BRG_WIN_CTRL.off))) :=
  State.eff_guardW_may h

theorem exec_pelClear_made (h : s.dev.may a R.BRG_PEL_CTRL true = true) : exec (.pelClear a) s = .next (s.settled s.dev.pelClear) :=
  State.eff_guardW_may h

end

/-- Settles O40: the held lines, the answers that are awaited and those that are late, the locked sequences, and the commands. -/
theorem bridgeLinesAndAnswersComplete : Obligations.BridgeLinesAndAnswersComplete := by
  refine fun s => ⟨?lines, ?answers, ?late, fun st q => exec_lockTimeout_due, fun a => ⟨fun hmay => ?window, exec_pelClear_made⟩⟩
  case lines =>
    intro line ecc l hl hsafe hfree
    have hissue := exec_lineIssue_free ecc hl hsafe hfree
    exact ⟨hissue, fun hdown => State.next_settled_congr hissue (Dev.lineIssue_of_down _ hdown)⟩
  case answers =>
    rintro port tag e write he
    refine ⟨?_, ?_, ?_⟩
    · rintro l rfl
      exact exec_ndr_line he
    · rintro r x rfl
      exact exec_ndr_atomic he
    · rintro r k data poison rfl
      exact exec_drs_read data poison he
  case late =>
    intro port tag data poison hlive hfence hcont hheld
    have hport : s.dev.Answers port := ⟨hlive, hfence, hcont⟩
    exact ⟨exec_ndr_late hport hheld, exec_drs_late hport hheld data poison⟩
  case window => exact ⟨exec_winUntaint_made hmay, exec_winFlush_made hmay⟩

end Sys2Proof.Machine
end

section
/-! Family 13_dma_engines: the registers of a channel (O44), and its fetches, reads and descriptors (O45). -/

namespace Sys2Proof.Machine

/-! ### What a write of a channel's registers does (R335, R345, R347) -/

section
variable {d : Dev} {c : Nat}

theorem Dev.chTail_outside {v : Nat} (h : d.chSize c ≤ v % 65536) :
    d.chTail c v = (d.wf R.DMA_CH_STATUS c 5 5 1).raise (0x6c1 + 2 * c) :=
  if_pos h

theorem Dev.chTail_inside {v : Nat} (h : v % 65536 < d.chSize c) :
    d.chTail c v = ((d.wr R.DMA_CH_TAIL c (word (v % 65536))).chPace c false).chRun c :=
  if_neg (Nat.not_le.2 h)

theorem Dev.chRingSize_ignored (v : Nat) (h : d.chState c ≠ 0) : d.chRingSize c v = d := if_pos h

/-- A new size resets the indices and drops the marks and the fetched descriptors. -/
def Dev.chResize (d : Dev) (c v : Nat) : Dev :=
  let d := (((d.wr R.DMA_CH_RING_SIZE c (word (v % 65536))).wr R.DMA_CH_HEAD c 0).wr R.DMA_CH_DONE c 0).wr R.DMA_CH_TAIL c 0
  let d := d.chDropFetch c
  d.setChan c { d.chan c with marks := [] }

theorem Dev.chRingSize_stopped (v : Nat) (h : d.chState c = 0) : d.chRingSize c v = d.chResize c v := if_neg (not_not_intro h)

/-- A channel starts: its marks are written back in ring order, and it is IDLE or RUN. -/
def Dev.chBegin (d : Dev) (c : Nat) : Dev :=
  let e := (d.chan c).marks.foldl (fun d x => d.chReport c x) (d.setChan c { d.chan c with marks := [] })
  ((e.setChState c 1).chPace c false).chRun c

theorem Dev.chStart_able (h : d.chCanStart c = true) : d.chStart c = d.chBegin c := if_neg (not_ne_true h)

theorem Dev.chStart_unable (h : d.chCanStart c = false) : d.chStart c = d := if_pos ((Bool.not_eq_true' _).mpr h)

theorem Dev.chStop_going (h : d.chState c ≠ 0) : d.chStop c = (d.wf R.DMA_CH_CTRL c 1 1 1).chStopped c := if_neg h

theorem Dev.chStop_stopped (h : d.chState c = 0) : d.chStop c = d := if_pos h

end

section
variable {s : State} {a : Acc}

theorem exec_chTailWrite_made (w : Word) (h : s.dev.may a R.DMA_CH_TAIL true = true) :
    exec (.chTailWrite a w) s = .next (s.settled (s.dev.chTail (s.dev.instOf a 0xa00 R.DMA_CH_TAIL.off) w.toNat)) :=
  State.eff_guardW_may h

theorem exec_chRingSizeWrite_made (w : Word) (h : s.dev.may a R.DMA_CH_RING_SIZE true = true) :
    exec (.chRingSizeWrite a w) s = .next (s.settled (s.dev.chRingSize (s.dev.instOf a 0xa00 R.DMA_CH_RING_SIZE.off) w.toNat)) :=
  State.eff_guardW_may h

variable (h : s.dev.may a R.DMA_CH_CTRL true = true)
include h

theorem exec_chStart_made : exec (.chStart a) s = .next (s.settled (s.dev.chStart (s.dev.instOf a 0xa00 R.DMA_CH_CTRL.off))) :=
  State.eff_guardW_may h

theorem exec_chStop_made : exec (.chStop a) s = .next (s.settled (s.dev.chStop (s.dev.instOf a 0xa00 R.DMA_CH_CTRL.off))) :=
  State.eff_guardW_may h

theorem exec_chAbort_made : exec (.chAbort a) s = .next (s.settled (s.dev.chAbort (s.dev.instOf a 0xa00 R.DMA_CH_CTRL.off))) :=
  State.eff_guardW_may h

theorem exec_kick_made : exec (.kick a) s = .next (s.settled (s.dev.chKick (s.dev.instOf a 0xa00 R.DMA_CH_CTRL.off))) :=
  State.eff_guardW_may h

theorem exec_arm_made : exec (.arm a) s = .next (s.settled (s.dev.chArm (s.dev.instOf a 0xa00 R.DMA_CH_CTRL.off) true)) :=
  State.eff_guardW_may h

theorem exec_disarm_made : exec (.disarm a) s = .next (s.settled (s.dev.chArm (s.dev.instOf a 0xa00 R.DMA_CH_CTRL.off) false)) :=
  State.eff_guardW_may h

end

/-- Settles O44: the three registers, and each bit of CH_CTRL. -/
theorem channelRegisterWritesComplete : Obligations.ChannelRegisterWritesComplete := by
  refine fun s a w => ⟨fun hmay => ?tail, fun hmay => ?size, fun hmay => ?ctrl⟩
  case tail =>
    have hexec := exec_chTailWrite_made w hmay
    exact ⟨fun hout => State.next_settled_congr hexec (Dev.chTail_outside hout),
      fun hin => State.next_settled_congr hexec (Dev.chTail_inside hin)⟩
  case size =>
    have hexec := exec_chRingSizeWrite_made w hmay
    exact ⟨fun hgoing => State.next_settled_congr hexec (Dev.chRingSize_ignored _ hgoing),
      fun hstopped => State.next_settled_congr hexec (Dev.chRingSize_stopped _ hstopped)⟩
  case ctrl =>
    have hstart := exec_chStart_made hmay
    have hstop := exec_chStop_made hmay
    exact ⟨fun hable => State.next_settled_congr hstart (Dev.chStart_able hable),
      fun hunable => State.next_settled_congr hstart (Dev.chStart_unable hunable),
      fun hgoing => State.next_settled_congr hstop (Dev.chStop_going hgoing),
      fun hstopped => State.next_settled_congr hstop (Dev.chStop_stopped hstopped),
      exec_chAbort_made hmay, exec_kick_made hmay, exec_arm_made hmay, exec_disarm_made hmay⟩

/-! ### Completions at P128 (R343, R344, R347, R390) -/

/-- A completion is taken up from P128. -/
def Dev.dmaTake (d : Dev) (i : Item) : Dev := { d with path := { d.path with inbox := d.path.inbox.erase i } }

/-- A completion that has ended its request frees the tag. -/
def Dev.tagFreed (d : Dev) (t : Tlp) : Dev := if endsRequest t then d.freeDmaTag t.tag else d

/-- A completion of a tag in use: by its requester, the age of the tag and of its generation, and what the channel still wants. -/
def Dev.tagCpl (d : Dev) (i : Item) (g : DTag) : Dev :=
  if g.rid ≠ i.tlp.rid then d.unexpected i.ingress i.tlp
  else if g.timedOut then d.bump R.SAF_CNT_CTO
  else if d.retired (some (domChan g.ch)) g.gen then (d.bump R.DMA_CH_CNT_STALE g.ch (d.chOwner g.ch)).tagFreed i.tlp
  else if g.orphan then d.tagFreed i.tlp
  else if g.fetch then d.fetchCpl g i.tlp
  else d.readCpl g i.tlp

section
variable {d : Dev} {i : Item}

theorem Dev.dmaCpl_of_free (h : d.dma.tags.find i.tlp.tag = none) : d.dmaCpl i = (d.dmaTake i).unexpected i.ingress i.tlp := by
  simp only [Dev.dmaCpl, h]
  rfl

variable {g : DTag}

theorem Dev.dmaCpl_of_used (h : d.dma.tags.find i.tlp.tag = some g) : d.dmaCpl i = (d.dmaTake i).tagCpl i g := by
  simp only [Dev.dmaCpl, h]
  rfl

theorem Dev.tagCpl_other (h : g.rid ≠ i.tlp.rid) : d.tagCpl i g = d.unexpected i.ingress i.tlp := if_pos h

section
variable (hrid : g.rid = i.tlp.rid)
include hrid

theorem Dev.tagCpl_late (h : g.timedOut = true) : d.tagCpl i g = d.bump R.SAF_CNT_CTO :=
  (if_neg (not_not_intro hrid)).trans (if_pos h)

variable (htime : g.timedOut = false)
include htime

theorem Dev.tagCpl_in_time :
    d.tagCpl i g =
      if d.retired (some (domChan g.ch)) g.gen then (d.bump R.DMA_CH_CNT_STALE g.ch (d.chOwner g.ch)).tagFreed i.tlp
      else if g.orphan then d.tagFreed i.tlp
      else if g.fetch then d.fetchCpl g i.tlp
      else d.readCpl g i.tlp :=
  (if_neg (not_not_intro hrid)).trans (if_neg (ne_true_of_eq_false htime))

theorem Dev.tagCpl_stale (h : d.retired (some (domChan g.ch)) g.gen = true) :
    d.tagCpl i g = (d.bump R.DMA_CH_CNT_STALE g.ch (d.chOwner g.ch)).tagFreed i.tlp :=
  (Dev.tagCpl_in_time hrid htime).trans (if_pos h)

variable (hgen : d.retired (some (domChan g.ch)) g.gen = false)
include hgen

theorem Dev.tagCpl_orphan (h : g.orphan = true) : d.tagCpl i g = d.tagFreed i.tlp :=
  (Dev.tagCpl_in_time hrid htime).trans ((if_neg (ne_true_of_eq_false hgen)).trans (if_pos h))

theorem Dev.tagCpl_wanted (h : g.orphan = false) : d.tagCpl i g = if g.fetch then d.fetchCpl g i.tlp else d.readCpl g i.tlp :=
  (Dev.tagCpl_in_time hrid htime).trans ((if_neg (ne_true_of_eq_false hgen)).trans (if_neg (ne_true_of_eq_false h)))

end

/-- What P128 takes up for the fetches of a channel, or for its reads, is of a fetch, or of a read. -/
theorem Dev.dmaInbox_fetch {c : Nat} {fetch : Bool} (hi : d.dmaInbox c fetch = some i) (hg : d.dma.tags.find i.tlp.tag = some g) :
    g.fetch = fetch := by
  have hsel := List.find?_some hi
  simp only [hg, Bool.and_eq_true, beq_iff_eq] at hsel
  exact hsel.2.2

end

section
variable {s : State} {c : Nat}

theorem exec_descriptorFetchDone_none (h : s.dev.dmaInbox c true = none) : exec (.descriptorFetchDone c) s = .next (s.settled s.dev) := by
  change execDescriptorFetchDone c s = _
  exact State.eff_of_eq (by simp only [h])

theorem exec_dmaReadCompletion_none (h : s.dev.dmaInbox c false = none) : exec (.dmaReadCompletion c) s = .next (s.settled s.dev) := by
  change execDmaReadCompletion c s = _
  exact State.eff_of_eq (by simp only [h])

variable {i : Item}

theorem exec_descriptorFetchDone_some (h : s.dev.dmaInbox c true = some i) :
    exec (.descriptorFetchDone c) s = .next (s.settled (s.dev.dmaCpl i)) := by
  change execDescriptorFetchDone c s = _
  exact State.eff_of_eq (by simp only [h])

theorem exec_dmaReadCompletion_some (h : s.dev.dmaInbox c false = some i) :
    exec (.dmaReadCompletion c) s = .next (s.settled (s.dev.dmaCpl i)) := by
  change execDmaReadCompletion c s = _
  exact State.eff_of_eq (by simp only [h])

end

/-- The clauses of a completion of a tag in use, whichever command takes it up. -/
theorem State.next_of_tagCpl {s : State} {i : Item} {g : DTag} {x : Host.Outcome State Fault Refusal}
    (h : x = .next (s.settled ((s.dev.dmaTake i).tagCpl i g))) :
    let d := s.dev.dmaTake i
    let old := d.retired (some (domChan g.ch)) g.gen
    (g.rid ≠ i.tlp.rid → x = .next (s.settled (d.unexpected i.ingress i.tlp))) ∧
    (g.rid = i.tlp.rid → g.timedOut = true → x = .next (s.settled (d.bump R.SAF_CNT_CTO))) ∧
    (g.rid = i.tlp.rid → g.timedOut = false → old = true →
      x = .next (s.settled ((d.bump R.DMA_CH_CNT_STALE g.ch (d.chOwner g.ch)).tagFreed i.tlp))) ∧
    (g.rid = i.tlp.rid → g.timedOut = false → old = false → g.orphan = true → x = .next (s.settled (d.tagFreed i.tlp))) ∧
    (g.rid = i.tlp.rid → g.timedOut = false → old = false → g.orphan = false →
      x = .next (s.settled (if g.fetch then d.fetchCpl g i.tlp else d.readCpl g i.tlp))) :=
  ⟨fun hother => State.next_settled_congr h (Dev.tagCpl_other hother),
    fun hrid hlate => State.next_settled_congr h (Dev.tagCpl_late hrid hlate),
    fun hrid htime hold => State.next_settled_congr h (Dev.tagCpl_stale hrid htime hold),
    fun hrid htime hgen hlost => State.next_settled_congr h (Dev.tagCpl_orphan hrid htime hgen hlost),
    fun hrid htime hgen hwant => State.next_settled_congr h (Dev.tagCpl_wanted hrid htime hgen hwant)⟩

/-! ### Descriptors (R337, R338, R341, R342) -/

section
variable {d : Dev} {c : Nat} {x : DDesc} {rest : List DDesc}

/-- The next descriptor begins: it is live, the head moves on, and the channel is paced and runs. -/
def Dev.begun (d : Dev) (c : Nat) (x : DDesc) (rest : List DDesc) : Dev :=
  let n := d.chSize c
  let d := d.setChan c { d.chan c with fetched := rest, live := (d.chan c).live ++ [x] }
  ((d.wf R.DMA_CH_HEAD c 15 0 (if x.idx + 1 < n then x.idx + 1 else 0)).chPace c false).chRun c

theorem Dev.begin_of_fetched (ops : Nat → Bool) (hx : (d.chan c).fetched = x :: rest) :
    d.begin c ops = if ops x.op && d.mayBegin c x then d.begun c x rest else d := by
  simp only [Dev.begin, hx]
  rfl

theorem Dev.begin_of_may {ops : Nat → Bool} (hx : (d.chan c).fetched = x :: rest) (hmay : d.mayBegin c x = true) (hop : ops x.op = true) :
    d.begin c ops = d.begun c x rest := by
  rw [Dev.begin_of_fetched ops hx, hop, hmay]
  rfl

theorem Dev.begin_of_not_may (ops : Nat → Bool) (hx : (d.chan c).fetched = x :: rest) (hmay : d.mayBegin c x = false) : d.begin c ops = d := by
  rw [Dev.begin_of_fetched ops hx, hmay, Bool.and_false]
  rfl

end

section
variable (s : State) (c : Nat)

theorem exec_copy_eq : exec (.copy c) s = .next (s.settled (s.dev.begin c fun op => op == 0 || decide (2 < op))) := rfl

theorem exec_fill_eq : exec (.fill c) s = .next (s.settled (s.dev.begin c fun op => op == 1)) := rfl

theorem exec_flushRead_eq : exec (.flushRead c) s = .next (s.settled (s.dev.begin c fun op => op == 2)) := rfl

theorem exec_descriptorReport_live {x : DDesc} {rest : List DDesc} (h : (s.dev.chan c).live = x :: rest) :
    exec (.descriptorReport c) s = .next (s.settled
      (if s.dev.descDone c x then
        (((s.dev.setChan c { s.dev.chan c with live := rest }).chReport c x).chStopped c).chRun c
      else s.dev)) := by
  change execDescriptorReport c s = _
  exact State.eff_of_eq (by simp only [h])

end

/-- Settles O45: what a completion finds of its tag, where the next descriptor begins, and where the oldest is done. -/
theorem channelWorkCompletes : Obligations.ChannelWorkCompletes := by
  refine fun s c => ⟨exec_descriptorFetchDone_none, exec_dmaReadCompletion_none, fun i g hi hg => ?fetch,
    fun i hi => ⟨fun hfree => ?free, fun g hg => ?read⟩,
    fun x rest hx => ⟨fun hmay => ?begins, fun hmay => ?waits⟩, fun x rest hx => ?report⟩
  case fetch =>
    have htaken := State.next_settled_congr (exec_descriptorFetchDone_some hi) (Dev.dmaCpl_of_used hg)
    obtain ⟨hother, hlate, hstale, horphan, hwanted⟩ := State.next_of_tagCpl htaken
    exact ⟨hother, hlate, hstale, horphan, fun hrid htime hgen hwant =>
      State.next_settled_congr (hwanted hrid htime hgen hwant) (if_pos (Dev.dmaInbox_fetch hi hg))⟩
  case free => exact State.next_settled_congr (exec_dmaReadCompletion_some hi) (Dev.dmaCpl_of_free hfree)
  case read =>
    have htaken := State.next_settled_congr (exec_dmaReadCompletion_some hi) (Dev.dmaCpl_of_used hg)
    obtain ⟨hother, hlate, hstale, horphan, hwanted⟩ := State.next_of_tagCpl htaken
    exact ⟨hother, hlate, hstale, horphan, fun hrid htime hgen hwant =>
      State.next_settled_congr (hwanted hrid htime hgen hwant) (if_neg (ne_true_of_eq_false (Dev.dmaInbox_fetch hi hg)))⟩
  case begins =>
    refine ⟨fun hop => ?_, fun hop => ?_, fun hop => ?_⟩
    · exact State.next_settled_congr (exec_copy_eq s c) (Dev.begin_of_may hx hmay (by simpa using hop))
    · exact State.next_settled_congr (exec_fill_eq s c) (Dev.begin_of_may hx hmay (by simp [hop]))
    · exact State.next_settled_congr (exec_flushRead_eq s c) (Dev.begin_of_may hx hmay (by simp [hop]))
  case waits =>
    exact ⟨State.next_settled_congr (exec_copy_eq s c) (Dev.begin_of_not_may _ hx hmay),
      State.next_settled_congr (exec_fill_eq s c) (Dev.begin_of_not_may _ hx hmay),
      State.next_settled_congr (exec_flushRead_eq s c) (Dev.begin_of_not_may _ hx hmay)⟩
  case report =>
    have hexec := exec_descriptorReport_live s c hx
    exact ⟨fun hdone => State.next_settled_congr hexec (if_pos hdone),
      fun hbusy => State.next_settled_congr hexec (if_neg (ne_true_of_eq_false hbusy))⟩

end Sys2Proof.Machine
end

section
/-! Family 15_safety_and_containment: the scrub, the self-test, injected faults, the monitors and the timeouts of the block's own
requests (O46). -/

namespace Sys2Proof.Machine

/-! ### Periodic passes (R375, R376, R395) -/

/-- A pass that runs once in a period of some ms does not run with its period 0, or without a clock. -/
def Dev.PassOff (d : Dev) (ms : Nat) : Prop := ms = 0 ∨ d.clockRuns = false

theorem Dev.passOff_iff (d : Dev) (ms : Nat) : d.PassOff ms ↔ (ms = 0 ∨ (!d.clockRuns) = true) :=
  or_congr_right (Bool.not_eq_true' _).symm.to_iff

/-- The storage errors that a pass meets are taken up: a correctable one is corrected, an unreadable copy is noted. -/
def Dev.takeUpErrors (d : Dev) (seu : List (Nat × Nat × Nat)) : Dev :=
  seu.foldl (fun d e =>
    if e.2.2 = 0 then d.corrected e.1
    else
      let add := (if e.2.2 = 1 ∨ e.2.2 = 3 then [(e.1, e.2.1, false)] else []) ++ (if e.2.2 = 2 ∨ e.2.2 = 3 then [(e.1, e.2.1, true)] else [])
      { d with saf := { d.saf with bad := (d.saf.bad ++ add).eraseDups } }) d

/-- A pass over every duplicated table, and over the configuration that is held once. -/
def Dev.scrubAll (d : Dev) (single : List (Nat × Nat × Nat)) : Dev :=
  single.foldl (fun d e => d.cfgUe e.1 e.2.1 e.2.2) (d.scrub fun _ => true)

/-- A pass of the self-test counts. -/
def Dev.selfTested (d : Dev) : Dev := d.wf R.SAF_ST_STATUS 0 31 16 (d.rf R.SAF_ST_STATUS 0 31 16 + 1)

section
variable {s : State}

theorem exec_scrubPass_off (seu single : List (Nat × Nat × Nat)) (h : s.dev.PassOff (s.dev.rf R.SAF_SCRUB_CFG 0 15 0)) :
    exec (.scrubPass seu single) s = .next (s.settled s.dev) := by
  change execScrubPass seu single s = _
  exact State.eff_of_eq (if_pos ((s.dev.passOff_iff _).1 h))

theorem exec_scrubPass_due (seu single : List (Nat × Nat × Nat)) (h : ¬ s.dev.PassOff (s.dev.rf R.SAF_SCRUB_CFG 0 15 0)) :
    exec (.scrubPass seu single) s = .next (s.settled
      (((s.dev.advanceTo (s.dev.nextPeriod (s.dev.rf R.SAF_SCRUB_CFG 0 15 0))).takeUpErrors seu).scrubAll single)) := by
  change execScrubPass seu single s = _
  exact State.eff_of_eq (if_neg (mt (s.dev.passOff_iff _).2 h))

theorem exec_selfTestPass_off (k : Option Nat) (h : s.dev.PassOff (s.dev.rf R.SAF_ST_CFG 0 15 0)) :
    exec (.selfTestPass k) s = .next (s.settled s.dev) := by
  change execSelfTestPass k s = _
  exact State.eff_of_eq (if_pos ((s.dev.passOff_iff _).1 h))

variable (h : ¬ s.dev.PassOff (s.dev.rf R.SAF_ST_CFG 0 15 0))
include h

theorem exec_selfTestPass_good :
    exec (.selfTestPass none) s = .next (s.settled
      ((s.dev.advanceTo (s.dev.nextPeriod (s.dev.rf R.SAF_ST_CFG 0 15 0))).selfTested.raise 0x791)) := by
  change execSelfTestPass none s = _
  exact State.eff_of_eq (if_neg (mt (s.dev.passOff_iff _).2 h))

theorem exec_selfTestPass_silent (k : Nat) :
    exec (.selfTestPass (some k)) s = .next (s.settled (
      let d := (s.dev.advanceTo (s.dev.nextPeriod (s.dev.rf R.SAF_ST_CFG 0 15 0))).selfTested
      (((d.wf R.SAF_ST_STATUS 0 1 1 1).wf R.SAF_ST_STATUS 0 15 8 k).fault 0x11 none none none (d.unitRef (.block 0xc00)) (word k)).raise
        0x791)) := by
  change execSelfTestPass (some k) s = _
  refine State.eff_of_eq ((if_neg (mt (s.dev.passOff_iff _).2 h)).trans ?_)
  rfl

end

/-! ### The targeted scrub (R384) -/

/-- A disagreement is taken from the queue. -/
def Dev.disTake (d : Dev) (rest : List Disagree) : Dev := { d with saf := { d.saf with disq := rest } }

/-- A disagreement that no scrub attributes counts towards DISAGREE, which it may reach. -/
def Dev.disCount (d : Dev) (x : Disagree) : Dev :=
  let win := d.rf R.SAF_DIS_CFG 0 31 16 * 1000000
  let times := (d.saf.disTimes ++ [x.time]).filter fun t => win == 0 || decide (d.now < t + win)
  let d := { d with saf := { d.saf with disTimes := times } }
  let lim := d.rf R.SAF_DIS_CFG 0 7 0
  if lim ≠ 0 ∧ lim ≤ times.length then d.fault 0x0a x.stable (some x.port) none (d.unitRef (.block 0xc00)) (word times.length) else d

theorem exec_targetedScrub_oldest {s : State} {x : Disagree} {rest : List Disagree} (h : s.dev.saf.disq = x :: rest) :
    exec .targetedScrub s = .next (s.settled (
      let d := s.dev.disTake rest
      if d.dirtyEntries.any x.entries.contains then d.scrub x.entries.contains else d.disCount x)) := by
  change execTargetedScrub s = _
  refine State.eff_of_eq ?_
  simp only [h]
  rfl

/-! ### Injection (R396) -/

/-- GO injects nothing with INJ_EN 0 or a kind that is none. -/
theorem Dev.inject_of_off {d : Dev} (h : d.rb R.SAF_SAF_CTRL 0 0 = false ∨ d.rf R.SAF_INJ_CFG 0 3 0 = 0 ∨ 7 < d.rf R.SAF_INJ_CFG 0 3 0) :
    d.inject = d :=
  if_pos (h.imp_left (Bool.not_eq_true' _).mpr)

/-- What GO injects of a kind from 1 to 7. -/
def Dev.injectKind (d : Dev) : Dev :=
  let kind := d.rf R.SAF_INJ_CFG 0 3 0
  let st := d.rf R.SAF_INJ_CFG 0 15 12
  let idx := d.rf R.SAF_INJ_CFG 0 29 16
  let b := d.rf R.SAF_INJ_BIT 0 9 0
  if kind = 6 then d.fault 0x0c none (some 130) none (d.unitRef (.port 130)) 0
  else if kind = 7 then
    (if st = 3 then d.flipCheck st idx (b % 32) else if st ≤ 4 then d.flipCheck st idx (b % 128) else d)
  else { d with saf := { d.saf with inj := some ⟨kind, d.rf R.SAF_INJ_CFG 0 11 4, st, idx, b⟩ } }

section
variable {d : Dev} (hon : d.rb R.SAF_SAF_CTRL 0 0 = true)
include hon

theorem Dev.inject_of_on (h1 : 1 ≤ d.rf R.SAF_INJ_CFG 0 3 0) (h7 : d.rf R.SAF_INJ_CFG 0 3 0 ≤ 7) : d.inject = d.injectKind :=
  if_neg (not_or.2 ⟨not_ne_true hon, by omega⟩)

/-- The kinds 1 to 5 wait for what they are to fall on. -/
theorem Dev.inject_waits (h1 : 1 ≤ d.rf R.SAF_INJ_CFG 0 3 0) (h5 : d.rf R.SAF_INJ_CFG 0 3 0 ≤ 5) :
    d.inject = { d with saf := { d.saf with
      inj := some ⟨d.rf R.SAF_INJ_CFG 0 3 0, d.rf R.SAF_INJ_CFG 0 11 4, d.rf R.SAF_INJ_CFG 0 15 12, d.rf R.SAF_INJ_CFG 0 29 16,
        d.rf R.SAF_INJ_BIT 0 9 0⟩ } } :=
  (Dev.inject_of_on hon h1 (by omega)).trans ((if_neg (by omega)).trans (if_neg (by omega)))

theorem Dev.inject_lockstep (h6 : d.rf R.SAF_INJ_CFG 0 3 0 = 6) : d.inject = d.fault 0x0c none (some 130) none (d.unitRef (.port 130)) 0 :=
  (Dev.inject_of_on hon (by omega) (by omega)).trans (if_pos h6)

theorem Dev.inject_flip (h7 : d.rf R.SAF_INJ_CFG 0 3 0 = 7) :
    d.inject =
      let st := d.rf R.SAF_INJ_CFG 0 15 12
      let idx := d.rf R.SAF_INJ_CFG 0 29 16
      let b := d.rf R.SAF_INJ_BIT 0 9 0
      if st = 3 then d.flipCheck st idx (b % 32) else if st ≤ 4 then d.flipCheck st idx (b % 128) else d :=
  (Dev.inject_of_on hon (by omega) (by omega)).trans ((if_neg (by omega)).trans (if_pos h7))

end

/-- GO injects nothing with INJ_EN 0, or of a kind or for a structure that is none. -/
theorem Dev.inject_none {d : Dev}
    (h : ¬ d.rb R.SAF_SAF_CTRL 0 0 = true ∨ d.rf R.SAF_INJ_CFG 0 3 0 = 0 ∨ 7 < d.rf R.SAF_INJ_CFG 0 3 0 ∨
      (d.rf R.SAF_INJ_CFG 0 3 0 = 7 ∧ 4 < d.rf R.SAF_INJ_CFG 0 15 12)) : d.inject = d := by
  by_cases hon : d.rb R.SAF_SAF_CTRL 0 0 = true
  · rcases h with hoff | h0 | h8 | ⟨h7, h4⟩
    · exact absurd hon hoff
    · exact Dev.inject_of_off (.inr (.inl h0))
    · exact Dev.inject_of_off (.inr (.inr h8))
    · exact (Dev.inject_flip hon h7).trans ((if_neg (by omega)).trans (if_neg (Nat.not_le.2 h4)))
  · exact Dev.inject_of_off (.inl (eq_false_of_ne_true hon))

section
variable {s : State} {a : Acc}

theorem exec_go_made (h : s.dev.may a R.SAF_INJ_CTRL true = true) : exec (.go a) s = .next (s.settled s.dev.inject) :=
  State.eff_guardW_may h

theorem exec_forceFailsafe_made (h : s.dev.may a R.SAF_SAF_CMD true = true) :
    exec (.forceFailsafe a) s = .next (s.settled s.dev.forceFailsafe) :=
  State.eff_guardW_may h

end

/-! ### Monitors (R378, R379) -/

section
variable (s : State)

theorem exec_lockstepMismatch :
    exec .lockstepMismatch s = .next (s.settled (s.dev.fault 0x0c none (some 130) none (s.dev.unitRef (.port 130)) 0)) := rfl

theorem exec_coreClockLoss (b : Bool) :
    exec (.coreClockLoss b) s = .next (s.settled (
      let d := s.dev.wf R.SAF_MON_STATUS 0 (b2n b) (b2n b) 0
      d.fault 0x0e none none none (d.unitRef .device) (word (b2n b)))) := rfl

theorem exec_tempThreshold_cluster {c : Nat} (t : Nat) (hc : c < 16) :
    exec (.tempThreshold c t) s = .next (s.settled (s.dev.tempRead c t)) := by
  change execTempThreshold c t s = _
  exact State.eff_of_eq (if_neg (Nat.not_le.2 hc))

end

/-! ### Completion timeouts (R390) -/

/-- A DMA tag times out: the tag is marked and held for a further CTO, and the timeout is counted and reported. -/
def Dev.tagTimesOut (d : Dev) (tag : Nat) (g : DTag) : Dev :=
  let d := d.advanceTo (g.since + g.cto)
  let d := (d.setTags (d.dma.tags.insert tag { g with timedOut := true })).holdTag tag (g.since + 2 * g.cto)
  d.ctoCount (d.chOwner g.ch) 128 tag

section
variable {d : Dev} {tag : Nat} {g : DTag} (hg : d.dma.tags.find tag = some g) (htime : g.timedOut = false)
include hg htime

theorem Dev.ctoDma_of_tag :
    d.ctoDma tag =
      let e := d.tagTimesOut tag g
      if g.orphan ∨ e.retired (some (domChan g.ch)) g.gen then e
      else (match e.chOwner g.ch with
        | some st => e.aer st 1 14 none
        | none => e).chReadFail tag g := by
  simp only [Dev.ctoDma, hg]
  exact if_neg (ne_true_of_eq_false htime)

/-- Of a request that its channel has given up, or of an old generation, nothing more comes. -/
theorem Dev.ctoDma_forgotten (h : g.orphan = true ∨ (d.tagTimesOut tag g).retired (some (domChan g.ch)) g.gen = true) :
    d.ctoDma tag = d.tagTimesOut tag g :=
  (Dev.ctoDma_of_tag hg htime).trans (if_pos h)

theorem Dev.ctoDma_fails {st : Nat} (hlost : g.orphan = false) (hgen : (d.tagTimesOut tag g).retired (some (domChan g.ch)) g.gen = false)
    (hst : (d.tagTimesOut tag g).chOwner g.ch = some st) : d.ctoDma tag = ((d.tagTimesOut tag g).aer st 1 14 none).chReadFail tag g := by
  rw [Dev.ctoDma_of_tag hg htime]
  dsimp only
  rw [if_neg (not_or.2 ⟨ne_true_of_eq_false hlost, ne_true_of_eq_false hgen⟩), hst]

end

section
variable (s : State) (id : Nat)

theorem exec_completionTimeout_dma : exec (.completionTimeout 0 id) s = .next (s.settled (s.dev.ctoDma id)) := rfl

theorem exec_completionTimeout_m2s : exec (.completionTimeout 1 id) s = .next (s.settled (s.dev.ctoM2s id)) := rfl

theorem exec_completionTimeout_loft : exec (.completionTimeout 2 id) s = .next (s.settled (s.dev.ctoLoft id)) := rfl

theorem exec_completionTimeout_core : exec (.completionTimeout 4 id) s = .next (s.settled (s.dev.ctoCount none 130 0)) := rfl

variable {s id}

theorem exec_completionTimeout_decoder (hid : id < 16) (hup : s.dev.idecState id = 2) :
    exec (.completionTimeout 3 id) s = .next (s.settled ((s.dev.ctoCount none 130 id).idecFail id 5)) := by
  change execCompletionTimeout 3 id s = _
  exact State.eff_of_eq ((if_pos hid).trans (if_pos hup))

/-- The command that was forwarded returns Internal Error (log entry 10). -/
def Dev.fmTimesOut (d : Dev) (id p op : Nat) : Dev :=
  let d := (d.setCxp { d.cxp with fmBusy := none, tunnel := [] }).ctoCount none 130 id
  ((d.wn R.CXP_FMAPI_LAST 0 (op % 65536 + 65536 * 4)).cxpEvent 9 0 0 0 []).emit (.msg p 7 [op, 4])

theorem exec_completionTimeout_forwarded {p op : Nat} (hid : 16 ≤ id) (hbusy : s.dev.cxp.fmBusy = some (p, op)) :
    exec (.completionTimeout 3 id) s = .next (s.settled (s.dev.fmTimesOut id p op)) := by
  change execCompletionTimeout 3 id s = _
  refine State.eff_of_eq ((if_neg (Nat.not_lt.2 hid)).trans ?_)
  simp only [hbusy]
  rfl

end

/-- A held tag's time comes. -/
def Dev.tagDue (d : Dev) (e : Nat × Nat) : Dev :=
  let d := d.advanceTo e.2
  { d with saf := { d.saf with tagsHeld := d.saf.tagsHeld.erase e } }

/-- A DMA tag that has timed out is freed. -/
def Dev.dmaTagDue (d : Dev) (code : Nat) : Dev :=
  match d.dma.tags.find code with
  | some g => if g.timedOut then d.freeDmaTag code else d
  | none => d

theorem exec_tagRelease_held {s : State} {code : Nat} {e : Nat × Nat} (h : s.dev.saf.tagsHeld.find? (fun e => e.1 == code) = some e) :
    exec (.tagRelease code) s = .next (s.settled (
      let d := s.dev.tagDue e
      if code < 4096 then d.dmaTagDue code else if code < 8192 then d.brgPump else d)) := by
  change execTagRelease code s = _
  refine State.eff_of_eq ?_
  simp only [h]
  rfl

theorem Dev.dmaTagDue_of_timedOut {d : Dev} {code : Nat} {g : DTag} (hg : d.dma.tags.find code = some g) (ht : g.timedOut = true) :
    d.dmaTagDue code = d.freeDmaTag code := by
  simp only [Dev.dmaTagDue, hg, ht, if_true]

/-- Settles O46: the passes, the oldest disagreement, the injected kinds, the monitors, the timeouts by who waits, and the held tags. -/
theorem monitorsComplete : Obligations.MonitorsComplete := by
  refine fun s => ⟨fun hoff seu single => exec_scrubPass_off seu single hoff, fun hoff k => exec_selfTestPass_off k hoff, ?scrub, ?targeted,
    ?selfTest, fun a => ⟨fun hmay => ?go, exec_forceFailsafe_made⟩, exec_lockstepMismatch s, exec_coreClockLoss s,
    fun c t => exec_tempThreshold_cluster s t, fun id => ?timeout, fun code e he => ?release⟩
  case scrub =>
    rintro seu single ms rfl hms hclock
    exact exec_scrubPass_due seu single (not_or.2 ⟨hms, ne_false_of_eq_true hclock⟩)
  case targeted =>
    intro x rest hx
    have hexec := exec_targetedScrub_oldest hx
    exact ⟨fun hdirty => State.next_settled_congr hexec (if_pos hdirty),
      fun hclean => State.next_settled_congr hexec (if_neg (ne_true_of_eq_false hclean))⟩
  case selfTest =>
    rintro ms rfl hms hclock
    have hrun : ¬ s.dev.PassOff (s.dev.rf R.SAF_ST_CFG 0 15 0) := not_or.2 ⟨hms, ne_false_of_eq_true hclock⟩
    exact ⟨exec_selfTestPass_good hrun, exec_selfTestPass_silent hrun⟩
  case go =>
    have hexec := exec_go_made hmay
    refine ⟨fun hnone => ?_, fun hon h1 h5 => ?_, fun hon h6 => ?_, fun hon h7 h3 => ?_, fun hon h7 h4 h3 => ?_⟩
    · exact State.next_settled_congr hexec (Dev.inject_none hnone)
    · exact State.next_settled_congr hexec (Dev.inject_waits hon h1 h5)
    · exact State.next_settled_congr hexec (Dev.inject_lockstep hon h6)
    · exact State.next_settled_congr hexec ((Dev.inject_flip hon h7).trans (if_pos h3))
    · exact State.next_settled_congr hexec ((Dev.inject_flip hon h7).trans ((if_neg h3).trans (if_pos h4)))
  case timeout =>
    have hdma := exec_completionTimeout_dma s id
    refine ⟨fun g hg htime hlost => ?_, fun g hg htime hlost => ⟨fun hgen => ?_, fun hgen st hst => ?_⟩, exec_completionTimeout_m2s s id,
      exec_completionTimeout_loft s id, exec_completionTimeout_decoder, fun p op => exec_completionTimeout_forwarded,
      exec_completionTimeout_core s id⟩
    · exact State.next_settled_congr hdma (Dev.ctoDma_forgotten hg htime (.inl hlost))
    · exact State.next_settled_congr hdma (Dev.ctoDma_forgotten hg htime (.inr hgen))
    · exact State.next_settled_congr hdma (Dev.ctoDma_fails hg htime hlost hgen hst)
  case release =>
    have hexec := exec_tagRelease_held he
    refine ⟨fun hlo hhi => ?_, fun hlo => ?_, fun g hlt hg ht => ?_⟩
    · exact State.next_settled_congr hexec ((if_neg (Nat.not_lt.2 hlo)).trans (if_pos hhi))
    · exact State.next_settled_congr hexec ((if_neg (by omega)).trans (if_neg (Nat.not_lt.2 hlo)))
    · exact State.next_settled_congr hexec ((if_pos hlt).trans (Dev.dmaTagDue_of_timedOut hg ht))

end Sys2Proof.Machine
end

section
/-! Family 16_host_functions: resets, mailboxes, keys and SPDM messages of functions (O49). -/

namespace Sys2Proof.Machine

/-! ### Resets (R414, R415, R417) -/

/-- Bus Master Enable of a function is cleared: at once of the first two, at a commit of the group of a downstream one. -/
def Dev.bmeClear (d : Dev) (st fn : Nat) : Dev :=
  let w := setFld (d.cfg st fn 1) 2 2 0
  if fn = 1 then (d.setCfg st 1 1 w).advanceChans st
  else if fn = 2 then d.setCfg st 2 1 w
  else d.commitFields st [⟨st, 0x500, 0x1001, 256 * st + fn, 4 + 65536 * 4, 0⟩]

section
variable {s : State} {st fn : Nat} (hst : st < 64)
include hst

theorem exec_functionLevelReset_stable (fn : Nat) : exec (.functionLevelReset st fn) s = .next (s.settled (s.dev.flr st fn)) := by
  change execFunctionLevelReset st fn s = _
  exact State.eff_of_eq (if_pos hst)

theorem exec_busMasterEnableClear_set (hup : (s.dev.upPort st).isSome = true) (hfn : s.dev.hasFn st fn = true)
    (hbme : s.dev.cmdBit st fn 2 = true) : exec (.busMasterEnableClear st fn) s = .next (s.settled (s.dev.bmeClear st fn)) := by
  have hset : ¬ (64 ≤ st ∨ (s.dev.upPort st).isNone = true ∨ (!s.dev.hasFn st fn) = true ∨ (!s.dev.cmdBit st fn 2) = true) := by
    simp [hst, hfn, hbme, Option.isSome_iff_ne_none.1 hup]
  change execBusMasterEnableClear st fn s = _
  exact State.eff_of_eq (if_neg hset)

omit hst in
theorem exec_busMasterEnableClear_clear (h : s.dev.upPort st = none ∨ s.dev.hasFn st fn = false ∨ s.dev.cmdBit st fn 2 = false) :
    exec (.busMasterEnableClear st fn) s = .next (s.settled s.dev) := by
  have hclear : 64 ≤ st ∨ (s.dev.upPort st).isNone = true ∨ (!s.dev.hasFn st fn) = true ∨ (!s.dev.cmdBit st fn 2) = true :=
    .inr (by simpa using h)
  change execBusMasterEnableClear st fn s = _
  exact State.eff_of_eq (if_pos hclear)

theorem exec_secondaryBusReset_slot (on : Bool) (hfn : 8 ≤ fn) (hslot : (s.dev.slotAt st fn).isSome = true) :
    exec (.secondaryBusReset st fn on) s = .next (s.settled
      ((s.dev.setCfg st fn 15 (setFld (s.dev.cfg st fn 15) 22 22 (b2n on))).sbrSet st fn on)) := by
  have hthere : ¬ (64 ≤ st ∨ fn < 8 ∨ (s.dev.slotAt st fn).isNone = true) := by
    simp [hst, hfn, Option.isSome_iff_ne_none.1 hslot]
  change execSecondaryBusReset st fn on s = _
  exact State.eff_of_eq (if_neg hthere)

variable {p : Nat} (hp : s.dev.portOfFn st fn = some p)
include hp

theorem exec_linkDisable_owned (on : Bool) (hfn : 8 ≤ fn) (hmode : s.dev.ownMode p = 1) :
    exec (.linkDisable st fn on) s = .next (s.settled
      ((s.dev.setCfg st fn 24 (setFld (s.dev.cfg st fn 24) 4 4 (b2n on))).linkDisSet st fn on)) := by
  change execLinkDisable st fn on s = _
  refine State.eff_of_eq ?_
  simp only [hp]
  exact if_neg (by simp [hst, hfn, hmode])

omit hst in
theorem exec_linkDisable_shared (on : Bool) (hmode : s.dev.ownMode p ≠ 1) :
    exec (.linkDisable st fn on) s = .next (s.settled s.dev) := by
  change execLinkDisable st fn on s = _
  refine State.eff_of_eq ?_
  simp only [hp]
  exact if_pos (.inr (.inr hmode))

end

section
variable {s : State}

theorem exec_hotResetReceived_up {p st : Nat} (howner : s.dev.owner p = some st) (hup : s.dev.isUp p = true) (hdl : s.dev.dlUp p = true) :
    exec (.hotResetReceived p) s = .next (s.settled ((s.dev.dlDown p 8 false true).vhReset st true)) := by
  change execHotResetReceived p s = _
  refine State.eff_of_eq ?_
  simp only [howner]
  exact if_neg (or_ne_true (not_ne_true hup) (not_ne_true hdl))

theorem exec_vhReset_made {a : Acc} (h : s.dev.may a R.PRT5_FN_CTRL true = true) :
    exec (.vhReset a) s = .next (s.settled (s.dev.vhReset (s.dev.arn (accIdx a) R.PRT5_FN_IDX % 64) false)) :=
  State.eff_guardW_may h

/-- A function is busy no longer; of a hierarchy this shows in FN_CTRL. -/
def Dev.fnReady (d : Dev) (st which : Nat) : Dev :=
  let d := { d with fn := { d.fn with readyAt := d.fn.readyAt.erase (4 * st + which) } }
  if which = 0 then d.wr R.PRT5_FN_CTRL st 0 else d

theorem exec_functionReady_limited {st which : Nat} (hst : st < 64) (hwhich : which < 3)
    (hlimit : s.dev.fn.readyAt.getD (4 * st + which) 0 ≠ 2 ^ 64) :
    exec (.functionReady st which) s = .next (s.settled (s.dev.fnReady st which)) := by
  change execFunctionReady st which s = _
  exact State.eff_of_eq (if_neg (by omega))

end

/-! ### DOE mailboxes (R411) -/

/-- An object at a free mailbox: an error while P130 is contained, an answer while firmware runs, else it waits for the cores. -/
def Dev.doeTake (d : Dev) (st kind : Nat) : Dev :=
  if d.portContained 130 then d.emit (.msg 2 255 [st])
  else if d.fwRuns then d.doeAnswer st kind
  else { d with fn := { d.fn with doe := d.fn.doe ++ [st] } }

section
variable {s : State} {st : Nat} (hst : st < 64) (hup : (s.dev.upPort st).isSome = true)
include hst hup

theorem exec_doeAbort_stable : exec (.doeAbort st) s = .next (s.settled (s.dev.doeAbort st)) := by
  change execDoeAbort st s = _
  exact State.eff_of_eq (if_pos ⟨hst, hup⟩)

theorem exec_doeObject_free {kind len : Nat} (hlen : len ≤ 256) (hkind : kind < 3) (hfree : s.dev.fn.doe.contains st = false) :
    exec (.doeObject st kind len) s = .next (s.settled (s.dev.doeTake st kind)) := by
  have htaken : ¬ (64 ≤ st ∨ (s.dev.upPort st).isNone = true ∨ 256 < len ∨ 3 ≤ kind ∨ s.dev.fn.doe.contains st = true) := by
    rw [hfree]
    simp [hst, hlen, hkind, Option.isSome_iff_ne_none.1 hup]
  change execDoeObject st kind len s = _
  exact State.eff_of_eq (if_neg htaken)

end

/-! ### Key management (R413) -/

/-- The first register of a key slot. -/
def keyBase (stream dir set sub : Nat) : Nat := 0x800 + 0x40 * (12 * (stream % 2) + 6 * (dir % 2) + 3 * (set % 2) + sub % 3)

/-- Key, initial IV and VALID are written to a key slot of a port. -/
def Dev.keyWrite (d : Dev) (p base : Nat) (words : List Word) : Dev :=
  ((List.range 11).foldl (fun d k => d.wr ⟨0x203, base + 4 * k⟩ p (words.getD k 0)) d).wr ⟨0x203, base + 0x2c⟩ p 1

/-- The same of a port of another member, through the member select. -/
def Dev.keyCarry (d : Dev) (m p base : Nat) (words : List Word) : Dev :=
  let d := d.carry (.core true) m 0x2030c0 (some (word p))
  let d := (List.range 11).foldl (fun d k => d.carry (.core true) m (0x203000 + (base + 4 * k)) (some (words.getD k 0))) d
  d.carry (.core true) m (0x203000 + (base + 0x2c)) (some 1)

/-- A key set of a stream and direction comes into use. -/
def Dev.keyGo (d : Dev) (p stream dir set : Nat) : Dev :=
  let d := d.wf R.PRT3_IDE_STATUS p (stream % 2) (stream % 2) 1
  let d := d.wf R.PRT3_IDE_STATUS p (3 + dir % 2) (3 + dir % 2) (set % 2)
  if d.isCxl p then (d.wf R.PRT3_IDE_STATUS p 2 2 1).wf R.CXP_PORT_CXL_STATUS (0x100 + p) 10 10 1 else d

/-- The use of a key set ends. -/
def Dev.keyStop (d : Dev) (p stream dir set : Nat) : Dev :=
  let d := d.wf R.PRT3_IDE_STATUS p (stream % 2) (stream % 2) 0
  let d := (kmSlots (stream % 2) (dir % 2) (set % 2)).foldl (fun d k => d.wr ⟨0x203, 0x82c + 0x40 * k⟩ p 0) d
  if d.rf R.PRT3_IDE_STATUS p 1 0 = 0 ∧ d.isCxl p then
    (d.wf R.PRT3_IDE_STATUS p 2 2 0).wf R.CXP_PORT_CXL_STATUS (0x100 + p) 10 10 0
  else d

section
variable {s : State} (hfw : s.dev.fwRuns = true) {st i : Nat} (stream dir set : Nat)
include hfw

section
variable {p : Nat} (hp : s.dev.kmOk st i = some p)
include hp

theorem exec_keyProg_here (sub : Nat) (words : List Word) :
    exec (.keyProg st i stream dir set sub words) s =
      .next (s.settled ((s.dev.keyWrite p (keyBase stream dir set sub) words).emit (.msg 2 16 [st, i, 0]))) := by
  change execKeyProg st i stream dir set sub words s = _
  refine State.eff_of_eq ((if_neg (not_ne_true hfw)).trans ?_)
  simp only [hp, List.foldl_append, List.foldl_map]
  rfl

theorem exec_kSetGo_here (hflit : s.dev.rb R.PRT0_LINK_STATUS p 13 = true) :
    exec (.kSetGo st i stream dir set) s = .next (s.settled ((s.dev.keyGo p stream dir set).emit (.msg 2 17 [st, i, 0]))) := by
  change execKSetGo st i stream dir set s = _
  refine State.eff_of_eq ((if_neg (not_ne_true hfw)).trans ?_)
  simp only [hp, Option.filter_some, hflit, if_true]
  rfl

theorem exec_kSetStop_here :
    exec (.kSetStop st i stream dir set) s = .next (s.settled ((s.dev.keyStop p stream dir set).emit (.msg 2 18 [st, i, 0]))) := by
  change execKSetStop st i stream dir set s = _
  refine State.eff_of_eq ((if_neg (not_ne_true hfw)).trans ?_)
  simp only [hp]
  rfl

end

theorem exec_kSetGo_elsewhere (h : ∀ p, s.dev.kmOk st i = some p → s.dev.rb R.PRT0_LINK_STATUS p 13 = false) :
    exec (.kSetGo st i stream dir set) s =
      .next (s.settled ((s.dev.kmFar st i).2.emit (.msg 2 17 [st, i, b2n (s.dev.kmFar st i).1.isNone]))) := by
  have hnone : (s.dev.kmOk st i).filter (fun p => s.dev.rb R.PRT0_LINK_STATUS p 13) = none :=
    Option.filter_eq_none_iff.2 fun p hp => ne_true_of_eq_false (h p hp)
  change execKSetGo st i stream dir set s = _
  refine State.eff_of_eq ((if_neg (not_ne_true hfw)).trans ?_)
  simp only [hnone, Dev.kmAnswer, Option.not_isSome]

section
variable (hnone : s.dev.kmOk st i = none)
include hnone

theorem exec_kSetStop_elsewhere :
    exec (.kSetStop st i stream dir set) s =
      .next (s.settled ((s.dev.kmFar st i).2.emit (.msg 2 18 [st, i, b2n (s.dev.kmFar st i).1.isNone]))) := by
  change execKSetStop st i stream dir set s = _
  refine State.eff_of_eq ((if_neg (not_ne_true hfw)).trans ?_)
  simp only [hnone, Dev.kmAnswer, Option.not_isSome]

theorem exec_keyProg_refused (sub : Nat) (words : List Word) (hfar : (s.dev.kmFar st i).1 = none) :
    exec (.keyProg st i stream dir set sub words) s = .next (s.settled ((s.dev.kmFar st i).2.emit (.msg 2 16 [st, i, 1]))) := by
  change execKeyProg st i stream dir set sub words s = _
  refine State.eff_of_eq ((if_neg (not_ne_true hfw)).trans ?_)
  rcases hkm : s.dev.kmFar st i with ⟨far, d⟩
  obtain rfl : far = none := (congrArg Prod.fst hkm).symm.trans hfar
  simp only [hnone]
  rfl

theorem exec_keyProg_far (sub : Nat) (words : List Word) {m p : Nat} (hfar : (s.dev.kmFar st i).1 = some (m, p)) :
    exec (.keyProg st i stream dir set sub words) s =
      .next (s.settled (((s.dev.kmFar st i).2.keyCarry m p (keyBase stream dir set sub) words).emit (.msg 2 16 [st, i, 0]))) := by
  change execKeyProg st i stream dir set sub words s = _
  refine State.eff_of_eq ((if_neg (not_ne_true hfw)).trans ?_)
  rcases hkm : s.dev.kmFar st i with ⟨far, d⟩
  obtain rfl : far = some (m, p) := (congrArg Prod.fst hkm).symm.trans hfar
  simp only [hnone, List.foldl_append, List.foldl_map]
  rfl

end

end

/-! ### SPDM sessions (R412, R480) -/

/-- Where the sessions of a path count: its stable's mailbox, or, over MCTP, the device alone. -/
def sessKey (path st : Nat) : Nat := if path = 2 then st else 64

/-- The open sessions of a path are n. -/
def Dev.sessPut (d : Dev) (path st n : Nat) : Dev :=
  { d with fn := { d.fn with sess := Tbl.put d.fn.sess (sessKey path st) 0 n } }

/-- No further session may be opened on a path. -/
def Dev.SessFull (d : Dev) (path st : Nat) : Prop :=
  64 ≤ d.sessions ∨ (sessKey path st < 64 ∧ 4 ≤ d.fn.sess.getD (sessKey path st) 0)

/-- A message of a path that is served: it opens a session, where one may be opened, or ends one, or neither. -/
def Dev.spdmTake (d : Dev) (path st code : Nat) (opens ends : Bool) : Dev :=
  let n := d.fn.sess.getD (sessKey path st) 0
  let full := decide (64 ≤ d.sessions) || (decide (sessKey path st < 64) && decide (4 ≤ n))
  if opens ∧ full then d.emit (.msg path 5 [st, code, 1])
  else (if opens then d.sessPut path st (n + 1) else if ends then d.sessPut path st (n - 1) else d).emit (.msg path 5 [st, code, 0])

section
variable {d : Dev} {path st : Nat}

theorem Dev.sessFull_iff :
    (decide (64 ≤ d.sessions) || (decide (sessKey path st < 64) && decide (4 ≤ d.fn.sess.getD (sessKey path st) 0))) = true ↔
      d.SessFull path st := by
  simp [Dev.SessFull]

theorem Dev.spdmTake_full (code : Nat) (ends : Bool) (h : d.SessFull path st) :
    d.spdmTake path st code true ends = d.emit (.msg path 5 [st, code, 1]) :=
  if_pos ⟨rfl, Dev.sessFull_iff.2 h⟩

theorem Dev.spdmTake_opens (code : Nat) (ends : Bool) (h : ¬ d.SessFull path st) :
    d.spdmTake path st code true ends =
      (d.sessPut path st (d.fn.sess.getD (sessKey path st) 0 + 1)).emit (.msg path 5 [st, code, 0]) :=
  if_neg fun hfull => h (Dev.sessFull_iff.1 hfull.2)

theorem Dev.spdmTake_other (code : Nat) (ends : Bool) :
    d.spdmTake path st code false ends =
      (if ends then d.sessPut path st (d.fn.sess.getD (sessKey path st) 0 - 1) else d).emit (.msg path 5 [st, code, 0]) := by
  rw [Dev.spdmTake]
  exact if_neg fun hopen => Bool.false_ne_true hopen.1

end

section
variable {s : State} {path st : Nat} (code : Nat) (opens ends : Bool)

theorem exec_spdmMessage_served (hfw : s.dev.fwRuns = true) (hpath : path = 2 → st < 64 ∧ (s.dev.upPort st).isSome = true) :
    exec (.spdmMessage path st code opens ends) s = .next (s.settled (s.dev.spdmTake path st code opens ends)) := by
  have hserved : ¬ (path = 2 ∧ (64 ≤ st ∨ (s.dev.upPort st).isNone = true)) := by
    rintro ⟨h2, hnone⟩
    obtain ⟨hst, hup⟩ := hpath h2
    exact hnone.elim (Nat.not_le.2 hst) (by simp [Option.isSome_iff_ne_none.1 hup])
  change execSpdmMessage path st code opens ends s = _
  exact State.eff_of_eq ((if_neg (not_ne_true hfw)).trans (if_neg hserved))

/-- Without firmware a message over MCTP is counted as discarded, and one at a mailbox is left. -/
theorem exec_spdmMessage_off (hfw : s.dev.fwRuns = false) :
    exec (.spdmMessage path st code opens ends) s = .next (s.settled (if path < 2 then s.dev.mctpErr else s.dev)) := by
  change execSpdmMessage path st code opens ends s = _
  exact State.eff_of_eq (if_pos ((Bool.not_eq_true' _).mpr hfw))

end

section
variable {s : State} (hfw : s.dev.fwRuns = false) (st i stream dir set : Nat)
include hfw

theorem exec_keyProg_off (sub : Nat) (words : List Word) : exec (.keyProg st i stream dir set sub words) s = .next (s.settled s.dev) := by
  change execKeyProg st i stream dir set sub words s = _
  exact State.eff_of_eq (if_pos ((Bool.not_eq_true' _).mpr hfw))

theorem exec_kSetGo_off : exec (.kSetGo st i stream dir set) s = .next (s.settled s.dev) := by
  change execKSetGo st i stream dir set s = _
  exact State.eff_of_eq (if_pos ((Bool.not_eq_true' _).mpr hfw))

theorem exec_kSetStop_off : exec (.kSetStop st i stream dir set) s = .next (s.settled s.dev) := by
  change execKSetStop st i stream dir set s = _
  exact State.eff_of_eq (if_pos ((Bool.not_eq_true' _).mpr hfw))

end

/-- Settles O49: the resets of functions and hierarchies, the mailboxes, and, with firmware and without, keys and sessions. -/
theorem functionCommandsComplete : Obligations.FunctionCommandsComplete := by
  refine fun s => ⟨fun st fn hst => ⟨exec_functionLevelReset_stable hst fn, ?bme, exec_busMasterEnableClear_clear, ?sbr, ?link⟩,
    fun p st => exec_hotResetReceived_up, fun a => exec_vhReset_made, fun st which => exec_functionReady_limited,
    fun st hst hup => ⟨exec_doeAbort_stable hst hup, ?doe⟩,
    fun hfw => ⟨fun st i stream dir set sub words => ⟨fun hnone => ⟨?_, ?_, ?_⟩, ?_⟩, ?here, ?spdm⟩, fun hfw => ⟨?keysOff, ?spdmOff⟩⟩
  case bme =>
    intro hup hfn hbme
    have hexec := exec_busMasterEnableClear_set hst hup hfn hbme
    exact ⟨fun h1 => State.next_settled_congr hexec (if_pos h1),
      fun h2 => State.next_settled_congr hexec ((if_neg (by omega)).trans (if_pos h2)),
      fun h1 h2 => State.next_settled_congr hexec ((if_neg h1).trans (if_neg h2))⟩
  case sbr => exact fun on => exec_secondaryBusReset_slot hst on
  case link => exact fun on p hfn hp => ⟨exec_linkDisable_owned hst hp on hfn, exec_linkDisable_shared hp on⟩
  case doe =>
    intro kind len hlen hkind hfree
    have hexec := exec_doeObject_free hst hup hlen hkind hfree
    exact ⟨fun hcont => State.next_settled_congr hexec (if_pos hcont),
      fun hcont hfw => State.next_settled_congr hexec ((if_neg (ne_true_of_eq_false hcont)).trans (if_pos hfw)),
      fun hcont hfw => State.next_settled_congr hexec ((if_neg (ne_true_of_eq_false hcont)).trans (if_neg (ne_true_of_eq_false hfw)))⟩
  · exact exec_keyProg_refused hfw stream dir set hnone sub words
  · exact fun m p => exec_keyProg_far hfw stream dir set hnone sub words
  · exact exec_kSetStop_elsewhere hfw stream dir set hnone
  · exact exec_kSetGo_elsewhere hfw stream dir set
  case here =>
    exact fun st i stream dir set sub p words hp => ⟨exec_keyProg_here hfw stream dir set hp sub words,
      exec_kSetGo_here hfw stream dir set hp, exec_kSetStop_here hfw stream dir set hp⟩
  case spdm =>
    intro path st code opens ends hpath
    have hexec := exec_spdmMessage_served code opens ends hfw hpath
    refine ⟨?_, ?_, ?_⟩
    · rintro rfl hfull
      exact State.next_settled_congr hexec (Dev.spdmTake_full code ends hfull)
    · rintro rfl hroom
      exact State.next_settled_congr hexec (Dev.spdmTake_opens code ends hroom)
    · rintro rfl
      exact State.next_settled_congr hexec (Dev.spdmTake_other code ends)
  case keysOff =>
    exact fun st i stream dir set sub words => ⟨exec_keyProg_off hfw st i stream dir set sub words, exec_kSetGo_off hfw st i stream dir set,
      exec_kSetStop_off hfw st i stream dir set⟩
  case spdmOff =>
    intro path st code opens ends
    have hexec := exec_spdmMessage_off (path := path) (st := st) code opens ends hfw
    exact ⟨fun hmctp => State.next_settled_congr hexec (if_pos hmctp),
      fun hdoe => State.next_settled_congr hexec (if_neg (Nat.not_lt.2 hdoe))⟩

end Sys2Proof.Machine
end

section
/-! Family 18_power_states: sleep entry, wake and exit, and the supplies (O52). -/

namespace Sys2Proof.Machine

/-! ### SLEEP_CTRL (R456, R457, R462) -/

section
variable (d : Dev)

theorem Dev.sleepCtrlW_reqSl1 : d.sleepCtrlW 1 = if d.entering then d else d.reqSleep 1 := rfl

theorem Dev.sleepCtrlW_reqSl2 : d.sleepCtrlW 2 = if d.entering then d else d.reqSleep 2 := rfl

theorem Dev.sleepCtrlW_cancel : d.sleepCtrlW 4 = if d.entering then d.sleepAbort 1 else d := by
  have hbit : d.sleepCtrlW 4 =
      let e := if d.entering then d.sleepAbort 1 else d
      if d.entering then e else e := rfl
  exact hbit.trans (ite_self _)

theorem Dev.sleepCtrlW_padRelease : d.sleepCtrlW 8 = d.padRelease := by
  have hbit : d.sleepCtrlW 8 = if d.padRelease.entering then d.padRelease else d.padRelease := rfl
  exact hbit.trans (ite_self _)

/-- A refused request is recorded and raised. -/
def Dev.sleepRefuse (code : Nat) : Dev := (d.wf R.PWR_SLEEP_STATUS 0 11 8 code).raise 0x024

/-- A fabric port is enabled. -/
def Dev.fabricEnabled : Bool := d.physPorts.any fun p => d.isFabric p && d.portEn p

/-- Entry begins: calibration stops, and a wake time that has passed ends it at once. -/
def Dev.sleepBegin (n : Nat) : Dev :=
  let d := Dev.wf { d with pwr := { d.pwr with entry := n, entryAt := d.now } } R.PWR_SLEEP_STATUS 0 2 0 1
  let d := d.physPorts.foldl (fun d p => d.procStop p 3) d
  if d.wakeEn 4 ∧ d.wakeTime ≠ 0 ∧ d.wakeTime ≤ d.now then d.sleepAbort 3 else d

variable {d} (n : Nat) (hentry : d.pwr.entry = 0)
include hentry

theorem Dev.reqSleep_of_awake :
    d.reqSleep n = if d.failsafe then d.sleepRefuse 6 else if d.fabricEnabled then d.sleepRefuse 5 else d.sleepBegin n :=
  if_neg (not_not_intro hentry)

theorem Dev.reqSleep_failsafe (hsafe : d.failsafe = true) : d.reqSleep n = d.sleepRefuse 6 :=
  (Dev.reqSleep_of_awake n hentry).trans (if_pos hsafe)

variable (hsafe : d.failsafe = false)
include hsafe

theorem Dev.reqSleep_fabric (hfab : d.fabricEnabled = true) : d.reqSleep n = d.sleepRefuse 5 :=
  (Dev.reqSleep_of_awake n hentry).trans ((if_neg (ne_true_of_eq_false hsafe)).trans (if_pos hfab))

theorem Dev.reqSleep_begins (hfab : d.fabricEnabled = false) : d.reqSleep n = d.sleepBegin n :=
  (Dev.reqSleep_of_awake n hentry).trans ((if_neg (ne_true_of_eq_false hsafe)).trans (if_neg (ne_true_of_eq_false hfab)))

end

section
variable {s : State} {a : Acc} (h : s.dev.may a R.PWR_SLEEP_CTRL true = true)
include h

theorem exec_reqSl1_made : exec (.reqSl1 a) s = .next (s.settled (if s.dev.entering then s.dev else s.dev.reqSleep 1)) :=
  State.next_settled_congr (State.eff_guardW_may h) s.dev.sleepCtrlW_reqSl1

theorem exec_reqSl2_made : exec (.reqSl2 a) s = .next (s.settled (if s.dev.entering then s.dev else s.dev.reqSleep 2)) :=
  State.next_settled_congr (State.eff_guardW_may h) s.dev.sleepCtrlW_reqSl2

theorem exec_sleepCancel_made : exec (.sleepCancel a) s = .next (s.settled (if s.dev.entering then s.dev.sleepAbort 1 else s.dev)) :=
  State.next_settled_congr (State.eff_guardW_may h) s.dev.sleepCtrlW_cancel

theorem exec_padRelease_made : exec (.padRelease a) s = .next (s.settled s.dev.padRelease) :=
  State.next_settled_congr (State.eff_guardW_may h) s.dev.sleepCtrlW_padRelease

end

/-- The pads are free, and the clamps end. -/
def Dev.padsFree (d : Dev) : Dev :=
  let d := d.wf R.PWR_SLEEP_STATUS 0 4 3 0
  { d with pwr := { d.pwr with clamped := false }, mgt := { d.mgt with padsHeld := false } }

theorem Dev.padRelease_active {d : Dev} (h : d.rf R.PWR_SLEEP_STATUS 0 2 0 = 0) : d.padRelease = d.padsFree := if_neg (not_not_intro h)

theorem Dev.padRelease_asleep {d : Dev} (h : d.rf R.PWR_SLEEP_STATUS 0 2 0 ≠ 0) : d.padRelease = d := if_pos h

/-! ### The end of entry (R457, R458) -/

/-- The timer is to wake the device by the time at which it would be asleep. -/
def Dev.TimerWakes (d : Dev) : Prop := d.wakeEn 4 = true ∧ d.wakeTime ≠ 0 ∧ d.wakeTime ≤ max d.now d.idleEnd

/-- The device is asleep, at the end of the idle interval. -/
def Dev.asleep (d : Dev) : Dev :=
  let d := d.advanceTo d.idleEnd
  let d := (d.wr64 R.PWR_SLEEP_T_LO R.PWR_SLEEP_T_HI 0 d.now).raise 0x022
  let d := d.wf R.PWR_SLEEP_STATUS 0 31 16 (d.rf R.PWR_SLEEP_STATUS 0 31 16 + 1)
  let d := d.wf R.PWR_SLEEP_STATUS 0 2 0 2
  if d.pwr.entry = 2 then d.sl2Enter else d

section
variable {s : State} (hent : s.dev.entering = true)
include hent

theorem exec_sleepEntryTimeout_entering :
    exec .sleepEntryTimeout s = .next (s.settled ((s.dev.advanceTo s.dev.entryLimit).sleepAbort 2)) := by
  change execSleepEntryTimeout s = _
  exact State.eff_of_eq (if_pos hent)

variable (hready : s.dev.sleepReady = true) (hlimit : max s.dev.now s.dev.idleEnd ≤ s.dev.entryLimit)
include hready hlimit

/-- Entry whose conditions hold, within its time, is not left as it is. -/
theorem Dev.entry_in_time : (!s.dev.entering || !s.dev.sleepReady || decide (s.dev.entryLimit < max s.dev.now s.dev.idleEnd)) ≠ true :=
  or_ne_true (or_ne_true (not_ne_true hent) (not_ne_true hready)) (by simpa using hlimit)

theorem exec_sleepEntryComplete_timer (htimer : s.dev.TimerWakes) :
    exec .sleepEntryComplete s = .next (s.settled ((s.dev.advanceTo s.dev.wakeTime).sleepAbort 3)) := by
  change execSleepEntryComplete s = _
  exact State.eff_of_eq ((if_neg (Dev.entry_in_time hent hready hlimit)).trans (if_pos htimer))

theorem exec_sleepEntryComplete_asleep (htimer : ¬ s.dev.TimerWakes) : exec .sleepEntryComplete s = .next (s.settled s.dev.asleep) := by
  change execSleepEntryComplete s = _
  exact State.eff_of_eq ((if_neg (Dev.entry_in_time hent hready hlimit)).trans (if_neg htimer))

end

/-! ### Wake and exit (R460, R461) -/

/-- What an enabled wake source needs to fire: CYC a pin of a domain that is on and wakes, TIMER a wake time, LINK a link in L1 of a device
that is not off. -/
structure Dev.WakeFires (d : Dev) (src arg : Nat) : Prop where
  first : 1 ≤ src
  last : src ≤ 5
  enabled : d.wakeEn src = true
  cyc : src = 3 → arg < 8 ∧ d.domOn arg = true ∧ d.domCtl arg 2 1 = 1 ∧ d.rb R.CYC_DOM_CTRL arg 28 = true
  timer : src = 4 → d.wakeTime ≠ 0
  link : src = 5 → d.pwr.off = false ∧ d.lstate arg = 7

/-- What LINK does beyond waking: the link leaves L1. -/
def Dev.wakeLink (d : Dev) (src arg : Nat) : Dev := if src = 5 then d.l1Leave arg else d

/-- The exit from sleep begins, and with it, where the device was off, the regulators. -/
def Dev.exitBegin (d : Dev) (src arg : Nat) : Dev :=
  let d := (d.wf R.PWR_SLEEP_STATUS 0 2 0 3).wf R.PWR_SLEEP_STATUS 0 7 5 src
  (if d.pwr.off then d.enables true true else d).wakeLink src arg

/-- A firing source ends the entry, or begins the exit. -/
theorem Dev.wake_of_fires {d : Dev} {src arg : Nat} (h : d.WakeFires src arg)
    (hst : d.rf R.PWR_SLEEP_STATUS 0 2 0 = 1 ∨ d.rf R.PWR_SLEEP_STATUS 0 2 0 = 2) :
    d.wake src arg =
      let e := if src = 4 then d.advanceTo d.wakeTime else d
      if d.rf R.PWR_SLEEP_STATUS 0 2 0 = 1 then (e.wakeLink src arg).sleepAbort 3 else e.exitBegin src arg := by
  obtain ⟨h1, h5, hen, hcyc, htimer, hlink⟩ := h
  have hfires : (decide (1 ≤ src) && decide (src ≤ 5) && d.wakeEn src &&
      (src != 3 || (decide (arg < 8) && d.domOn arg && d.domCtl arg 2 1 == 1 && d.rb R.CYC_DOM_CTRL arg 28)) && (src != 4 || d.wakeTime != 0) &&
      (src != 5 || (!d.pwr.off && d.lstate arg == 7))) = true := by
    simp only [Bool.and_eq_true, Bool.or_eq_true, bne_iff_ne, decide_eq_true_eq, beq_iff_eq, Bool.not_eq_true', and_assoc]
    exact ⟨h1, h5, hen, imp_iff_not_or.1 hcyc, imp_iff_not_or.1 htimer, imp_iff_not_or.1 hlink⟩
  exact if_neg (not_or.2 ⟨not_ne_true hfires, by omega⟩)

/-- LINK does not fire of a device that is off, nor of a link that is not in L1. -/
theorem Dev.wake_link_silent {d : Dev} {p : Nat} (h : d.pwr.off = true ∨ d.lstate p ≠ 7) : d.wake 5 p = d := by
  have hsilent : (!d.pwr.off && d.lstate p == 7) = false := by
    rcases h with hoff | hl1
    · rw [hoff]
      rfl
    · simp [hl1]
  exact if_pos (.inl (by simp [hsilent]))

section
variable {s : State}

theorem exec_wake (src arg : Nat) : exec (.wake src arg) s = .next (s.settled (s.dev.wake src arg)) := rfl

theorem exec_l1Exit_awake {p : Nat} (hent : s.dev.entering = false) (hclock : s.dev.clockRuns = true) :
    exec (.l1Exit p) s = .next (s.settled (s.dev.l1Leave p)) := by
  change execL1Exit p s = _
  exact State.eff_of_eq (if_neg (or_ne_true (ne_true_of_eq_false hent) (not_ne_true hclock)))

/-- In sleep, or on the way to it, the exit from L1 is the wake source LINK. -/
theorem exec_l1Exit_sleep {p : Nat} (h : s.dev.entering = true ∨ s.dev.clockRuns = false) :
    exec (.l1Exit p) s = .next (s.settled
      (if s.dev.wakeEn 5 then s.dev.wake 5 p else if s.dev.entering then s.dev.l1Leave p else s.dev)) := by
  change execL1Exit p s = _
  exact State.eff_of_eq (if_pos (by simpa using h))

/-- The end of the exit from sleep: the device is ACTIVE, and what waited for that follows. -/
def Dev.exitEnd (d : Dev) : Dev :=
  let d := (d.wf R.PWR_SLEEP_STATUS 0 2 0 0).wr64 R.PWR_WAKE_T_LO R.PWR_WAKE_T_HI 0 d.now
  (Dev.raise { d with pwr := { d.pwr with entry := 0 } } 0x023).plHeld.doeResume

theorem exec_sleepExit_waking (seu single : List (Nat × Nat × Nat)) (h : s.dev.rf R.PWR_SLEEP_STATUS 0 2 0 = 3) :
    exec (.sleepExit seu single) s = .next (s.settled
      (if s.dev.pwr.off then s.dev.sl2Exit seu single else s.dev.cycWake false).exitEnd) := by
  change execSleepExit seu single s = _
  exact State.eff_of_eq (if_neg (not_not_intro h))

end

/-! ### Supplies (R379, R463, R494, R495, R504) -/

/-- A supply is in range. -/
def Dev.railAdd (d : Dev) (k : Nat) : Dev :=
  { d with pwr := { d.pwr with rails := if d.pwr.rails.testBit k then d.pwr.rails else d.pwr.rails + 2 ^ k } }

/-- THERMTRIP_N is asserted, once. -/
def Dev.thermOn (d : Dev) : Dev :=
  if d.pwr.therm then d else Dev.emit { d with pwr := { d.pwr with therm := true } } (.pin .thermtripN true)

/-- Power-good falls, and the supplies that were lost with it; THERMTRIP_N is released only as VDD_AON is removed. -/
def Dev.powerLost (d : Dev) (rail : Nat) : Dev :=
  let d := if rail = 0 ∧ d.pwr.therm = true then d.emit (.pin .thermtripN false) else d
  { d with pwr := { d.pwr with
      good := false, rails := if rail = 0 then 0 else d.pwr.rails % 2, therm := d.pwr.therm && rail != 0
      cold := d.pwr.cold || rail == 0 } }

section
variable {s : State}

theorem exec_railInRange_aon :
    exec (.railInRange 0) s = .next (s.settled
      (if s.dev.pwr.therm ∨ s.dev.pwr.off then s.dev.railAdd 0 else (s.dev.railAdd 0).enables true s.dev.pwr.enSds)) := rfl

theorem exec_railInRange_core :
    exec (.railInRange 1) s = .next (s.settled (if s.dev.pwr.enCore then (s.dev.railAdd 1).enables true true else s.dev)) := rfl

theorem exec_railInRange_sds :
    exec (.railInRange 2) s = .next (s.settled (if s.dev.pwr.enSds then s.dev.railAdd 2 else s.dev)) := rfl

theorem exec_thermalTrip_cluster {c : Nat} (hc : c < 16) :
    exec (.thermalTrip c) s = .next (s.settled (
      let d := (s.dev.tempRead c 1056).thermOn
      (d.enables false false).fault 0x10 none none none (d.unitRef (.cluster c)) (word 1056))) := by
  change execThermalTrip c s = _
  exact State.eff_of_eq (if_neg (Nat.not_le.2 hc))

theorem exec_voltageFault_rail {rail : Nat} (hrail : rail < 3) (hoff : s.dev.pwr.off = false ∨ rail = 0) :
    exec (.voltageFault rail) s = .next (s.settled (
      let d := s.dev.wf R.SAF_MON_STATUS 0 (if rail = 1 then 2 else 3) (if rail = 1 then 2 else 3) 0
      ((d.fault 0x0f none none none (d.unitRef .device) (word rail)).clampOn).powerLost rail)) := by
  have hwatched : ¬ (3 ≤ rail ∨ (s.dev.pwr.off = true ∧ rail ≠ 0)) := by
    rintro (hbig | ⟨hon, hne⟩)
    · exact absurd hbig (Nat.not_le.2 hrail)
    · exact hoff.elim (fun h => Bool.false_ne_true (h.symm.trans hon)) hne
  change execVoltageFault rail s = _
  refine State.eff_of_eq ((if_neg hwatched).trans ?_)
  by_cases hcore : rail = 1
  · subst hcore
    rfl
  · simp only [hcore, if_false, Dev.powerLost, Bool.and_eq_true, decide_eq_true_eq]

end

/-! ### The statement -/

section
variable {s : State} (a : Acc) (h : s.dev.may a R.PWR_SLEEP_CTRL true = true)
include h

/-- What SLEEP_CTRL does while the device is not ENTERING. -/
theorem exec_sleepCtrl_idle (hent : s.dev.entering = false) :
    exec (.reqSl1 a) s = .next (s.settled (s.dev.reqSleep 1)) ∧ exec (.reqSl2 a) s = .next (s.settled (s.dev.reqSleep 2)) ∧
      exec (.sleepCancel a) s = .next (s.settled s.dev) :=
  ⟨State.next_settled_congr (exec_reqSl1_made h) (if_neg (ne_true_of_eq_false hent)),
    State.next_settled_congr (exec_reqSl2_made h) (if_neg (ne_true_of_eq_false hent)),
    State.next_settled_congr (exec_sleepCancel_made h) (if_neg (ne_true_of_eq_false hent))⟩

/-- What SLEEP_CTRL does while the device is ENTERING. -/
theorem exec_sleepCtrl_entering (hent : s.dev.entering = true) :
    exec (.reqSl1 a) s = .next (s.settled s.dev) ∧ exec (.reqSl2 a) s = .next (s.settled s.dev) ∧
      exec (.sleepCancel a) s = .next (s.settled (s.dev.sleepAbort 1)) :=
  ⟨State.next_settled_congr (exec_reqSl1_made h) (if_pos hent), State.next_settled_congr (exec_reqSl2_made h) (if_pos hent),
    State.next_settled_congr (exec_sleepCancel_made h) (if_pos hent)⟩

end

section
variable {s : State} {src arg : Nat} (hfires : s.dev.WakeFires src arg)
include hfires

theorem exec_wake_entering (hst : s.dev.rf R.PWR_SLEEP_STATUS 0 2 0 = 1) :
    exec (.wake src arg) s = .next (s.settled (((if src = 4 then s.dev.advanceTo s.dev.wakeTime else s.dev).wakeLink src arg).sleepAbort 3)) :=
  State.next_settled_congr (exec_wake src arg) ((Dev.wake_of_fires hfires (.inl hst)).trans (if_pos hst))

theorem exec_wake_asleep (hst : s.dev.rf R.PWR_SLEEP_STATUS 0 2 0 = 2) :
    exec (.wake src arg) s = .next (s.settled ((if src = 4 then s.dev.advanceTo s.dev.wakeTime else s.dev).exitBegin src arg)) :=
  State.next_settled_congr (exec_wake src arg) ((Dev.wake_of_fires hfires (.inr hst)).trans (if_neg (by omega)))

end

section
variable {s : State} {p : Nat}

/-- LINK fires for a link in L1 of a device that is not off. -/
theorem Dev.wakeFires_link {d : Dev} (hen : d.wakeEn 5 = true) (hoff : d.pwr.off = false) (hl1 : d.lstate p = 7) : d.WakeFires 5 p :=
  ⟨by decide, by decide, hen, by simp, by simp, fun _ => ⟨hoff, hl1⟩⟩

section
variable (hsleep : s.dev.entering = true ∨ s.dev.clockRuns = false) (hen : s.dev.wakeEn 5 = true)
include hsleep hen

theorem exec_l1Exit_wakes : exec (.l1Exit p) s = .next (s.settled (s.dev.wake 5 p)) :=
  State.next_settled_congr (exec_l1Exit_sleep hsleep) (if_pos hen)

theorem exec_l1Exit_silent (h : s.dev.pwr.off = true ∨ s.dev.lstate p ≠ 7) : exec (.l1Exit p) s = .next (s.settled s.dev) :=
  State.next_settled_congr (exec_l1Exit_wakes hsleep hen) (Dev.wake_link_silent h)

variable (hoff : s.dev.pwr.off = false) (hl1 : s.dev.lstate p = 7)
include hoff hl1

theorem exec_l1Exit_entering (hst : s.dev.rf R.PWR_SLEEP_STATUS 0 2 0 = 1) :
    exec (.l1Exit p) s = .next (s.settled ((s.dev.l1Leave p).sleepAbort 3)) :=
  State.next_settled_congr (exec_l1Exit_wakes hsleep hen) ((Dev.wake_of_fires (Dev.wakeFires_link hen hoff hl1) (.inl hst)).trans (if_pos hst))

theorem exec_l1Exit_asleep (hst : s.dev.rf R.PWR_SLEEP_STATUS 0 2 0 = 2) :
    exec (.l1Exit p) s = .next (s.settled
      (((s.dev.wf R.PWR_SLEEP_STATUS 0 2 0 3).wf R.PWR_SLEEP_STATUS 0 7 5 5).l1Leave p)) := by
  have hexit : s.dev.exitBegin 5 p = ((s.dev.wf R.PWR_SLEEP_STATUS 0 2 0 3).wf R.PWR_SLEEP_STATUS 0 7 5 5).l1Leave p := by
    have hon : ((s.dev.wf R.PWR_SLEEP_STATUS 0 2 0 3).wf R.PWR_SLEEP_STATUS 0 7 5 5).pwr.off = false := hoff
    exact congrArg (Dev.l1Leave · p) (if_neg (ne_true_of_eq_false hon))
  exact State.next_settled_congr (exec_l1Exit_wakes hsleep hen)
    ((Dev.wake_of_fires (Dev.wakeFires_link hen hoff hl1) (.inr hst)).trans ((if_neg (by omega)).trans hexit))

end

theorem exec_l1Exit_entering_unarmed (hent : s.dev.entering = true) (hen : s.dev.wakeEn 5 = false) :
    exec (.l1Exit p) s = .next (s.settled (s.dev.l1Leave p)) :=
  State.next_settled_congr (exec_l1Exit_sleep (.inl hent)) ((if_neg (ne_true_of_eq_false hen)).trans (if_pos hent))

theorem exec_l1Exit_asleep_unarmed (hent : s.dev.entering = false) (hclock : s.dev.clockRuns = false) (hen : s.dev.wakeEn 5 = false) :
    exec (.l1Exit p) s = .next (s.settled s.dev) :=
  State.next_settled_congr (exec_l1Exit_sleep (.inr hclock))
    ((if_neg (ne_true_of_eq_false hen)).trans (if_neg (ne_true_of_eq_false hent)))

end

section
variable {s : State}

theorem exec_railInRange_starts (htherm : s.dev.pwr.therm = false) (hoff : s.dev.pwr.off = false) :
    exec (.railInRange 0) s = .next (s.settled ((s.dev.railAdd 0).enables true s.dev.pwr.enSds)) :=
  State.next_settled_congr exec_railInRange_aon (if_neg (by simp [htherm, hoff]))

theorem exec_railInRange_waits (h : s.dev.pwr.therm = true ∨ s.dev.pwr.off = true) :
    exec (.railInRange 0) s = .next (s.settled (s.dev.railAdd 0)) :=
  State.next_settled_congr exec_railInRange_aon (if_pos h)

end

/-- Settles O52: sleep entry, wake and exit in each state of the device, and the supplies, each command by its lemma above. -/
theorem sleepAndSupplyCommandsComplete : Obligations.SleepAndSupplyCommandsComplete := by
  refine fun s => ⟨fun a hmay => ⟨exec_sleepCtrl_idle a hmay, exec_sleepCtrl_entering a hmay, ?padActive, ?padAsleep⟩,
    fun n hentry => ⟨Dev.reqSleep_failsafe n hentry, Dev.reqSleep_fabric n hentry, Dev.reqSleep_begins n hentry⟩,
    fun hent => ⟨exec_sleepEntryTimeout_entering hent, fun hready hlimit =>
      ⟨exec_sleepEntryComplete_timer hent hready hlimit, exec_sleepEntryComplete_asleep hent hready hlimit⟩⟩,
    ?wake, fun p => ⟨exec_l1Exit_awake, ?link, exec_l1Exit_entering_unarmed, exec_l1Exit_asleep_unarmed⟩, ?exit,
    ⟨exec_railInRange_starts, exec_railInRange_waits, ?core, ?sds⟩, fun c => exec_thermalTrip_cluster, fun rail => exec_voltageFault_rail⟩
  case padActive => exact fun hst => State.next_settled_congr (exec_padRelease_made hmay) (Dev.padRelease_active hst)
  case padAsleep => exact fun hst => State.next_settled_congr (exec_padRelease_made hmay) (Dev.padRelease_asleep hst)
  case wake =>
    intro src arg hfirst hlast hen hcyc htimer hlink
    have hfires : s.dev.WakeFires src arg := ⟨hfirst, hlast, hen, hcyc, htimer, hlink⟩
    exact ⟨exec_wake_entering hfires, exec_wake_asleep hfires⟩
  case link =>
    exact fun hsleep hen => ⟨fun hoff hl1 => ⟨exec_l1Exit_entering hsleep hen hoff hl1, exec_l1Exit_asleep hsleep hen hoff hl1⟩,
      exec_l1Exit_silent hsleep hen⟩
  case exit => exact fun seu single hst => exec_sleepExit_waking seu single hst
  case core => exact fun hcore => State.next_settled_congr exec_railInRange_core (if_pos hcore)
  case sds => exact fun hsds => State.next_settled_congr exec_railInRange_sds (if_pos hsds)

end Sys2Proof.Machine
end

section
/-! Family 19_reset_and_start_up: device reset, power-good, the boot ROM's choice of an image, and the flash (O53). -/

namespace Sys2Proof.Machine

/-! ### PERST_N and power-good (R463, R466, R468, R494, R495) -/

/-- PERST_N low ends the clamps and resets the device; the supplies that it had start anew. -/
def Dev.perstReset (d : Dev) : Dev :=
  let d := Dev.deviceReset { d with pwr := { d.pwr with clamped := false } }
  if d.pwr.therm = true ∨ d.pwr.rails % 2 = 0 then d else d.enables true (d.pwr.enSds || d.pwr.rails.testBit 1)

/-- Power-good after a loss resets the device, and reports clamps that are found applied. -/
def Dev.powerUp (d : Dev) : Dev :=
  let d := d.deviceReset
  let d := { d with pwr := { d.pwr with good := true } }
  if d.pwr.clamped then (d.wf R.PWR_SLEEP_STATUS 0 4 4 1).raise 0x028 else d

/-- PERST_N high latches the straps; after power-on device time starts. -/
def Dev.strapsLatched (d : Dev) (straps : Nat) : Dev :=
  let d := { d with now := if d.pwr.cold then 0 else d.now, pwr := { d.pwr with perst := false, cold := false } }
  d.wn R.BOOT_BOOT_STRAP 0 (straps % 64)

/-- In SMB mode the boot ROM reads nothing from the flash. -/
def Dev.smbWait (d : Dev) : Dev :=
  let d := d.wf R.BOOT_BOOT_STATUS 0 2 0 4
  Dev.bootLog { d with boot := { d.boot with phase := .smb } } 1 [4]

section
variable {s : State}

theorem exec_perstAssert : exec .perstAssert s = .next (State.settled { s with plock := [] } s.dev.perstReset) := by
  change execPerstAssert s = _
  exact State.eff_of_eq rfl

theorem exec_powerGood_up (hgood : s.dev.pwr.good = false) (hrails : s.dev.pwr.rails = 7) (hoff : s.dev.pwr.off = false) :
    exec .powerGood s = .next (State.settled { s with plock := [] } s.dev.powerUp) := by
  have hlost : ¬ (s.dev.pwr.good = true ∨ s.dev.pwr.rails ≠ 7 ∨ s.dev.pwr.off = true) :=
    not_or.2 ⟨ne_true_of_eq_false hgood, not_or.2 ⟨not_not_intro hrails, ne_true_of_eq_false hoff⟩⟩
  change execPowerGood s = _
  exact (if_neg hlost).trans (State.eff_of_eq rfl)

theorem exec_powerGood_stands (h : s.dev.pwr.good = true ∨ s.dev.pwr.rails ≠ 7 ∨ s.dev.pwr.off = true) :
    exec .powerGood s = .next (s.settled s.dev) := by
  change execPowerGood s = _
  exact (if_pos h).trans (State.eff_of_eq rfl)

variable (straps : Nat)

theorem exec_perstDeassert_stands (h : s.dev.pwr.perst = false ∨ s.dev.pwr.good = false) :
    exec (.perstDeassert straps) s = .next (s.settled s.dev) := by
  change execPerstDeassert straps s = _
  exact State.eff_of_eq (if_pos (by simpa using h))

section
variable {straps} (hperst : s.dev.pwr.perst = true) (hgood : s.dev.pwr.good = true)
include hperst hgood

theorem exec_perstDeassert_good :
    exec (.perstDeassert straps) s = .next (s.settled
      (if straps % 2 = 1 then (s.dev.strapsLatched straps).smbWait else s.dev.strapsLatched straps)) := by
  change execPerstDeassert straps s = _
  exact State.eff_of_eq (if_neg (or_ne_true (not_ne_true hperst) (not_ne_true hgood)))

theorem exec_perstDeassert_flash (hmode : straps % 2 = 0) :
    exec (.perstDeassert straps) s = .next (s.settled (s.dev.strapsLatched straps)) :=
  State.next_settled_congr (exec_perstDeassert_good hperst hgood) (if_neg (by omega))

theorem exec_perstDeassert_smb (hmode : straps % 2 = 1) :
    exec (.perstDeassert straps) s = .next (s.settled (s.dev.strapsLatched straps).smbWait) :=
  State.next_settled_congr (exec_perstDeassert_good hperst hgood) (if_pos hmode)

end
end

/-! ### Firmware images (R469, R470) -/

/-- The boot ROM looks for an image in the flash. -/
structure Dev.RomRuns (d : Dev) : Prop where
  perst : d.pwr.perst = false
  power : d.pwr.off = false
  cores : d.boot.coresDown = false
  phase : d.boot.phase = .rom
  notSmb : d.bootMode ≠ 1
  notSmb' : d.bootMode ≠ 3

/-- The slots in the order in which they are tried. -/
def Dev.slotOrder (d : Dev) (ha hb : FlashHdr) : List Nat :=
  if d.rb R.BOOT_BOOT_STRAP 0 5 = false then [0] else if ha.seq < hb.seq then [1, 0] else [0, 1]

/-- The slots not tried yet. -/
def Dev.slotsLeft (d : Dev) (ha hb : FlashHdr) : List Nat := (d.slotOrder ha hb).filter fun k => !d.boot.tried.contains k

/-- A slot that passes every check is chosen: the boot ROM applies its configuration image, if it has one. -/
def Dev.slotChosen (d : Dev) (k c : Nat) (h : FlashHdr) : Dev :=
  let d := ((d.bootLog 0 [k, c]).wf R.BOOT_BOOT_STATUS 0 3 3 k).wf R.BOOT_BOOT_STATUS 0 11 4 h.svn
  let d := { d with boot := { d.boot with phase := .kci, nextRec := 0, crc := 4294967295 } }
  if h.kciLen = 0 then d.kciComplete else d

/-- No slot is left: the boot ROM waits for SMBus. -/
def Dev.slotsOver (d : Dev) : Dev :=
  ((Dev.wf { d with boot := { d.boot with phase := .smb } } R.BOOT_BOOT_STATUS 0 2 0 2).raise 0x002).bootLog 1 [2]

/-- A slot that fails check `c` is reported, and never tried again. -/
def Dev.slotReport (d : Dev) (k c : Nat) : Dev :=
  let d := d.bootLog 0 [k, c]
  Dev.raiseWith { d with boot := { d.boot with tried := d.boot.tried ++ [k] } } 0x001 (word (k + 256 * c)) []

/-- A refused slot is reported; it may have been the last one. -/
def Dev.slotRefused (d : Dev) (k c : Nat) (rest : List Nat) : Dev :=
  if rest = [] then (d.slotReport k c).slotsOver else d.slotReport k c

/-- The next of the slots that are left is checked, and chosen or refused. -/
def Dev.slotNext (d : Dev) (ha hb : FlashHdr) : List Nat → Dev
  | [] => d
  | k :: rest =>
    let h := if k = 0 then ha else hb
    let c := d.slotCheck h
    if c = 0 then d.slotChosen k c h else if rest.isEmpty then (d.slotReport k c).slotsOver else d.slotReport k c

theorem Dev.slotNext_passes {d : Dev} {ha hb : FlashHdr} {k : Nat} (rest : List Nat) (h : d.slotCheck (if k = 0 then ha else hb) = 0) :
    d.slotNext ha hb (k :: rest) = d.slotChosen k (d.slotCheck (if k = 0 then ha else hb)) (if k = 0 then ha else hb) :=
  if_pos h

theorem Dev.slotNext_fails {d : Dev} {ha hb : FlashHdr} {k : Nat} (rest : List Nat) (h : d.slotCheck (if k = 0 then ha else hb) ≠ 0) :
    d.slotNext ha hb (k :: rest) = d.slotRefused k (d.slotCheck (if k = 0 then ha else hb)) rest :=
  (if_neg h).trans (if_congr List.isEmpty_iff rfl rfl)

/-- A choice on the negation of a Boolean is one on its being false. -/
theorem ite_bnot {α : Type} (b : Bool) (x y : α) : (if (!b) = true then x else y) = if b = false then x else y := by cases b <;> rfl

section
variable {s : State} {ha hb : FlashHdr} (hrom : s.dev.RomRuns)
include hrom

/-- The boot ROM takes up the slots that are left, in their order. -/
theorem exec_imageVerify_rom :
    exec (.imageVerify ha hb) s = .next (s.settled (s.dev.slotNext ha hb (s.dev.slotsLeft ha hb))) := by
  obtain ⟨hperst, hpower, hcores, hphase, hsmb, hsmb'⟩ := hrom
  have hruns : ¬ (s.dev.pwr.perst || s.dev.pwr.off || s.dev.boot.coresDown || s.dev.boot.phase != .rom || s.dev.bootMode == 1 ||
      s.dev.bootMode == 3) = true := by
    simp [hperst, hpower, hcores, hphase, hsmb, hsmb']
  have horder : (if (!s.dev.rb R.BOOT_BOOT_STRAP 0 5) = true then [0] else if ha.seq < hb.seq then [1, 0] else [0, 1]) =
      s.dev.slotOrder ha hb := ite_bnot _ _ _
  have hleft := congrArg (fun l : List Nat => s.dev.slotNext ha hb (l.filter fun k => !s.dev.boot.tried.contains k)) horder
  change execImageVerify ha hb s = _
  exact State.eff_of_eq ((if_neg hruns).trans (Eq.trans (by rfl) hleft))

variable {k : Nat} {rest : List Nat} (hleft : s.dev.slotsLeft ha hb = k :: rest)
include hleft

theorem exec_imageVerify_passes (hpass : s.dev.slotCheck (if k = 0 then ha else hb) = 0) :
    exec (.imageVerify ha hb) s =
      .next (s.settled (s.dev.slotChosen k (s.dev.slotCheck (if k = 0 then ha else hb)) (if k = 0 then ha else hb))) :=
  State.next_settled_congr (exec_imageVerify_rom hrom) (hleft ▸ Dev.slotNext_passes rest hpass)

theorem exec_imageVerify_fails (hfail : s.dev.slotCheck (if k = 0 then ha else hb) ≠ 0) :
    exec (.imageVerify ha hb) s = .next (s.settled (s.dev.slotRefused k (s.dev.slotCheck (if k = 0 then ha else hb)) rest)) :=
  State.next_settled_congr (exec_imageVerify_rom hrom) (hleft ▸ Dev.slotNext_fails rest hfail)

end

/-! ### ARB_COMMIT, the flash and YARD_CFG (R471, R474, R487) -/

/-- The anti-rollback value rises to the SVN of the running image. -/
def Dev.arbRaise (d : Dev) : Dev := { d with boot := { d.boot with arb := max d.boot.arb (d.rf R.BOOT_BOOT_STATUS 0 11 4) } }

/-- A flash command is written. -/
def Dev.flashCmdSet (d : Dev) (v : Word) : Dev := d.wr R.BOOT_FLASH_CMD 0 (v &&& 0x702ff)

/-- A command that writes is sent with its data words. -/
def Dev.flashSend (d : Dev) (v : Word) : Dev :=
  let d := d.flashCmdSet v
  d.emit (.bus 4 (fld v 7 0) (d.rn R.BOOT_FLASH_ADDR :: (List.range (fld v 18 16)).map fun k => d.rn (R.BOOT_FLASH_DATA k)))

/-- Of a command that reads, what the flash answers stands in FLASH_DATA. -/
def Dev.flashFetch (d : Dev) (v : Word) (answer : List Word) : Dev :=
  let d := d.flashCmdSet v
  (List.range (fld v 18 16)).foldl (fun x k => x.wr (R.BOOT_FLASH_DATA k) 0 (answer.getD k 0))
    (d.emit (.bus 4 (fld v 7 0) [d.rn R.BOOT_FLASH_ADDR]))

/-- A command with GO is sent. -/
theorem Dev.flashCmdW_go (d : Dev) {v : Word} (answer : List Word) (hgo : bit v 8 = true) :
    d.flashCmdW v answer = if bit v 9 then d.flashSend v else d.flashFetch v answer :=
  if_neg (not_ne_true hgo)

/-- FLASH_GO sets GO, whatever the word. -/
theorem bit_or_go (w : Word) : bit (w ||| 0x100) 8 = true := by
  have hgo : Nat.testBit 0x100 8 = true := by decide
  simp [bit, hgo]

section
variable {s : State} {a : Acc}

theorem exec_arbCommit_firmware (h : s.dev.may a R.BOOT_BOOT_CTRL true = true) (hphase : s.dev.boot.phase = .firmware) :
    exec (.arbCommit a) s = .next (s.settled s.dev.arbRaise) :=
  State.next_settled_congr (State.eff_guardW_may h) (if_pos ⟨by decide, hphase⟩)

theorem exec_arbCommit_early (h : s.dev.may a R.BOOT_BOOT_CTRL true = true) (hphase : s.dev.boot.phase ≠ .firmware) :
    exec (.arbCommit a) s = .next (s.settled s.dev) :=
  State.next_settled_congr (State.eff_guardW_may h) (if_neg fun hfw => hphase hfw.2)

section
variable (w : Word) (answer : List Word) (h : s.dev.may a R.BOOT_FLASH_CMD true = true)
include h

theorem exec_flashGo_made :
    exec (.flashGo a w answer) s = .next (s.settled
      (if bit (w ||| 0x100) 9 then s.dev.flashSend (w ||| 0x100) else s.dev.flashFetch (w ||| 0x100) answer)) :=
  State.next_settled_congr (State.eff_guardW_may h) (s.dev.flashCmdW_go answer (bit_or_go w))

theorem exec_flashGo_write (hwrite : bit (w ||| 0x100) 9 = true) :
    exec (.flashGo a w answer) s = .next (s.settled (s.dev.flashSend (w ||| 0x100))) :=
  State.next_settled_congr (exec_flashGo_made w answer h) (if_pos hwrite)

theorem exec_flashGo_read (hread : bit (w ||| 0x100) 9 = false) :
    exec (.flashGo a w answer) s = .next (s.settled (s.dev.flashFetch (w ||| 0x100) answer)) :=
  State.next_settled_congr (exec_flashGo_made w answer h) (if_neg (ne_true_of_eq_false hread))

end

theorem exec_yardCfgWrite_made (w : Word) (h : s.dev.may a R.DEV_YARD_CFG true = true) :
    exec (.yardCfgWrite a w) s = .next (s.settled (((s.dev.wr R.DEV_YARD_CFG 0 w).raise 0x007).formTry false)) :=
  State.eff_guardW_may h

end

/-- Settles O53: reset, power-good, the choice of an image and the commands of the start-up registers, each by its lemma above. -/
theorem resetAndStartUpComplete : Obligations.ResetAndStartUpComplete := by
  refine fun s => ⟨exec_perstAssert, exec_powerGood_up, exec_powerGood_stands, fun h straps => exec_perstDeassert_stands straps h,
    fun straps hperst hgood => ⟨exec_perstDeassert_flash hperst hgood, exec_perstDeassert_smb hperst hgood⟩, ?image,
    fun a w answer => ⟨exec_arbCommit_firmware, exec_arbCommit_early,
      fun h => ⟨exec_flashGo_write w answer h, exec_flashGo_read w answer h⟩, exec_yardCfgWrite_made w⟩⟩
  case image =>
    intro ha hb k rest hperst hpower hcores hphase hsmb hsmb' order hleft h c
    have hrom : s.dev.RomRuns := ⟨hperst, hpower, hcores, hphase, hsmb, hsmb'⟩
    exact ⟨exec_imageVerify_passes hrom hleft, exec_imageVerify_fails hrom hleft⟩

end Sys2Proof.Machine
end

section
/-! Family 20_management_and_debug: MCTP control and PLDM messages, the debug port, the test logic and the sideband pins (O54). -/

namespace Sys2Proof.Machine

/-! ### MCTP control and PLDM (R477–R479) -/

section
variable {s : State} {path : Nat}

section
variable (hup : s.dev.pathUp path = true)
include hup

theorem exec_setEndpointId_up (eid : Nat) :
    exec (.setEndpointId path eid) s = .next (s.settled
      (if eid = 0 ∨ 255 ≤ eid then s.dev.emit (.msg path 1 [2, s.dev.mgt.eid.getD path 0])
       else Dev.emit { s.dev with mgt := { s.dev.mgt with eid := Tbl.put s.dev.mgt.eid path 0 eid } } (.msg path 1 [0, eid]))) := by
  change execSetEndpointId path eid s = _
  exact State.eff_of_eq (if_neg (not_ne_true hup))

/-- What the hardware answers a control message with, on a path that is up. -/
theorem State.eff_mctpCtl_up (code : Nat) (args : Dev → List Nat) :
    (s.eff fun d => d.mctpCtl path code (args d)) = .next (s.settled (s.dev.emit (.msg path code (args s.dev)))) :=
  State.eff_of_eq (if_pos hup)

theorem exec_getEndpointId_up :
    exec (.getEndpointId path) s = .next (s.settled (s.dev.emit (.msg path 2 [0, s.dev.mgt.eid.getD path 0]))) :=
  State.eff_mctpCtl_up hup 2 fun d => [0, d.mgt.eid.getD path 0]

theorem exec_getMessageTypeSupport_up :
    exec (.getMessageTypeSupport path) s = .next (s.settled (s.dev.emit (.msg path 5 (0 :: msgTypes path)))) :=
  State.eff_mctpCtl_up hup 5 fun _ => 0 :: msgTypes path

theorem exec_getVendorDefinedMessageSupport_up :
    exec (.getVendorDefinedMessageSupport path) s = .next (s.settled
      (s.dev.emit (.msg path 6 (if path = 0 then [0, (Config.factory 0x205 0 0xff0).toNat % 65536] else [0])))) :=
  State.eff_mctpCtl_up hup 6 fun _ => if path = 0 then [0, (Config.factory 0x205 0 0xff0).toNat % 65536] else [0]

theorem exec_getVersionSupport_up (type : Nat) :
    exec (.getVersionSupport path type) s = .next (s.settled (s.dev.fresh.2.emit (.msg path 4 [type, s.dev.fresh.1.toNat]))) := by
  change execGetVersionSupport path type s = _
  exact State.eff_of_eq (if_neg (not_ne_true hup))

theorem exec_pldmMessage_up (type sensor : Nat) :
    exec (.pldmMessage path type sensor) s = .next (s.settled
      (if !s.dev.fwRuns then s.dev.mctpErr
       else if type = 2 ∧ 1 ≤ sensor ∧ sensor ≤ 21 then (s.dev.sensor sensor).2.emit (.msg path 9 [0, sensor, (s.dev.sensor sensor).1])
       else s.dev.emit (.msg path 9 [type]))) := by
  change execPldmMessage path type sensor s = _
  exact State.eff_of_eq (if_neg (not_ne_true hup))

theorem exec_pldmMessage_off (type sensor : Nat) (hfw : s.dev.fwRuns = false) :
    exec (.pldmMessage path type sensor) s = .next (s.settled s.dev.mctpErr) :=
  State.next_settled_congr (exec_pldmMessage_up hup type sensor) (if_pos ((Bool.not_eq_true' _).mpr hfw))

variable (hfw : s.dev.fwRuns = true)
include hfw

theorem exec_pldmMessage_reads {sensor : Nat} (hfirst : 1 ≤ sensor) (hlast : sensor ≤ 21) :
    exec (.pldmMessage path 2 sensor) s = .next (s.settled
      ((s.dev.sensor sensor).2.emit (.msg path 9 [0, sensor, (s.dev.sensor sensor).1]))) :=
  State.next_settled_congr (exec_pldmMessage_up hup 2 sensor) ((if_neg (not_ne_true hfw)).trans (if_pos ⟨rfl, hfirst, hlast⟩))

theorem exec_pldmMessage_other {type sensor : Nat} (h : type ≠ 2 ∨ sensor = 0 ∨ 21 < sensor) :
    exec (.pldmMessage path type sensor) s = .next (s.settled (s.dev.emit (.msg path 9 [type]))) :=
  State.next_settled_congr (exec_pldmMessage_up hup type sensor) ((if_neg (not_ne_true hfw)).trans (if_neg (by omega)))

end

section
variable (hdown : s.dev.pathUp path = false)
include hdown

theorem exec_setEndpointId_down (eid : Nat) : exec (.setEndpointId path eid) s = .next (s.settled s.dev) := by
  change execSetEndpointId path eid s = _
  exact State.eff_of_eq (if_pos ((Bool.not_eq_true' _).mpr hdown))

theorem exec_getVersionSupport_down (type : Nat) : exec (.getVersionSupport path type) s = .next (s.settled s.dev) := by
  change execGetVersionSupport path type s = _
  exact State.eff_of_eq (if_pos ((Bool.not_eq_true' _).mpr hdown))

theorem exec_pldmMessage_down (type sensor : Nat) : exec (.pldmMessage path type sensor) s = .next (s.settled s.dev) := by
  change execPldmMessage path type sensor s = _
  exact State.eff_of_eq (if_pos ((Bool.not_eq_true' _).mpr hdown))

theorem State.eff_mctpCtl_down (code : Nat) (args : Dev → List Nat) :
    (s.eff fun d => d.mctpCtl path code (args d)) = .next (s.settled s.dev) :=
  State.eff_of_eq (if_neg (ne_true_of_eq_false hdown))

theorem exec_getEndpointId_down : exec (.getEndpointId path) s = .next (s.settled s.dev) :=
  State.eff_mctpCtl_down hdown 2 fun d => [0, d.mgt.eid.getD path 0]

theorem exec_getMessageTypeSupport_down : exec (.getMessageTypeSupport path) s = .next (s.settled s.dev) :=
  State.eff_mctpCtl_down hdown 5 fun _ => 0 :: msgTypes path

theorem exec_getVendorDefinedMessageSupport_down : exec (.getVendorDefinedMessageSupport path) s = .next (s.settled s.dev) :=
  State.eff_mctpCtl_down hdown 6 fun _ => if path = 0 then [0, (Config.factory 0x205 0 0xff0).toNat % 65536] else [0]

end

theorem exec_mctpPacketError_up (hup : s.dev.pathUp 0 = true) : exec .mctpPacketError s = .next (s.settled s.dev.mctpErr) := by
  change execMctpPacketError s = _
  exact State.eff_of_eq (if_pos hup)

theorem exec_mctpPacketError_down (hdown : s.dev.pathUp 0 = false) : exec .mctpPacketError s = .next (s.settled s.dev) := by
  change execMctpPacketError s = _
  exact State.eff_of_eq (if_neg (ne_true_of_eq_false hdown))

end

/-! ### The debug port (R481, R482) -/

/-- A new challenge stands in DBG_CHAL. -/
def Dev.chalGiven (d : Dev) : Dev :=
  let n := d.boot.chalN
  let d := (List.range 12).foldl (fun d k => d.wr (R.DBG_DBG_CHAL k) 0 (Config.challengeWord n k)) d
  { d with boot := { d.boot with chalN := n + 1, chalOk := true, chalAt := none } }

/-- The challenge is spent. -/
def Dev.chalSpent (d : Dev) : Dev := { d with boot := { d.boot with chalOk := false } }

/-- A failed verification locks debug out for 1 s. -/
def Dev.chalLocked (d : Dev) : Dev := Dev.raise { d with boot := { d.boot with chalAt := some (d.now + 1000000000) } } 0x01a

/-- The cores run on after HALT. -/
def Dev.coresGoOn (d : Dev) : Dev :=
  Dev.wf { d with boot := { d.boot with halted := false }, out := .core 5 :: d.out } R.DBG_DBG_STATUS 0 1 1 0

/-- In DEBUG_HOLD the firmware starts as the cores go on. -/
def Dev.holdStarts (d : Dev) : Dev :=
  (Dev.wf { d with boot := { d.boot with phase := .firmware }, out := .core 0 :: d.out } R.DBG_DBG_STATUS 0 3 3 0).raise 0x000

section
variable {d : Dev}

/-- Debug is locked out until a time still to come. -/
theorem Dev.chalAt_any_iff : (d.boot.chalAt.any fun t => decide (d.now < t)) = true ↔ ∃ t, d.boot.chalAt = some t ∧ d.now < t := by
  cases d.boot.chalAt <;> simp

theorem Dev.challenge_open (hfuse : Config.debugFuseOff = false) (hopen : ∀ t, d.boot.chalAt = some t → t ≤ d.now) :
    d.challenge = d.chalGiven := by
  have hlocked : (d.boot.chalAt.any fun t => decide (d.now < t)) ≠ true := fun h => by
    obtain ⟨t, ht, hlt⟩ := Dev.chalAt_any_iff.1 h
    exact absurd (hopen t ht) (Nat.not_le.2 hlt)
  exact if_neg (or_ne_true (ne_true_of_eq_false hfuse) hlocked)

theorem Dev.challenge_locked (h : Config.debugFuseOff = true ∨ ∃ t, d.boot.chalAt = some t ∧ d.now < t) : d.challenge = d :=
  if_pos ((Bool.or_eq_true _ _).mpr (h.imp_right Dev.chalAt_any_iff.2))

theorem Dev.halt_of_running (hauth : d.dbgAuth = true) (hrun : d.boot.halted = false) :
    d.halt = (Dev.wf { d with boot := { d.boot with halted := true }, out := .core 4 :: d.out } R.DBG_DBG_STATUS 0 1 1 1).raise 0x01b :=
  if_neg (or_ne_true (not_ne_true hauth) (ne_true_of_eq_false hrun))

theorem Dev.halt_silent (h : d.dbgAuth = false ∨ d.boot.halted = true) : d.halt = d := if_pos (by simpa using h)

theorem Dev.dbgResume_of_halted (hauth : d.dbgAuth = true) (hhalt : d.boot.halted = true) :
    d.dbgResume = if d.boot.phase = .hold then d.coresGoOn.holdStarts.doeResume else d.coresGoOn.doeResume :=
  if_neg (or_ne_true (not_ne_true hauth) (not_ne_true hhalt))

theorem Dev.dbgResume_silent (h : d.dbgAuth = false ∨ d.boot.halted = false) : d.dbgResume = d := if_pos (by simpa using h)

theorem Dev.verify_right {ok : Bool} (hok : ok = true) (hgiven : d.boot.chalOk = true) (hfuse : Config.debugFuseOff = false) :
    d.verify ok = (d.chalSpent.wf R.DBG_DBG_STATUS 0 0 0 1).raise 0x019 :=
  if_pos (by simp [hok, hgiven, hfuse])

theorem Dev.verify_wrong {ok : Bool} (h : ok = false ∨ d.boot.chalOk = false ∨ Config.debugFuseOff = true) :
    d.verify ok = d.chalSpent.chalLocked := by
  have hfails : (ok && d.boot.chalOk && !Config.debugFuseOff) ≠ true := by
    rcases h with h | h | h <;> simp [h]
  exact if_neg hfails

end

section
variable {s : State} {a : Acc} (h : s.dev.may a R.DBG_DBG_CTRL true = true)
include h

theorem exec_challenge_made : exec (.challenge a) s = .next (s.settled s.dev.challenge) := State.eff_guardW_may h

theorem exec_verify_made (ok : Bool) : exec (.verify a ok) s = .next (s.settled (s.dev.verify ok)) := State.eff_guardW_may h

theorem exec_deauth_made : exec (.deauth a) s = .next (s.settled (s.dev.wf R.DBG_DBG_STATUS 0 0 0 0)) := State.eff_guardW_may h

theorem exec_halt_made : exec (.halt a) s = .next (s.settled s.dev.halt) := State.eff_guardW_may h

theorem exec_dbgResume_made : exec (.dbgResume a) s = .next (s.settled s.dev.dbgResume) := State.eff_guardW_may h

end

section
variable {s : State}

theorem exec_challengeLockoutEnd_locked {t : Nat} (h : s.dev.boot.chalAt = some t) :
    exec .challengeLockoutEnd s = .next (s.settled
      { s.dev.advanceTo t with boot := { (s.dev.advanceTo t).boot with chalAt := none } }) := by
  change execChallengeLockoutEnd s = _
  exact State.eff_of_eq (by simp only [h])

theorem exec_challengeLockoutEnd_open (h : s.dev.boot.chalAt = none) : exec .challengeLockoutEnd s = .next (s.settled s.dev) := by
  change execChallengeLockoutEnd s = _
  exact State.eff_of_eq (by simp only [h])

/-! ### The test logic (R481, R499) -/

theorem exec_boundaryScan_reset (code : Nat) (h : s.dev.mgt.trst = true) : exec (.boundaryScan code) s = .next (s.settled s.dev) := by
  change execBoundaryScan code s = _
  exact State.eff_of_eq (if_pos h)

theorem exec_boundaryScan_runs (code : Nat) (h : s.dev.mgt.trst = false) :
    exec (.boundaryScan code) s = .next (s.settled
      (Dev.emit { s.dev with mgt := { s.dev.mgt with extest := code } } (.bus 5 code []))) := by
  change execBoundaryScan code s = _
  exact State.eff_of_eq (if_neg (ne_true_of_eq_false h))

theorem exec_testLogicReset (low : Bool) :
    exec (.testLogicReset low) s = .next (s.settled
      { s.dev with mgt := { s.dev.mgt with trst := low, extest := if low then 0 else s.dev.mgt.extest } }) := rfl

end

/-! ### The sideband pins (R484–R487) -/

/-- A tenant's stable owns what a route would read: an input pin, or the port whose reset it is. -/
def Dev.SbOwn (d : Dev) (src st : Nat) : Prop :=
  if src < 0x40 then d.rb R.SBD_SB_OWN src 6 = true ∧ d.rf R.SBD_SB_OWN src 5 0 = st
  else if 0x80 ≤ src then d.owner (src - 0x80) = some st else True

/-- The same, as SB_ROUTE asks it. -/
def Dev.sbOwn (d : Dev) (src st : Nat) : Bool :=
  if src < 0x40 then d.rb R.SBD_SB_OWN src 6 && d.rf R.SBD_SB_OWN src 5 0 == st
  else if 0x80 ≤ src then d.owner (src - 0x80) == some st else true

/-- A route that nothing denies is written. -/
def Dev.sbRouteSet (d : Dev) (j : Nat) (w : Word) : Dev := d.wr R.SBD_SB_ROUTE j (w &&& 0x3ff)

/-- The level of a pin that routes no source is free. -/
def Dev.sbRouteFree (d : Dev) (j : Nat) : Dev :=
  let m := (bitsOf 64 d.mgt.padFree).filter (· != j)
  { d.fresh.2 with mgt := { d.fresh.2.mgt with padFree := ofBits (if bit d.fresh.1 0 then m ++ [j] else m) } }

/-- The port that a write of SB_CLKREQ names is named by another pin. -/
def Dev.clkreqTaken (d : Dev) (j : Nat) (w : Word) : Bool :=
  bit w 8 && (List.range 64).any fun k => k != j && d.rb R.SBD_SB_CLKREQ k 8 && d.rf R.SBD_SB_CLKREQ k 7 0 == fld w 7 0

section
variable {d : Dev} {a : Acc}

theorem Dev.sbOwn_iff {src st : Nat} : d.sbOwn src st = true ↔ d.SbOwn src st := by
  unfold Dev.sbOwn Dev.SbOwn
  split
  case isTrue => simp
  case isFalse => split <;> simp

/-- A route is denied exactly where the writer is a tenant that does not own its source. -/
theorem Dev.sbDenied_iff {src : Nat} :
    ((d.tenant a).any fun st => !d.sbOwn src st) = true ↔ ∃ st, d.tenant a = some st ∧ ¬ d.SbOwn src st := by
  cases d.tenant a <;> simp [← Dev.sbOwn_iff]

theorem Dev.sbRouteW_denied {j : Nat} {w : Word} (h : ∃ st, d.tenant a = some st ∧ ¬ d.SbOwn (fld w 7 0) st) :
    d.sbRouteW a j w = d.denied a 0x16 R.SBD_SB_ROUTE.off true :=
  if_pos (Dev.sbDenied_iff.2 h)

theorem Dev.sbRouteW_allowed {j : Nat} {w : Word} (h : ∀ st, d.tenant a = some st → d.SbOwn (fld w 7 0) st) :
    d.sbRouteW a j w = if fld w 7 0 ≤ 0x41 ∨ 0x80 ≤ fld w 7 0 then d.sbRouteSet j w else (d.sbRouteSet j w).sbRouteFree j := by
  have hdenied : ¬ ((d.tenant a).any fun st => !d.sbOwn (fld w 7 0) st) = true := fun hd => by
    obtain ⟨st, hst, hown⟩ := Dev.sbDenied_iff.1 hd
    exact hown (h st hst)
  exact if_neg hdenied

end

section
variable {s : State} {a : Acc} {w : Word}

section
variable (h : s.dev.may a R.SBD_SB_ROUTE true = true)
include h

theorem exec_sbRouteWrite_made :
    exec (.sbRouteWrite a w) s = .next (s.settled (s.dev.sbRouteW a (s.dev.instOf a 0x16 R.SBD_SB_ROUTE.off) w)) :=
  State.eff_guardW_may h

theorem exec_sbRouteWrite_denied (hdeny : ∃ st, s.dev.tenant a = some st ∧ ¬ s.dev.SbOwn (fld w 7 0) st) :
    exec (.sbRouteWrite a w) s = .next (s.settled (s.dev.denied a 0x16 R.SBD_SB_ROUTE.off true)) :=
  State.next_settled_congr (exec_sbRouteWrite_made h) (Dev.sbRouteW_denied hdeny)

variable (hown : ∀ st, s.dev.tenant a = some st → s.dev.SbOwn (fld w 7 0) st)
include hown

theorem exec_sbRouteWrite_source (hsrc : fld w 7 0 ≤ 0x41 ∨ 0x80 ≤ fld w 7 0) :
    exec (.sbRouteWrite a w) s = .next (s.settled (s.dev.sbRouteSet (s.dev.instOf a 0x16 R.SBD_SB_ROUTE.off) w)) :=
  State.next_settled_congr (exec_sbRouteWrite_made h) ((Dev.sbRouteW_allowed hown).trans (if_pos hsrc))

theorem exec_sbRouteWrite_free (hlow : 0x41 < fld w 7 0) (hhigh : fld w 7 0 < 0x80) :
    exec (.sbRouteWrite a w) s = .next (s.settled
      ((s.dev.sbRouteSet (s.dev.instOf a 0x16 R.SBD_SB_ROUTE.off) w).sbRouteFree (s.dev.instOf a 0x16 R.SBD_SB_ROUTE.off))) :=
  State.next_settled_congr (exec_sbRouteWrite_made h) ((Dev.sbRouteW_allowed hown).trans (if_neg (by omega)))

end

section
variable (h : s.dev.may a R.SBD_SB_CLKREQ true = true)
include h

theorem exec_sbClkreqWrite_made :
    exec (.sbClkreqWrite a w) s = .next (s.settled (
      let j := s.dev.instOf a 0x16 R.SBD_SB_CLKREQ.off
      if s.dev.clkreqTaken j w then s.dev.sticky (accIdx a) 0x16 1 else s.dev.wr R.SBD_SB_CLKREQ j (w &&& 0x1ff))) :=
  State.eff_guardW_may h

theorem exec_sbClkreqWrite_taken (htaken : s.dev.clkreqTaken (s.dev.instOf a 0x16 R.SBD_SB_CLKREQ.off) w = true) :
    exec (.sbClkreqWrite a w) s = .next (s.settled (s.dev.sticky (accIdx a) 0x16 1)) :=
  State.next_settled_congr (exec_sbClkreqWrite_made h) (if_pos htaken)

theorem exec_sbClkreqWrite_untaken (hfree : s.dev.clkreqTaken (s.dev.instOf a 0x16 R.SBD_SB_CLKREQ.off) w = false) :
    exec (.sbClkreqWrite a w) s = .next (s.settled
      (s.dev.wr R.SBD_SB_CLKREQ (s.dev.instOf a 0x16 R.SBD_SB_CLKREQ.off) (w &&& 0x1ff))) :=
  State.next_settled_congr (exec_sbClkreqWrite_made h) (if_neg (ne_true_of_eq_false hfree))

end

variable {pin : Nat} (level : Bool)

theorem exec_sbioInputChange_low (h : pin < 32) :
    exec (.sbioInputChange pin level) s = .next (s.settled (s.dev.wf R.SBD_SB_IN0 0 pin pin (b2n level))) := by
  change execSbioInputChange pin level s = _
  exact State.eff_of_eq (if_pos h)

theorem exec_sbioInputChange_high (h : 32 ≤ pin) (hlast : pin < 64) :
    exec (.sbioInputChange pin level) s = .next (s.settled (s.dev.wf R.SBD_SB_IN1 0 (pin - 32) (pin - 32) (b2n level))) := by
  change execSbioInputChange pin level s = _
  exact State.eff_of_eq ((if_neg (Nat.not_lt.2 h)).trans (if_pos hlast))

end

/-! ### The statement -/

section
variable {s : State} {a : Acc} (h : s.dev.may a R.DBG_DBG_CTRL true = true)
include h

/-- VERIFY spends the challenge, and authenticates or locks out. -/
theorem exec_verify_outcome (ok : Bool) :
    (ok = true → s.dev.boot.chalOk = true → Config.debugFuseOff = false →
      exec (.verify a ok) s = .next (s.settled ((s.dev.chalSpent.wf R.DBG_DBG_STATUS 0 0 0 1).raise 0x019))) ∧
    (ok = false ∨ s.dev.boot.chalOk = false ∨ Config.debugFuseOff = true →
      exec (.verify a ok) s = .next (s.settled s.dev.chalSpent.chalLocked)) :=
  ⟨fun hok hgiven hfuse => State.next_settled_congr (exec_verify_made h ok) (Dev.verify_right hok hgiven hfuse),
    fun hwrong => State.next_settled_congr (exec_verify_made h ok) (Dev.verify_wrong hwrong)⟩

/-- RESUME of halted cores; in DEBUG_HOLD the firmware starts. -/
theorem exec_dbgResume_halted (hauth : s.dev.dbgAuth = true) (hhalt : s.dev.boot.halted = true) :
    (s.dev.boot.phase ≠ .hold → exec (.dbgResume a) s = .next (s.settled s.dev.coresGoOn.doeResume)) ∧
    (s.dev.boot.phase = .hold → exec (.dbgResume a) s = .next (s.settled s.dev.coresGoOn.holdStarts.doeResume)) := by
  have hexec := State.next_settled_congr (exec_dbgResume_made h) (Dev.dbgResume_of_halted hauth hhalt)
  exact ⟨fun hphase => State.next_settled_congr hexec (if_neg hphase), fun hphase => State.next_settled_congr hexec (if_pos hphase)⟩

end

/-- Settles O54: control messages by the path they arrive on, DBG_CTRL bit by bit, the test logic and the sideband pins. -/
theorem managementDebugAndPinsComplete : Obligations.ManagementDebugAndPinsComplete := by
  refine fun s => ⟨fun p hup => ⟨?eidSet, ?eidRefused, exec_getEndpointId_up hup, exec_getVersionSupport_up hup,
      exec_getMessageTypeSupport_up hup, exec_getVendorDefinedMessageSupport_up hup, exec_pldmMessage_off hup,
      fun sensor hfw => exec_pldmMessage_reads hup hfw, fun type sensor hfw => exec_pldmMessage_other hup hfw⟩,
    ?down, exec_mctpPacketError_up, exec_mctpPacketError_down, ?debug, fun t => exec_challengeLockoutEnd_locked,
    exec_challengeLockoutEnd_open, exec_boundaryScan_reset, exec_boundaryScan_runs, exec_testLogicReset,
    fun a w => ⟨fun h => ⟨exec_sbRouteWrite_denied h, exec_sbRouteWrite_source h, exec_sbRouteWrite_free h⟩,
      fun h => ⟨exec_sbClkreqWrite_taken h, exec_sbClkreqWrite_untaken h⟩⟩,
    fun pin level => ⟨exec_sbioInputChange_low level, exec_sbioInputChange_high level⟩⟩
  case eidSet =>
    exact fun eid hzero hlast => State.next_settled_congr (exec_setEndpointId_up hup eid)
      (if_neg (not_or.2 ⟨hzero, Nat.not_le.2 hlast⟩))
  case eidRefused => exact fun eid hrefused => State.next_settled_congr (exec_setEndpointId_up hup eid) (if_pos hrefused)
  case down =>
    intro p eid type sensor hdown
    simp only [List.forall_mem_cons]
    exact ⟨exec_setEndpointId_down hdown eid, exec_getEndpointId_down hdown, exec_getVersionSupport_down hdown type,
      exec_getMessageTypeSupport_down hdown, exec_getVendorDefinedMessageSupport_down hdown, exec_pldmMessage_down hdown type sensor,
      List.forall_mem_nil _⟩
  case debug =>
    exact fun a h => ⟨fun hfuse hopen => State.next_settled_congr (exec_challenge_made h) (Dev.challenge_open hfuse hopen),
      fun hlocked => State.next_settled_congr (exec_challenge_made h) (Dev.challenge_locked hlocked),
      fun hsilent => State.next_settled_congr (exec_halt_made h) (Dev.halt_silent hsilent),
      fun hsilent => State.next_settled_congr (exec_dbgResume_made h) (Dev.dbgResume_silent hsilent),
      exec_verify_outcome h, exec_deauth_made h,
      fun hauth hrun => State.next_settled_congr (exec_halt_made h) (Dev.halt_of_running hauth hrun), exec_dbgResume_halted h⟩

end Sys2Proof.Machine
end

section
/-! Family 21_configuration_image: the records of the KCI (O55). -/

namespace Sys2Proof.Machine

/-! ### A record that does not run (R472, R473) -/

/-- The boot ROM does not apply the image. -/
def Dev.KciStopped (d : Dev) : Prop :=
  d.boot.phase ≠ .kci ∨ d.pwr.perst = true ∨ d.pwr.off = true ∨ d.boot.coresDown = true

section
variable {d : Dev} (lk : List Nat) (poll : Bool) (words : List Nat) (f : Dev → List Nat × Dev × Bool)

theorem Dev.kciRec_stopped (h : d.KciStopped) : d.kciRec lk poll words f = (lk, d) := by
  have hguard : (d.boot.phase != .kci || d.pwr.perst || d.pwr.off || d.boot.coresDown || (d.boot.waitEnd.isSome && !poll)) = true := by
    rcases h with h | h | h | h <;> simp [h]
  exact if_pos hguard

/-- A COMMIT in progress holds the next record. -/
theorem Dev.kciRec_committing (h : d.kciCommitted = none) : d.kciRec lk poll words f = (lk, d) := by
  unfold Dev.kciRec
  rw [h]
  exact ite_self _

/-- A WAIT in progress holds each record that is no poll. -/
theorem Dev.kciRec_waiting (h : d.boot.waitEnd.isSome = true) : d.kciRec lk false words f = (lk, d) :=
  if_pos ((Bool.or_eq_true _ _).mpr (.inr (by rw [h]; rfl)))

/-- A COMMIT that failed stops the application at its own index. -/
theorem Dev.kciRec_commitFailed (hruns : ¬ d.KciStopped) (hwait : d.boot.waitEnd = none) (h : d.kciCommitted = some false) :
    d.kciRec lk poll words f = (lk, d.kciFail (d.boot.nextRec - 1)) := by
  have hguard : ¬ (d.boot.phase != .kci || d.pwr.perst || d.pwr.off || d.boot.coresDown || (d.boot.waitEnd.isSome && !poll)) = true := by
    simpa [Dev.KciStopped, hwait, and_assoc] using hruns
  unfold Dev.kciRec
  rw [h]
  exact if_neg hguard

end

/-! ### The records as commands -/

/-- A command that offers one record to the boot ROM: its words, its action, and whether it may poll a WAIT in progress. -/
def IsKciRec (c : Instr) (poll : Bool) (words : List Nat) (f : List Nat → Dev → List Nat × Dev × Bool) : Prop :=
  ∀ s : State, exec c s = s.effL fun lk d => d.kciRec lk poll words (f lk)

/-- Every earlier COMMIT is over. -/
def Dev.kciNext (d : Dev) : Dev := { d with boot := { d.boot with comWait := none } }

/-- What a record that ran leaves: it counts, unless a WAIT polls on or the record failed. -/
def State.kciAfter (s : State) (words : List Nat) (r : List Nat × Dev) (ok : Bool) : State :=
  State.settled { s with plock := r.1 }
    (if r.2.boot.waitEnd.isSome then r.2
     else if ok then { r.2 with boot := { r.2.boot with nextRec := s.dev.boot.nextRec + 1, crc := words.foldl crcWord s.dev.boot.crc } }
     else r.2.kciFail s.dev.boot.nextRec)

/-- The conditions under which a record runs. -/
structure Dev.KciRuns (d : Dev) : Prop where
  phase : d.boot.phase = .kci
  perst : d.pwr.perst = false
  power : d.pwr.off = false
  cores : d.boot.coresDown = false
  committed : d.kciCommitted = some true

section
variable {c : Instr} {poll : Bool} {words : List Nat} {f : List Nat → Dev → List Nat × Dev × Bool} {s : State}

/-- What a record answers, from what it does to the locks and the device. -/
theorem IsKciRec.exec_eq (hc : IsKciRec c poll words f) {l : List Nat} {d : Dev} (h : s.dev.kciRec s.plock poll words (f s.plock) = (l, d)) :
    exec c s = .next (State.settled { s with plock := l } d) := by
  rw [hc s, State.effL_next, h]

theorem IsKciRec.stopped (hc : IsKciRec c poll words f) (h : s.dev.KciStopped ∨ s.dev.kciCommitted = none) :
    exec c s = .next (s.settled s.dev) :=
  hc.exec_eq (h.elim (Dev.kciRec_stopped s.plock poll words (f s.plock)) (Dev.kciRec_committing s.plock poll words (f s.plock)))

theorem IsKciRec.waiting (hc : IsKciRec c false words f) (h : s.dev.boot.waitEnd.isSome = true) : exec c s = .next (s.settled s.dev) :=
  hc.exec_eq (Dev.kciRec_waiting s.plock words (f s.plock) h)

theorem IsKciRec.commitFailed (hc : IsKciRec c poll words f) (hruns : ¬ s.dev.KciStopped) (hwait : s.dev.boot.waitEnd = none)
    (h : s.dev.kciCommitted = some false) : exec c s = .next (s.settled (s.dev.kciFail (s.dev.boot.nextRec - 1))) :=
  hc.exec_eq (Dev.kciRec_commitFailed s.plock poll words (f s.plock) hruns hwait h)

/-- A record that runs answers what its action says. -/
theorem IsKciRec.runs (hc : IsKciRec c poll words f) (hruns : s.dev.KciRuns) (hwait : s.dev.boot.waitEnd = none ∨ poll = true)
    {r : List Nat × Dev} {ok : Bool} (hf : f s.plock s.dev.kciNext = (r.1, r.2, ok)) : exec c s = .next (s.kciAfter words r ok) := by
  obtain ⟨hphase, hperst, hpower, hcores, hcommitted⟩ := hruns
  have hrec := s.dev.kciRec_runs s.plock poll words (f s.plock) hphase hperst hpower hcores hwait hcommitted
  have hf' : f s.plock { s.dev with boot := { s.dev.boot with comWait := none } } = (r.1, r.2, ok) := hf
  refine hc.exec_eq (hrec.trans ?_)
  simp only [hf']

end

/-! ### The action of each record -/

/-- A register write of the ROM, after the accesses before it. -/
def romAfter (r : List Nat × Dev) (addr : Nat) (w : Word) : List Nat × Dev := r.2.accWrite r.1 (.core true) addr 15 [w] Ext.none

/-- A register read of the ROM. -/
def Dev.romValue (d : Dev) (lk : List Nat) (addr : Nat) : Word × Dev := d.readWord lk (.core true) addr 15 Ext.none none

/-- An action that cannot fail. -/
def kciDone (r : List Nat × Dev) : List Nat × Dev × Bool := (r.1, r.2, true)

def kciRmwDoes (addr : Nat) (m w : Word) (lk : List Nat) (d : Dev) : List Nat × Dev × Bool :=
  let old := d.romValue lk addr
  kciDone (romAfter (lk, old.2) addr (old.1 &&& ~~~m ||| w &&& m))

def kciSelWriteDoes (addr : Nat) (sel w : Word) (lk : List Nat) (d : Dev) : List Nat × Dev × Bool :=
  kciDone (romAfter (romAfter (lk, d) (addr / 4096 * 4096 + 0xc0) sel) addr w)

def kciCommitDoes (page : Nat) (lk : List Nat) (d : Dev) : List Nat × Dev × Bool :=
  if inGroup page = true ∧ d.yardEn = true then kciDone (lk, d)
  else
    let r := romAfter (lk, d) (4096 * page + 0x80) 1
    if r.2.commitBusy 64 page then kciDone (r.1, { r.2 with boot := { r.2.boot with comWait := some page } })
    else (r.1, r.2, r.2.staging.lastErr.getD page 0 % 256 == 0)

def kciEndDoes (crc : Nat) (bad : Bool) (lk : List Nat) (d : Dev) : List Nat × Dev × Bool :=
  if bad = true ∨ crc ≠ d.boot.crc ^^^ 0xffffffff then (lk, d, false) else kciDone (lk, d.kciComplete)

/-- The end of a WAIT: the value stands, or its time is over. -/
def Dev.waitOver (d : Dev) : Dev := { d with boot := { d.boot with waitEnd := none } }

/-- The time at which a WAIT ends. -/
def Dev.waitLimit (d : Dev) (us : Nat) : Nat := d.boot.waitEnd.getD (d.now + 1000 * us)

/-- What one poll of a WAIT reads. -/
def Dev.waitPoll (d : Dev) (lk : List Nat) (addr us : Nat) (expired : Bool) : Word × Dev :=
  (if expired then d.advanceTo (d.waitLimit us) else d).romValue lk addr

def kciWaitDoes (addr : Nat) (m v : Word) (us : Nat) (expired : Bool) (lk : List Nat) (d : Dev) : List Nat × Dev × Bool :=
  let r := d.waitPoll lk addr us expired
  if r.1 &&& m = v then kciDone (lk, r.2.waitOver)
  else if us = 0 ∨ d.waitLimit us ≤ r.2.now then (lk, r.2.waitOver, false)
  else kciDone (lk, { r.2 with boot := { r.2.boot with waitEnd := some (d.waitLimit us) } })

section
variable (addr page us crc : Nat) (m w sel v : Word) (e : Bool)

theorem isKciRec_write : IsKciRec (.kciWrite addr w) false [0x00020001, addr, w.toNat] fun lk d => kciDone (romAfter (lk, d) addr w) :=
  fun _ => rfl

theorem isKciRec_rmw : IsKciRec (.kciRmw addr m w) false [0x00030002, addr, m.toNat, w.toNat] (kciRmwDoes addr m w) := fun _ => rfl

theorem isKciRec_selWrite : IsKciRec (.kciSelWrite addr sel w) false [0x00030003, addr, sel.toNat, w.toNat] (kciSelWriteDoes addr sel w) :=
  fun _ => rfl

theorem isKciRec_commit : IsKciRec (.kciCommit page) false [0x00010004, page] (kciCommitDoes page) := fun _ => rfl

theorem isKciRec_wait : IsKciRec (.kciWait addr m v us e) true [0x00040005, addr, m.toNat, v.toNat, us] (kciWaitDoes addr m v us e) :=
  fun _ => rfl

theorem isKciRec_delay : IsKciRec (.kciDelay us) false [0x00010006, us] fun lk d => kciDone (lk, d.advanceTo (d.now + 1000 * us)) :=
  fun _ => rfl

theorem isKciRec_yard : IsKciRec (.kciYard w) false [0x00010007, w.toNat] fun lk d => kciDone (romAfter (lk, d) 0x110 w) := fun _ => rfl

theorem isKciRec_end : IsKciRec (.kciEnd crc e) false [0x000100ff, crc] (kciEndDoes crc e) := fun _ => rfl

end

/-! ### The outcomes of COMMIT, END and WAIT -/

/-- The commit of a page that no yard group holds back is written. -/
theorem kciCommitDoes_alone {lk : List Nat} {d : Dev} {page : Nat} (h : inGroup page = false ∨ d.yardEn = false) :
    kciCommitDoes page lk d =
      let r := romAfter (lk, d) (4096 * page + 0x80) 1
      if r.2.commitBusy 64 page then kciDone (r.1, { r.2 with boot := { r.2.boot with comWait := some page } })
      else (r.1, r.2, r.2.staging.lastErr.getD page 0 % 256 == 0) := by
  have hgroup : ¬ (inGroup page = true ∧ d.yardEn = true) := by
    rintro ⟨hin, hyard⟩
    exact h.elim (fun hout => ne_true_of_eq_false hout hin) (fun hoff => ne_true_of_eq_false hoff hyard)
  exact if_neg hgroup

section
variable {s : State} (hruns : s.dev.KciRuns)
include hruns

section
variable (hwait : s.dev.boot.waitEnd = none)
include hwait

theorem exec_kciCommit_group {page : Nat} (hgroup : inGroup page = true) (hyard : s.dev.kciNext.yardEn = true) :
    exec (.kciCommit page) s = .next (s.kciAfter [0x00010004, page] (s.plock, s.dev.kciNext) true) :=
  (isKciRec_commit page).runs hruns (.inl hwait) (if_pos ⟨hgroup, hyard⟩)

section
variable {page : Nat} (halone : inGroup page = false ∨ s.dev.kciNext.yardEn = false)
include halone

theorem exec_kciCommit_busy (hbusy : (romAfter (s.plock, s.dev.kciNext) (4096 * page + 0x80) 1).2.commitBusy 64 page = true) :
    let r := romAfter (s.plock, s.dev.kciNext) (4096 * page + 0x80) 1
    exec (.kciCommit page) s =
      .next (s.kciAfter [0x00010004, page] (r.1, { r.2 with boot := { r.2.boot with comWait := some page } }) true) :=
  (isKciRec_commit page).runs hruns (.inl hwait) ((kciCommitDoes_alone halone).trans (if_pos hbusy))

theorem exec_kciCommit_done (hdone : (romAfter (s.plock, s.dev.kciNext) (4096 * page + 0x80) 1).2.commitBusy 64 page = false) :
    let r := romAfter (s.plock, s.dev.kciNext) (4096 * page + 0x80) 1
    exec (.kciCommit page) s = .next (s.kciAfter [0x00010004, page] r (r.2.staging.lastErr.getD page 0 % 256 == 0)) :=
  (isKciRec_commit page).runs hruns (.inl hwait) ((kciCommitDoes_alone halone).trans (if_neg (ne_true_of_eq_false hdone)))

end

theorem exec_kciEnd_right {crc : Nat} {bad : Bool} (hbad : bad = false) (hcrc : crc = s.dev.boot.crc ^^^ 0xffffffff) :
    exec (.kciEnd crc bad) s = .next (s.kciAfter [0x000100ff, crc] (s.plock, s.dev.kciNext.kciComplete) true) :=
  (isKciRec_end crc bad).runs hruns (.inl hwait) (if_neg (not_or.2 ⟨ne_true_of_eq_false hbad, not_not_intro hcrc⟩))

theorem exec_kciEnd_wrong {crc : Nat} {bad : Bool} (h : bad = true ∨ crc ≠ s.dev.boot.crc ^^^ 0xffffffff) :
    exec (.kciEnd crc bad) s = .next (s.kciAfter [0x000100ff, crc] (s.plock, s.dev.kciNext) false) :=
  (isKciRec_end crc bad).runs hruns (.inl hwait) (if_pos h)

end

section
variable {addr us : Nat} {m v : Word} {expired : Bool}

theorem exec_kciWait_stands (hvalue : (s.dev.kciNext.waitPoll s.plock addr us expired).1 &&& m = v) :
    exec (.kciWait addr m v us expired) s = .next (s.kciAfter [0x00040005, addr, m.toNat, v.toNat, us]
      (s.plock, (s.dev.kciNext.waitPoll s.plock addr us expired).2.waitOver) true) :=
  (isKciRec_wait addr us m v expired).runs hruns (.inr rfl) (if_pos hvalue)

variable (hvalue : (s.dev.kciNext.waitPoll s.plock addr us expired).1 &&& m ≠ v)
include hvalue

theorem exec_kciWait_times_out (hover : us = 0 ∨ s.dev.kciNext.waitLimit us ≤ (s.dev.kciNext.waitPoll s.plock addr us expired).2.now) :
    exec (.kciWait addr m v us expired) s = .next (s.kciAfter [0x00040005, addr, m.toNat, v.toNat, us]
      (s.plock, (s.dev.kciNext.waitPoll s.plock addr us expired).2.waitOver) false) :=
  (isKciRec_wait addr us m v expired).runs hruns (.inr rfl) ((if_neg hvalue).trans (if_pos hover))

theorem exec_kciWait_polls_on (hus : us ≠ 0)
    (hnow : (s.dev.kciNext.waitPoll s.plock addr us expired).2.now < s.dev.kciNext.waitLimit us) :
    let r := s.dev.kciNext.waitPoll s.plock addr us expired
    exec (.kciWait addr m v us expired) s = .next (s.kciAfter [0x00040005, addr, m.toNat, v.toNat, us]
      (s.plock, { r.2 with boot := { r.2.boot with waitEnd := some (s.dev.kciNext.waitLimit us) } }) true) :=
  (isKciRec_wait addr us m v expired).runs hruns (.inr rfl)
    ((if_neg hvalue).trans (if_neg (not_or.2 ⟨hus, Nat.not_le.2 hnow⟩)))

end
end

/-- Settles O55: where a record does not run by the three lemmas on `IsKciRec`, where it runs by its own action. -/
theorem configurationImageRecordsComplete : Obligations.ConfigurationImageRecordsComplete := by
  refine ⟨fun s addr page us crc m w sel v e => ⟨fun h => ?stopped, fun h => ?waiting, fun hruns hwait h => ?failed⟩,
    fun s hphase hperst hpower hcores hcommitted => ?runs⟩
  case stopped =>
    simp only [List.forall_mem_cons]
    exact ⟨(isKciRec_write addr w).stopped h, (isKciRec_rmw addr m w).stopped h, (isKciRec_selWrite addr w sel).stopped h,
      (isKciRec_commit page).stopped h, (isKciRec_wait addr us m v e).stopped h, (isKciRec_delay us).stopped h,
      (isKciRec_yard w).stopped h, (isKciRec_end crc e).stopped h, List.forall_mem_nil _⟩
  case waiting =>
    simp only [List.forall_mem_cons]
    exact ⟨(isKciRec_write addr w).waiting h, (isKciRec_rmw addr m w).waiting h, (isKciRec_selWrite addr w sel).waiting h,
      (isKciRec_commit page).waiting h, (isKciRec_delay us).waiting h, (isKciRec_yard w).waiting h, (isKciRec_end crc e).waiting h,
      List.forall_mem_nil _⟩
  case failed =>
    simp only [List.forall_mem_cons]
    exact ⟨(isKciRec_write addr w).commitFailed hruns hwait h, (isKciRec_rmw addr m w).commitFailed hruns hwait h,
      (isKciRec_selWrite addr w sel).commitFailed hruns hwait h, (isKciRec_commit page).commitFailed hruns hwait h,
      (isKciRec_wait addr us m v e).commitFailed hruns hwait h, (isKciRec_delay us).commitFailed hruns hwait h,
      (isKciRec_yard w).commitFailed hruns hwait h, (isKciRec_end crc e).commitFailed hruns hwait h, List.forall_mem_nil _⟩
  case runs =>
    have hruns : s.dev.KciRuns := ⟨hphase, hperst, hpower, hcores, hcommitted⟩
    refine ⟨fun hwait => ⟨?_, ?_, ?_, fun page => ⟨exec_kciCommit_group hruns hwait, fun halone =>
        ⟨exec_kciCommit_busy hruns hwait halone, exec_kciCommit_done hruns hwait halone⟩⟩, ?_, ?_,
      fun crc bad => ⟨exec_kciEnd_right hruns hwait, exec_kciEnd_wrong hruns hwait⟩⟩,
      fun addr us m v expired => ⟨exec_kciWait_stands hruns, exec_kciWait_times_out hruns, exec_kciWait_polls_on hruns⟩⟩
    · exact fun addr w => (isKciRec_write addr w).runs hruns (.inl hwait) rfl
    · exact fun addr m w => (isKciRec_rmw addr m w).runs hruns (.inl hwait) rfl
    · exact fun addr sel w => (isKciRec_selWrite addr w sel).runs hruns (.inl hwait) rfl
    · exact fun us => (isKciRec_delay us).runs hruns (.inl hwait) rfl
    · exact fun w => (isKciRec_yard w).runs hruns (.inl hwait) rfl

end Sys2Proof.Machine
end

section
/-! Staged values and commits (R53–R60): accessors stage independently (O59), aborts (O30). -/

namespace Sys2Proof.Machine

/-! ### Accessors stage independently (R53) -/

/-- A word that another accessor stages is in no part of the staged values that depends on the accessor's own alone. -/
theorem Dev.stage_filter_other_acc (d : Dev) (x : Stg) {p : Stg → Bool} (hp : ∀ y, p y = true → y.acc ≠ x.acc) :
    (d.stage x).staging.staged.filter p = d.staging.staged.filter p := by
  have hnew : ¬ p x = true := fun h => hp x h rfl
  rw [Dev.stage, List.filter_append, List.filter_filter, List.filter_cons_of_neg hnew, List.filter_nil, List.append_nil]
  refine List.filter_congr fun y _ => ?_
  by_cases hy : p y = true
  · simp [hy, hp y hy]
  · simp [hy]

theorem Dev.stagedSet_stage_other_acc (d : Dev) (x : Stg) {acc : Nat} (page : Nat) (h : acc ≠ x.acc) :
    (d.stage x).stagedSet acc page = d.stagedSet acc page := by
  refine d.stage_filter_other_acc x fun y hy => ?_
  simp only [Bool.and_eq_true, beq_iff_eq] at hy
  exact hy.1.trans_ne h

theorem Dev.rwsRead_stage_other_acc (d : Dev) (x : Stg) {acc : Nat} (page inst off : Nat) (h : acc ≠ x.acc) :
    (d.stage x).rwsRead acc page inst off = d.rwsRead acc page inst off := by
  have hsame := d.stage_filter_other_acc x (p := Stg.readBy acc page inst off) fun y hy => by
    simp only [Stg.readBy, Bool.and_eq_true, beq_iff_eq] at hy
    exact hy.1.1.trans_ne h
  unfold Stg.readBy at hsame
  simp only [Dev.rwsRead, hsame]
  rfl

/-- Settles O59: what is staged last for a register is read back, and the staged values of another accessor are the same. -/
theorem accessorsStageIndependently : Obligations.AccessorsStageIndependently := by
  refine fun d x => ⟨?own, fun acc page inst off h => ⟨d.rwsRead_stage_other_acc x page inst off h, d.stagedSet_stage_other_acc x page h⟩, rfl⟩
  case own =>
    obtain ⟨acc, via, page, inst, off, val⟩ := x
    rintro (rfl : via = page)
    exact d.rwsRead_stage_same acc via inst off val

end Sys2Proof.Machine
end

section
/-! Staged values and commits (R53–R60): aborts (O30). -/

namespace Sys2Proof.Machine

/-! ### Aborts (R55) -/

/-- What the head tells its members about a discarded set changes nothing but the messages that wait. -/
theorem Dev.fanForget_frame (d : Dev) (acc : Nat) : d.fanForget acc = { d with mkl := (d.fanForget acc).mkl } := by
  unfold Dev.fanForget
  split
  · exact foldl_keeps (P := fun e : Dev => e = { d with mkl := e.mkl }) (f := fun d m => d.ctlSend m [2, 5, acc])
      (fun e m he => by rw [Dev.ctlSend, he]) _ _ rfl
  · rfl

/-- LAST_ERR of the page of a commit is the code that was set (R59). -/
theorem Dev.lastErr_setErr (d : Dev) (page code index : Nat) :
    (d.setErr page code index).staging.lastErr.getD page 0 = code % 256 + 256 * (index % 65536) := by
  unfold Dev.setErr groupOf
  by_cases h5 : page = 0x500
  · subst h5
    exact (Tbl.getD_put_other _ _ _ _ (by decide)).trans (Tbl.getD_put_same _ _ _ _)
  by_cases h6 : page = 0x600
  · subst h6
    exact Tbl.getD_put_same _ _ _ _
  · simp [h5, h6]

/-- The staged values that an abort of an accessor on a page leaves. -/
def Dev.abortLeaves (d : Dev) (acc page : Nat) : List Stg := d.staging.staged.filter fun x => !(x.acc == acc && x.via == page)

theorem Dev.mem_abortLeaves {d : Dev} {acc page : Nat} {x : Stg} :
    x ∈ d.abortLeaves acc page ↔ x ∈ d.staging.staged ∧ (x.acc ≠ acc ∨ x.via ≠ page) := by
  simp [Dev.abortLeaves]

/-- An abort, its LAST_ERR aside: the values are gone, and nothing else but the messages that wait has changed. -/
theorem Dev.abortReq_eq (d : Dev) (acc page : Nat) (commit : Bool) :
    ∃ m : Mkl, d.abortReq acc page commit =
      (let e := { d with staging := { d.staging with staged := d.abortLeaves acc page }, mkl := m }
       if commit then e.setErr page 6 0 else e) := by
  unfold Dev.abortReq
  by_cases hpage : page = 0
  · refine ⟨(Dev.fanForget { d with staging := { d.staging with staged := d.abortLeaves acc page } } acc).mkl, ?_⟩
    dsimp only
    rw [if_pos hpage, ← Dev.abortLeaves, Dev.fanForget_frame]
  · exact ⟨d.mkl, by dsimp only; rw [if_neg hpage]; rfl⟩

theorem exec_stageAbort_made {s : State} {a : Acc} {page : Nat} (commit : Bool) (h : s.dev.may a (stageReg page) true = true) :
    exec (.stageAbort a page commit) s = .next (s.settled (s.dev.abortReq (accIdx a) page commit)) := by
  change execStageAbort a page commit s = _
  rw [execStageAbort, State.eff_next, Dev.guardW_may _ _ _ _ h]

/-- Settles O30: an abort is the removal of the accessor's values on the page, with LAST_ERR where it is written with COMMIT. -/
theorem abortDiscardsTheStagedValuesOfThePage : Obligations.AbortDiscardsTheStagedValuesOfThePage := by
  intro s a page commit hmay
  obtain ⟨m, hd⟩ := s.dev.abortReq_eq (accIdx a) page commit
  refine ⟨_, exec_stageAbort_made commit hmay, ?_⟩
  have hgone : ∀ x ∈ s.dev.abortLeaves (accIdx a) page, x.acc ≠ accIdx a ∨ x.via ≠ page := fun x hx => (Dev.mem_abortLeaves.1 hx).2
  have hstand : ∀ x ∈ s.dev.staging.staged, x.acc ≠ accIdx a ∨ x.via ≠ page → x ∈ s.dev.abortLeaves (accIdx a) page :=
    fun x hx hne => Dev.mem_abortLeaves.2 ⟨hx, hne⟩
  have hold : ∀ x ∈ s.dev.abortLeaves (accIdx a) page, x ∈ s.dev.staging.staged := fun x hx => (Dev.mem_abortLeaves.1 hx).1
  rw [hd]
  cases commit with
  | true =>
    refine ⟨hgone, hstand, hold, rfl, rfl, rfl, fun _ => ?_, fun h => absurd h (by decide)⟩
    exact congrArg (· % 256) (Dev.lastErr_setErr _ page 6 0)
  | false => exact ⟨hgone, hstand, hold, rfl, rfl, rfl, fun h => absurd h (by decide), fun _ => rfl⟩

end Sys2Proof.Machine
end

section
/-! Family 18_power_states: performance levels and the droop guard (O51). -/

namespace Sys2Proof.Machine

section
variable {s : State}

/-! ### Performance levels (R449–R453, R493) -/

theorem exec_plReq_made {a : Acc} (w : Word) (h : s.dev.may a R.PWR_PL_CTRL true = true) :
    exec (.plReq a w) s = .next (s.settled (s.dev.plCtrlW w)) := State.eff_guardW_may h

theorem exec_stbHintWrite_made {a : Acc} (w : Word) (h : s.dev.may a R.PWR_STB_HINT true = true) :
    exec (.stbHintWrite a w) s = .next (s.settled (s.dev.stbHintW (s.dev.instOf a 0x13 R.PWR_STB_HINT.off) w)) := State.eff_guardW_may h

/-- The change that waits for a cycle start may start now (R451). -/
def Dev.PlStarts (d : Dev) : Prop := d.pwr.step = .sync ∧ d.syncReached = true ∧ (d.pwr.entry = 0 ∨ d.entering = true)

theorem exec_plChangeStart_inForce (h : s.dev.PlStarts) (hlv : s.dev.pwr.target = s.dev.plCur) :
    exec .plChangeStart s = .next (s.settled { s.dev with pwr := { s.dev.pwr with step := .none } }) :=
  State.eff_of_eq ((if_pos h).trans (if_pos hlv))

theorem exec_plChangeStart_starts (h : s.dev.PlStarts) (hlv : s.dev.pwr.target ≠ s.dev.plCur) :
    exec .plChangeStart s = .next (s.settled (s.dev.plStart s.dev.pwr.target)) :=
  State.eff_of_eq ((if_pos h).trans (if_neg hlv))

theorem exec_plChangeStart_waits (h : ¬ s.dev.PlStarts) : exec .plChangeStart s = .next (s.settled s.dev) :=
  State.eff_of_eq (if_neg h)

theorem exec_plSettleDone_idle (ack : Bool) (h : s.dev.ramping = false) : exec (.plSettleDone ack) s = .next (s.settled s.dev) := by
  change execPlSettleDone ack s = _
  simp [execPlSettleDone, State.eff, h]

theorem exec_avsRetry_idle (ack : Bool) (h : s.dev.ramping = false) : exec (.avsRetry ack) s = .next (s.settled s.dev) := by
  change execAvsRetry ack s = _
  simp [execAvsRetry, State.eff, h]

/-- The device at the end of the settling time, with what is known of the regulator's acknowledgement. -/
def Dev.rampSettled (d : Dev) (ack : Bool) : Dev :=
  let d := d.advanceTo d.pwr.settleAt
  { d with pwr := { d.pwr with avsAck := d.pwr.avsAck || ack } }

theorem exec_plSettleDone_ramping (ack : Bool) (h : s.dev.ramping = true) :
    exec (.plSettleDone ack) s = .next (s.settled
      (if (s.dev.rampSettled ack).pwr.avsAck then (s.dev.rampSettled ack).rampDone else s.dev.rampSettled ack)) := by
  change execPlSettleDone ack s = _
  exact State.eff_of_eq (if_neg (not_ne_true h))

/-- The device whose write of the target is made again, 10 µs after the last. -/
def Dev.avsAgain (d : Dev) (ack : Bool) : Dev :=
  let d := (d.advanceTo (d.pwr.avsAt + 10000)).avsWrite
  { d with pwr := { d.pwr with avsAck := ack } }

theorem exec_avsRetry_again (ack : Bool) (h : s.dev.ramping = true) (hack : s.dev.pwr.avsAck = false) :
    exec (.avsRetry ack) s = .next (s.settled
      (if ack = true ∧ (s.dev.avsAgain ack).pwr.settleAt ≤ (s.dev.avsAgain ack).now then (s.dev.avsAgain ack).rampDone
       else s.dev.avsAgain ack)) := by
  change execAvsRetry ack s = _
  exact State.eff_of_eq (if_neg (or_ne_true (not_ne_true h) (ne_true_of_eq_false hack)))

/-! ### The droop guard (R141, R454) -/

/-- A droop of a cluster is shown and counted. -/
def Dev.droopShown (d : Dev) (c : Nat) : Dev :=
  ((d.wf R.PWR_DRP_STATUS 0 c c 1).wf R.PWR_DRP_STATUS 0 16 16 1).bump (R.CAL_DRP_CNT c)

theorem exec_droopDetect_new {c : Nat} (hc : c < 16) (hclock : s.dev.clockRuns = true) (hon : s.dev.pwr.off = false)
    (hnew : s.dev.rb R.PWR_DRP_STATUS 0 c = false) :
    exec (.droopDetect c) s = .next (s.settled
      (let d := s.dev.droopShown c
       if d.pwr.stretchAt.isSome then d else { d with pwr := { d.pwr with stretchAt := some d.now, stretchLong := false } })) := by
  have hshown : ¬ (16 ≤ c ∨ (!s.dev.clockRuns) = true ∨ s.dev.pwr.off = true ∨ s.dev.rb R.PWR_DRP_STATUS 0 c = true) := by
    simp [hclock, hon, hnew, Nat.not_le.2 hc]
  change execDroopDetect c s = _
  exact State.eff_of_eq (if_neg hshown)

section
variable (h : s.dev.pwr.stretchAt = none)
include h

theorem exec_stretchEnd_none : exec .stretchEnd s = .next (s.settled s.dev) := by
  change execStretchEnd s = _
  simp [execStretchEnd, State.eff, h]

theorem exec_stretchLong_none : exec .stretchLong s = .next (s.settled s.dev) := by
  change execStretchLong s = _
  simp [execStretchLong, State.eff, h]

end

section
variable {t : Nat} (h : s.dev.pwr.stretchAt = some t)
include h

theorem exec_stretchEnd_some :
    exec .stretchEnd s = .next (s.settled
      (let d := (s.dev.bumpBy R.PWR_CNT_STRETCH_NS 0 (s.dev.now - t)).wr R.PWR_DRP_STATUS 0 0
       { d with pwr := { d.pwr with stretchAt := none, stretchLong := false } })) := by
  change execStretchEnd s = _
  simp [execStretchEnd, State.eff, h]

theorem exec_stretchLong_some (hlim : s.dev.rf R.PWR_DRP_CFG 0 31 16 ≠ 0) (hsaid : s.dev.pwr.stretchLong = false) :
    exec .stretchLong s = .next (s.settled
      (let d := s.dev.advanceTo (t + 1000 * s.dev.rf R.PWR_DRP_CFG 0 31 16)
       Dev.raise { d with pwr := { d.pwr with stretchLong := true } } 0x025)) := by
  change execStretchLong s = _
  simp [execStretchLong, State.eff, h, hlim, hsaid]

end

end

/-- Settles O51: one clause for each command and case. -/
theorem performanceLevelCommandsComplete : Obligations.PerformanceLevelCommandsComplete := by
  refine fun s => ⟨fun a w => ⟨exec_plReq_made w, exec_stbHintWrite_made w⟩, ?starts, ?waits, ?idle, ?noStretch, ?ramp, ?droop, ?stretch⟩
  case starts => exact fun hsync hreached hentry =>
    ⟨exec_plChangeStart_inForce ⟨hsync, hreached, hentry⟩, exec_plChangeStart_starts ⟨hsync, hreached, hentry⟩⟩
  case waits =>
    refine fun h => exec_plChangeStart_waits fun ⟨hsync, hreached, _⟩ => ?_
    exact h.elim (absurd hsync) fun hno => ne_true_of_eq_false hno hreached
  case idle => exact fun h ack => ⟨exec_plSettleDone_idle ack h, exec_avsRetry_idle ack h⟩
  case noStretch => exact fun h => ⟨exec_stretchEnd_none h, exec_stretchLong_none h⟩
  case ramp => exact fun h => ⟨fun ack => exec_plSettleDone_ramping ack h, fun hack ack => exec_avsRetry_again ack h hack⟩
  case droop => exact fun c => exec_droopDetect_new
  case stretch =>
    refine fun t h => ⟨exec_stretchEnd_some h, ?_⟩
    rintro lim rfl
    exact exec_stretchLong_some h

end Sys2Proof.Machine
end

section
/-! What the operations on lanes and ports leave alone: registers are held apart by their offsets, so an operation that writes at some
offsets keeps every register at another. -/

namespace Sys2Proof.Machine

/-! ### Fields of words -/

/-- A field taken out of a number, bit by bit. -/
theorem testBit_fld (w : Word) (hi lo i : Nat) : (fld w hi lo).testBit i = (decide (i < hi + 1 - lo) && w.toNat.testBit (i + lo)) := by
  rw [fld, Nat.testBit_mod_two_pow, Nat.testBit_div_two_pow]

/-- A word of which a field is set, bit by bit: the field's value within it, the old word outside it. -/
theorem bit_setFld (w : Word) {hi lo i : Nat} (v : Nat) (hlo : lo ≤ hi) (hi32 : i < 32) :
    bit (setFld w hi lo v) i = if lo ≤ i ∧ i ≤ hi then v.testBit (i - lo) else bit w i := by
  unfold bit setFld
  dsimp only
  rw [BitVec.toNat_ofNat, Nat.testBit_mod_two_pow, decide_eq_true hi32, Bool.true_and, sub_add_digits, Nat.add_comm,
    Nat.testBit_two_pow_mul_add _ (Nat.mod_lt _ (Nat.two_pow_pos lo))]
  by_cases hbelow : i < lo
  · rw [if_pos hbelow, if_neg (by omega), Nat.testBit_mod_two_pow, decide_eq_true hbelow, Bool.true_and]
  rw [if_neg hbelow, Nat.add_comm, Nat.testBit_two_pow_mul_add _ (Nat.mod_lt _ (Nat.two_pow_pos _)), Nat.testBit_mod_two_pow]
  by_cases hin : i - lo < hi + 1 - lo
  · rw [if_pos hin, if_pos (by omega), decide_eq_true hin, Bool.true_and]
  · rw [if_neg hin, if_neg (by omega), Nat.testBit_div_two_pow, Nat.testBit_div_two_pow]
    congr 1
    omega

/-- Setting a field leaves the bits outside it alone. -/
theorem bit_setFld_other (w : Word) {hi lo i : Nat} (v : Nat) (hlo : lo ≤ hi) (hi32 : i < 32) (hout : i < lo ∨ hi < i) :
    bit (setFld w hi lo v) i = bit w i := by
  rw [bit_setFld w v hlo hi32, if_neg (by omega)]

/-- Setting a field leaves the fields outside it alone. -/
theorem fld_setFld_other (w : Word) {hi lo hi' lo' : Nat} (v : Nat) (hlo : lo ≤ hi) (hhi' : hi' < 32)
    (hout : hi' < lo ∨ hi < lo') : fld (setFld w hi lo v) hi' lo' = fld w hi' lo' := by
  refine Nat.eq_of_testBit_eq fun i => ?_
  rw [testBit_fld, testBit_fld]
  by_cases hin : i < hi' + 1 - lo'
  · rw [decide_eq_true hin, Bool.true_and, Bool.true_and]
    exact bit_setFld_other w v hlo (by omega) (by omega)
  · rw [decide_eq_false hin, Bool.false_and, Bool.false_and]

section
variable (d : Dev) (r : Reg) (n : Nat) {hi lo : Nat} (v : Nat)

theorem Dev.rf_wf_other {hi' lo' : Nat} (hlo : lo ≤ hi) (hhi' : hi' < 32) (hout : hi' < lo ∨ hi < lo') :
    (d.wf r n hi lo v).rf r n hi' lo' = d.rf r n hi' lo' := by
  rw [Dev.rf, Dev.wf, Dev.rd_wr_same, fld_setFld_other _ v hlo hhi' hout, Dev.rf]

theorem Dev.rb_wf_other {i : Nat} (hlo : lo ≤ hi) (hi32 : i < 32) (hout : i < lo ∨ hi < i) :
    (d.wf r n hi lo v).rb r n i = d.rb r n i := by
  rw [Dev.rb, Dev.wf, Dev.rd_wr_same, bit_setFld_other _ v hlo hi32 hout, Dev.rb]

theorem Dev.rb_wf_one {i : Nat} (hi32 : i < 32) : (d.wf r n i i 1).rb r n i = true := by
  rw [Dev.rb, Dev.wf, Dev.rd_wr_same, bit_setFld_one _ hi32]

end

/-! ### Registers kept -/

/-- A device keeps, of another, the clock and every register but those at some offsets of their pages. -/
structure Dev.KeepsBut (offs : List Nat) (d e : Dev) : Prop where
  rd : ∀ (q : Reg) (i : Nat), q.off < 4096 → q.off ∉ offs → e.rd q i = d.rd q i
  now : e.now = d.now

namespace Dev.KeepsBut
variable {offs : List Nat} {d e f : Dev}

theorem refl (offs : List Nat) (d : Dev) : d.KeepsBut offs d := ⟨fun _ _ _ _ => rfl, rfl⟩

theorem trans (h : d.KeepsBut offs e) (k : e.KeepsBut offs f) : d.KeepsBut offs f :=
  ⟨fun q i hq ho => (k.rd q i hq ho).trans (h.rd q i hq ho), k.now.trans h.now⟩

/-- Fewer offsets written are fewer registers changed. -/
theorem mono {offs' : List Nat} (h : d.KeepsBut offs e) (hsub : offs ⊆ offs') : d.KeepsBut offs' e :=
  ⟨fun q i hq ho => h.rd q i hq fun hm => ho (hsub hm), h.now⟩

/-- A device with the same registers and clock keeps all of them. -/
theorem of_regs (hregs : e.regs = d.regs) (hnow : e.now = d.now) : d.KeepsBut offs e :=
  ⟨fun _ _ _ _ => by rw [Dev.rd, Dev.rd, hregs], hnow⟩

theorem rf (h : d.KeepsBut offs e) (q : Reg) (i hi lo : Nat) (hq : q.off < 4096) (ho : q.off ∉ offs) : e.rf q i hi lo = d.rf q i hi lo :=
  congrArg (fld · hi lo) (h.rd q i hq ho)

theorem rb (h : d.KeepsBut offs e) (q : Reg) (i b : Nat) (hq : q.off < 4096) (ho : q.off ∉ offs) : e.rb q i b = d.rb q i b :=
  congrArg (bit · b) (h.rd q i hq ho)

theorem rn (h : d.KeepsBut offs e) (q : Reg) (i : Nat) (hq : q.off < 4096) (ho : q.off ∉ offs) : e.rn q i = d.rn q i :=
  congrArg BitVec.toNat (h.rd q i hq ho)

theorem of_evOnly (h : d.EvOnly e) : d.KeepsBut offs e := of_regs h.regs_eq h.now_eq

theorem wr {r : Reg} (i : Nat) (w : Word) (hr : r.off < 4096) (hm : r.off ∈ offs) : d.KeepsBut offs (d.wr r i w) :=
  ⟨fun _ _ hq ho => d.rd_wr_other w (regKey_ne_of_off hq hr fun h => ho (h ▸ hm)), rfl⟩

theorem wf {r : Reg} (i hi lo v : Nat) (hr : r.off < 4096) (hm : r.off ∈ offs) : d.KeepsBut offs (d.wf r i hi lo v) :=
  wr i _ hr hm

theorem wn {r : Reg} (i n : Nat) (hr : r.off < 4096) (hm : r.off ∈ offs) : d.KeepsBut offs (d.wn r i n) := wr i _ hr hm

theorem bumpBy {r : Reg} (i n : Nat) (stb : Option Nat) (hr : r.off < 4096) (hm : r.off ∈ offs) : d.KeepsBut offs (d.bumpBy r i n stb) :=
  ⟨fun _ _ hq ho => d.rd_bumpBy_other n stb (regKey_ne_of_off hq hr fun h => ho (h ▸ hm)), d.bumpBy_now r i n stb⟩

theorem bump {r : Reg} (i : Nat) (stb : Option Nat) (hr : r.off < 4096) (hm : r.off ∈ offs) : d.KeepsBut offs (d.bump r i stb) :=
  bumpBy i 1 stb hr hm

theorem foldl {β : Type} {g : Dev → β → Dev} (h : ∀ (d : Dev) (b : β), d.KeepsBut offs (g d b)) (l : List β) (d : Dev) : d.KeepsBut offs (l.foldl g d) :=
  foldl_keeps (P := fun e => d.KeepsBut offs e) (fun e b he => he.trans (h e b)) l d (refl offs d)

theorem ite {c : Prop} [Decidable c] (he : d.KeepsBut offs e) (hf : d.KeepsBut offs f) : d.KeepsBut offs (if c then e else f) := by
  split
  · exact he
  · exact hf

end Dev.KeepsBut

section
variable {offs : List Nat} (d : Dev) (p k : Nat)

theorem Dev.setPst_keepsBut (x : PortSt) : d.KeepsBut offs (d.setPst p x) := .of_regs rfl rfl

theorem Dev.setCalLane_keepsBut (x : CalLane) : d.KeepsBut offs (d.setCalLane p k x) := .of_regs rfl rfl

theorem Dev.report_keepsBut (w : Nat) : d.KeepsBut offs (d.report p w) := by
  unfold Dev.report
  exact .ite (.refl _ _) (d.setPst_keepsBut p _)

/-- A lane that becomes due shows it in LCAL_STATUS and CAL_PSTATUS. -/
theorem Dev.makeDue_keepsBut (trig : Nat) : d.KeepsBut [0x480, 0x108] (d.makeDue p k trig) := by
  unfold Dev.makeDue
  dsimp only
  refine .trans (.trans (.trans (d.setCalLane_keepsBut p k _) (.ite (.wf _ _ _ _ ?_ ?_) (.refl _ _))) (.wf _ _ _ _ ?_ ?_)) (.wf _ _ _ _ ?_ ?_)
  all_goals simp [R.LAN_LCAL_STATUS, R.CAL_CAL_PSTATUS]

theorem Dev.trigger_keepsBut (trig : Nat) : d.KeepsBut [0x480, 0x108] (d.trigger p k trig) := by
  unfold Dev.trigger
  exact .ite (.refl _ _) (d.makeDue_keepsBut p k trig)

end

/-! ### What is kept of a port -/

@[simp] theorem Dev.pst_setPst_same (d : Dev) (p : Nat) (x : PortSt) : (d.setPst p x).pst p = x := Tbl.getD_put_same _ _ _ _

/-- A report changes the width alone. -/
theorem Dev.pst_report (d : Dev) (p w : Nat) : ∃ n, (d.report p w).pst p = { d.pst p with repWidth := n } := by
  unfold Dev.report
  split
  · exact ⟨_, rfl⟩
  · exact ⟨w, d.pst_setPst_same p _⟩

@[simp] theorem Dev.report_proc (d : Dev) (p w : Nat) : ((d.report p w).pst p).proc = (d.pst p).proc := by
  obtain ⟨n, hn⟩ := d.pst_report p w
  rw [hn]

@[simp] theorem Dev.report_reeqDue (d : Dev) (p w : Nat) : ((d.report p w).pst p).reeqDue = (d.pst p).reeqDue := by
  obtain ⟨n, hn⟩ := d.pst_report p w
  rw [hn]

theorem Dev.lstate_setLstate (d : Dev) (p : Nat) {st : Nat} (h : st < 16) : (d.setLstate p st).lstate p = st :=
  d.rf_wf_same _ _ (by decide) (by decide) h

end Sys2Proof.Machine
end

section
/-! Family 05_live_calibration: the triggers of calibration (O23). -/

namespace Sys2Proof.Machine

/-! ### Margin evaluation (R120, R123) -/

/-- The temperature of a cluster is taken, where one is given. -/
def Dev.tempTake (temps : List Nat) (d : Dev) (c : Nat) : Dev :=
  match temps[c]? with
  | some t => d.wn (R.CAL_CL_TEMP c) 0 (t % 65536)
  | none => d

theorem clTemp_off_lt {c : Nat} (hc : c < 16) : (R.CAL_CL_TEMP c).off < 4096 := by
  unfold R.CAL_CL_TEMP
  dsimp only
  omega

theorem Dev.rn_tempTake_same {temps : List Nat} {c t : Nat} (d : Dev) (h : temps[c]? = some t) :
    (d.tempTake temps c).rn (R.CAL_CL_TEMP c) = t % 65536 := by
  have hword : t % 65536 % 4294967296 = t % 65536 := by omega
  simp only [Dev.tempTake, h, Dev.rn_wn_same, hword]

theorem Dev.rn_tempTake_other {temps : List Nat} {c k : Nat} (d : Dev) (hc : c < 16) (hk : k < 16) (h : c ≠ k) :
    (d.tempTake temps k).rn (R.CAL_CL_TEMP c) = d.rn (R.CAL_CL_TEMP c) := by
  unfold Dev.tempTake
  split
  · refine congrArg BitVec.toNat (d.rd_wr_other _ (regKey_ne_of_off (clTemp_off_lt hc) (clTemp_off_lt hk) ?_))
    unfold R.CAL_CL_TEMP
    dsimp only
    omega
  · rfl

theorem Dev.tempTake_now (temps : List Nat) (d : Dev) (c : Nat) : (d.tempTake temps c).now = d.now := by
  unfold Dev.tempTake
  split <;> rfl

/-- Once the temperatures of several clusters have been taken, each of theirs is shown. -/
theorem Dev.rn_foldl_tempTake {temps : List Nat} {c t : Nat} (hc : c < 16) (ht : temps[c]? = some t) (l : List Nat) (hl : ∀ k ∈ l, k < 16)
    (d : Dev) (h : c ∈ l ∨ d.rn (R.CAL_CL_TEMP c) = t % 65536) : (l.foldl (Dev.tempTake temps) d).rn (R.CAL_CL_TEMP c) = t % 65536 := by
  induction l generalizing d with
  | nil => exact h.resolve_left List.not_mem_nil
  | cons k l ih =>
    refine ih (fun j hj => hl j (List.mem_cons_of_mem k hj)) _ ?_
    by_cases hck : c = k
    · exact .inr (hck ▸ d.rn_tempTake_same (hck ▸ ht))
    · exact h.imp (fun hm => (List.mem_cons.1 hm).resolve_left hck)
        fun hshown => (d.rn_tempTake_other hc (hl k List.mem_cons_self) hck).trans hshown

/-- The eye of a lane is measured, where the lane is active and one is given, and its temperature trigger evaluated. -/
def Dev.evalLane (eyes : List (Nat × Nat)) (p : Nat) (d : Dev) (k : Nat) : Dev :=
  let d := if d.laneState (p / 8) k = 3 then (match eyes.find? fun e => e.1 == 16 * (p / 8) + k with
    | some e => d.marginLane p k e.2
    | none => d) else d
  d.tempLane p k

/-- The offsets at which an evaluation writes: those of EYE, LCAL_STATUS and CAL_PSTATUS. -/
def evalOffs : List Nat := [0x4a4, 0x480, 0x108]

theorem Dev.reeqMark_keepsBut (d : Dev) (p : Nat) : d.KeepsBut evalOffs (d.reeqMark p) :=
  .trans (d.setPst_keepsBut p _) (.wf _ _ _ _ (by decide) (by decide))

theorem Dev.marginLane_keepsBut (d : Dev) (p k eye : Nat) : d.KeepsBut evalOffs (d.marginLane p k eye) := by
  have heye : d.KeepsBut evalOffs (d.wn (R.LAN_EYE (p / 8)) k (eye % 65536)) :=
    .wn _ _ (r := R.LAN_EYE (p / 8)) (by simp [R.LAN_EYE]) (by simp [R.LAN_EYE, evalOffs])
  unfold Dev.marginLane
  dsimp only
  split
  · exact heye.trans (Dev.setCalLane_keepsBut _ _ _ _)
  · generalize hf : Dev.setCalLane (d.wn (R.LAN_EYE (p / 8)) k (eye % 65536)) p k _ = f
    have hlow : d.KeepsBut evalOffs f := hf ▸ heye.trans (Dev.setCalLane_keepsBut _ _ _ _)
    have hraised : d.KeepsBut evalOffs ((f.setCalLane p k { f.calLane p k with lowRaised := true }).raise 0x0c1) :=
      hlow.trans (.trans (Dev.setCalLane_keepsBut _ _ _ _) (.of_evOnly (Dev.raise_evOnly _ _)))
    refine .ite hlow (.ite (hlow.trans ((f.makeDue_keepsBut p k 2).mono (by decide))) (.ite hlow ?_))
    exact .ite (hlow.trans (f.reeqMark_keepsBut p)) (.ite hlow hraised)

theorem Dev.tempLane_keepsBut (d : Dev) (p k : Nat) : d.KeepsBut evalOffs (d.tempLane p k) := by
  unfold Dev.tempLane
  exact .ite ((d.trigger_keepsBut p k 1).mono (by decide)) (.refl _ _)

theorem Dev.evalLane_keepsBut (eyes : List (Nat × Nat)) (p : Nat) (d : Dev) (k : Nat) : d.KeepsBut evalOffs (d.evalLane eyes p k) := by
  unfold Dev.evalLane
  refine .trans (.ite ?_ (.refl _ _)) (Dev.tempLane_keepsBut _ p k)
  split
  · exact d.marginLane_keepsBut p k _
  · exact .refl _ _

/-- The evaluation at an instant: the temperatures are taken, then every lane of a live link is evaluated. -/
def Dev.marginEvalAt (d : Dev) (temps : List Nat) (eyes : List (Nat × Nat)) : Dev :=
  let d := (List.range 16).foldl (Dev.tempTake temps) d
  (d.physPorts.filter d.calLive).foldl (fun d p => (d.linkLanes p).foldl (Dev.evalLane eyes p) d) d

theorem Dev.marginEvalAt_keepsBut (d : Dev) (temps : List Nat) (eyes : List (Nat × Nat)) :
    ((List.range 16).foldl (Dev.tempTake temps) d).KeepsBut evalOffs (d.marginEvalAt temps eyes) :=
  .foldl (fun _ p => .foldl (Dev.evalLane_keepsBut eyes p) _ _) _ _

theorem Dev.marginEvalAt_now (d : Dev) (temps : List Nat) (eyes : List (Nat × Nat)) : (d.marginEvalAt temps eyes).now = d.now :=
  (d.marginEvalAt_keepsBut temps eyes).now.trans
    (foldl_keeps (P := fun e : Dev => e.now = d.now) (fun e c he => (e.tempTake_now temps c).trans he) _ _ rfl)

theorem Dev.marginEvalAt_temp (d : Dev) {temps : List Nat} (eyes : List (Nat × Nat)) {c t : Nat} (hc : c < 16) (ht : temps[c]? = some t) :
    (d.marginEvalAt temps eyes).rn (R.CAL_CL_TEMP c) = t % 65536 := by
  have hother : (R.CAL_CL_TEMP c).off ∉ evalOffs := by
    simp only [evalOffs, R.CAL_CL_TEMP, List.mem_cons, List.not_mem_nil, or_false]
    omega
  have hkept := (d.marginEvalAt_keepsBut temps eyes).rd (R.CAL_CL_TEMP c) 0 (clTemp_off_lt hc) hother
  exact (congrArg BitVec.toNat hkept).trans
    (Dev.rn_foldl_tempTake hc ht _ (fun _ => List.mem_range.1) d (.inl (List.mem_range.2 hc)))

section
variable {s : State}

theorem exec_marginEval_period (temps : List Nat) (eyes : List (Nat × Nat)) (h : s.dev.rf R.CAL_CAL_CTRL 0 15 8 ≠ 0) :
    exec (.marginEval temps eyes) s = .next (s.settled
      ((s.dev.advanceTo (s.dev.nextPeriod (s.dev.rf R.CAL_CAL_CTRL 0 15 8))).marginEvalAt temps eyes)) := by
  change execMarginEval temps eyes s = _
  exact State.eff_of_eq (if_neg h)

/-! ### Lanes that become due (R123, R124, R132) -/

theorem Dev.calReq_live {d : Dev} {p : Nat} (w : Word) (h : d.calLive p = true) :
    d.calReq p w = (bitsOf 16 w.toNat).foldl (fun d k => if d.unitOf p k = [] then d else (d.makeDue p k 3).wf R.CAL_CAL_REQ p k k 1) d := by
  simp [Dev.calReq, h]

theorem Dev.calReq_down {d : Dev} {p : Nat} (w : Word) (h : d.calLive p = false) : d.calReq p w = d := by
  simp [Dev.calReq, h]

theorem exec_calReq_made {a : Acc} (w : Word) (h : s.dev.may a R.CAL_CAL_REQ true = true) :
    exec (.calReq a w) s = .next (s.settled (s.dev.calReq (s.dev.instOf a 0x40 R.CAL_CAL_REQ.off) w)) := State.eff_guardW_may h

theorem exec_rotationDue_due {p k : Nat} (hrot : s.dev.rf R.CAL_CAL_ROT p 15 0 ≠ 0) (hlive : s.dev.calLive p = true)
    (hdue : (s.dev.calLane p k).due = none) (hunit : s.dev.unitOf p k ≠ []) :
    exec (.rotationDue p k) s = .next (s.settled (
      let d := s.dev.advanceTo ((s.dev.calLane p k).rotAt.getD (s.dev.rd64 (R.LAN_LCAL_TIME_LO (p / 8)) (R.LAN_LCAL_TIME_HI (p / 8)) k +
        1000000 * s.dev.rf R.CAL_CAL_ROT p 15 0))
      (d.setCalLane p k { d.calLane p k with rotAt := none }).makeDue p k 0)) := by
  change execRotationDue p k s = _
  exact State.eff_of_eq (if_neg (by simp [hrot, hlive, hdue, hunit]))

theorem exec_calFailRetry_due {p k t : Nat} (h : (s.dev.calLane p k).retryAt = some t) :
    exec (.calFailRetry p k) s = .next (s.settled (
      let d := s.dev.advanceTo t
      let d := d.setCalLane p k { d.calLane p k with retryAt := none }
      if d.unitOf p k = [] then d else d.makeDue p k 2)) := by
  change execCalFailRetry p k s = _
  simp [execCalFailRetry, State.eff, h, Dev.trigger]

/-! ### Starvation (R129) -/

theorem exec_calStarved_first {p : Nat} {e : Nat × Nat × Nat} {l : List (Nat × Nat × Nat)}
    (h : sortBy (fun e : Nat × Nat × Nat => e.2.2) (s.dev.waitingLanes p) = e :: l) :
    exec (.calStarved p) s = .next (s.settled (
      let ms := s.dev.rf R.CAL_CAL_ROT p 15 0
      let d := s.dev.advanceTo (e.2.2 + 1000000 * (if ms = 0 then 4000 else 2 * ms) + 1)
      let d := (d.unitOf p e.1).foldl (fun d k => d.setCalLane p k { d.calLane p k with starved := true }) d
      (d.wf R.CAL_CAL_PSTATUS p 4 4 1).raise 0x0c0)) := by
  change execCalStarved p s = _
  simp [execCalStarved, State.eff, h]

end

/-- Settles O23: one clause for each trigger. -/
theorem calibrationTriggersComplete : Obligations.CalibrationTriggersComplete := by
  refine fun s => ⟨?margin, fun a w hmay => ⟨fun hlive => ?live, fun hdown => ?down⟩, fun p k => exec_rotationDue_due,
    fun p k t => exec_calFailRetry_due, fun p e l => exec_calStarved_first⟩
  case margin => exact fun temps eyes h => ⟨_, exec_marginEval_period temps eyes h, Dev.marginEvalAt_now _ _ _,
    fun c hc t ht => Dev.marginEvalAt_temp _ eyes hc ht⟩
  case live => rw [exec_calReq_made w hmay, Dev.calReq_live w hlive]
  case down => rw [exec_calReq_made w hmay, Dev.calReq_down w hdown]

end Sys2Proof.Machine
end

section
/-! Family 05_live_calibration: the starts of the procedures (O24). -/

namespace Sys2Proof.Machine

section
variable {s : State} {p : Nat}

/-! ### ROTATE and HALF (R125, R130, R133) -/

section
variable {k trig : Nat} (hnext : s.dev.calNext p = some (k, trig)) (hpick : s.dev.calPick (p / 8) = some p)
include hnext hpick

theorem exec_rotateStart_active (hfab : s.dev.isFabric p = true) (hact : (s.dev.actMask p).testBit k = true) :
    exec (.rotateStart p) s = .next (s.settled (
      let w := popCount 16 (s.dev.actMask p)
      let d := (s.dev.procStart p .rotate .starting [k] k trig w w).report p (w - 1)
      let d := (d.setLnk p { d.lnk p with park := some (k, false) }).wf R.MKL_LK_STATE (lkInst p) 8 8 1
      d.sym p 6 [d.logOf p k, 0])) := by
  change execRotateStart p s = _
  simp [execRotateStart, State.eff, hnext, hpick, hfab, hact]

theorem exec_rotateStart_parked (hfab : s.dev.isFabric p = true) (hact : (s.dev.actMask p).testBit k = false) :
    exec (.rotateStart p) s = .next (s.settled (s.dev.procStart p .rotate .parked [k] k trig (popCount 16 (s.dev.actMask p) + 1)
      (popCount 16 (s.dev.actMask p) + 1))) := by
  change execRotateStart p s = _
  simp [execRotateStart, State.eff, hnext, hpick, hfab, hact]

theorem exec_halfStart_picked (hfab : s.dev.isFabric p = false) :
    exec (.halfStart p) s = .next (s.settled (
      let half := s.dev.rf R.PRT0_LINK_STATUS p 20 16 / 2
      let up := s.dev.upperHalf p
      let d := (s.dev.procStart p .half .starting up (up.headD 0) trig (s.dev.curWidth p) (s.dev.rf R.PRT0_LINK_STATUS p 20 16)).report p
        (min half (s.dev.curWidth p))
      (d.setLstate p 6).emit (.engine p 1 [half]))) := by
  change execHalfStart p s = _
  simp [execHalfStart, State.eff, hnext, hpick, hfab]

end

/-! ### Re-equalisation (R136) -/

/-- The re-equalisation that starts on a port now. -/
def Dev.reeqProc (d : Dev) (p : Nat) : Proc :=
  { kind := .reeq, step := .parked, lanes := ofBits (d.linkLanes p), first := (d.linkLanes p).headD 0, trig := 2, start := d.now
    width := d.curWidth p, ret := d.curWidth p, eye := 0, alarms := 0, th := [], lim := 0, reeq := true }

/-- The device that has reported width 0 for a re-equalisation and entered Recovery. -/
def Dev.reeqBegun (d : Dev) (p : Nat) : Dev :=
  let pr := d.reeqProc p
  let d := (d.adaptStop (p / 8) (d.linkLanes p)).setPst p { d.pst p with proc := some pr }
  let d := (d.wf R.CAL_CAL_PSTATUS p 2 2 1).wf R.CAL_CAL_PSTATUS p 11 8 pr.first
  (d.report p 0).setLstate p 5

theorem Dev.reeqBegun_proc (d : Dev) (p : Nat) : ((d.reeqBegun p).pst p).proc = some (d.reeqProc p) :=
  (Dev.report_proc _ p 0).trans (congrArg PortSt.proc (Dev.pst_setPst_same _ p _))

/-- ACTIVE of CAL_PSTATUS stands while the link goes to Recovery. -/
theorem Dev.reeqBegun_active (d : Dev) (p : Nat) : (d.reeqBegun p).rb R.CAL_CAL_PSTATUS p 2 = true := by
  have hkept (e : Dev) : e.KeepsBut [0x110] ((e.report p 0).setLstate p 5) :=
    .trans (e.report_keepsBut p 0) (.wf _ _ _ _ (by decide) (by decide))
  refine ((hkept _).rb _ _ _ (by decide) (by decide)).trans ?_
  exact (Dev.rb_wf_other _ _ _ _ (by decide) (by decide) (by decide)).trans (Dev.rb_wf_one _ _ _ (by decide))

theorem exec_reeqStart_begins (hdue : (s.dev.pst p).reeqDue = true) (hfab : s.dev.isFabric p = false) (hup : s.dev.dlUp p = true)
    (hst : s.dev.lstate p = 4 ∨ s.dev.lstate p = 6) (hfree : s.dev.calFree p = true)
    (hwin : s.dev.winLeft p (max 2000 (s.dev.rf R.CAL_CAL_POL p 31 16)) = true) :
    exec (.reeqStart p) s = .next (s.settled ((s.dev.reeqBegun p).emit (.engine p 4 []))) := by
  change execReeqStart p s = _
  exact State.eff_of_eq (if_neg (by simpa [hdue, hfab, hup, hfree, hwin] using or_iff_not_imp_left.1 hst))

end

/-- Settles O24: ROTATE, HALF and the re-equalisation by their starts. -/
theorem calibrationProceduresStart : Obligations.CalibrationProceduresStart := by
  refine fun s p => ⟨fun k trig hnext hfab hpick => ⟨exec_rotateStart_active hnext hpick hfab, exec_rotateStart_parked hnext hpick hfab⟩,
    fun k trig hnext hfab hpick => exec_halfStart_picked hnext hpick hfab, fun hdue hfab hup hst hfree hwin => ?reeq⟩
  case reeq =>
    exact ⟨_, exec_reeqStart_begins hdue hfab hup hst hfree hwin, Dev.lstate_setLstate _ p (by decide),
      ⟨_, s.dev.reeqBegun_proc p, rfl, rfl, rfl⟩, s.dev.reeqBegun_active p⟩

end Sys2Proof.Machine
end

section
/-! Family 05_live_calibration: what happens during the procedures, and their ends (O25). -/

namespace Sys2Proof.Machine

section
variable {s : State}

/-! ### Commands for lanes (R121, R130, R131) -/

/-- The lane is parked under the procedure of its port, or under one of the partner. -/
def Dev.LaneServed (d : Dev) (p k : Nat) : Prop :=
  d.laneState (p / 8) k = 4 ∧
    ((d.lnk p).guest = some k ∨ ∃ pr : Proc, (d.pst p).proc = some pr ∧ pr.kind ≠ .reeq ∧ pr.lanes.testBit k = true)

theorem exec_calLaneCommand_served {p k : Nat} (cmd : Nat) (h : s.dev.LaneServed p k) :
    exec (.calLaneCommand p k cmd) s = .next (s.settled (s.dev.laneCommand p k cmd)) := by
  change execCalLaneCommand p k cmd s = _
  obtain ⟨hparked, hguest | ⟨pr, hproc, hkind, hlane⟩⟩ := h
  · simp [execCalLaneCommand, State.eff, hparked, hguest]
  · simp [execCalLaneCommand, State.eff, hparked, hproc, hkind, hlane]

theorem exec_calLaneCommand_refused {p k cmd : Nat} {pr : Proc} (hproc : (s.dev.pst p).proc = some pr)
    (hguest : (s.dev.lnk p).guest ≠ some k ∨ s.dev.laneState (p / 8) k ≠ 4)
    (hown : pr.kind = .reeq ∨ pr.lanes.testBit k = false ∨ s.dev.laneState (p / 8) k ≠ 4) :
    exec (.calLaneCommand p k cmd) s = .next (s.settled (
      let d := s.dev.procStop p 7
      d.fault 0x12 none (some p) none (d.unitRef (.block 0x40)) (d.rd R.CAL_CAL_LAST p))) := by
  have hnotGuest : ¬ ((s.dev.laneState (p / 8) k == 4) && ((s.dev.lnk p).guest == some k)) = true := by
    simpa [imp_iff_or_not, or_comm] using hguest
  have hnotOwn : ¬ (pr.kind ≠ .reeq ∧ pr.lanes.testBit k = true ∧ (s.dev.laneState (p / 8) k == 4) = true) := by
    rintro ⟨hkind, hlane, hparked⟩
    rcases hown with h | h | h
    · exact hkind h
    · exact ne_true_of_eq_false h hlane
    · exact h (beq_iff_eq.1 hparked)
  change execCalLaneCommand p k cmd s = _
  refine State.eff_of_eq ((if_neg hnotGuest).trans ?_)
  simp only [hproc]
  exact if_neg hnotOwn

theorem Dev.laneCommand_here (d : Dev) (p k : Nat) {cmd : Nat} (h : cmd < 256) : d.laneCommand p k cmd = d.emit (.engine p 5 [k, cmd]) :=
  if_pos h

theorem Dev.laneCommand_partner {d : Dev} {p b : Nat} (k : Nat) {cmd : Nat} (h : 256 ≤ cmd) (hb : d.bundleOf p = some b)
    (hact : d.lkState p = 3) : d.laneCommand p k cmd = d.ctlNear b [3, d.logOf p k, cmd / 2 % 2, cmd % 2] := by
  simp [Dev.laneCommand, Nat.not_lt.2 h, hb, hact, Option.filter]

theorem Dev.laneCommand_nowhere {d : Dev} {p : Nat} (k : Nat) {cmd : Nat} (h : 256 ≤ cmd) (hno : d.bundleOf p = none ∨ d.lkState p ≠ 3) :
    d.laneCommand p k cmd = d := by
  have hnone : ((d.bundleOf p).filter fun _ => d.lkState p == 3) = none := by
    rcases hno with h | h
    · rw [h, Option.filter_none]
    · simp [Option.filter_eq_none_iff, h]
  simp [Dev.laneCommand, Nat.not_lt.2 h, hnone]

/-! ### Measurements (R130, R133) -/

section
variable {p : Nat} {pr : Proc} (hproc : (s.dev.pst p).proc = some pr)
include hproc

theorem exec_eyeHeightMeasured_parked (eye : Nat) (hkind : pr.kind = .rotate) (hstep : pr.step = .parked) (hact : s.dev.lkState p = 3) :
    exec (.eyeHeightMeasured p eye) s = .next (s.settled (
      let d := s.dev.setPst p { s.dev.pst p with proc := some { pr with step := .measured, eye := eye % 256 } }
      let d := (d.setLnk p { d.lnk p with join := some pr.first, joinAt := d.now }).wf R.MKL_LK_STATE (lkInst p) 8 8 1
      d.sym p 9 [d.logOf p pr.first])) := by
  change execEyeHeightMeasured p eye s = _
  simp [execEyeHeightMeasured, State.eff, hproc, hkind, hstep, hact]

theorem exec_loopbackStageDone_parked (hkind : pr.kind = .half) (hstep : pr.step = .parked) :
    exec (.loopbackStageDone p) s = .next (s.settled
      ((s.dev.setPst p { s.dev.pst p with proc := some { pr with step := .measured } }).emit (.engine p 6 [pr.ret]))) := by
  change execLoopbackStageDone p s = _
  simp [execLoopbackStageDone, State.eff, hproc, hkind, hstep]

end

/-! ### Droop alarms (R140, R141) -/

/-- An alarm of a cluster is counted, raised and remembered. -/
def Dev.alarmed (d : Dev) (cl : Nat) : Dev :=
  let d := (d.bump (R.CAL_DRP_ALM_CNT cl)).raise (0x080 + 4 * cl + 2)
  { d with ports := { d.ports with alarmAt := Tbl.put d.ports.alarmAt cl 0 (d.now + 1) } }

/-- The port of a cluster on which a procedure runs. -/
def Dev.procPort (d : Dev) (cl : Nat) : Option Nat := (d.clusterPorts cl).find? fun q => (d.pst q).proc.isSome

/-- What an alarm does to the procedure of its cluster. -/
def Dev.alarmAnswer (d : Dev) (cl : Nat) (measuring : Bool) : Dev :=
  match d.procPort cl with
  | none => d
  | some p => match (d.pst p).proc with
    | some pr =>
      if !measuring ∨ pr.kind = .reeq then d
      else if pr.alarms = 0 then d.setPst p { d.pst p with proc := some { pr with alarms := 1 } }
      else d.procStop p 4
    | none => d

theorem exec_droopAlarm {cl : Nat} (measuring : Bool) (hcl : cl < 16) :
    exec (.droopAlarm cl measuring) s = .next (s.settled ((s.dev.alarmed cl).alarmAnswer cl measuring)) := by
  change execDroopAlarm cl measuring s = _
  exact State.eff_of_eq (if_neg (Nat.not_le.2 hcl))

theorem Dev.alarmAnswer_idle {d : Dev} {cl : Nat} (measuring : Bool) (hport : d.procPort cl = none) : d.alarmAnswer cl measuring = d := by
  simp [Dev.alarmAnswer, hport]

theorem Dev.alarmAnswer_running {d : Dev} {cl p : Nat} {pr : Proc} (measuring : Bool) (hport : d.procPort cl = some p)
    (hproc : (d.pst p).proc = some pr) :
    d.alarmAnswer cl measuring =
      if !measuring ∨ pr.kind = .reeq then d
      else if pr.alarms = 0 then d.setPst p { d.pst p with proc := some { pr with alarms := 1 } }
      else d.procStop p 4 := by
  simp [Dev.alarmAnswer, hport, hproc]

end

end Sys2Proof.Machine
end

section
/-! Family 05_live_calibration: what is kept to the end of a procedure (O25). -/

namespace Sys2Proof.Machine

/-! ### What is kept to the end of a procedure (R132, R135) -/

/-- The offsets at which the result of a lane is written. -/
def resultOffs : List Nat := [0x480, 0x484, 0x488, 0x48c, 0x490, 0x4a0, 0x4a4, 0x108, 0x120]

section
variable (d : Dev) (p k : Nat)

theorem Dev.calRecord_keepsBut : d.KeepsBut [0x484, 0x488, 0x48c] (d.calRecord p k) := by
  unfold Dev.calRecord Dev.wr64
  refine .trans (.wf _ _ _ _ ?_ ?_) (.trans (.wn _ _ ?_ ?_) (.wn _ _ ?_ ?_))
  all_goals simp [R.LAN_LCAL_TEMP, R.LAN_LCAL_TIME_LO, R.LAN_LCAL_TIME_HI]

theorem Dev.bump_lcalCnt_keepsBut : d.KeepsBut [0x490] (d.bump (R.LAN_LCAL_CNT p) k) :=
  .bump _ _ (by simp [R.LAN_LCAL_CNT]) (by simp [R.LAN_LCAL_CNT])

theorem Dev.clearDue_keepsBut : d.KeepsBut [0x480, 0x108, 0x120] (d.clearDue p k) := by
  unfold Dev.clearDue
  refine .trans (.trans (.trans (d.setCalLane_keepsBut p k _) (.ite (.wf _ _ _ _ ?_ ?_) (.refl _ _))) (.wf _ _ _ _ ?_ ?_)) (.wf _ _ _ _ ?_ ?_)
  all_goals simp [R.LAN_LCAL_STATUS, R.CAL_CAL_PSTATUS, R.CAL_CAL_REQ]

theorem Dev.adaptLatch_keepsBut : d.KeepsBut [0x4a0] (d.adaptLatch p k) := by
  unfold Dev.adaptLatch Dev.fresh
  refine .trans (e := { d with free := d.free + 1 }) (.of_regs rfl rfl) (.wr _ _ ?_ ?_)
  all_goals simp [R.LAN_ADAPT]

/-- The result of a lane, entered and not yet recorded. -/
def Dev.resultEnter (eye : Nat) (ok : Bool) : Dev :=
  let r := R.LAN_LCAL_STATUS (p / 8)
  let fails := if ok then 0 else min 15 (d.rf r k 7 4 + 1)
  (((d.wf r k 3 3 (b2n !ok)).wf r k 7 4 fails).wf r k 31 16 eye).wf (R.LAN_EYE (p / 8)) k 7 0 eye

/-- A lane whose result has been entered is recorded: it is no longer due. -/
def Dev.resultRecord : Dev := (((d.calRecord p k).bump (R.LAN_LCAL_CNT (p / 8)) k).clearDue p k).adaptLatch (p / 8) k

theorem Dev.laneResult_dev (eye th lim : Nat) : ∃ x : CalLane,
    (d.laneResult p k eye th lim).1 = ((d.resultEnter p k eye (decide (th ≤ eye))).resultRecord p k).setCalLane p k x := ⟨_, rfl⟩

theorem Dev.resultEnter_keepsBut (eye : Nat) (ok : Bool) : d.KeepsBut resultOffs (d.resultEnter p k eye ok) := by
  unfold Dev.resultEnter
  refine .trans (.trans (.trans (.wf _ _ _ _ ?_ ?_) (.wf _ _ _ _ ?_ ?_)) (.wf _ _ _ _ ?_ ?_)) (.wf _ _ _ _ ?_ ?_)
  all_goals simp [R.LAN_LCAL_STATUS, R.LAN_EYE, resultOffs]

theorem Dev.resultRecord_keepsBut : d.KeepsBut resultOffs (d.resultRecord p k) :=
  .trans (.trans (.trans ((d.calRecord_keepsBut p k).mono (by decide)) ((Dev.bump_lcalCnt_keepsBut _ _ k).mono (by decide)))
    ((Dev.clearDue_keepsBut _ p k).mono (by decide))) ((Dev.adaptLatch_keepsBut _ _ k).mono (by decide))

theorem Dev.laneResult_keepsBut (eye th lim : Nat) : d.KeepsBut resultOffs (d.laneResult p k eye th lim).1 := by
  obtain ⟨x, hx⟩ := d.laneResult_dev p k eye th lim
  rw [hx]
  exact .trans (.trans (d.resultEnter_keepsBut p k eye _) (Dev.resultRecord_keepsBut _ p k)) (Dev.setCalLane_keepsBut _ p k x)

/-! ### FAILS of a lane (R132) -/

/-- FAILS of a lane of a port. -/
def Dev.fails : Nat := d.rf (R.LAN_LCAL_STATUS (p / 8)) k 7 4

theorem Dev.fails_of_keepsBut {d e : Dev} {offs : List Nat} (h : d.KeepsBut offs e) (ho : 0x480 ∉ offs) : e.fails p k = d.fails p k :=
  h.rf (R.LAN_LCAL_STATUS (p / 8)) k 7 4 (show 0x480 < 4096 by decide) ho

/-- The state of a lane's calibration is another field than its FAILS. -/
theorem Dev.fails_wf_state (j v : Nat) : (d.wf (R.LAN_LCAL_STATUS (p / 8)) j 2 0 v).fails p k = d.fails p k := by
  by_cases hj : j = k
  · subst hj
    exact d.rf_wf_other _ _ v (by decide) (by decide) (by decide)
  · exact congrArg (fld · 7 4) (d.rd_wr_other _ (regKey_ne_of_inst _ _ (Ne.symm hj)))

theorem Dev.fails_ite_wf_state {c : Prop} [Decidable c] (j v : Nat) :
    (if c then d.wf (R.LAN_LCAL_STATUS (p / 8)) j 2 0 v else d).fails p k = d.fails p k := by
  split
  · exact d.fails_wf_state p k j v
  · rfl

/-- FAILS shows the result of a lane that has been measured. -/
theorem Dev.fails_resultEnter (eye : Nat) (ok : Bool) :
    (d.resultEnter p k eye ok).fails p k = if ok then 0 else min 15 (d.fails p k + 1) := by
  have hfit : (if ok then 0 else min 15 (d.fails p k + 1)) < 2 ^ (7 + 1 - 4) := by
    split <;> omega
  have heye (e : Dev) (n : Nat) : (e.wf (R.LAN_EYE (p / 8)) k 7 0 n).fails p k = e.fails p k :=
    Dev.fails_of_keepsBut p k (.wf (offs := [0x4a4]) k 7 0 n (by simp [R.LAN_EYE]) (by simp [R.LAN_EYE])) (by decide)
  unfold Dev.resultEnter
  rw [heye, Dev.fails, Dev.rf_wf_other _ _ _ _ (by decide) (by decide) (by decide)]
  exact Dev.rf_wf_same _ _ _ (by decide) (by decide) hfit

theorem Dev.fails_clearDue (j : Nat) : (d.clearDue p j).fails p k = d.fails p k := by
  have hother (e : Dev) : e.KeepsBut [0x108, 0x120] ((e.wf R.CAL_CAL_PSTATUS p (16 + j) (16 + j) 0).wf R.CAL_CAL_REQ p j j 0) :=
    .trans (.wf _ _ _ _ (by decide) (by decide)) (.wf _ _ _ _ (by decide) (by decide))
  exact (Dev.fails_of_keepsBut p k (hother _) (by decide)).trans (Dev.fails_ite_wf_state _ p k j 0)

theorem Dev.fails_resultRecord : (d.resultRecord p k).fails p k = d.fails p k := by
  unfold Dev.resultRecord
  rw [Dev.fails_of_keepsBut p k (Dev.adaptLatch_keepsBut _ _ k) (by decide), Dev.fails_clearDue,
    Dev.fails_of_keepsBut p k (Dev.bump_lcalCnt_keepsBut _ _ k) (by decide), Dev.fails_of_keepsBut p k (d.calRecord_keepsBut p k) (by decide)]

theorem Dev.fails_laneResult (eye th lim : Nat) :
    (d.laneResult p k eye th lim).1.fails p k = if th ≤ eye then 0 else min 15 (d.fails p k + 1) := by
  obtain ⟨x, hx⟩ := d.laneResult_dev p k eye th lim
  rw [hx, Dev.fails_of_keepsBut (offs := []) p k (Dev.setCalLane_keepsBut _ p k x) List.not_mem_nil, Dev.fails_resultRecord,
    Dev.fails_resultEnter]
  simp

end

end Sys2Proof.Machine
end

section
/-! Family 05_live_calibration: how a procedure closes (O25). -/

namespace Sys2Proof.Machine

/-! ### The close of a procedure (R129, R138, R142) -/

section
variable (d : Dev) (p k : Nat) (pr : Proc) (outcome : Nat)

/-- A lane of a procedure that closes is in none. -/
def Dev.closeLane : Dev :=
  let st := d.rf (R.LAN_LCAL_STATUS (p / 8)) k 2 0
  let d := d.wf R.CAL_CAL_REQ p k k 0
  if st = 2 then d.wf (R.LAN_LCAL_STATUS (p / 8)) k 2 0 (b2n (d.calLane p k).due.isSome) else d

/-- The words of a procedure that closes: no procedure is active, and CAL_LAST and CAL_LOST speak of this one. -/
def Dev.closeWords : Dev :=
  let d := (d.setPst p { d.pst p with proc := none }).wf R.CAL_CAL_PSTATUS p 2 2 0
  let d := d.wf R.CAL_CAL_PSTATUS p 11 8 0
  let us := (d.now - pr.start) / 1000
  (d.wr R.CAL_CAL_LAST p (word (pr.first + 16 * outcome + 256 * pr.trig + 65536 * min us 65535))).bumpBy R.CAL_CAL_LOST p
    (popCount 16 pr.lanes * us)

theorem Dev.procClose_eq :
    d.procClose p pr outcome = (bitsOf 16 pr.lanes).foldl (fun d k => d.closeLane p k) (d.closeWords p pr outcome) := rfl

theorem Dev.closeLane_keepsBut : d.KeepsBut [0x480, 0x120] (d.closeLane p k) := by
  unfold Dev.closeLane
  refine .trans (.wf _ _ _ _ ?_ ?_) (.ite (.wf _ _ _ _ ?_ ?_) (.refl _ _))
  all_goals simp [R.LAN_LCAL_STATUS, R.CAL_CAL_REQ]

theorem Dev.closeWords_keepsBut : d.KeepsBut [0x108, 0x124, 0x11c] (d.closeWords p pr outcome) := by
  unfold Dev.closeWords
  refine .trans (.trans (.trans (.trans (d.setPst_keepsBut p _) (.wf _ _ _ _ ?_ ?_)) (.wf _ _ _ _ ?_ ?_)) (.wr _ _ ?_ ?_)) (.bumpBy _ _ _ ?_ ?_)
  all_goals decide

theorem Dev.procClose_keepsBut : d.KeepsBut [0x108, 0x124, 0x11c, 0x480, 0x120] (d.procClose p pr outcome) := by
  rw [Dev.procClose_eq]
  exact .trans ((d.closeWords_keepsBut p pr outcome).mono (by decide)) (.foldl (fun d k => (d.closeLane_keepsBut p k).mono (by decide)) _ _)

theorem Dev.closeLane_ports : (d.closeLane p k).ports = d.ports := by
  unfold Dev.closeLane
  dsimp only
  split <;> rfl

/-- A procedure that has closed is none. -/
theorem Dev.procClose_proc : ((d.procClose p pr outcome).pst p).proc = none := by
  rw [Dev.procClose_eq]
  refine foldl_keeps (P := fun e : Dev => (e.pst p).proc = none) (fun e k he => ?_) _ _ ?_
  · rw [Dev.pst, e.closeLane_ports p k]
    exact he
  · rw [Dev.closeWords, Dev.pst, Dev.bumpBy_ports]
    exact congrArg PortSt.proc (d.pst_setPst_same p _)

theorem Dev.fails_closeLane (j : Nat) : (d.closeLane p j).fails p k = d.fails p k := by
  have hreq : (d.wf R.CAL_CAL_REQ p j j 0).fails p k = d.fails p k :=
    Dev.fails_of_keepsBut p k (.wf (offs := [0x120]) _ _ _ _ (by decide) (by decide)) (by decide)
  exact (Dev.fails_ite_wf_state _ p k j _).trans hreq

theorem Dev.fails_procClose : (d.procClose p pr outcome).fails p k = d.fails p k := by
  rw [Dev.procClose_eq]
  exact foldl_keeps (P := fun e : Dev => e.fails p k = d.fails p k) (fun e j he => (e.fails_closeLane p k j).trans he) _ _
    (Dev.fails_of_keepsBut p k (d.closeWords_keepsBut p pr outcome) (by decide))

theorem Dev.procDone_ports : (d.procDone p).ports = d.ports := Dev.bump_ports _ _ _ _

theorem Dev.procDone_keepsBut : d.KeepsBut [0x108, 0x110] (d.procDone p) :=
  .trans (.wf _ _ _ _ (by decide) (by decide)) (.bump _ _ (by decide) (by decide))

/-- A completed procedure is counted. -/
theorem Dev.rn_procDone : (d.procDone p).rn R.CAL_CAL_CNT_DONE p = (d.rn R.CAL_CAL_CNT_DONE p + 1) % 4294967296 := by
  have hother : (d.wf R.CAL_CAL_PSTATUS p 4 4 0).rn R.CAL_CAL_CNT_DONE p = d.rn R.CAL_CAL_CNT_DONE p :=
    (Dev.KeepsBut.wf (offs := [0x108]) _ _ _ _ (by decide) (by decide)).rn _ _ (by decide) (by decide)
  rw [Dev.procDone, Dev.rn_bump_same, hother]

end

/-! ### The outcome of a procedure, and what follows it -/

/-- A device shows the same outcome of a procedure as another: the port's procedure, its counts, and FAILS of a lane. -/
structure Dev.SameOutcome (p k : Nat) (d e : Dev) : Prop where
  proc : (e.pst p).proc = (d.pst p).proc
  done : e.rn R.CAL_CAL_CNT_DONE p = d.rn R.CAL_CAL_CNT_DONE p
  fail : e.rn R.CAL_CAL_CNT_FAIL p = d.rn R.CAL_CAL_CNT_FAIL p
  fails : e.fails p k = d.fails p k

namespace Dev.SameOutcome
variable {p k : Nat} {d e f : Dev}

theorem refl (p k : Nat) (d : Dev) : d.SameOutcome p k d := ⟨rfl, rfl, rfl, rfl⟩

theorem trans (h : d.SameOutcome p k e) (g : e.SameOutcome p k f) : d.SameOutcome p k f :=
  ⟨g.proc.trans h.proc, g.done.trans h.done, g.fail.trans h.fail, g.fails.trans h.fails⟩

theorem of_keepsBut {offs : List Nat} (h : d.KeepsBut offs e) (hproc : (e.pst p).proc = (d.pst p).proc) (hdone : 0x110 ∉ offs)
    (hfail : 0x114 ∉ offs) (hfails : 0x480 ∉ offs) : d.SameOutcome p k e :=
  ⟨hproc, h.rn _ _ (by decide) hdone, h.rn _ _ (by decide) hfail, Dev.fails_of_keepsBut p k h hfails⟩

theorem of_evOnly (h : d.EvOnly e) : d.SameOutcome p k e :=
  of_keepsBut (offs := []) (.of_evOnly h) (congrArg PortSt.proc (congrArg (·.port.getD p PortSt.reset) h.ports_eq))
    List.not_mem_nil List.not_mem_nil List.not_mem_nil

theorem report (w : Nat) : d.SameOutcome p k (d.report p w) :=
  of_keepsBut (offs := []) (d.report_keepsBut p w) (d.report_proc p w) List.not_mem_nil List.not_mem_nil List.not_mem_nil

theorem wf_state (j v : Nat) : d.SameOutcome p k (d.wf (R.LAN_LCAL_STATUS (p / 8)) j 2 0 v) := by
  have hkept : d.KeepsBut [0x480] (d.wf (R.LAN_LCAL_STATUS (p / 8)) j 2 0 v) :=
    .wf _ _ _ _ (by simp [R.LAN_LCAL_STATUS]) (by simp [R.LAN_LCAL_STATUS])
  exact ⟨rfl, hkept.rn _ _ (by decide) (by decide), hkept.rn _ _ (by decide) (by decide), d.fails_wf_state p k j v⟩

/-- An event of a bundle names itself on the bundle's page, apart from the counts of the port. -/
theorem mklEvent (lane e : Nat) : d.SameOutcome p k (d.mklEvent p lane e) := by
  unfold Dev.mklEvent
  cases hb : d.bundleOf p with
  | none => exact refl p k d
  | some b =>
    have hp : p < 128 := by
      simp only [Dev.bundleOf, Dev.isFabric, Option.ite_none_right_eq_some, Bool.and_eq_true, decide_eq_true_eq] at hb
      exact hb.1.1.1
    have hkept (w : Word) : d.KeepsBut [0x114] (d.wr R.MKL_BND_LAST_EV b w) := .wr _ _ (by decide) (by decide)
    refine trans (e := d.wr R.MKL_BND_LAST_EV b _) ⟨rfl, ?_, ?_, ?_⟩ (of_evOnly (Dev.raise_evOnly _ _))
    · exact (hkept _).rn _ _ (by decide) (by decide)
    · refine congrArg BitVec.toNat (d.rd_wr_other _ ?_)
      simp only [regKey, R.CAL_CAL_CNT_FAIL, R.MKL_BND_LAST_EV]
      omega
    · exact Dev.fails_of_keepsBut p k (hkept _) (by decide)

end Dev.SameOutcome

/-- A lane at FAIL_LIMIT is to be parked permanently, or, parked already, stays so (R132). -/
def Dev.rotateLimit (d : Dev) (p k : Nat) : Dev :=
  let d := d.raiseCal p 1
  if (d.actMask p).testBit k then
    if popCount 16 (d.actMask p) ≤ 1 ∨ (d.lnk p).park.isSome ∨ (d.lnk p).join.isSome ∨ (d.lnk p).swap.isSome then d
    else
      let d := (d.setLnk p { d.lnk p with park := some (k, true) }).wf R.MKL_LK_STATE (lkInst p) 8 8 1
      (d.report p (popCount 16 (d.actMask p) - 1)).sym p 6 [d.logOf p k, 1]
  else
    let d := (d.wf (R.LAN_LCAL_STATUS (p / 8)) k 2 0 3).setCalLane p k { d.calLane p k with retryAt := none }
    let d := (d.wf R.MKL_LK_PARKED (lkInst p) k k 1).wf R.MKL_LK_PARKED (lkInst p) (16 + k) (16 + k) 0
    d.mklEvent p (d.logOf p k) 3

theorem Dev.rotateLimit_sameOutcome (d : Dev) (p k j : Nat) : d.SameOutcome p j (d.rotateLimit p k) := by
  have hpark (e : Dev) (l : Link) : e.SameOutcome p j ((e.setLnk p l).wf R.MKL_LK_STATE (lkInst p) 8 8 1) :=
    .of_keepsBut (offs := [0x218]) (.trans (e := e.setLnk p l) (.of_regs rfl rfl) (.wf _ _ _ _ (by decide) (by decide))) rfl
      (by decide) (by decide) (by decide)
  have hparked (e : Dev) (x : CalLane) : e.SameOutcome p j
      (((e.setCalLane p k x).wf R.MKL_LK_PARKED (lkInst p) k k 1).wf R.MKL_LK_PARKED (lkInst p) (16 + k) (16 + k) 0) :=
    .of_keepsBut (offs := [0x21c]) (.trans (.trans (e.setCalLane_keepsBut p k x) (.wf _ _ _ _ (by decide) (by decide)))
      (.wf _ _ _ _ (by decide) (by decide))) rfl (by decide) (by decide) (by decide)
  have hsym (e : Dev) (c : Nat) (l : List Nat) : e.SameOutcome p j (e.sym p c l) := ⟨rfl, rfl, rfl, rfl⟩
  unfold Dev.rotateLimit
  refine .trans (.of_evOnly (d.raiseCal_evOnly p 1)) ?_
  dsimp only
  split
  · split
    · exact .refl _ _ _
    · exact .trans (.trans (hpark _ _) (.report _)) (hsym _ _ _)
  · exact .trans (.trans (.wf_state k 3) (hparked _ _)) (.mklEvent _ _)

/-! ### ROTATE (R130, R132) -/

/-- A ROTATE procedure closed on its lane's result, its failure not yet counted. -/
def Dev.rotateClosed (d : Dev) (p : Nat) (pr : Proc) : Dev :=
  let r := d.laneResult p pr.first pr.eye (pr.th.getD pr.first 0) pr.lim
  let e := (r.1.procClose p pr (if r.2.1 then 1 else if r.2.2 then 5 else 2)).procDone p
  e.report p (popCount 16 (e.actMask p))

theorem Dev.rotateFinish_eq (d : Dev) (p : Nat) (pr : Proc) :
    d.rotateFinish p pr true =
      (let failed := ((d.rotateClosed p pr).bump R.CAL_CAL_CNT_FAIL p).raiseCal p 0
       if decide (pr.th.getD pr.first 0 ≤ pr.eye) = true then d.rotateClosed p pr
       else if !(d.laneResult p pr.first pr.eye (pr.th.getD pr.first 0) pr.lim).2.2 then failed
       else failed.rotateLimit p pr.first) := rfl

section
variable (d : Dev) (p : Nat) (pr : Proc)

theorem Dev.rotateClosed_proc : ((d.rotateClosed p pr).pst p).proc = none := by
  rw [Dev.rotateClosed, Dev.report_proc, Dev.pst, Dev.procDone_ports]
  exact Dev.procClose_proc _ p pr _

theorem Dev.rotateClosed_done : (d.rotateClosed p pr).rn R.CAL_CAL_CNT_DONE p = (d.rn R.CAL_CAL_CNT_DONE p + 1) % 4294967296 := by
  have hresult := d.laneResult_keepsBut p pr.first pr.eye (pr.th.getD pr.first 0) pr.lim
  rw [Dev.rotateClosed, (Dev.report_keepsBut (offs := []) _ p _).rn _ _ (by decide) (by decide), Dev.rn_procDone,
    (Dev.procClose_keepsBut _ p pr _).rn _ _ (by decide) (by decide), hresult.rn _ _ (by decide) (by decide)]

theorem Dev.rotateClosed_fail : (d.rotateClosed p pr).rn R.CAL_CAL_CNT_FAIL p = d.rn R.CAL_CAL_CNT_FAIL p := by
  have hresult := d.laneResult_keepsBut p pr.first pr.eye (pr.th.getD pr.first 0) pr.lim
  rw [Dev.rotateClosed, (Dev.report_keepsBut (offs := []) _ p _).rn _ _ (by decide) (by decide),
    (Dev.procDone_keepsBut _ p).rn _ _ (by decide) (by decide), (Dev.procClose_keepsBut _ p pr _).rn _ _ (by decide) (by decide),
    hresult.rn _ _ (by decide) (by decide)]

theorem Dev.rotateClosed_fails :
    (d.rotateClosed p pr).fails p pr.first = if pr.th.getD pr.first 0 ≤ pr.eye then 0 else min 15 (d.fails p pr.first + 1) := by
  rw [Dev.rotateClosed, Dev.fails_of_keepsBut (offs := []) p _ (Dev.report_keepsBut _ p _) (by decide),
    Dev.fails_of_keepsBut p _ (Dev.procDone_keepsBut _ p) (by decide), Dev.fails_procClose, Dev.fails_laneResult]

/-- A lane that passes ends its procedure; one that fails counts it too. -/
theorem Dev.rotateFinish_outcome : ∃ e : Dev, e.SameOutcome p pr.first (d.rotateFinish p pr true) ∧
    e = if pr.th.getD pr.first 0 ≤ pr.eye then d.rotateClosed p pr else (d.rotateClosed p pr).bump R.CAL_CAL_CNT_FAIL p := by
  refine ⟨_, ?_, rfl⟩
  rw [Dev.rotateFinish_eq]
  dsimp only
  by_cases hok : pr.th.getD pr.first 0 ≤ pr.eye
  · rw [if_pos hok, if_pos (decide_eq_true hok)]
    exact .refl _ _ _
  · rw [if_neg hok, if_neg (ne_true_of_eq_false (decide_eq_false hok))]
    have hraised := Dev.SameOutcome.of_evOnly (p := p) (k := pr.first)
      (Dev.raiseCal_evOnly ((d.rotateClosed p pr).bump R.CAL_CAL_CNT_FAIL p) p 0)
    split
    · exact hraised
    · exact hraised.trans (Dev.rotateLimit_sameOutcome _ p pr.first pr.first)

end

end Sys2Proof.Machine
end

section
/-! Family 05_live_calibration: the ends of the procedures (O25). -/

namespace Sys2Proof.Machine

/-! ### A link that returns to its width (R133, R136) -/

namespace Dev.SameOutcome
variable {p k : Nat} {d : Dev}

theorem foldl {β : Type} {g : Dev → β → Dev} (h : ∀ (d : Dev) (b : β), d.SameOutcome p k (g d b)) (l : List β) (d : Dev) :
    d.SameOutcome p k (l.foldl g d) :=
  foldl_keeps (P := fun e => d.SameOutcome p k e) (fun e b he => he.trans (h e b)) l d (refl p k d)

/-- LINK_STATUS stands at the offset of CAL_CNT_DONE, on another page. -/
theorem linkStatus (hi lo v : Nat) : d.SameOutcome p k (d.wf R.PRT0_LINK_STATUS p hi lo v) := by
  have hkept : d.KeepsBut [0x110] (d.wf R.PRT0_LINK_STATUS p hi lo v) := .wf _ _ _ _ (by decide) (by decide)
  refine ⟨rfl, congrArg BitVec.toNat (d.rd_wr_other _ ?_), hkept.rn _ _ (by decide) (by decide), Dev.fails_of_keepsBut p k hkept (by decide)⟩
  simp only [regKey, R.CAL_CAL_CNT_DONE, R.PRT0_LINK_STATUS]
  omega

theorem l0pWiden (w : Nat) : d.SameOutcome p k (d.l0pWiden p w) := by
  let n := min w (d.rf R.PRT0_LINK_STATUS p 20 16)
  let e := (((d.linkLanes p).take n).foldl (fun d k => d.setLane (p / 8) k 3) d).wf R.PRT0_LINK_STATUS p 11 7 n
  let f := if n = e.rf R.PRT0_LINK_STATUS p 20 16 then e.setLstate p 4 else e
  have hlane (d : Dev) (j : Nat) : d.SameOutcome p k (d.setLane (p / 8) j 3) :=
    .of_keepsBut (offs := [0x200]) (.wf _ _ _ _ (by simp [R.LAN_LANE_STATUS]) (by simp [R.LAN_LANE_STATUS])) rfl (by decide) (by decide)
      (by decide)
  have hwidth : d.SameOutcome p k e := (foldl hlane _ d).trans (linkStatus 11 7 n)
  have hstate : e.SameOutcome p k f := by
    unfold f
    split
    · exact linkStatus 3 0 4
    · exact refl _ _ _
  have hreq : f.SameOutcome p k (f.setPst p { f.pst p with l0pReq := none }) :=
    .of_keepsBut (offs := []) (f.setPst_keepsBut p _) (by rw [Dev.pst_setPst_same]) List.not_mem_nil List.not_mem_nil List.not_mem_nil
  exact ((hwidth.trans hstate).trans hreq).trans (report n)

end Dev.SameOutcome

/-! ### A procedure that completes (R129) -/

/-- A procedure of a port has completed since: the port runs none, and CAL_CNT_DONE counts one more. -/
structure Dev.Completed (p : Nat) (d e : Dev) : Prop where
  proc : (e.pst p).proc = none
  done : e.rn R.CAL_CAL_CNT_DONE p = (d.rn R.CAL_CAL_CNT_DONE p + 1) % 4294967296

namespace Dev.Completed
variable {p : Nat} {d e f : Dev}

theorem of_close (hdone : e.rn R.CAL_CAL_CNT_DONE p = d.rn R.CAL_CAL_CNT_DONE p) (pr : Proc) (outcome : Nat) :
    d.Completed p ((e.procClose p pr outcome).procDone p) where
  proc := (congrArg (fun x : Ports => (x.port.getD p PortSt.reset).proc) (Dev.procDone_ports _ p)).trans (e.procClose_proc p pr outcome)
  done := by rw [Dev.rn_procDone, (e.procClose_keepsBut p pr outcome).rn _ _ (by decide) (by decide), hdone]

theorem same {k : Nat} (h : d.Completed p e) (hsame : e.SameOutcome p k f) : d.Completed p f :=
  ⟨hsame.proc.trans h.proc, hsame.done.trans h.done⟩

/-- Registers and port states written after the completion, CAL_CNT_DONE apart. -/
theorem keepsBut {offs : List Nat} (h : d.Completed p e) (hkept : e.KeepsBut offs f) (hproc : (f.pst p).proc = (e.pst p).proc)
    (hdone : 0x110 ∉ offs) : d.Completed p f :=
  ⟨hproc.trans h.proc, (hkept.rn _ _ (by decide) hdone).trans h.done⟩

end Dev.Completed

section
variable {s : State} {p : Nat} {pr : Proc} (hproc : (s.dev.pst p).proc = some pr)
include hproc

/-! ### ROTATE ends (R130, R132) -/

theorem exec_rotateEnd_joined (hkind : pr.kind = .rotate) (hstep : pr.step = .measured) (hjoin : (s.dev.lnk p).join = none)
    (hact : (s.dev.actMask p).testBit pr.first = true) :
    exec (.rotateEnd p) s = .next (s.settled (s.dev.rotateFinish p pr true)) := by
  change execRotateEnd p s = _
  simp [execRotateEnd, State.eff, hproc, hkind, hstep, hjoin, hact]

end

theorem Dev.rotateClosed_completed (d : Dev) (p : Nat) (pr : Proc) : d.Completed p (d.rotateClosed p pr) :=
  ⟨d.rotateClosed_proc p pr, d.rotateClosed_done p pr⟩

/-! ### HALF ends (R133–R135) -/

/-- The link runs at the return width of a HALF procedure. -/
def Dev.halfReturned (d : Dev) (p : Nat) (pr : Proc) : Dev :=
  let e := if d.curWidth p < pr.ret then d.l0pWiden p pr.ret else d.report p (d.curWidth p)
  e.setLstate p (if e.curWidth p < d.rf R.PRT0_LINK_STATUS p 20 16 then 6 else 4)

/-- The result of a lane of a HALF procedure, and whether all passed and one reached FAIL_LIMIT. -/
def halfLane (p : Nat) (pr : Proc) (eyes : List (Nat × Nat)) (acc : Dev × Bool × Bool) (k : Nat) : Dev × Bool × Bool :=
  let r := acc.1.laneResult p k (((eyes.find? fun e => e.1 == k).map (·.2)).getD 0 % 256) (pr.th.getD k 0) pr.lim
  (r.1, acc.2.1 && r.2.1, acc.2.2 || r.2.2)

/-- The end of a HALF procedure whose lanes' results are known. -/
def Dev.halfClosed (p : Nat) (pr : Proc) (r : Dev × Bool × Bool) : Dev :=
  let d := (r.1.procClose p pr (if r.2.1 then 1 else 2)).procDone p
  if r.2.1 then d
  else
    let d := (d.bump R.CAL_CAL_CNT_FAIL p).raiseCal p 0
    if r.2.2 ∧ pr.reeq then d.reeqMark p else d

theorem exec_halfEnd_measured {s : State} {p : Nat} {pr : Proc} (hproc : (s.dev.pst p).proc = some pr) (eyes : List (Nat × Nat))
    (hkind : pr.kind = .half) (hstep : pr.step = .measured) :
    exec (.halfEnd p eyes) s = .next (s.settled
      (Dev.halfClosed p pr ((bitsOf 16 pr.lanes).foldl (halfLane p pr eyes) (s.dev.halfReturned p pr, true, false)))) := by
  change execHalfEnd p eyes s = _
  refine State.eff_of_eq ?_
  simp only [hproc]
  exact if_neg (by simp [hkind, hstep])

theorem Dev.halfReturned_sameOutcome (d : Dev) (p : Nat) (pr : Proc) : d.SameOutcome p 0 (d.halfReturned p pr) := by
  unfold Dev.halfReturned
  dsimp only
  refine .trans ?_ (.linkStatus 3 0 _)
  split
  · exact .l0pWiden _
  · exact .report _

theorem foldl_halfLane_keepsBut (p : Nat) (pr : Proc) (eyes : List (Nat × Nat)) (d : Dev) (l : List Nat) (x : Bool × Bool) :
    d.KeepsBut resultOffs (l.foldl (halfLane p pr eyes) (d, x)).1 :=
  foldl_keeps (P := fun acc : Dev × Bool × Bool => d.KeepsBut resultOffs acc.1)
    (f := halfLane p pr eyes) (fun acc k hacc => hacc.trans (Dev.laneResult_keepsBut acc.1 p k
      (((eyes.find? fun e => e.1 == k).map (·.2)).getD 0 % 256) (pr.th.getD k 0) pr.lim)) l (d, x) (.refl _ d)

theorem Dev.halfClosed_completed {d : Dev} {p : Nat} (pr : Proc) {r : Dev × Bool × Bool}
    (hdone : r.1.rn R.CAL_CAL_CNT_DONE p = d.rn R.CAL_CAL_CNT_DONE p) : d.Completed p (Dev.halfClosed p pr r) := by
  have hclosed (outcome : Nat) := Completed.of_close hdone pr outcome
  unfold Dev.halfClosed
  dsimp only
  split
  · exact hclosed 1
  have hfailed (e : Dev) (he : d.Completed p e) : d.Completed p ((e.bump R.CAL_CAL_CNT_FAIL p).raiseCal p 0) :=
    (he.keepsBut (.bump (offs := [0x114]) _ _ (by decide) (by decide)) (by rw [Dev.pst, Dev.bump_ports, Dev.pst]) (by decide)).same (k := 0)
      (.of_evOnly (Dev.raiseCal_evOnly _ p 0))
  have hmarked (e : Dev) (he : d.Completed p e) : d.Completed p (e.reeqMark p) :=
    he.keepsBut (offs := [0x108]) (.trans (e.setPst_keepsBut p _) (.wf _ _ _ _ (by decide) (by decide)))
      ((congrArg PortSt.proc (e.pst_setPst_same p { e.pst p with reeqDue := true })).trans rfl) (by decide)
  split
  · exact hmarked _ (hfailed _ (hclosed 2))
  · exact hfailed _ (hclosed 2)

/-! ### Re-equalisation ends (R136) -/

/-- A re-equalisation done on a link that runs, before the link returns to L0. -/
def Dev.reeqClosed (d : Dev) (p : Nat) (pr : Proc) : Dev :=
  let d := (d.procClose p pr 6).procDone p
  let d := (d.setPst p { d.pst p with reeqDue := false }).wf R.CAL_CAL_PSTATUS p 5 5 0
  (d.linkLanes p).foldl (fun d k => d.setCalLane p k { d.calLane p k with lows := 0, lowRaised := false }) d

/-- The link of a re-equalisation that is done returns to L0 at its trained width. -/
def Dev.reeqReturned (d : Dev) (p : Nat) : Dev :=
  ((d.setLstate p 4).l0pWiden p (d.rf R.PRT0_LINK_STATUS p 20 16)).raiseWith 0x0c2 (d.rd R.CAL_CAL_LAST p) []

theorem exec_reeqDone_up {s : State} {p : Nat} {pr : Proc} (hproc : (s.dev.pst p).proc = some pr) (hkind : pr.kind = .reeq)
    (hup : s.dev.dlUp p = true) :
    exec (.reeqDone p) s = .next (s.settled ((s.dev.reeqClosed p pr).reeqReturned p)) := by
  change execReeqDone p s = _
  refine State.eff_of_eq ?_
  simp only [hproc]
  exact if_neg (by simp [hkind, hup])

theorem Dev.reeqClosed_pst (d : Dev) (p : Nat) (pr : Proc) :
    (d.reeqClosed p pr).pst p = { ((d.procClose p pr 6).procDone p).pst p with reeqDue := false } := by
  refine foldl_keeps (P := fun e : Dev => e.pst p = _) (fun e k he => ?_) _ _ (Dev.pst_setPst_same _ p _)
  exact he

theorem Dev.reeqClosed_completed (d : Dev) (p : Nat) (pr : Proc) : d.Completed p (d.reeqClosed p pr) := by
  refine (Completed.of_close (d := d) rfl pr 6).keepsBut (offs := [0x108]) ?_ (by rw [d.reeqClosed_pst p pr]) (by decide)
  exact .trans (.trans (Dev.setPst_keepsBut _ p _) (.wf _ _ _ _ (by decide) (by decide))) (.foldl (fun e k => e.setCalLane_keepsBut p k _) _ _)

theorem Dev.l0pWiden_reeqDue (d : Dev) (p w : Nat) : ((d.l0pWiden p w).pst p).reeqDue = (d.pst p).reeqDue := by
  have hlanes (l : List Nat) : ((l.foldl (fun d k => d.setLane (p / 8) k 3) d).pst p).reeqDue = (d.pst p).reeqDue :=
    foldl_keeps (P := fun e : Dev => (e.pst p).reeqDue = (d.pst p).reeqDue) (f := fun d k => d.setLane (p / 8) k 3)
      (fun _ _ h => h) l d rfl
  unfold Dev.l0pWiden
  dsimp only
  rw [Dev.report_reeqDue, Dev.pst_setPst_same]
  split <;> exact hlanes _

theorem Dev.reeqReturned_sameOutcome (d : Dev) (p k : Nat) : d.SameOutcome p k (d.reeqReturned p) :=
  ((SameOutcome.linkStatus 3 0 4).trans (.l0pWiden _)).trans (.of_evOnly (Dev.raiseWith_evOnly _ _ _ _))

theorem Dev.reeqReturned_reeqDue (d : Dev) (p : Nat) (pr : Proc) : (((d.reeqClosed p pr).reeqReturned p).pst p).reeqDue = false := by
  have hports := (Dev.raiseWith_evOnly (((d.reeqClosed p pr).setLstate p 4).l0pWiden p ((d.reeqClosed p pr).rf R.PRT0_LINK_STATUS p 20 16))
    0x0c2 ((d.reeqClosed p pr).rd R.CAL_CAL_LAST p) []).ports_eq
  rw [Dev.reeqReturned, Dev.pst, hports]
  refine (Dev.l0pWiden_reeqDue _ p _).trans ?_
  exact congrArg PortSt.reeqDue (d.reeqClosed_pst p pr)

/-- Settles O25: lane by lane, then end by end. -/
theorem calibrationProceduresEnd : Obligations.CalibrationProceduresEnd := by
  intro s
  refine ⟨fun p k cmd hparked hown => ?_, fun p pr hproc => ⟨fun k cmd => exec_calLaneCommand_refused hproc,
    exec_eyeHeightMeasured_parked hproc, exec_loopbackStageDone_parked hproc, fun hkind hstep hjoin hact => ?_,
    fun eyes hkind hstep => ?_, fun hkind hup => ?_⟩, fun cl measuring hcl => ?_⟩
  · rw [exec_calLaneCommand_served cmd ⟨hparked, hown⟩]
    exact ⟨fun h => by rw [Dev.laneCommand_here _ p k h], fun b h hb hact => by rw [Dev.laneCommand_partner k h hb hact],
      fun h hno => by rw [Dev.laneCommand_nowhere k h hno]⟩
  · obtain ⟨e, hsame, rfl⟩ := s.dev.rotateFinish_outcome p pr
    refine ⟨_, exec_rotateEnd_joined hproc hkind hstep hjoin hact, ?_⟩
    have hclosed := Dev.rotateClosed_completed s.dev p pr
    by_cases hpass : pr.th.getD pr.first 0 ≤ pr.eye
    · rw [if_pos hpass] at hsame
      have hend := hclosed.same hsame
      exact ⟨hend.proc, hend.done, fun _ => hsame.fails.trans ((s.dev.rotateClosed_fails p pr).trans (if_pos hpass)), fun h => absurd h (by omega)⟩
    · rw [if_neg hpass] at hsame
      have hbump : (s.dev.rotateClosed p pr).KeepsBut [0x114] ((s.dev.rotateClosed p pr).bump R.CAL_CAL_CNT_FAIL p) :=
        .bump _ _ (by decide) (by decide)
      have hend := (hclosed.keepsBut hbump (by rw [Dev.pst, Dev.bump_ports, Dev.pst]) (by decide)).same hsame
      refine ⟨hend.proc, hend.done, fun h => absurd h hpass, fun _ => ⟨?_, ?_⟩⟩
      · exact hsame.fails.trans ((Dev.fails_of_keepsBut p _ hbump (by decide)).trans ((s.dev.rotateClosed_fails p pr).trans (if_neg hpass)))
      · rw [hsame.fail, Dev.rn_bump_same, s.dev.rotateClosed_fail]
  · have hdone := (foldl_halfLane_keepsBut p pr eyes (s.dev.halfReturned p pr) (bitsOf 16 pr.lanes) (true, false)).rn
      R.CAL_CAL_CNT_DONE p (by decide) (by decide)
    have hcompleted := Dev.halfClosed_completed pr (hdone.trans (s.dev.halfReturned_sameOutcome p pr).done)
    exact ⟨_, exec_halfEnd_measured hproc eyes hkind hstep, hcompleted.proc, hcompleted.done⟩
  · have hend := (s.dev.reeqClosed_completed p pr).same ((s.dev.reeqClosed p pr).reeqReturned_sameOutcome p 0)
    exact ⟨_, exec_reeqDone_up hproc hkind hup, hend.proc, s.dev.reeqReturned_reeqDue p pr, hend.done⟩
  · have hanswer {e : Dev} (h : (s.dev.alarmed cl).alarmAnswer cl measuring = e) :
        exec (.droopAlarm cl measuring) s = .next (s.settled e) := h ▸ exec_droopAlarm measuring hcl
    refine ⟨fun hidle => hanswer (Dev.alarmAnswer_idle measuring hidle), fun q pr hport hproc => ?_⟩
    have hrun := Dev.alarmAnswer_running measuring hport hproc
    exact ⟨fun h => hanswer (hrun.trans (if_pos (by simpa using h))), fun hm hkind =>
      ⟨fun h => hanswer ((hrun.trans (if_neg (by simp [hm, hkind]))).trans (if_pos h)),
        fun h => hanswer ((hrun.trans (if_neg (by simp [hm, hkind]))).trans (if_neg h))⟩⟩

end Sys2Proof.Machine
end

section
/-! Family 04_lanes_and_ports: hot-plug slots (O22). -/

namespace Sys2Proof.Machine

/-! ### Slots (R106, R108) -/

section
variable (d : Dev)

theorem Dev.slot_setSlot_same (k : Nat) (x : Slot) : (d.setSlot k x).slot k = x := Tbl.getD_put_same _ _ _ _

theorem Dev.slot_setSlot_other {k j : Nat} (x : Slot) (h : j ≠ k) : (d.setSlot k x).slot j = d.slot j :=
  Tbl.getD_put_other _ _ _ _ h

/-- Slot Status stands in the configuration space of the functions that present the port. -/
theorem Dev.slotStatus_frame (p bits : Nat) : d.slotStatus p bits = { d with fn := (d.slotStatus p bits).fn } := by
  refine foldl_keeps (P := fun e : Dev => e = { d with fn := e.fn }) (fun e s he => ?_) _ _ rfl
  split
  · rw [he]
    rfl
  · exact he

theorem Dev.slotPort_of_regs {d e : Dev} (h : e.regs = d.regs) (k : Nat) : e.slotPort k = d.slotPort k := by
  rw [Dev.slotPort, Dev.slotPort, Dev.listed, Dev.listed, h]

/-! ### Writes to the expanders (R107) -/

/-- The output bits of a slot. -/
def Dev.slotOut (k : Nat) : Nat :=
  let x := d.slot k
  let lit (c : Nat) : Bool := c == 1 || (c == 2 && x.blinkOn)
  b2n x.power + 2 * b2n (lit x.attn) + 4 * b2n (lit x.pwrInd)

theorem b2n_le_one (b : Bool) : b2n b ≤ 1 := by
  cases b <;> decide

theorem Dev.slotOut_le (k : Nat) : d.slotOut k ≤ 7 := by
  unfold Dev.slotOut
  dsimp only
  have hbits := fun a b c => Nat.add_le_add (Nat.add_le_add (b2n_le_one a) (Nat.mul_le_mul_left 2 (b2n_le_one b))) (Nat.mul_le_mul_left 4 (b2n_le_one c))
  exact hbits _ _ _

/-- The output word of an expander has four bits for each of its four slots. -/
theorem Dev.expWord_lt (e : Nat) : d.expWord e < 65536 := by
  have hword : d.expWord e = 0 + 16 ^ 0 * d.slotOut (4 * e + 0) + 16 ^ 1 * d.slotOut (4 * e + 1) + 16 ^ 2 * d.slotOut (4 * e + 2) +
    16 ^ 3 * d.slotOut (4 * e + 3) := rfl
  have h0 := d.slotOut_le (4 * e + 0)
  have h1 := d.slotOut_le (4 * e + 1)
  have h2 := d.slotOut_le (4 * e + 2)
  have h3 := d.slotOut_le (4 * e + 3)
  omega

theorem Dev.slotShow_ports (k : Nat) : (d.slotShow k).ports = d.ports := by
  unfold Dev.slotShow
  split <;> rfl

theorem Dev.expQ_expWrite (k : Nat) (cmd : Bool) :
    (d.expWrite k cmd).ports.expQ.getD (k / 4) [] =
      d.ports.expQ.getD (k / 4) [] ++ [(d.slotShow k).expWord (k / 4) + 65536 * 2 ^ (k % 4) + 1048576 * b2n cmd] := by
  have hput (q : List Nat) : (Tbl.put (d.slotShow k).ports.expQ (k / 4) [] q).getD (k / 4) [] = q := Tbl.getD_put_same _ _ _ _
  rw [← d.slotShow_ports k]
  unfold Dev.expWrite
  dsimp only
  split <;> exact hput _

end

/-! ### An acknowledged write (R107, R108) -/

/-- A slot takes its power from an acknowledged output word, and shows Command Completed. -/
def Dev.ackPower (d : Dev) (k w : Nat) (on : Bool) : Dev :=
  let x := d.slot k
  let d := d.setSlot k { x with powered := on, cmdDone := x.cmdDone || w.testBit 20 }
  match d.slotPort k with
  | some p => if w.testBit 20 then d.slotStatus p 16 else d
  | none => d

/-- A slot of an expander takes an acknowledged output word. -/
def Dev.ackSlot (expander w : Nat) (d : Dev) (j : Nat) : Dev :=
  if (w / 65536).testBit j then
    let k := 4 * expander + j
    let on := (w / 16 ^ j).testBit 0
    let x := d.slot k
    let d := d.ackPower k w on
    if on && !x.powered then
      let ms := ((d.slotPort k).map fun p => d.rf R.PRT1_SLOT_CFG p 15 8).getD 0
      if ms = 0 then d.slotResetEnd k else d.setSlot k { d.slot k with delayAt := some (d.now + 1000000 * ms) }
    else d
  else d

/-- The write at the front of an expander's queue that waits is sent. -/
def Dev.expSend (d : Dev) (e : Nat) (rest : List Nat) : Dev :=
  match rest with
  | [] => d
  | n :: _ => d.emit (.bus 1 (d.rf (R.PRT1_HP_EXP e) 0 6 0) [d.rf (R.PRT1_HP_EXP e) 0 23 16, n % 65536])

/-- The acknowledgement of an expander's oldest write. -/
def Dev.expAcked (d : Dev) (e w : Nat) (rest : List Nat) : Dev :=
  ((List.range 4).foldl (Dev.ackSlot e w) { d with ports := { d.ports with expQ := Tbl.put d.ports.expQ e [] rest } }).expSend e rest

section
variable {s : State} {e w : Nat} {rest : List Nat} (hq : s.dev.ports.expQ.getD e [] = w :: rest)
include hq

theorem exec_expanderWriteAck_waiting : exec (.expanderWriteAck e) s = .next (s.settled (s.dev.expAcked e w rest)) := by
  change execExpanderWriteAck e s = _
  refine State.eff_of_eq ?_
  simp only [hq]
  rfl

theorem exec_expanderWriteNak_waiting : exec (.expanderWriteNak e) s = .next (s.settled
    ((bitsOf 4 (w / 65536)).foldl (fun d j => d.slotEvent (4 * e + j)) (s.dev.wf R.PRT1_HP_ERR 0 e e 1))) := by
  change execExpanderWriteNak e s = _
  refine State.eff_of_eq ?_
  simp only [hq]

theorem exec_expanderWriteRetry_unpolled (hoff : s.dev.rf R.PRT1_HP_POLL 0 7 0 = 0) : exec (.expanderWriteRetry e) s = .next (s.settled
    (s.dev.emit (.bus 1 (s.dev.rf (R.PRT1_HP_EXP e) 0 6 0) [s.dev.rf (R.PRT1_HP_EXP e) 0 23 16, w % 65536]))) := by
  change execExpanderWriteRetry e s = _
  refine State.eff_of_eq ((if_pos hoff).trans ?_)
  rw [Dev.expRetry, hq]

end

/-- What an acknowledgement leaves alone: the registers, the clock and the queues of the expanders. -/
structure Dev.AckKeeps (d e : Dev) : Prop where
  regs : e.regs = d.regs
  now : e.now = d.now
  expQ : e.ports.expQ = d.ports.expQ

theorem Dev.AckKeeps.trans {d e f : Dev} (h : d.AckKeeps e) (g : e.AckKeeps f) : d.AckKeeps f :=
  ⟨g.regs.trans h.regs, g.now.trans h.now, g.expQ.trans h.expQ⟩

theorem Dev.AckKeeps.rf {d e : Dev} (h : d.AckKeeps e) (r : Reg) (n hi lo : Nat) : e.rf r n hi lo = d.rf r n hi lo := by
  simp only [Dev.rf, Dev.rd, h.regs]

theorem Dev.slotResetEnd_keeps (d : Dev) (k : Nat) : d.AckKeeps (d.slotResetEnd k) := by
  unfold Dev.slotResetEnd
  dsimp only
  split <;> exact ⟨rfl, rfl, rfl⟩

theorem Dev.slot_slotResetEnd (d : Dev) (k j : Nat) :
    (d.slotResetEnd k).slot j = (d.setSlot k { d.slot k with delayAt := none, resetOn := false }).slot j := by
  unfold Dev.slotResetEnd
  dsimp only
  split <;> rfl

/-- A slot has taken an acknowledged word: it is powered as the word says, and where power came on, PWR_DELAY runs or, of 0, the reset
output is deasserted (R108). -/
def Dev.SlotAcked (d : Dev) (e w j : Nat) (x : Slot) : Prop :=
  x.powered = (w / 16 ^ j).testBit 0 ∧
    ((w / 16 ^ j).testBit 0 = true → (d.slot (4 * e + j)).powered = false → ∀ q, d.slotPort (4 * e + j) = some q →
      let ms := d.rf R.PRT1_SLOT_CFG q 15 8
      (ms ≠ 0 → x.delayAt = some (d.now + 1000000 * ms)) ∧ (ms = 0 → x.resetOn = false))


section
variable (d : Dev)

theorem Dev.ackPower_frame (k w : Nat) (on : Bool) : ∃ f, d.ackPower k w on =
    { d.setSlot k { d.slot k with powered := on, cmdDone := (d.slot k).cmdDone || w.testBit 20 } with fn := f } := by
  unfold Dev.ackPower
  dsimp only
  split
  · split
    · exact ⟨_, Dev.slotStatus_frame _ _ _⟩
    · exact ⟨d.fn, rfl⟩
  · exact ⟨d.fn, rfl⟩

theorem Dev.slot_ackPower_same (k w : Nat) (on : Bool) : ((d.ackPower k w on).slot k).powered = on := by
  obtain ⟨f, hf⟩ := d.ackPower_frame k w on
  rw [hf]
  exact congrArg Slot.powered (d.slot_setSlot_same k _)

theorem Dev.slot_ackPower_other {k i : Nat} (w : Nat) (on : Bool) (h : i ≠ k) : (d.ackPower k w on).slot i = d.slot i := by
  obtain ⟨f, hf⟩ := d.ackPower_frame k w on
  rw [hf]
  exact d.slot_setSlot_other _ h

theorem Dev.ackPower_keeps (k w : Nat) (on : Bool) : d.AckKeeps (d.ackPower k w on) := by
  obtain ⟨f, hf⟩ := d.ackPower_frame k w on
  rw [hf]
  exact ⟨rfl, rfl, rfl⟩

theorem Dev.ackSlot_keeps (e w j : Nat) : d.AckKeeps (d.ackSlot e w j) := by
  have hpower := d.ackPower_keeps (4 * e + j) w ((w / 16 ^ j).testBit 0)
  unfold Dev.ackSlot
  dsimp only
  split
  · split
    · split
      · exact hpower.trans (Dev.slotResetEnd_keeps _ _)
      · exact hpower.trans ⟨rfl, rfl, rfl⟩
    · exact hpower
  · exact ⟨rfl, rfl, rfl⟩

/-- A word acknowledged for one slot leaves the others alone. -/
theorem Dev.slot_ackSlot_other {e j k : Nat} (w : Nat) (h : k ≠ 4 * e + j) : (d.ackSlot e w j).slot k = d.slot k := by
  have hpower := d.slot_ackPower_other w ((w / 16 ^ j).testBit 0) h
  unfold Dev.ackSlot
  dsimp only
  split
  · split
    · split
      · rw [Dev.slot_slotResetEnd, Dev.slot_setSlot_other _ _ h, hpower]
      · rw [Dev.slot_setSlot_other _ _ h, hpower]
    · exact hpower
  · rfl

theorem Dev.slotAcked_ackSlot {e w j : Nat} (hj : (w / 65536).testBit j = true) : d.SlotAcked e w j ((d.ackSlot e w j).slot (4 * e + j)) := by
  have hkeeps := d.ackPower_keeps (4 * e + j) w ((w / 16 ^ j).testBit 0)
  have hpowered := d.slot_ackPower_same (4 * e + j) w ((w / 16 ^ j).testBit 0)
  unfold Dev.ackSlot
  dsimp only
  simp only [if_pos hj, Dev.slotPort_of_regs hkeeps.regs, hkeeps.rf, hkeeps.now]
  by_cases hcame : ((w / 16 ^ j).testBit 0 && !(d.slot (4 * e + j)).powered) = true
  · rw [if_pos hcame]
    by_cases hms : ((d.slotPort (4 * e + j)).map fun p => d.rf R.PRT1_SLOT_CFG p 15 8).getD 0 = 0
    · rw [if_pos hms, Dev.slot_slotResetEnd, Dev.slot_setSlot_same]
      refine ⟨hpowered, fun _ _ q hport => ⟨fun hne => absurd ?_ hne, fun _ => rfl⟩⟩
      simpa [hport] using hms
    · rw [if_neg hms, Dev.slot_setSlot_same]
      refine ⟨hpowered, fun _ _ q hport => ⟨fun _ => ?_, fun h0 => absurd ?_ hms⟩⟩
      · rw [hport]
        rfl
      · rw [hport]
        exact h0
  · rw [if_neg hcame]
    exact ⟨hpowered, fun hon hwas => absurd (by simp [hon, hwas]) hcame⟩

end

/-- What has been acknowledged in a device, has been for one that differs in neither the registers nor the clock nor that slot. -/
theorem Dev.SlotAcked.congr {d f : Dev} {e w j : Nat} {x : Slot} (hkeeps : d.AckKeeps f) (hslot : f.slot (4 * e + j) = d.slot (4 * e + j))
    (h : f.SlotAcked e w j x) : d.SlotAcked e w j x := by
  unfold Dev.SlotAcked at h ⊢
  rw [hslot, Dev.slotPort_of_regs hkeeps.regs, hkeeps.now] at h
  simpa only [Dev.rf, Dev.rd, hkeeps.regs] using h

theorem Dev.foldl_ackSlot_keeps (e w : Nat) (l : List Nat) (d : Dev) : d.AckKeeps (l.foldl (Dev.ackSlot e w) d) :=
  foldl_keeps (P := fun f => d.AckKeeps f) (fun f j hf => hf.trans (f.ackSlot_keeps e w j)) l d ⟨rfl, rfl, rfl⟩

theorem Dev.slot_foldl_ackSlot_other {e k : Nat} (w : Nat) {l : List Nat} (d : Dev) (h : ∀ j ∈ l, k ≠ 4 * e + j) :
    (l.foldl (Dev.ackSlot e w) d).slot k = d.slot k := by
  induction l generalizing d with
  | nil => rfl
  | cons j l ih =>
    exact (ih _ fun i hi => h i (List.mem_cons_of_mem j hi)).trans (d.slot_ackSlot_other w (h j List.mem_cons_self))

/-- Every slot that an acknowledged write is for takes it. -/
theorem Dev.slotAcked_foldl_ackSlot {e w j : Nat} (hj : (w / 65536).testBit j = true) {l : List Nat} (hl : l.Nodup) (hmem : j ∈ l) (d : Dev) :
    d.SlotAcked e w j ((l.foldl (Dev.ackSlot e w) d).slot (4 * e + j)) := by
  induction l generalizing d with
  | nil => exact absurd hmem List.not_mem_nil
  | cons i l ih =>
    obtain ⟨hi, hl'⟩ := List.nodup_cons.1 hl
    by_cases hij : i = j
    · subst hij
      have hlater := (d.ackSlot e w i).slot_foldl_ackSlot_other w (l := l) (e := e) (k := 4 * e + i) fun n hn h =>
        hi ((show i = n by omega) ▸ hn)
      rw [List.foldl_cons, hlater]
      exact d.slotAcked_ackSlot hj
    · have hrest := ih hl' ((List.mem_cons.1 hmem).resolve_left (Ne.symm hij)) (d.ackSlot e w i)
      exact hrest.congr (d.ackSlot_keeps e w i) (d.slot_ackSlot_other w (by omega))

/-! ### The commands of slots (R106–R109) -/

section
variable {s : State}

theorem exec_presenceChange_changed {k : Nat} {present : Bool} (hk : k < 32) (hnew : (s.dev.slot k).present ≠ present) :
    exec (.presenceChange k present) s = .next (s.settled (
      let d := s.dev.setSlot k { s.dev.slot k with present := present }
      match s.dev.slotPort k with
      | none => d
      | some p =>
        let d := (d.wf R.PRT1_SLOT_STATE p 0 0 (b2n present)).wf R.PRT0_LINK_STATUS p 22 22 (b2n present)
        let d := (d.slotStatus p 8).raise (0x200 + 4 * p + 3)
        if present then d else if d.dlUp p then d.dlDown p 1 true true else d.linkWords p (d.lstate p))) := by
  change execPresenceChange k present s = _
  exact State.eff_of_eq (if_neg (not_or.2 ⟨Nat.not_le.2 hk, hnew⟩))

theorem Dev.slotOn_off {d : Dev} {p k : Nat} (hk : d.portSlot p = some k) (hctl : d.slotCtl k = true) (hoff : (d.slot k).power = false) :
    d.slotOn p =
      ((d.setSlot k { d.slot k with power := true, cmdDone := false, resetOn := true }).emit (.pin (.slotReset p) true)).expWrite k true := by
  simp [Dev.slotOn, hk, hctl, hoff]

theorem Dev.slotOff_on {d : Dev} {p k : Nat} (hk : d.portSlot p = some k) (hctl : d.slotCtl k = true) (hon : (d.slot k).power = true) :
    d.slotOff p =
      (let d := if d.dlUp p then d.dlDown p 1 false true else d
       let d := (d.setSlot k { d.slot k with resetOn := true }).emit (.pin (.slotReset p) true)
       (d.setSlot k { d.slot k with power := false, powered := false, delayAt := none, cmdDone := false }).expWrite k true) := by
  simp [Dev.slotOff, hk, hctl, hon]

theorem exec_slotPowerOn_eq (p : Nat) : exec (.slotPowerOn p) s = .next (s.settled (s.dev.slotOn p)) := by
  change execSlotPowerOn p s = _
  rfl

theorem exec_slotPowerOff_eq (p : Nat) : exec (.slotPowerOff p) s = .next (s.settled (s.dev.slotOff p)) := by
  change execSlotPowerOff p s = _
  rfl

theorem exec_hpInt_eq (inputs : List Nat) : exec (.hpInt inputs) s = .next (s.settled (s.dev.expRead inputs)) := by
  change execHpInt inputs s = _
  rfl

theorem exec_expanderPoll_polled (inputs : List Nat) (hon : s.dev.rf R.PRT1_HP_POLL 0 7 0 ≠ 0) :
    exec (.expanderPoll inputs) s = .next (s.settled ((List.range 8).foldl (fun d e => d.expRetry e)
      ((s.dev.advanceTo (s.dev.nextPeriod (s.dev.rf R.PRT1_HP_POLL 0 7 0))).expRead inputs))) := by
  change execExpanderPoll inputs s = _
  exact State.eff_of_eq (if_neg hon)

theorem exec_indicatorBlink_blinking {k : Nat} (hk : k < 32) (hctl : s.dev.slotCtl k = true)
    (hblink : (s.dev.slot k).attn = 2 ∨ (s.dev.slot k).pwrInd = 2) :
    exec (.indicatorBlink k) s = .next (s.settled
      ((s.dev.setSlot k { s.dev.slot k with blinkOn := !(s.dev.slot k).blinkOn }).expWrite k false)) := by
  change execIndicatorBlink k s = _
  exact State.eff_of_eq (if_pos (by simpa [hk, hctl] using hblink))

theorem exec_pwrDelayEnd_running {p k t : Nat} (hk : s.dev.portSlot p = some k) (hdelay : (s.dev.slot k).delayAt = some t) :
    exec (.pwrDelayEnd p) s = .next (s.settled ((s.dev.advanceTo t).slotResetEnd k)) := by
  change execPwrDelayEnd p s = _
  simp [execPwrDelayEnd, State.eff, hk, hdelay]

end

theorem Dev.expAcked_queue (d : Dev) (e w : Nat) (rest : List Nat) : (d.expAcked e w rest).ports.expQ.getD e [] = rest := by
  have hkeeps := Dev.foldl_ackSlot_keeps e w (List.range 4) { d with ports := { d.ports with expQ := Tbl.put d.ports.expQ e [] rest } }
  have hqueue : (d.expAcked e w rest).ports.expQ = Tbl.put d.ports.expQ e [] rest := by
    unfold Dev.expAcked Dev.expSend
    split <;> exact hkeeps.expQ
  rw [hqueue, Tbl.getD_put_same]

theorem Dev.expAcked_slots (d : Dev) {e w j : Nat} (rest : List Nat) (hj4 : j < 4) (hj : (w / 65536).testBit j = true) :
    d.SlotAcked e w j ((d.expAcked e w rest).slot (4 * e + j)) := by
  have hslots := Dev.slotAcked_foldl_ackSlot hj List.nodup_range (List.mem_range.2 hj4)
    { d with ports := { d.ports with expQ := Tbl.put d.ports.expQ e [] rest } } (e := e)
  unfold Dev.expAcked Dev.expSend
  split <;> exact hslots

/-- Settles O22: command by command; an acknowledged write is taken slot by slot. -/
theorem hotPlugCommandsComplete : Obligations.HotPlugCommandsComplete := by
  intro s
  refine ⟨fun k p present hk hnew hport => ?_, fun k present hk hnew hport => ?_,
    fun d k cmd => ⟨_, (d.slotShow k).expWord_lt _, d.expQ_expWrite k cmd⟩,
    fun p k hk hctl hoff => ?_, fun p k hk hctl hon => ?_,
    fun e w rest hq => ⟨⟨_, exec_expanderWriteAck_waiting hq, s.dev.expAcked_queue e w rest, fun j hj4 hj => s.dev.expAcked_slots rest hj4 hj⟩,
      exec_expanderWriteNak_waiting hq, exec_expanderWriteRetry_unpolled hq⟩,
    exec_expanderPoll_polled, exec_hpInt_eq, fun k => exec_indicatorBlink_blinking, fun p k t => exec_pwrDelayEnd_running⟩
  · rw [exec_presenceChange_changed hk hnew, hport]
  · rw [exec_presenceChange_changed hk hnew, hport]
  · rw [exec_slotPowerOn_eq, Dev.slotOn_off hk hctl hoff]
  · rw [exec_slotPowerOff_eq, Dev.slotOff_on hk hctl hon]

end Sys2Proof.Machine
end

section
/-! Family 06_mirkel_link: alignment, resume, flush and order resets (O28). -/

namespace Sys2Proof.Machine

section
variable {s : State} {p : Nat}

/-! ### Alignment (R96, R105, R114, R159) -/

/-- A fabric link with its reference clock trains from Detect on the lanes that lock. -/
theorem exec_lanesAligned_detect {lanes : Nat} (hfab : s.dev.isFabric p = true)
    (hst : s.dev.lkState p = 1 ∨ (s.dev.lkState p = 4 ∧ (s.dev.lnk p).full = true)) (hmay : s.dev.mayTrain p = true)
    (href : s.dev.refOk (p / 8) = true)
    (hon : ((s.dev.trainLanes p).filter fun k => lanes.testBit k).take (s.dev.tgtWidth p) ≠ []) :
    exec (.lanesAligned p lanes) s = .next (s.settled (
      let on := ((s.dev.trainLanes p).filter fun k => lanes.testBit k).take (s.dev.tgtWidth p)
      let d := s.dev.laneFaults p (ofBits ((s.dev.trainLanes p).filter fun k => !lanes.testBit k))
      let d := (bitsOf 16 (d.rf R.MKL_LK_PARKED (lkInst p) 15 0)).foldl (fun d k => d.wf (R.LAN_LCAL_STATUS (p / 8)) k 2 0 0) d
      let d := (d.wr R.MKL_LK_PARKED (lkInst p) 0).setPst p { d.pst p with detLanes := ofBits on, leftOut := 0, recFail := [] }
      let d := d.wr R.PRT0_LINK_STATUS p (word (11 + 16 * 7 + 65536 * on.length + 4194304 * fld (d.rd R.PRT0_LINK_STATUS p) 31 22))
      let d := if (d.portSlot p).isSome then d else d.wf R.PRT0_LINK_STATUS p 22 22 1
      let d := ((d.setActMask p (ofBits on)).runLanes p 7 0).wn R.PRT0_TRAIN_ERR p 0
      (if s.dev.lkState p = 1 then d.setLkState p 2 else d).identSend p)) := by
  have hopen : ¬ (!s.dev.isFabric p || !(s.dev.lkState p == 1 || s.dev.lkState p == 4) || !s.dev.refOk (p / 8)) = true := by
    rcases hst with h | ⟨h, -⟩ <;> simp [hfab, href, h]
  have hfull : s.dev.lkState p = 1 ∨ (s.dev.lnk p).full = true := hst.imp id And.right
  change execLanesAligned p lanes s = _
  refine State.eff_of_eq ((if_neg hopen).trans ((if_pos hfull).trans (if_neg ?_)))
  simp [hmay, List.isEmpty_iff, hon]

/-- A held link that has kept its state retrains on the lanes that align; the others stay parked. -/
theorem exec_lanesAligned_held {lanes : Nat} (hfab : s.dev.isFabric p = true) (hst : s.dev.lkState p = 4)
    (hfull : (s.dev.lnk p).full = false) (href : s.dev.refOk (p / 8) = true)
    (hon : ((s.dev.linkLanes p).filter fun k => !s.dev.permParked p k).filter (fun k => lanes.testBit k) ≠ []) :
    exec (.lanesAligned p lanes) s = .next (s.settled (
      let mine := (s.dev.linkLanes p).filter fun k => !s.dev.permParked p k
      let on := mine.filter fun k => lanes.testBit k
      ((mine.foldl (fun d k =>
        if lanes.testBit k then
          ((d.setLane (p / 8) k 3).wf (R.LAN_LANE_STATUS (p / 8)) k 3 3 1).wf R.MKL_LK_PARKED (lkInst p) (16 + k) (16 + k) 0
        else ((d.setLane (p / 8) k 4).wf R.MKL_LK_PARKED (lkInst p) (16 + k) (16 + k) 1).makeDue p k 2)
        (s.dev.laneFaults p (ofBits (mine.filter fun k => !lanes.testBit k)))).setActMask p (ofBits on)).identSend p)) := by
  have hopen : ¬ (!s.dev.isFabric p || !(s.dev.lkState p == 1 || s.dev.lkState p == 4) || !s.dev.refOk (p / 8)) = true := by
    simp [hfab, href, hst]
  have hkept : ¬ (s.dev.lkState p = 1 ∨ (s.dev.lnk p).full = true) := by
    simp [hst, hfull]
  change execLanesAligned p lanes s = _
  exact State.eff_of_eq ((if_neg hopen).trans ((if_neg hkept).trans (if_neg (by simpa [List.isEmpty_iff] using hon))))

/-! ### Resume and flush (R158–R160) -/

theorem exec_resume_same (seq : Nat) (hfab : s.dev.isFabric p = true) (hst : s.dev.lkState p = 4) (hsame : (s.dev.lnk p).same = true) :
    exec (.resume p seq) s = .next (s.settled (
      let d := (s.dev.ackTo p seq).setLkState p 3
      let d := (d.setLnk p { d.lnk p with same := false, full := false, expiries := 0, gap := false, timerAt := d.now + 1 }).acctStart p
      let d := d.wn R.MKL_LK_HOLD_LAST (lkInst p) (min 65535 ((d.now - (s.dev.lnk p).holdAt) / 1000))
      let w := popCount 16 (d.actMask p)
      let d := if (s.dev.lnk p).full then
          let d := ((d.mklMethod p w).calTrained p).wf R.PRT0_LINK_CTRL p 0 0 0
          if w < d.tgtWidth p then d.linkDegraded p else d
        else d
      let d := (d.mklEvent p 0 1).wf R.PRT0_LINK_STATUS p 11 7 (popCount 16 (d.actMask p))
      let d := match d.bundleOf p with
        | some b => (d.pinsSpread b).orStart b
        | none => d
      (d.report p (popCount 16 (d.actMask p))).rxDrain p)) := by
  change execResume p seq s = _
  exact State.eff_of_eq (if_neg (by simp [hfab, hst, hsame]))

theorem exec_holdTimeout_held (hfab : s.dev.isFabric p = true) (hst : s.dev.lkState p = 4) :
    exec (.holdTimeout p) s = .next (s.settled
      (((s.dev.advanceTo ((s.dev.lnk p).holdAt + 10000 * s.dev.rf R.MKL_LK_TIMING (lkInst p) 15 8)).mklFlush p).rxDrain p)) := by
  change execHoldTimeout p s = _
  exact State.eff_of_eq (if_neg (by simp [hfab, hst]))

/-! ### Order resets (R164–R166) -/

section
variable {b : Nat}

theorem exec_orderResetSend_acked (hphase : (s.dev.bnd b).orPhase = 1) (hacked : ∀ q ∈ s.dev.bundlePorts b, (s.dev.lnk q).replay = []) :
    exec (.orderResetSend b) s = .next (s.settled (
      if (s.dev.activeLinks b).isEmpty then (if s.dev.bundleLive b then s.dev else s.dev.orEnd b)
      else (s.dev.activeLinks b).foldl (fun d q => d.sym q 14 []) (s.dev.setBnd b { s.dev.bnd b with orPhase := 2 }))) := by
  have hready : ¬ ((s.dev.bnd b).orPhase ≠ 1 ∨ ((s.dev.bundlePorts b).any fun q => !(s.dev.lnk q).replay.isEmpty) = true) := by
    simpa [hphase] using hacked
  change execOrderResetSend b s = _
  exact State.eff_of_eq (if_neg hready)

theorem exec_orderReset_active (hb : s.dev.bundleOf p = some b) (hact : s.dev.lkState p = 3) :
    let got := if (s.dev.bnd b).orGot.contains p then (s.dev.bnd b).orGot else (s.dev.bnd b).orGot ++ [p]
    exec (.orderReset p) s = .next (s.settled (
      if (s.dev.activeLinks b).all got.contains then
        let d := (s.dev.bundlePorts b).foldl (fun d q => d.rxForce q) s.dev
        (d.setBnd b { d.bnd b with relMain := [], relOff := [], orGot := [] }).ctlNear b [5]
      else s.dev.setBnd b { s.dev.bnd b with orGot := got })) := by
  change execOrderReset p s = _
  refine State.eff_of_eq ?_
  simp only [hb]
  exact if_neg (not_not.2 hact)

theorem exec_orderResetAck_sent (hphase : (s.dev.bnd b).orPhase = 2) : exec (.orderResetAck b) s = .next (s.settled (s.dev.orEnd b)) := by
  change execOrderResetAck b s = _
  exact State.eff_of_eq (if_pos hphase)

end

theorem exec_bndOrderReset_may {a : Acc} (hmay : s.dev.may a R.MKL_BND_CTRL true = true) :
    exec (.bndOrderReset a) s = .next (s.settled (s.dev.orderResetWrite (s.dev.instOf a R.MKL_BND_CTRL.page R.MKL_BND_CTRL.off))) := by
  change execBndOrderReset a s = _
  exact State.eff_guardW_may hmay

theorem Dev.orderResetWrite_live {d : Dev} {b : Nat} (hlinks : d.bundlePorts b ≠ []) :
    d.orderResetWrite b = (d.wf R.MKL_BND_CTRL b 0 0 1).orStart b :=
  if_neg (by simpa [List.isEmpty_iff] using hlinks)

theorem exec_bndPinDataWrite_may {a : Acc} {w : Word} (hmay : s.dev.may a R.MKL_BND_PIN_DATA true = true) :
    exec (.bndPinDataWrite a w) s =
      .next (s.settled (s.dev.pinWrite a (s.dev.instOf a R.MKL_BND_PIN_DATA.page R.MKL_BND_PIN_DATA.off) w)) := by
  change execBndPinDataWrite a w s = _
  exact State.eff_guardW_may hmay

end

/-- Settles O28: command by command. -/
theorem holdResumeAndOrderResetsComplete : Obligations.HoldResumeAndOrderResetsComplete := by
  intro s p
  refine ⟨fun lanes => exec_lanesAligned_detect, fun lanes => exec_lanesAligned_held, fun seq => exec_resume_same seq,
    exec_holdTimeout_held, fun b hphase hacked => ⟨fun hlinks => ?_, fun hnone hdead => ?_⟩, fun b hb hact => ⟨fun hall => ?_, fun hnot => ?_⟩,
    fun b => exec_orderResetAck_sent, fun a hmay hlinks => ?_, fun a w => exec_bndPinDataWrite_may⟩
  · rw [exec_orderResetSend_acked hphase hacked, if_neg (by simpa [List.isEmpty_iff] using hlinks)]
  · rw [exec_orderResetSend_acked hphase hacked, if_pos (List.isEmpty_iff.2 hnone), if_neg (ne_true_of_eq_false hdead)]
  · rw [exec_orderReset_active hb hact, if_pos (List.all_eq_true.2 fun q hq => List.contains_iff_mem.2 (hall q hq))]
  · rw [exec_orderReset_active hb hact, if_neg (by simpa using hnot)]
  · rw [exec_bndOrderReset_may hmay, Dev.orderResetWrite_live hlinks]

end Sys2Proof.Machine
end

section
/-! Family 06_mirkel_link: frames, parks, joins and lost lanes (O26). -/

namespace Sys2Proof.Machine

/-! ### Frames and flits (R111, R146, R149) -/

/-- The corrections of a frame are counted on the link's lanes. -/
def Dev.frameCorrected (d : Dev) (p : Nat) (ce : List (Nat × Nat)) : Dev :=
  (ce.filter fun e => (d.linkLanes p).contains e.1).foldl (fun d e => d.bumpBy (R.LAN_LANE_FEC_CE (p / 8)) e.1 e.2) d

/-- A frame or flit that fails is counted on the lanes with an error, and an active one of them is a fault. -/
def Dev.frameFailed (d : Dev) (p ue : Nat) : Dev :=
  let bad := (d.linkLanes p).filter fun k => ue.testBit k
  let d := bad.foldl (fun d k => d.bump (R.LAN_LANE_FEC_UE (p / 8)) k) d
  let d := match (d.owner p).filter fun _ => d.isUp p && d.isCxl p with
    | some st => d.setCfg st 3 3 (d.cfg st 3 3 ||| 0x40)
    | none => d
  d.laneFaults p (ofBits (bad.filter fun k => d.laneState (p / 8) k == 3))

section
variable {s : State} {p : Nat} (frame : List Byte) (ce : List (Nat × Nat)) (ue : Nat)

theorem exec_frameReceived_fabric (hfab : s.dev.isFabric p = true) (hlow : 2 ≤ s.dev.lkState p) (hdown : s.dev.lkState p ≠ 5) :
    exec (.frameReceived p frame ce ue) s = .next (s.settled (
      let d := s.dev.frameCorrected p ce
      if frameOk frame then
        let w := slotWalk (frameSlots frame) (d.lnk p).left false
        let d := d.setLnk p { d.lnk p with left := w.1 }
        let d := if endMap frame then d.mapEnd p else d
        if w.2 then d.mklProtocol p else d
      else (d.setLnk p { d.lnk p with left := (d.lnk p).left - 15 }).frameFailed p ue)) := by
  have hcarries : ¬ (!decide (2 ≤ s.dev.lkState p) || !(s.dev.lkState p != 5)) = true := by
    simp [hlow, hdown]
  change execFrameReceived p frame ce ue s = _
  refine State.eff_of_eq ?_
  simp only [hfab, if_true, true_and, Bool.not_true, Bool.false_and, Bool.false_eq_true, if_false, Bool.not_and]
  refine (if_neg hcarries).trans ?_
  rfl

theorem exec_frameReceived_flit (hfab : s.dev.isFabric p = false) (hup : s.dev.dlUp p = true)
    (hflit : s.dev.rb R.PRT0_LINK_STATUS p 13 = true) :
    exec (.frameReceived p frame ce ue) s = .next (s.settled (
      let d := s.dev.frameCorrected p ce
      if ue = 0 then d else d.frameFailed p ue)) := by
  change execFrameReceived p frame ce ue s = _
  refine State.eff_of_eq ?_
  simp only [hfab, hup, hflit, Bool.and_self, Bool.not_true, Bool.not_false, Bool.true_and, Bool.false_eq_true, false_and, if_false, beq_iff_eq]
  rfl

end

/-! ### The end of the map (R162) -/

/-- A lane is parked: a procedure that waits for it goes on. -/
def Dev.parkArrived (e : Dev) (p k : Nat) : Dev :=
  match (e.pst p).proc with
  | some pr =>
    if pr.kind = .rotate ∧ pr.step = .starting ∧ pr.first = k then
      e.setPst p { e.pst p with proc := some { pr with step := .parked } }
    else e
  | none => e

/-- A join has timed out: a procedure that waits for it fails. -/
def Dev.joinExpired (d : Dev) (p : Nat) : Dev :=
  match (d.pst p).proc with
  | some pr => if pr.kind = .rotate ∧ pr.step = .measured then d.rotateFinish p pr false else d
  | none => d

section
variable {d : Dev} {p k how : Nat} (hswap : (d.lnk p).swap = some (k, how))
include hswap

theorem Dev.mapEnd_park (hhow : how ≠ 2) :
    d.mapEnd p =
      (((d.setLnk p { d.lnk p with swap := none }).wf R.MKL_LK_STATE (lkInst p) 8 8 0).mklPark p k (how == 1)).parkArrived p k := by
  unfold Dev.mapEnd
  simp only [hswap, if_neg hhow]
  rfl

theorem Dev.mapEnd_join (hhow : how = 2) (hguest : (d.lnk p).guest ≠ some k) :
    d.mapEnd p = (
      let e := ((d.setLnk p { d.lnk p with swap := none }).wf R.MKL_LK_STATE (lkInst p) 8 8 0).mklJoin p k
      if (e.pst p).proc.isSome then e else e.report p (popCount 16 (e.actMask p))) := by
  unfold Dev.mapEnd
  simp only [hswap, if_pos hhow, beq_eq_false_iff_ne.2 hguest, Bool.false_eq_true, if_false, Bool.not_false, Bool.true_and]

theorem Dev.mapEnd_return (hhow : how = 2) (hguest : (d.lnk p).guest = some k) :
    d.mapEnd p = (
      let e := ((d.setLnk p { d.lnk p with swap := none }).wf R.MKL_LK_STATE (lkInst p) 8 8 0).mklJoin p k
      let f := e.setLnk p { e.lnk p with guest := none }
      let f := ((((f.calRecord p k).bump (R.LAN_LCAL_CNT (p / 8)) k).clearDue p k).adaptLatch (p / 8) k).procDone p
      f.report p (popCount 16 (f.actMask p))) := by
  unfold Dev.mapEnd
  simp only [hswap, if_pos hhow, beq_iff_eq.2 hguest, if_true, Bool.not_true, Bool.false_and, Bool.false_eq_true, if_false]

end

/-! ### Parks and joins (R130, R131, R162) -/

section
variable {s : State} {p lane k : Nat} {perm : Bool}

/-- A park that the partner asks for, after a request of this end's own has been withdrawn. -/
def Dev.parkAnswer (d : Dev) (p lane k : Nat) (perm : Bool) : Dev :=
  if (d.lnk p).join.isSome || (d.lnk p).swap.isSome then d.sym p 8 [lane, 1]
  else if !(d.actMask p).testBit k then d.sym p 8 [lane, 2]
  else if popCount 16 (d.actMask p) ≤ 1 then d.sym p 8 [lane, 3]
  else
    let d := (d.mapAgree p k (b2n perm)).sym p 7 [lane]
    if perm then d.raiseCal p 1 else d.setLnk p { d.lnk p with guest := some k }

section
variable (d : Dev)

theorem Dev.parkAnswer_busy (h : (d.lnk p).join ≠ none ∨ (d.lnk p).swap ≠ none) : d.parkAnswer p lane k perm = d.sym p 8 [lane, 1] :=
  if_pos (by simpa [Option.isSome_iff_ne_none] using h)

variable (hjoin : (d.lnk p).join = none) (hswap : (d.lnk p).swap = none)
include hjoin hswap

theorem Dev.parkAnswer_inactive (hout : (d.actMask p).testBit k = false) : d.parkAnswer p lane k perm = d.sym p 8 [lane, 2] := by
  simp [Dev.parkAnswer, hjoin, hswap, hout]

variable (hon : (d.actMask p).testBit k = true)
include hon

theorem Dev.parkAnswer_last (hlast : popCount 16 (d.actMask p) ≤ 1) : d.parkAnswer p lane k perm = d.sym p 8 [lane, 3] := by
  simp [Dev.parkAnswer, hjoin, hswap, hon, hlast]

theorem Dev.parkAnswer_agreed (hmore : 1 < popCount 16 (d.actMask p)) :
    d.parkAnswer p lane k perm = (
      let e := (d.mapAgree p k (b2n perm)).sym p 7 [lane]
      if perm then e.raiseCal p 1 else e.setLnk p { e.lnk p with guest := some k }) := by
  simp [Dev.parkAnswer, hjoin, hswap, hon, Nat.not_le.2 hmore]

end

section
variable (hfab : s.dev.isFabric p = true) (hact : s.dev.lkState p = 3)
include hfab hact

theorem exec_parkReq_active (perm : Bool) (hlane : s.dev.logLane p lane = some k) :
    exec (.parkReq p lane perm) s = .next (s.settled (
      if (s.dev.lnk p).park.isSome && decide (s.dev.me < s.dev.rf R.MKL_LK_PARTNER (lkInst p) 2 0) then s.dev
      else (if (s.dev.lnk p).park.isSome then s.dev.parkWithdraw p else s.dev).parkAnswer p lane k perm)) := by
  change execParkReq p lane perm s = _
  refine State.eff_of_eq ?_
  simp only [hlane]
  exact if_neg (by simp [hfab, hact])

/-- A request that stands is answered after this end's own is withdrawn. -/
theorem exec_parkReq_stands (perm : Bool) (hlane : s.dev.logLane p lane = some k)
    (hstands : (s.dev.lnk p).park = none ∨ s.dev.rf R.MKL_LK_PARTNER (lkInst p) 2 0 ≤ s.dev.me) :
    exec (.parkReq p lane perm) s = .next (s.settled
      ((if (s.dev.lnk p).park = none then s.dev else s.dev.parkWithdraw p).parkAnswer p lane k perm)) := by
  have hmine : ¬ ((s.dev.lnk p).park.isSome && decide (s.dev.me < s.dev.rf R.MKL_LK_PARTNER (lkInst p) 2 0)) = true := by
    rcases hstands with h | h
    · simp [h]
    · simp [Nat.not_lt.2 h]
  rw [exec_parkReq_active hfab hact perm hlane, if_neg hmine]
  cases (s.dev.lnk p).park <;> rfl

theorem exec_joinReq_active (hlane : s.dev.logLane p lane = some k) (hout : (s.dev.actMask p).testBit k = false)
    (hperm : s.dev.permParked p k = false) (hswap : (s.dev.lnk p).swap = none) (aligned : Bool) :
    exec (.joinReq p lane aligned) s = .next (s.settled (
      if aligned then ((s.dev.setLnk p { s.dev.lnk p with guest := some k }).mapAgree p k 2).sym p 10 [lane] else s.dev)) := by
  change execJoinReq p lane aligned s = _
  cases aligned <;> simp [execJoinReq, State.eff, hlane, hfab, hact, hout, hperm, hswap]

theorem Dev.laneGone_active (hon : (s.dev.actMask p).testBit k = true) :
    s.dev.laneGone p k = (
      let lost := s.dev.wf (R.LAN_LANE_STATUS (p / 8)) k 3 3 0
      if popCount 16 (s.dev.actMask p) ≤ 1 then lost.mklHold p false
      else
        let d := if (lost.lnk p).swap.any fun e => e.1 == k then
            (lost.setLnk p { lost.lnk p with swap := none }).wf R.MKL_LK_STATE (lkInst p) 8 8 0
          else lost
        let d := d.mklPark p k false
        (d.mklEvent p (d.logOf p k) 3).makeDue p k 2) :=
  if_neg (by simp [hfab, hact, hon])

theorem exec_mirkelLaneLoss_active (hon : (s.dev.actMask p).testBit k = true) :
    exec (.mirkelLaneLoss p k) s = .next (s.settled ((s.dev.sym p 11 [s.dev.logOf p k]).laneGone p k)) := by
  change execMirkelLaneLoss p k s = _
  exact State.eff_of_eq (if_pos (by simp [hfab, hact, hon]))

theorem exec_mirkelLockLoss_active :
    exec (.mirkelLockLoss p) s = .next (s.settled
      (((bitsOf 16 (s.dev.actMask p)).foldl (fun d k => d.wf (R.LAN_LANE_STATUS (p / 8)) k 3 3 0) s.dev).mklHold p false)) := by
  change execMirkelLockLoss p s = _
  exact State.eff_of_eq (if_pos (by simp [hfab, hact]))

theorem exec_calStep_parked {cursor : Nat} (up : Bool) (hlane : s.dev.logLane p lane = some k) (hparked : s.dev.laneState (p / 8) k = 4)
    (hperm : s.dev.permParked p k = false) (hcursor : cursor ≤ 1) :
    exec (.calStep p lane cursor up) s = .next (s.settled (s.dev.emit (.engine p 7 [k, cursor, b2n up]))) := by
  change execCalStep p lane cursor up s = _
  simp [execCalStep, State.eff, hlane, hfab, hact, hparked, hperm, Nat.not_lt.2 hcursor]

end

theorem exec_laneLost_known (hlane : s.dev.logLane p lane = some k) :
    exec (.laneLost p lane) s = .next (s.settled (s.dev.laneGone p k)) := by
  change execLaneLost p lane s = _
  simp [execLaneLost, State.eff, hlane]

theorem exec_parkAck_asked (hact : s.dev.lkState p = 3) (hpark : (s.dev.lnk p).park = some (k, perm)) (hlane : s.dev.logOf p k = lane) :
    exec (.parkAck p lane) s = .next (s.settled ((s.dev.setLnk p { s.dev.lnk p with park := none }).mapAgree p k (b2n perm))) := by
  change execParkAck p lane s = _
  simp [execParkAck, State.eff, hpark, hact, hlane]

theorem exec_joinAck_asked (hact : s.dev.lkState p = 3) (hjoin : (s.dev.lnk p).join = some k) (hlane : s.dev.logOf p k = lane) :
    exec (.joinAck p lane) s = .next (s.settled ((s.dev.setLnk p { s.dev.lnk p with join := none }).mapAgree p k 2)) := by
  change execJoinAck p lane s = _
  simp [execJoinAck, State.eff, hjoin, hact, hlane]

theorem exec_parkRefuse_asked {reason : Nat} (hpark : (s.dev.lnk p).park = some (k, perm)) (hlane : s.dev.logOf p k = lane)
    (hreason : reason ≠ 0) : exec (.parkRefuse p lane reason) s = .next (s.settled (s.dev.parkWithdraw p)) := by
  change execParkRefuse p lane reason s = _
  simp [execParkRefuse, State.eff, hpark, hlane, hreason]

theorem exec_joinTimeout_asked (hjoin : (s.dev.lnk p).join = some k) :
    exec (.joinTimeout p) s = .next (s.settled (
      let d := s.dev.advanceTo ((s.dev.lnk p).joinAt + 10000)
      ((d.setLnk p { d.lnk p with join := none }).wf R.MKL_LK_STATE (lkInst p) 8 8 0).joinExpired p)) := by
  change execJoinTimeout p s = _
  refine State.eff_of_eq ?_
  simp only [hjoin]
  rfl

end

/-- Settles O26: frames, then the end of the map, then what the partner asks for and what is lost. -/
theorem framesAndLanesOfALinkComplete : Obligations.FramesAndLanesOfALinkComplete := by
  intro s p
  refine ⟨fun frame ce ue => ⟨fun hfab hlow hdown => ⟨fun hok => ?_, fun hbad => ?_⟩, fun hfab hup hflit => ⟨fun h0 => ?_, fun hne => ?_⟩⟩,
    fun d k how hswap => ⟨fun hhow hproc => ?_, fun pr hhow hproc hkind hstep hfirst => ?_, Dev.mapEnd_join hswap, Dev.mapEnd_return hswap⟩,
    fun hfab hact => ⟨fun lane k perm hlane => ⟨fun hpark hme => ?_, fun hpark => ?_⟩, fun lane k perm => exec_parkAck_asked hact,
      fun lane k hlane hout hperm hswap => ⟨exec_joinReq_active hfab hact hlane hout hperm hswap true,
        exec_joinReq_active hfab hact hlane hout hperm hswap false⟩,
      fun lane k => exec_joinAck_asked hact,
      fun k hon => ⟨fun hlast => ?_, fun hmore => ?_, exec_mirkelLaneLoss_active hfab hact hon, fun lane => exec_laneLost_known⟩,
      exec_mirkelLockLoss_active hfab hact, fun lane k cursor up => exec_calStep_parked hfab hact up⟩,
    fun lane reason k perm => exec_parkRefuse_asked, fun k hjoin => ⟨fun hproc => ?_, fun pr hproc hkind hstep => ?_⟩⟩
  · rw [exec_frameReceived_fabric frame ce ue hfab hlow hdown, if_pos hok]
    rfl
  · rw [exec_frameReceived_fabric frame ce ue hfab hlow hdown, if_neg (ne_true_of_eq_false hbad)]
    rfl
  · rw [exec_frameReceived_flit frame ce ue hfab hup hflit, if_pos h0]
    rfl
  · rw [exec_frameReceived_flit frame ce ue hfab hup hflit, if_neg hne]
    rfl
  · rw [Dev.mapEnd_park hswap hhow]
    simp only [Dev.parkArrived, hproc]
  · rw [Dev.mapEnd_park hswap hhow]
    simp only [Dev.parkArrived, hproc]
    exact if_pos ⟨hkind, hstep, hfirst⟩
  · rw [exec_parkReq_active hfab hact perm hlane, if_pos (by simpa [Option.isSome_iff_ne_none, hme] using hpark)]
  · have hanswer := exec_parkReq_stands hfab hact perm hlane hpark
    exact ⟨fun h => hanswer.trans (by rw [Dev.parkAnswer_busy _ h]),
      fun hj hs hout => hanswer.trans (by rw [Dev.parkAnswer_inactive _ hj hs hout]),
      fun hj hs hon hlast => hanswer.trans (by rw [Dev.parkAnswer_last _ hj hs hon hlast]),
      fun hj hs hon hmore => hanswer.trans (by rw [Dev.parkAnswer_agreed _ hj hs hon hmore])⟩
  · rw [Dev.laneGone_active hfab hact hon]
    exact if_pos hlast
  · rw [Dev.laneGone_active hfab hact hon]
    exact if_neg (Nat.not_le.2 hmore)
  · rw [exec_joinTimeout_asked hjoin]
    simp only [Dev.joinExpired, hproc]
  · rw [exec_joinTimeout_asked hjoin]
    simp only [Dev.joinExpired, hproc]
    rw [if_pos ⟨hkind, hstep⟩]

end Sys2Proof.Machine
end

section
/-! Family 07_yard: commits, aborts and drain ends (O29). -/

namespace Sys2Proof.Machine

/-! ### Which commit a page asks for (R54, R60) -/

/-- The commit is one of the page alone: outside the routing and isolation group, and fanned out to no member. -/
def Dev.OwnCommit (d : Dev) (acc page : Nat) : Prop :=
  page ≠ 0x500 ∧ page ≠ 0x600 ∧ ¬ (page = 0 ∧ d.yardEn = true ∧ fansYard (d.stagedSet acc page) = true)

/-- The requester of a commit that changes nothing waits while the device drains. -/
def Dev.waitDrain (d : Dev) (acc : Nat) : Dev :=
  if d.staging.draining then
    { d with staging := { d.staging with waiters := (d.staging.waiters ++ [acc]).eraseDups } } else d

section
variable {d : Dev} {acc page : Nat}

theorem Dev.ownCommit_iff :
    (!(page == 0x500 || page == 0x600) && !(page == 0 && d.yardEn && fansYard (d.stagedSet acc page))) = true ↔ d.OwnCommit acc page := by
  simp [Dev.OwnCommit, and_assoc, imp_iff_not_or, or_assoc]

theorem Dev.commitReq_own (h : d.OwnCommit acc page) : d.commitReq acc page = d.commitPage acc page :=
  if_pos (ownCommit_iff.2 h)

theorem Dev.commitReq_group (h : ¬ d.OwnCommit acc page) :
    d.commitReq acc page =
      if !d.yardEn then
        if (d.stagedSet acc page).isEmpty then (d.setErr 0x500 0 0).waitDrain acc
        else (d.unstage acc page).commitGroup acc (d.stagedSet acc page) none
      else if d.isHead then
        if (d.stagedSet acc page).isEmpty && !d.yard.far.contains acc then (d.setErr 0x500 0 0).waitDrain acc
        else (d.unstage acc page).ycRequest acc (d.stagedSet acc page) none
      else if (d.stagedSet acc page).isEmpty then (d.setErr 0x500 0 0).waitDrain acc
      else if d.isLost d.headNo then d.setErr page 7 0
      else d :=
  if_neg fun hown => h (ownCommit_iff.1 hown)

/-! ### Commits of a page (R54, R58) -/

theorem Dev.commitPage_empty (h : d.stagedSet acc page = []) : d.commitPage acc page = d.setErr page 0 0 :=
  if_pos (List.isEmpty_iff.2 h)

section
variable (hset : d.stagedSet acc page ≠ [])
include hset

theorem Dev.commitPage_bad {b : Nat × Nat} (h : checkPage d (d.putSet (d.stagedSet acc page)) page (d.stagedSet acc page) = some b) :
    d.commitPage acc page = d.rejected (d.putSet (d.stagedSet acc page)) page b := by
  simp [Dev.commitPage, hset, h]

theorem Dev.commitPage_good (h : checkPage d (d.putSet (d.stagedSet acc page)) page (d.stagedSet acc page) = none) :
    d.commitPage acc page = (d.unstage acc page).adoptPage page (d.stagedSet acc page) := by
  simp [Dev.commitPage, hset, h]

end

/-! ### Commits of the group (R56–R58) -/

section
variable {set : List Stg}

theorem Dev.commitGroup_draining (h : d.staging.draining = true) :
    d.commitGroup acc set none = { d with staging := { d.staging with held := d.staging.held ++ [⟨acc, set, none⟩] } } :=
  if_pos h

theorem Dev.commitGroup_bad (h : d.staging.draining = false) {b : Nat × Nat} (hb : checkGroup d (d.putSet set) set = some b) :
    d.commitGroup acc set none = (d.restage set).setErr 0x500 b.1 (b.2 / 4) := by
  simp [Dev.commitGroup, h, hb]

theorem Dev.commitGroup_good (h : d.staging.draining = false) (hnone : checkGroup d (d.putSet set) set = none) :
    d.commitGroup acc set none = (d.setErr 0x500 0 0).adoptGroup set [acc] := by
  simp [Dev.commitGroup, h, hnone, Dev.cfgDone]

end

section
variable (hgroup : ¬ d.OwnCommit acc page)
include hgroup

theorem Dev.commitReq_alone (hyard : d.yardEn = false) (hset : d.stagedSet acc page ≠ []) :
    d.commitReq acc page = (d.unstage acc page).commitGroup acc (d.stagedSet acc page) none := by
  simp [Dev.commitReq_group hgroup, hyard, hset]

theorem Dev.commitReq_nothing (hset : d.stagedSet acc page = []) (hno : d.yardEn = false ∨ d.isHead = false ∨ acc ∉ d.yard.far) :
    d.commitReq acc page = (d.setErr 0x500 0 0).waitDrain acc := by
  rw [Dev.commitReq_group hgroup, hset]
  rcases hno with h | h | h
  · simp [h]
  · simp [h]
  · simp [h]

theorem Dev.commitReq_head (hyard : d.yardEn = true) (hhead : d.isHead = true) (hsome : d.stagedSet acc page ≠ [] ∨ acc ∈ d.yard.far) :
    d.commitReq acc page = (d.unstage acc page).ycRequest acc (d.stagedSet acc page) none := by
  have hask : ¬ ((d.stagedSet acc page).isEmpty && !d.yard.far.contains acc) = true := by
    simpa [imp_iff_not_or] using hsome
  rw [Dev.commitReq_group hgroup, if_neg (by simp [hyard]), if_pos hhead, if_neg hask]

theorem Dev.commitReq_member (hyard : d.yardEn = true) (hhead : d.isHead = false) (hset : d.stagedSet acc page ≠ []) :
    d.commitReq acc page = if d.isLost d.headNo then d.setErr page 7 0 else d := by
  simp [Dev.commitReq_group hgroup, hyard, hhead, hset]

end
end

/-! ### Drain ends (R57, R225) -/

section
variable {s : State} (hdrain : s.dev.staging.draining = true) (hdrained : s.dev.drained = true)

theorem exec_drainEnd_idle (hdrain : s.dev.staging.draining = false) (hhead : s.dev.isHead = true) (hidle : s.dev.yard.phase = .idle) :
    exec .drainEnd s = .next (s.settled s.dev.ycHeld.autoJoin)  := by
  change execDrainEnd s = _
  exact State.eff_of_eq (by simp [hdrain, hhead, hidle])

include hdrain hdrained

theorem exec_drainEnd_alone (hyard : s.dev.yardEn = false) : exec .drainEnd s = .next (s.settled s.dev.drainEnd)  := by
  change execDrainEnd s = _
  exact State.eff_of_eq (by simp [hdrain, hdrained, hyard])

theorem exec_drainEnd_head (hyard : s.dev.yardEn = true) (hhead : s.dev.isHead = true) :
    exec .drainEnd s = .next (s.settled (
      if s.dev.yard.phase = .adopting then Dev.ycDone { s.dev with yard := { s.dev.yard with headDrained := true } }
      else Dev.ycHeld { s.dev with staging := { s.dev.staging with draining := false, waiters := [] } }))  := by
  change execDrainEnd s = _
  exact State.eff_of_eq (by simp [hdrain, hdrained, hyard, hhead])

theorem exec_drainEnd_member (hyard : s.dev.yardEn = true) (hhead : s.dev.isHead = false) :
    exec .drainEnd s = .next (s.settled (
      let d := { s.dev with staging := { s.dev.staging with draining := false, waiters := [] } }
      if s.dev.yard.phase = .adopted then ((d.ycSend d.headNo 6 0 []).wf R.RTE_YC_STATUS 0 3 1 6).ycIdle else d))  := by
  change execDrainEnd s = _
  exact State.eff_of_eq (by simp [hdrain, hdrained, hyard, hhead])

end

theorem exec_stageCommit_may {s : State} {a : Acc} {page : Nat} (h : s.dev.may a (stageReg page) true = true) :
    exec (.stageCommit a page) s = .next (s.settled (s.dev.commitReq (accIdx a) page)) := by
  change execStageCommit a page s = _
  exact State.eff_guardW_may h

/-- Settles O29: commits by the page's kind and the device's place in the yard, aborts, and drain ends. -/
theorem commitsAndAbortsComplete : Obligations.CommitsAndAbortsComplete := by
  intro s a page acc set own wait
  have hcommit {d : Dev} (hmay : s.dev.may a (stageReg page) true = true) (h : s.dev.commitReq acc page = d) :
      exec (.stageCommit a page) s = .next (s.settled d) := h ▸ exec_stageCommit_may hmay
  refine ⟨fun hmay => ⟨fun hown hset => hcommit hmay ((Dev.commitReq_own hown).trans (Dev.commitPage_empty hset)),
      fun hown hset b hb => hcommit hmay ((Dev.commitReq_own hown).trans (Dev.commitPage_bad hset hb)),
      fun hown hset hgood => hcommit hmay ((Dev.commitReq_own hown).trans (Dev.commitPage_good hset hgood)),
      fun hgroup hyard hset => ?_, fun hgroup hset hno => hcommit hmay (Dev.commitReq_nothing hgroup hset hno),
      fun hgroup hyard => ⟨fun hhead hsome => hcommit hmay (Dev.commitReq_head hgroup hyard hhead hsome), fun hhead hlost hset => ?_,
        fun hhead hlost hset => ?_⟩, fun commit => exec_stageAbort_made commit hmay⟩,
    fun hdrain hdrained => ?_, exec_drainEnd_idle⟩
  · have halone := Dev.commitReq_alone hgroup hyard hset
    exact ⟨fun h => hcommit hmay (halone.trans (Dev.commitGroup_draining h)),
      fun b h hb => hcommit hmay (halone.trans (Dev.commitGroup_bad h hb)),
      fun h hgood => hcommit hmay (halone.trans (Dev.commitGroup_good h hgood))⟩
  · exact hcommit hmay ((Dev.commitReq_member hgroup hyard hhead hset).trans (if_pos hlost))
  · exact hcommit hmay ((Dev.commitReq_member hgroup hyard hhead hset).trans (if_neg (ne_true_of_eq_false hlost)))
  · refine ⟨exec_drainEnd_alone hdrain hdrained, fun hyard hhead hphase => ?_, fun hyard hhead hphase => ?_, fun hyard hhead hphase => ?_,
      fun hyard hhead hphase => ?_⟩
    · rw [exec_drainEnd_head hdrain hdrained hyard hhead, if_pos hphase]
    · rw [exec_drainEnd_head hdrain hdrained hyard hhead, if_neg hphase]
    · rw [exec_drainEnd_member hdrain hdrained hyard hhead, if_pos hphase]
    · rw [exec_drainEnd_member hdrain hdrained hyard hhead, if_neg hphase]

end Sys2Proof.Machine
end

section
/-! Family 07_yard: the messages of a yard commit (O31). -/

namespace Sys2Proof.Machine

/-! ### PREPARE (R225 step 2, R475, R476) -/

section
variable (d : Dev) (m epoch id : Nat)

/-- A member's answer to PREPARE. -/
def Dev.prepareAnswer (phase err : Nat) (data : List Nat) : Dev :=
  (d.ctlSend m ([1, phase, d.me, err, epoch, id] ++ data)).wf R.RTE_YC_STATUS 0 3 1 phase

/-- What the head has named for a commit: whether the set of the head's accessor takes part, and the groups whose values do. -/
def Dev.groupMark : Bool × List Nat :=
  match d.yard.group with
  | some (i, plain, groups) => if i = id then (plain, groups) else (true, [])
  | none => (true, [])

/-- The values that a member has staged for a commit. -/
def Dev.prepareSet (mark : Bool × List Nat) (forwarded : List (CfgWait × Stg)) : List Stg :=
  (if mark.1 then d.stagedSet (if d.staging.epoch = 0 then 64 else 67) 0x500 ++ forwarded.map (·.2) else []) ++
    mark.2.flatMap fun a => d.stagedSet 67 (fanVia a)

/-- A member takes a snapshot, which has passed its checks, and answers READY. -/
def Dev.prepared (set : List Stg) (cfgs : List CfgWait) : Dev :=
  let e := { d with yard := { d.yard with
    phase := .prepared, id := id, epoch := epoch, snapshot := set, cfgs := cfgs, since := d.now } }
  (e.wf R.RTE_YC_STATUS 0 31 16 id).prepareAnswer m epoch id 2 0 [(d.putSet set).hopVector]

/-- A member checks its snapshot and answers. -/
def Dev.prepareCheck (set : List Stg) (cfgs : List CfgWait) : Dev :=
  match checkGroup d (d.putSet set) set with
  | some b => d.prepareAnswer m epoch id 3 b.1 [b.2 / 4]
  | none => d.prepared m epoch id set cfgs

end

section
variable {s : State} {m epoch id : Nat} (hyard : s.dev.yardEn = true) (hhead : s.dev.isHead = false)
include hyard hhead

theorem exec_prepare_other (hm : m ≠ s.dev.headNo) :
    exec (.prepare m epoch id) s = .next (s.settled (s.dev.prepareAnswer m epoch id 3 7 [0])) := by
  change execPrepare m epoch id s = _
  exact State.eff_of_eq ((if_neg (by simp [hyard, hhead])).trans (if_pos hm))

theorem exec_prepare_head (hm : m = s.dev.headNo) :
    exec (.prepare m epoch id) s = .next (s.settled (
      let mark := s.dev.groupMark id
      (s.dev.found [m]).prepareCheck m epoch id ((s.dev.found [m]).prepareSet mark s.dev.yard.forwarded)
        (if mark.1 then s.dev.yard.forwarded.map fun e => e.1 else []))) := by
  change execPrepare m epoch id s = _
  refine State.eff_of_eq ((if_neg (by simp [hyard, hhead])).trans ((if_neg (not_not.2 hm)).trans ?_))
  rfl

end


theorem Dev.prepareCheck_bad {d : Dev} {m epoch id : Nat} {set : List Stg} (cfgs : List CfgWait) {b : Nat × Nat}
    (h : checkGroup d (d.putSet set) set = some b) :
    d.prepareCheck m epoch id set cfgs = d.prepareAnswer m epoch id 3 b.1 [b.2 / 4] := by
  simp only [Dev.prepareCheck, h]

theorem Dev.prepareCheck_good {d : Dev} {m epoch id : Nat} {set : List Stg} (cfgs : List CfgWait)
    (h : checkGroup d (d.putSet set) set = none) :
    d.prepareCheck m epoch id set cfgs = d.prepared m epoch id set cfgs := by
  simp only [Dev.prepareCheck, h]

/-! ### Answers to PREPARE (R225 step 3) -/

section
variable {s : State} {m id : Nat} (hphase : s.dev.yard.phase = .preparing) (hpart : s.dev.yard.parts.contains m = true)
include hphase hpart

theorem exec_ready_preparing (v : Nat) (hid : id = s.dev.yard.id) :
    exec (.ready m id v) s = .next (s.settled (Dev.ycReady { s.dev with yard := { s.dev.yard with
      ready := (s.dev.yard.ready ++ [m]).eraseDups, nexthops := Tbl.put s.dev.yard.nexthops m 0 v } })) := by
  change execReady m id v s = _
  exact State.eff_of_eq (if_neg (by simpa [hphase, hid] using hpart))

theorem exec_refuse_preparing (err index : Nat) (hid : id = s.dev.yard.id) :
    exec (.refuse m id err index) s = .next (s.settled (s.dev.ycCancel m fun d => d.ycRefused (d.yardChild m) err index).ycHeld) := by
  change execRefuse m id err index s = _
  exact State.eff_of_eq (if_neg (by simpa [hphase, hid] using hpart))

theorem exec_yardCommitTimeout_preparing (hready : s.dev.yard.ready.contains m = false) :
    exec (.yardCommitTimeout m) s = .next (s.settled
      ((s.dev.advanceTo (s.dev.yard.since + 1000 * s.dev.rf R.RTE_YARD_CFG 0 15 0)).ycCancel m fun d => d.ycErr 4 m).ycHeld) := by
  change execYardCommitTimeout m s = _
  exact State.eff_of_eq (if_neg (by simpa [hphase] using And.intro (List.contains_iff_mem.1 hpart) (by simpa using hready)))

end

section
variable {d : Dev}

theorem Dev.ycReady_waiting (h : ∃ q ∈ d.yard.parts, q ∉ d.yard.ready) : d.ycReady = d :=
  if_pos (by simpa using .inr h)

variable (hphase : d.yard.phase = .preparing) (hall : ∀ q ∈ d.yard.parts, q ∈ d.yard.ready)
include hphase hall

theorem Dev.ycReady_near (h : beyond (Tbl.put d.yard.nexthops d.me 0 (d.putSet d.yard.snapshot).hopVector) (d.me :: d.yard.parts) = none) :
    d.ycReady = d.ycAdopt := by
  refine (if_neg (by simpa [hphase] using hall)).trans ?_
  simp only [h]

theorem Dev.ycReady_beyond {q : Nat}
    (h : beyond (Tbl.put d.yard.nexthops d.me 0 (d.putSet d.yard.snapshot).hopVector) (d.me :: d.yard.parts) = some q) :
    d.ycReady = d.ycCancel q fun d => d.ycErr 5 q := by
  refine (if_neg (by simpa [hphase] using hall)).trans ?_
  simp only [h]

end

/-! ### ADOPT, CANCEL and what members report (R225 steps 4 to 6) -/

section
variable {s : State} {m id : Nat}

theorem exec_adopt_prepared (hphase : s.dev.yard.phase = .prepared) (hid : id = s.dev.yard.id) :
    exec (.adopt id) s = .next (s.settled (
      let y := s.dev.yard
      let d := { s.dev with staging := { s.dev.staging with staged := s.dev.staging.staged.filter fun x => !(y.snapshot.any fun z => z == x) } }
      let d := d.found (d.yard.lost.filter fun m => d.reachSet.contains m)
      let d := ((d.ycAdoptSet y.snapshot y.epoch [] .adopted).wf R.DEV_YARD_STATUS 0 0 0 1).ycFarHops
      let d := { d with yard := { d.yard with forwarded := d.yard.forwarded.filter fun e : CfgWait × Stg => !y.cfgs.contains e.1, cfgs := [] } }
      let d := (y.cfgs.foldl (fun d c => d.cfgDone (some c) 0) d).ycRelay y.epoch id
      (d.ycSend d.headNo 5 0 []).wf R.RTE_YC_STATUS 0 3 1 5)) := by
  have hsame : ¬ (decide (s.dev.yard.phase ≠ .prepared) || decide (id ≠ s.dev.yard.id)) = true := by
    simp [hphase, hid]
  change execAdopt id s = _
  unfold execAdopt
  refine State.eff_of_eq ((if_neg hsame).trans ?_)
  with_reducible rfl

theorem exec_cancel_prepared (hphase : s.dev.yard.phase = .prepared) (hid : id = s.dev.yard.id) :
    exec (.cancel id) s = .next (s.settled (
      let y := s.dev.yard
      let d := { s.dev with yard := { y with
        phase := .idle, snapshot := [], cfgs := [], forwarded := y.forwarded.filter fun e : CfgWait × Stg => !y.cfgs.contains e.1 } }
      (y.cfgs.foldl (fun d c => d.cfgDone (some c) 1) d).rxDrainAll)) := by
  change execCancel id s = _
  exact State.eff_of_eq (if_neg (by simp [hphase, hid]))

variable (hphase : s.dev.yard.phase = .adopting) (hpart : s.dev.yard.parts.contains m = true) (hid : id = s.dev.yard.id)
include hphase hpart hid

theorem exec_adopted_adopting :
    exec (.adopted m id) s = .next (s.settled (
      let y := s.dev.yard
      let d := { s.dev with yard := { y with adopted := (y.adopted ++ [m]).eraseDups, fresh := y.fresh.filter (· != m) } }
      if y.fresh.contains m then
        (d.wf R.DEV_YARD_STATUS 0 31 16 (d.rf R.DEV_YARD_STATUS 0 31 16 + 1)).raise 0x005
      else d)) := by
  change execAdopted m id s = _
  exact State.eff_of_eq (if_neg (by simpa [hphase, hid] using hpart))

theorem exec_drained_adopting :
    exec (.drained m id) s = .next (s.settled (Dev.ycDone { s.dev with yard := { s.dev.yard with
      drained := (s.dev.yard.drained ++ [m]).eraseDups } })) := by
  change execDrained m id s = _
  exact State.eff_of_eq (if_neg (by simpa [hphase, hid] using hpart))

end

/-- Settles O31: message by message. -/
theorem yardCommitMessagesComplete : Obligations.YardCommitMessagesComplete := by
  intro s m id y
  refine ⟨fun epoch hyard hhead => ⟨exec_prepare_other hyard hhead, fun hm => ?_⟩, fun hphase hpart => ⟨fun v hid => ?_,
      exec_refuse_preparing hphase hpart, exec_yardCommitTimeout_preparing hphase hpart⟩,
    fun hphase hid => ⟨?_, exec_cancel_prepared hphase hid⟩,
    fun hphase hpart hid => ⟨fun hfresh => ?_, fun hold => ⟨_, exec_adopted_adopting hphase hpart hid, ?_⟩,
      exec_drained_adopting hphase hpart hid⟩⟩
  · have hprepare {e : Dev} (h : _ = e) : exec (.prepare m epoch id) s = .next (s.settled e) := h ▸ exec_prepare_head hyard hhead hm
    exact ⟨fun b hb => hprepare (Dev.prepareCheck_bad _ hb), fun hgood => hprepare (Dev.prepareCheck_good _ hgood)⟩
  · have hready {e : Dev} (h : _ = e) : exec (.ready m id v) s = .next (s.settled e) := h ▸ exec_ready_preparing hphase hpart v hid
    let d := { s.dev with yard := { y with ready := (y.ready ++ [m]).eraseDups, nexthops := Tbl.put y.nexthops m 0 v } }
    have hpreparing : d.yard.phase = .preparing := hphase
    exact ⟨fun hwait => hready (Dev.ycReady_waiting hwait), fun hall => ⟨fun hnone => hready (Dev.ycReady_near hpreparing hall hnone),
      fun q hq => hready (Dev.ycReady_beyond hpreparing hall hq)⟩⟩
  · with_reducible exact exec_adopt_prepared hphase hid
  · rw [exec_adopted_adopting hphase hpart hid, if_pos hfresh]
  · rw [if_neg (ne_true_of_eq_false hold)]
    exact ⟨by simp, rfl⟩

end Sys2Proof.Machine
end

section
/-! Family 04_lanes_and_ports: link power, reference clocks, lane tests and margining (O21). -/

namespace Sys2Proof.Machine

section
variable {s : State} {p : Nat}

/-! ### L0p and L1 (R101–R103, R133, R134) -/

/-- A HALF procedure of a port returns to another width. -/
def Dev.halfReturnTo (d : Dev) (p w : Nat) : Dev :=
  match (d.pst p).proc.filter fun pr => pr.kind == .half with
  | some pr => d.setPst p { d.pst p with proc := some { pr with ret := w } }
  | none => d

section
variable {w : Nat} (hfab : s.dev.isFabric p = false) (hup : s.dev.dlUp p = true) (hst : s.dev.lstate p = 4 ∨ s.dev.lstate p = 6)
  (hflit : s.dev.rb R.PRT0_LINK_STATUS p 13 = true) (hl0p : s.dev.rb R.PRT0_LINK_STATUS p 21 = true)
  (hctrl : s.dev.rb R.PRT0_LINK_CTRL p 1 = true) (hw : w ≠ 0) (hwidth : widthOf w = w) (hfit : w ≤ s.dev.rf R.PRT0_LINK_STATUS p 20 16)
include hfab hup hst hflit hl0p hctrl hw hwidth hfit

/-- A width that the link can run at is followed. -/
theorem exec_l0pPartnerRequest_followed : exec (.l0pPartnerRequest p w) s = .next (s.settled (
    let d := s.dev.halfReturnTo p w
    if w < d.curWidth p then (d.setPst p { d.pst p with l0pReq := none }).l0pNarrow p w
    else if w = d.curWidth p then d
    else if ((s.dev.pst p).proc.filter fun pr => pr.kind == .half).isSome ∨ !(s.dev.pst p).wins.isEmpty then
      d.setPst p { d.pst p with l0pReq := some w }
    else d.l0pWiden p w)) := by
  have hopen : ¬ (s.dev.isFabric p || !s.dev.dlUp p || !(s.dev.lstate p == 4 || s.dev.lstate p == 6) ||
      !bit (s.dev.rd R.PRT0_LINK_STATUS p) 13 || !bit (s.dev.rd R.PRT0_LINK_STATUS p) 21 || !s.dev.rb R.PRT0_LINK_CTRL p 1 || w == 0 ||
      widthOf w != w || decide (fld (s.dev.rd R.PRT0_LINK_STATUS p) 20 16 < w)) = true := by
    rw [Dev.rb] at hflit hl0p
    rw [Dev.rf] at hfit
    rcases hst with h | h <;> simp [hfab, hup, h, hflit, hl0p, hctrl, hw, hwidth, hfit]
  change execL0pPartnerRequest p w s = _
  exact State.eff_of_eq (if_neg hopen)

end

/-- The width in use is a register's, which a return width leaves alone. -/
theorem Dev.curWidth_halfReturnTo (d : Dev) (p w : Nat) : (d.halfReturnTo p w).curWidth p = d.curWidth p := by
  unfold Dev.halfReturnTo
  split <;> rfl

theorem exec_l0pPartnerAcknowledge_half {pr : Proc} (hproc : (s.dev.pst p).proc = some pr) (hkind : pr.kind = .half)
    (hstep : pr.step = .starting) (hup : s.dev.dlUp p = true) :
    exec (.l0pPartnerAcknowledge p) s = .next (s.settled (
      let d := s.dev.l0pNarrow p (min (s.dev.rf R.PRT0_LINK_STATUS p 20 16 / 2) (s.dev.curWidth p))
      (d.setPst p { d.pst p with proc := some { pr with step := .parked } }).emit (.engine p 2 [pr.lanes]))) := by
  change execL0pPartnerAcknowledge p s = _
  refine State.eff_of_eq ?_
  simp only [hproc]
  exact if_pos ⟨hkind, hstep, hup⟩

theorem exec_l1Entry_allowed (hfab : s.dev.isFabric p = false) (hup : s.dev.dlUp p = true) (hst : s.dev.lstate p = 4 ∨ s.dev.lstate p = 6)
    (hallowed : s.dev.l1Allowed p = true) (hqueue : s.dev.queueOf p = []) (hidle : s.dev.busyAt p = false) :
    exec (.l1Entry p) s = .next (s.settled (
      ((({ s.dev with path := { s.dev.path with replay := s.dev.path.replay.erase p } }.procAbort p 3).setLstate p 7).emit
        (.engine p 9 [b2n (s.dev.l1Sub p 3), b2n (s.dev.l1Sub p 4)])))) := by
  have hopen : (!s.dev.isFabric p && s.dev.dlUp p && (s.dev.lstate p == 4 || s.dev.lstate p == 6) && s.dev.l1Allowed p &&
      (s.dev.queueOf p).isEmpty && !s.dev.busyAt p) = true := by
    rcases hst with h | h <;> simp [hfab, hup, h, hallowed, hqueue, hidle]
  change execL1Entry p s = _
  exact State.eff_of_eq (if_pos hopen)

/-! ### Reference clocks (R105) -/

section
variable {cl : Nat} {present freqOk : Bool} (freq : Nat) (hcl : cl < 16)
include hcl

theorem exec_refclkLoss_lost (hlost : (present && freqOk) = false) :
    exec (.refclkLoss cl present freqOk freq) s = .next (s.settled (
      let d := s.dev.wn (R.LAN_CL_REFCLK cl) 0 (b2n present + 2 * b2n freqOk + 65536 * (freq % 65536))
      if !s.dev.refOk cl then d
      else
        let ps := d.clusterPorts cl
        let d := d.react 0x0d (ps.flatMap d.portStables).eraseDups ps (ps.flatMap fun p => (d.portSlices p).map (·.1))
          (d.unitRef (.cluster cl)) 0
        ps.foldl (fun d p =>
          if d.isFabric p then (if d.lkState p = 3 then d.mklHold p false else if d.lkState p = 4 then d
            else (d.linkWords p (d.lstate p)).setLkState p 0)
          else if d.dlUp p then d.dlDown p 1 false true
          else d.linkWords p (d.lstate p)) d)) := by
  change execRefclkLoss cl present freqOk freq s = _
  exact State.eff_of_eq (if_neg (not_or.2 ⟨Nat.not_le.2 hcl, ne_true_of_eq_false hlost⟩))

theorem exec_refclkRestore_cluster :
    exec (.refclkRestore cl freq) s = .next (s.settled (s.dev.wn (R.LAN_CL_REFCLK cl) 0 (3 + 65536 * (freq % 65536)))) := by
  change execRefclkRestore cl freq s = _
  exact State.eff_of_eq (if_pos hcl)

/-! ### Generators and checkers (R111, R112) -/

theorem exec_laneTestWrite_may {a : Acc} {w : Word} (errs : Nat) (hmay : s.dev.may a (R.LAN_LANE_TEST cl) true = true) :
    exec (.laneTestWrite cl a w errs) s =
      .next (s.settled (s.dev.laneTest cl (s.dev.instOf a (0x100 + cl) (R.LAN_LANE_TEST cl).off) errs w)) := by
  change execLaneTestWrite cl a w errs s = _
  exact State.eff_of_eq ((if_pos hcl).trans (s.dev.guardW_may a _ _ hmay))

theorem exec_laneTestErrRead_may {a : Acc} (errs : Nat) (hmay : s.dev.may a (R.LAN_LANE_TEST_ERR cl) false = true) :
    exec (.laneTestErrRead cl a errs) s = .next (s.settled (
      let r := s.dev.laneTestErr cl (s.dev.instOf a (0x100 + cl) (R.LAN_LANE_TEST_ERR cl).off) errs
      r.2.emit (.reply (accIdx a) [r.1]))) := by
  change execLaneTestErrRead cl a errs s = _
  exact State.eff_of_eq ((if_pos hcl).trans (s.dev.guardR_may a _ _ hmay))

end

section
variable (d : Dev) (c k errs : Nat) (w : Word)

theorem Dev.laneTest_barred (h : (d.laneState c k ≠ 0 ∧ d.laneState c k ≠ 5 ∧ d.laneState c k ≠ 7) ∨ d.rb (unitCtrl (0x100 + c)) k 0 = false) :
    d.laneTest c k errs w = d :=
  if_pos (by simpa [and_assoc] using h)

/-- The state of a lane that leaves TEST: EXCLUDED on an enabled port that has a width, else OFF. -/
def Dev.restState : Nat :=
  match d.blockPort c k with
  | some p => if d.portEn p && d.tgtWidth p != 0 then 5 else 0
  | none => 0

theorem Dev.restState_eq : d.restState c k = 0 ∨ d.restState c k = 5 := by
  unfold Dev.restState
  split
  · split
    · exact .inr rfl
    · exact .inl rfl
  · exact .inl rfl

theorem Dev.laneTest_served (hst : d.laneState c k = 0 ∨ d.laneState c k = 5 ∨ d.laneState c k = 7)
    (hen : d.rb (unitCtrl (0x100 + c)) k 0 = true) :
    d.laneTest c k errs w = (
      let e := (d.chkCount c k errs).wn (R.LAN_LANE_TEST c) k (w.toNat % 128)
      if w.toNat % 4 ≠ 0 then e.setLane c k 7
      else if d.laneState c k ≠ 7 then e
      else e.setLane c k (e.restState c k)) := by
  have hserves : (d.laneState c k == 0 || d.laneState c k == 5 || d.laneState c k == 7) = true := by
    rcases hst with h | h | h <;> simp [h]
  exact if_neg (by simp [hserves, hen])

/-- LANE_TEST_ERR brought up to date. -/
theorem Dev.rd_chkCount : (d.chkCount c k errs).rd (R.LAN_LANE_TEST_ERR c) k =
    word (min (d.rn (R.LAN_LANE_TEST_ERR c) k + (if d.rb (R.LAN_LANE_TEST c) k 1 then errs else 0)) 4294967295) := by
  unfold Dev.chkCount
  by_cases hchk : d.rb (R.LAN_LANE_TEST c) k 1 = true
  · rw [if_pos hchk, if_pos hchk, Dev.wn, Dev.rd_wr_same, Nat.min_comm]
  · have hfit : d.rn (R.LAN_LANE_TEST_ERR c) k < 4294967296 := (d.rd (R.LAN_LANE_TEST_ERR c) k).isLt
    rw [if_neg hchk, if_neg hchk, Nat.add_zero, Nat.min_eq_left (by omega), Dev.rn, word, BitVec.ofNat_toNat, BitVec.setWidth_eq]

theorem Dev.chkCount_regs : d.chkCount c k errs = { d with regs := (d.chkCount c k errs).regs } := by
  unfold Dev.chkCount
  split <;> rfl

/-- What a read of LANE_TEST_ERR answers: what stood there and what the checker has counted since, up to the largest count. -/
theorem Dev.laneTestErr_eq :
    ∃ e : Dev, d.laneTestErr c k errs =
        (word (min (d.rn (R.LAN_LANE_TEST_ERR c) k + (if d.rb (R.LAN_LANE_TEST c) k 1 then errs else 0)) 4294967295), e) ∧
      e.rd (R.LAN_LANE_TEST_ERR c) k = 0 ∧ e = { d with regs := e.regs } := by
  refine ⟨(d.chkCount c k errs).wr (R.LAN_LANE_TEST_ERR c) k 0, ?_, Dev.rd_wr_same _ _ _ _, ?_⟩
  · rw [Dev.laneTestErr, Dev.rd_chkCount]
  · rw [Dev.chkCount_regs]
    rfl

end

/-! ### Margining (R99, R119) -/

section
variable {k : Nat} (offset : Nat) (hfab : s.dev.isFabric p = false) (hup : s.dev.dlUp p = true)
  (hlane : (s.dev.linkLanes p).contains k = true)
include hfab hup hlane

theorem exec_laneMarginingCommand_unready (h : s.dev.rb R.PRT0_LINK_CTRL p 5 = false ∨ s.dev.laneState (p / 8) k = 4) :
    exec (.laneMarginingCommand p k offset) s = .next (s.settled (s.dev.emit (.engine p 3 [k, 0]))) := by
  change execLaneMarginingCommand p k offset s = _
  exact State.eff_of_eq ((if_neg (by simpa [hfab, hup] using hlane)).trans (if_pos (by simpa using h)))

variable (hen : s.dev.rb R.PRT0_LINK_CTRL p 5 = true) (hparked : s.dev.laneState (p / 8) k ≠ 4)
include hen hparked

theorem exec_laneMarginingCommand_normal (h0 : offset = 0) :
    exec (.laneMarginingCommand p k offset) s = .next (s.settled
      ((s.dev.setPst p { s.dev.pst p with lmLanes := (s.dev.pst p).lmLanes.filter (· != k) }).emit (.engine p 3 [k, 1, offset]))) := by
  subst h0
  change execLaneMarginingCommand p k 0 s = _
  exact State.eff_of_eq ((if_neg (by simpa [hfab, hup] using hlane)).trans (if_neg (by simp [hen, hparked])))

theorem exec_laneMarginingCommand_offset (hne : offset ≠ 0) :
    exec (.laneMarginingCommand p k offset) s = .next (s.settled (
      let d := s.dev.adaptStop (p / 8) [k]
      (d.setPst p { d.pst p with lmLanes := (s.dev.pst p).lmLanes.filter (· != k) ++ [k] }).emit (.engine p 3 [k, 1, offset]))) := by
  change execLaneMarginingCommand p k offset s = _
  refine State.eff_of_eq ((if_neg (by simpa [hfab, hup] using hlane)).trans ((if_neg (by simp [hen, hparked])).trans ?_))
  simp only [if_neg hne]

end

end

/-- Settles O21: command by command. -/
theorem linkPowerAndLaneTestsComplete : Obligations.LinkPowerAndLaneTestsComplete := by
  intro s p
  refine ⟨fun w hfab hup hst hflit hl0p hctrl hw hwidth hfit => ?_,
    fun pr hproc hkind hstep hup => exec_l0pPartnerAcknowledge_half hproc hkind hstep hup,
    fun hfab hup hst hallowed hqueue hidle => ⟨_, exec_l1Entry_allowed hfab hup hst hallowed hqueue hidle, rfl, Dev.lstate_setLstate _ p (by decide)⟩,
    fun cl freq present freqOk hcl hlost hbad => ?_, fun cl freq present freqOk hcl hlost hgood => ?_,
    fun cl freq hcl => exec_refclkRestore_cluster freq hcl, fun cl errs a w hcl hmay => ?_, fun cl errs a hcl hmay => ?_,
    fun k offset hfab hup hlane => ⟨exec_laneMarginingCommand_unready offset hfab hup hlane,
      exec_laneMarginingCommand_normal offset hfab hup hlane, exec_laneMarginingCommand_offset offset hfab hup hlane⟩⟩
  · have hfollow {e : Dev} (h : _ = e) : exec (.l0pPartnerRequest p w) s = .next (s.settled e) :=
      h ▸ exec_l0pPartnerRequest_followed hfab hup hst hflit hl0p hctrl hw hwidth hfit
    have hcur := s.dev.curWidth_halfReturnTo p w
    refine ⟨fun hless => hfollow (if_pos (hcur ▸ hless)), fun hmore hnone hwins => hfollow ?_, fun hmore hwait => hfollow ?_⟩
    · refine (if_neg (by omega)).trans ((if_neg (by omega)).trans (if_neg ?_))
      simp [hwins, show (s.dev.pst p).proc.filter (fun pr => pr.kind == .half) = none from hnone]
    · refine (if_neg (by omega)).trans ((if_neg (by omega)).trans (if_pos ?_))
      exact hwait.imp Option.isSome_iff_ne_none.2 fun h => by simpa using h
  · rw [exec_refclkLoss_lost freq hcl hlost, if_pos (by simp [hbad])]
  · rw [exec_refclkLoss_lost freq hcl hlost, if_neg (by simp [hgood])]
  · have hwrite {e : Dev} (h : _ = e) : exec (.laneTestWrite cl a w errs) s = .next (s.settled e) := h ▸ exec_laneTestWrite_may hcl errs hmay
    refine ⟨fun hbarred => hwrite (Dev.laneTest_barred _ _ _ _ _ hbarred), fun hst hen => ?_⟩
    have hserved := Dev.laneTest_served s.dev cl _ errs w hst hen
    exact ⟨fun hon => hwrite (hserved.trans (if_pos hon)), fun hoff hnot => hwrite (hserved.trans ((if_neg (not_not.2 hoff)).trans (if_pos hnot))),
      fun hoff htest => ⟨_, Dev.restState_eq _ cl _, hwrite (hserved.trans ((if_neg (not_not.2 hoff)).trans (if_neg (not_not.2 htest))))⟩⟩
  · obtain ⟨e, he, hzero, hregs⟩ := s.dev.laneTestErr_eq cl (s.dev.instOf a (0x100 + cl) (R.LAN_LANE_TEST_ERR cl).off) errs
    exact ⟨e, (exec_laneTestErrRead_may hcl errs hmay).trans (by rw [he]), hzero, hregs⟩

end Sys2Proof.Machine
end

section
/-! Family 04_lanes_and_ports: what training and Recovery leave alone. -/

namespace Sys2Proof.Machine

/-! ### What the words of a training are written to (R95–R100) -/

/-- The offsets at which a training writes beside LINK_STATUS: those of the lanes, of calibration, of LINK_CTRL, TRAIN_ERR, the counter of
losses, the up time and PORT_CXL_STATUS. -/
def trainOffs : List Nat :=
  [0x200, 0x10c, 0x114, 0x118, 0x11c, 0x120, 0x108, 0x480, 0x484, 0x488, 0x48c, 0x490, 0x4a0, 0x300]

theorem lt_of_mem_trainOffs : ∀ o ∈ trainOffs, o < 4096 := by
  decide

/-- A training keeps the registers but its own, and what is staged. -/
structure Dev.TrainKeeps (d e : Dev) : Prop where
  kept : d.KeepsBut trainOffs e
  staging : e.staging = d.staging

namespace Dev.TrainKeeps
variable {d e f : Dev}

theorem refl (d : Dev) : d.TrainKeeps d := ⟨.refl _ d, rfl⟩

theorem trans (h : d.TrainKeeps e) (k : e.TrainKeeps f) : d.TrainKeeps f := ⟨h.kept.trans k.kept, k.staging.trans h.staging⟩

theorem foldl {β : Type} {g : Dev → β → Dev} (h : ∀ (d : Dev) (b : β), d.TrainKeeps (g d b)) (l : List β) (d : Dev) :
    d.TrainKeeps (l.foldl g d) :=
  foldl_keeps (P := fun e => d.TrainKeeps e) (fun e b he => he.trans (h e b)) l d (refl d)

theorem ite {c : Prop} [Decidable c] (he : d.TrainKeeps e) (hf : d.TrainKeeps f) : d.TrainKeeps (if c then e else f) := by
  split
  · exact he
  · exact hf

theorem of_evOnly (h : d.EvOnly e) : d.TrainKeeps e := ⟨.of_evOnly h, h.staging_eq⟩

theorem of_regs (hregs : e.regs = d.regs) (hnow : e.now = d.now) (hstaging : e.staging = d.staging) : d.TrainKeeps e :=
  ⟨.of_regs hregs hnow, hstaging⟩

theorem wr {r : Reg} (i : Nat) (w : Word) (o : Nat) (hr : r.off = o) (ho : o ∈ trainOffs) : d.TrainKeeps (d.wr r i w) :=
  ⟨.wr i w (hr ▸ lt_of_mem_trainOffs o ho) (hr ▸ ho), rfl⟩

theorem wf {r : Reg} (i hi lo v o : Nat) (hr : r.off = o) (ho : o ∈ trainOffs) : d.TrainKeeps (d.wf r i hi lo v) := wr i _ o hr ho

theorem wn {r : Reg} (i n o : Nat) (hr : r.off = o) (ho : o ∈ trainOffs) : d.TrainKeeps (d.wn r i n) := wr i _ o hr ho

theorem bump {r : Reg} (i : Nat) (stb : Option Nat) (o : Nat) (hr : r.off = o) (ho : o ∈ trainOffs) : d.TrainKeeps (d.bump r i stb) :=
  ⟨.bump i stb (hr ▸ lt_of_mem_trainOffs o ho) (hr ▸ ho), d.bump_staging r i stb⟩

theorem linkStatus (h : d.TrainKeeps e) (p : Nat) : e.rd R.PRT0_LINK_STATUS p = d.rd R.PRT0_LINK_STATUS p :=
  h.kept.rd _ _ (by decide) (by decide)

theorem lstate (h : d.TrainKeeps e) (p : Nat) : e.lstate p = d.lstate p := congrArg (fld · 3 0) (h.linkStatus p)

theorem tgtWidth (h : d.TrainKeeps e) (p : Nat) : e.tgtWidth p = d.tgtWidth p := by
  simp only [Dev.tgtWidth, Dev.pairVal, h.staging, h.kept.rd R.PRT0_LINK_WIDTH p (by decide) (by decide)]

end Dev.TrainKeeps

section
variable (d : Dev) (p k : Nat)

theorem Dev.setPst_trainKeeps (x : PortSt) : d.TrainKeeps (d.setPst p x) := .of_regs rfl rfl rfl

theorem Dev.setCalLane_trainKeeps (x : CalLane) : d.TrainKeeps (d.setCalLane p k x) := .of_regs rfl rfl rfl

theorem Dev.report_trainKeeps (w : Nat) : d.TrainKeeps (d.report p w) := .ite (.refl d) (d.setPst_trainKeeps p _)

theorem Dev.raise_trainKeeps (n : Nat) : d.TrainKeeps (d.raise n) := .of_evOnly (d.raise_evOnly n)

theorem Dev.setLane_trainKeeps (c st : Nat) : d.TrainKeeps (d.setLane c k st) := .wf _ _ _ _ 0x200 rfl (by decide)

theorem Dev.laneFaults_trainKeeps (mask : Nat) : d.TrainKeeps (d.laneFaults p mask) := .foldl (fun e _ => e.raise_trainKeeps _) _ d

theorem Dev.stepLanes_trainKeeps (lanes lock : Nat) : d.TrainKeeps (d.stepLanes p lanes lock) :=
  .foldl (fun _ _ => .wr _ _ 0x200 rfl (by decide)) _ d

theorem Dev.runLanes_trainKeeps (rate inverted : Nat) : d.TrainKeeps (d.runLanes p rate inverted) :=
  .foldl (fun e _ => .ite (.wr _ _ 0x200 rfl (by decide)) (.ite (.refl e) (.wr _ _ 0x200 rfl (by decide)))) _ d

theorem Dev.applyEff_trainKeeps (c : Nat) : d.TrainKeeps (d.applyEff c k) :=
  .trans (d.setCalLane_trainKeeps (8 * c) k _) (.wr _ _ 0x4a0 rfl (by decide))

theorem Dev.calRecord_trainKeeps : d.TrainKeeps (d.calRecord p k) :=
  .trans (.wf _ _ _ _ 0x484 rfl (by decide)) (.trans (.wn _ _ 0x488 rfl (by decide)) (.wn _ _ 0x48c rfl (by decide)))

theorem Dev.clearDue_trainKeeps : d.TrainKeeps (d.clearDue p k) :=
  .trans (.trans (.trans (d.setCalLane_trainKeeps p k _) (.ite (.wf _ _ _ _ 0x480 rfl (by decide)) (.refl _)))
    (.wf _ _ _ _ 0x108 rfl (by decide))) (.wf _ _ _ _ 0x120 rfl (by decide))

theorem Dev.calTrained_trainKeeps : d.TrainKeeps (d.calTrained p) := by
  have hlane (e : Dev) (j : Nat) : e.TrainKeeps ((((e.applyEff (p / 8) j).calRecord p j).bump (R.LAN_LCAL_CNT (p / 8)) j).clearDue p j) :=
    (((e.applyEff_trainKeeps j (p / 8)).trans (Dev.calRecord_trainKeeps _ p j)).trans (.bump j none 0x490 rfl (by decide))).trans
      (Dev.clearDue_trainKeeps _ p j)
  have hlanes := (Dev.TrainKeeps.foldl hlane (d.linkLanes p) d).trans (.wf p 4 4 0 0x108 rfl (by decide) (r := R.CAL_CAL_PSTATUS))
  unfold Dev.calTrained
  dsimp only
  split
  · exact hlanes.trans (.foldl (fun e j => e.setCalLane_trainKeeps p j _) _ _)
  · split
    · exact hlanes.trans (.foldl (fun e j => e.setCalLane_trainKeeps p j _) _ _)
    · exact hlanes

theorem Dev.cxlStatus_trainKeeps (i : LinkInfo) : d.TrainKeeps (d.cxlStatus p i) := by
  unfold Dev.cxlStatus
  exact .ite (.wr _ _ 0x300 rfl (by decide)) (.ite (.wr _ _ 0x300 rfl (by decide)) (.wr _ _ 0x300 rfl (by decide)))

theorem Dev.fixMethod_trainKeeps : d.TrainKeeps (d.fixMethod p) := .wf _ _ _ _ 0x108 rfl (by decide)

theorem Dev.linkDown_trainKeeps : d.TrainKeeps (d.linkDown p) := .trans (.bump _ _ 0x118 rfl (by decide)) (Dev.raise_trainKeeps _ _)

theorem Dev.sendMsg_trainKeeps (s code : Nat) (data : List Byte) : d.TrainKeeps (d.sendMsg s code data) := by
  unfold Dev.sendMsg
  split
  · exact .refl d
  · exact .of_regs rfl rfl rfl

theorem Dev.dpcCor_trainKeeps (en : Nat) : d.TrainKeeps (d.dpcCor p en) := by
  refine .foldl (fun e s => ?_) _ d
  split
  · exact .ite (e.sendMsg_trainKeeps s 0x30 []) (.refl e)
  · exact .refl e

end

end Sys2Proof.Machine
end

section
/-! Family 04_lanes_and_ports: training and Recovery (O20). -/

namespace Sys2Proof.Machine

/-! ### The start and the steps of a training (R96) -/

section
variable {s : State} {p : Nat}

theorem exec_linkTrainingStart_detect (lanes : Nat) : exec (.linkTrainingStart p 0 lanes) s = .next (s.settled (s.dev.trainStart p)) := by
  change execLinkTrainingStart p 0 lanes s = _
  rfl

theorem exec_linkTrainingStart_step {stage : Nat} (lanes : Nat) (hstage : stage ≠ 0) (htrain : s.dev.inTraining p = true) :
    exec (.linkTrainingStart p stage lanes) s = .next (s.settled (s.dev.trainStep p stage lanes)) := by
  change execLinkTrainingStart p stage lanes s = _
  exact State.eff_of_eq ((if_neg hstage).trans (if_pos htrain))

end

section
variable {d : Dev} {p : Nat}

theorem Dev.trainStart_link (hmay : d.mayTrain p = true) (hdown : d.dlUp p = false) (hfab : d.isFabric p = false) :
    d.trainStart p = d.linkWords p 1 := by
  simp [Dev.trainStart, hmay, hdown, hfab]

theorem Dev.trainStart_fabric (hmay : d.mayTrain p = true) (hdown : d.dlUp p = false) (hfab : d.isFabric p = true)
    (hst : d.lkState p = 0 ∨ d.lkState p = 5 ∨ d.lkState p = 6) :
    d.trainStart p = ((d.linkWords p 1).setLstate p 11).setLkState p 1 := by
  simp [Dev.trainStart, hmay, hdown, hfab, hst]

section
variable {lanes : Nat} (hw : widthOf (min (d.tgtWidth p) ((d.trainLanes p).filter fun k => lanes.testBit k).length) ≠ 0)
include hw

theorem Dev.trainStep_fabric (hfab : d.isFabric p = true) : d.trainStep p 1 lanes = d.stepLanes p lanes 0 :=
  (if_neg hw).trans (if_pos hfab)

variable (hfab : d.isFabric p = false)
include hfab

theorem Dev.trainStep_polling (hst : d.lstate p = 1) :
    d.trainStep p 1 lanes =
      ((if (d.portSlot p).isSome then d else d.wf R.PRT0_LINK_STATUS p 22 22 1).stepLanes p lanes 0).setLstate p 2 := by
  refine (if_neg hw).trans ((if_neg (ne_true_of_eq_false hfab)).trans ?_)
  simp [hst]

theorem Dev.trainStep_configuration (hst : d.lstate p = 2) : d.trainStep p 2 lanes = (d.stepLanes p lanes 1).setLstate p 3 := by
  refine (if_neg hw).trans ((if_neg (ne_true_of_eq_false hfab)).trans ?_)
  simp [hst]

/-- The data link comes up at 2.5 GT/s, at the width that the lanes allow. -/
theorem Dev.trainStep_dataLink (hst : d.lstate p = 3) :
    d.trainStep p 3 lanes = (
      let w := widthOf (min (d.tgtWidth p) ((d.trainLanes p).filter fun k => lanes.testBit k).length)
      let d := (d.stepLanes p lanes 1).setPst p { d.pst p with rising := true }
      let d := ((d.wf R.PRT0_LINK_STATUS p 20 16 w).wf R.PRT0_LINK_STATUS p 11 7 w).wf R.PRT0_LINK_STATUS p 12 12 1
      (d.wf R.PRT0_LINK_STATUS p 6 4 0).setLstate p 4) :=
  (if_neg hw).trans ((if_neg (ne_true_of_eq_false hfab)).trans
    ((if_neg fun h => absurd h.1 (by decide)).trans ((if_neg fun h => absurd h.1 (by decide)).trans (if_pos (And.intro rfl hst)))))

theorem Dev.trainStep_rise (hst : d.lstate p = 4) : d.trainStep p 4 lanes = d.setLstate p 5 := by
  refine (if_neg hw).trans ((if_neg (ne_true_of_eq_false hfab)).trans ?_)
  simp [hst]

theorem Dev.trainStep_risen (hst : d.lstate p = 5) : d.trainStep p 3 lanes = d.setLstate p 4 := by
  refine (if_neg hw).trans ((if_neg (ne_true_of_eq_false hfab)).trans ?_)
  simp [hst]

theorem Dev.trainStep_directed (hst : d.lstate p = 2 ∨ d.lstate p = 3) : d.trainStep p 5 lanes = (d.stepLanes p lanes 1).setLstate p 9 := by
  refine (if_neg hw).trans ((if_neg (ne_true_of_eq_false hfab)).trans ?_)
  simp [hst]

end

/-! ### The words of a link that trains or has trained (R95, R96) -/

theorem widthOf_le (n : Nat) : widthOf n ≤ 16 := by
  unfold widthOf
  split_ifs <;> omega

/-- A port without a slot shows in-band presence. -/
theorem Dev.trainStep_presence (lanes : Nat) (hslot : d.portSlot p = none) :
    (((if (d.portSlot p).isSome then d else d.wf R.PRT0_LINK_STATUS p 22 22 1).stepLanes p lanes 0).setLstate p 2).rb R.PRT0_LINK_STATUS p 22 =
      true := by
  have hkept := (Dev.stepLanes_trainKeeps (d.wf R.PRT0_LINK_STATUS p 22 22 1) p lanes 0).linkStatus p
  rw [hslot, Dev.setLstate, Dev.rb_wf_other _ _ _ _ (by decide) (by decide) (by decide), Dev.rb]
  exact (congrArg (bit · 22) hkept).trans (d.rb_wf_one R.PRT0_LINK_STATUS p (by decide))

end

/-- The words of a data link that has come up: width, rate and Data Link Layer Link Active. -/
theorem Dev.dataLink_words (d : Dev) (p : Nat) {w : Nat} (hw : w ≤ 16) :
    let e := (((((d.wf R.PRT0_LINK_STATUS p 20 16 w).wf R.PRT0_LINK_STATUS p 11 7 w).wf R.PRT0_LINK_STATUS p 12 12 1).wf
      R.PRT0_LINK_STATUS p 6 4 0).setLstate p 4)
    e.lstate p = 4 ∧ e.rf R.PRT0_LINK_STATUS p 20 16 = w ∧ e.curRate p = 0 ∧ e.rb R.PRT0_LINK_STATUS p 12 = true := by
  have hfit : w < 2 ^ (20 + 1 - 16) := by omega
  refine ⟨Dev.lstate_setLstate _ p (by decide), ?_, ?_, ?_⟩
  · rw [Dev.setLstate, Dev.rf_wf_other _ _ _ _ (by decide) (by decide) (by decide), Dev.rf_wf_other _ _ _ _ (by decide) (by decide) (by decide),
      Dev.rf_wf_other _ _ _ _ (by decide) (by decide) (by decide), Dev.rf_wf_other _ _ _ _ (by decide) (by decide) (by decide)]
    exact d.rf_wf_same _ _ (by decide) (by decide) hfit
  · rw [Dev.setLstate, Dev.curRate, Dev.rf_wf_other _ _ _ _ (by decide) (by decide) (by decide)]
    exact Dev.rf_wf_same _ _ _ (by decide) (by decide) (by decide)
  · rw [Dev.setLstate, Dev.rb_wf_other _ _ _ _ (by decide) (by decide) (by decide), Dev.rb_wf_other _ _ _ _ (by decide) (by decide) (by decide)]
    exact Dev.rb_wf_one _ _ _ (by decide)

/-- A link that is down, or in receiver detection, shows its state. -/
theorem Dev.lstate_linkWords (d : Dev) (p : Nat) : (d.linkWords p 1).lstate p = 1 := by
  have hword (n keep : Nat) (hkeep : keep % 16 = 0) : fld (word (n &&& keep ||| 1)) 3 0 = 1 := by
    have hlow : (n &&& keep ||| 1) % 2 ^ 4 = 1 := by
      rw [Nat.or_mod_two_pow, Nat.and_mod_two_pow, show keep % 2 ^ 4 = 0 from hkeep, Nat.and_zero]
      rfl
    rw [fld, word, BitVec.toNat_ofNat]
    omega
  have hbase (e : Dev) (x : PortSt) : e.TrainKeeps ((e.wf R.CAL_CAL_PSTATUS p 1 0 0).setPst p x) :=
    .trans (.wf _ _ _ _ 0x108 rfl (by decide)) (Dev.setPst_trainKeeps _ p x)
  unfold Dev.linkWords
  dsimp only
  rw [(Dev.TrainKeeps.foldl (fun _ _ => .wr _ _ 0x200 rfl (by decide)) _ _).lstate, (hbase _ _).lstate, Dev.lstate, Dev.rf, Dev.rd_wr_same]
  refine hword _ _ ?_
  split_ifs <;> rfl

/-- TRAIN_ERR is not among the words of a link. -/
theorem Dev.linkWords_keepsBut (d : Dev) (p st : Nat) : d.KeepsBut [0x118, 0x110, 0x108, 0x200] (d.linkWords p st) := by
  have hlane (e : Dev) (k : Nat) (w : Word) : e.KeepsBut [0x118, 0x110, 0x108, 0x200] (e.wr (R.LAN_LANE_STATUS (p / 8)) k w) :=
    .wr k w (show 0x200 < 4096 by decide) (show 0x200 ∈ _ by decide)
  have hdown (e : Dev) : e.KeepsBut [0x118, 0x110, 0x108, 0x200] (e.linkDown p) :=
    .trans (.bump _ _ (by decide) (by decide)) (.of_evOnly (Dev.raise_evOnly _ _))
  unfold Dev.linkWords
  refine .trans (.trans (.trans (.trans (.ite (hdown d) (.refl _ d)) (.wr _ _ (by decide) (by decide))) (.wf _ _ _ _ (by decide) (by decide)))
    (Dev.setPst_keepsBut _ p _)) (.foldl (fun e k => hlane e k _) _ _)

end Sys2Proof.Machine
end

section
/-! Family 04_lanes_and_ports: the ends of a training (O20). -/

namespace Sys2Proof.Machine

/-! ### A training that ends in L0 (R90, R95–R100) -/

section
variable (d : Dev) (p : Nat) (i : LinkInfo)

/-- The lanes and the width with which a link comes up. -/
def Dev.upLanes : List Nat := (d.trainLanes p).filter fun k => !i.unlocked.testBit k
def Dev.upWidth : Nat := widthOf (min (min (d.tgtWidth p) i.width) (d.upLanes p i).length)

/-- What a link that has come up does beside LINK_STATUS, before it is reported. -/
def Dev.upRun (rate cap err never : Nat) (lanes : List Nat) (w : Nat) : Dev :=
  let d := d.setPst p { d.pst p with detLanes := ofBits (lanes.take w), leftOut := 0, recFail := [], l0pReq := none, lmLanes := [],
                                      rateCap := cap, ptm := false, rising := false, flitP := i.flit }
  let d := (bitsOf 16 (d.blockMask p)).foldl (fun d k => if d.laneState (p / 8) k = 6 then d.setLane (p / 8) k 5 else d) d
  let d := (d.runLanes p rate i.inverted).laneFaults p never
  let d := d.wn R.PRT0_TRAIN_ERR p err
  let d := d.wr64 R.PRT0_UP_TIME_LO R.PRT0_UP_TIME_HI p d.now
  let d := (d.wf R.PRT0_LINK_CTRL p 0 0 0).fixMethod p
  ((d.calTrained p).cxlStatus p i).report p w

/-- LINK_STATUS of a link that has come up. -/
def upStatus (rate w : Nat) (flit cxl : Bool) (i : LinkInfo) : Word :=
  word (4 + 16 * rate + 128 * w + 4096 + 8192 * b2n flit + 16384 * b2n cxl
    + 32768 * b2n i.reversed + 65536 * w + 2097152 * b2n i.l0p + 4194304 + 8388608 * b2n i.retimer)

/-- Where the port is the upstream port of its owner, the owner returns with the link. -/
def Dev.upOwner : Dev :=
  match d.owner p with
  | some s => if d.isUp p then d.upReturns s else d
  | none => d

/-- What is reported of a link that has come up. -/
def Dev.upReport (w : Nat) (poor : Prop) [Decidable poor] : Dev :=
  let d := (d.raise (0x200 + 4 * p)).dpcCor p 23
  (if w < d.tgtWidth p ∨ poor then d.linkDegraded p else d).upOwner p

theorem Dev.linkUp_eq (hw : d.upWidth p i ≠ 0) : ∃ (rate cap err : Nat) (flit cxl : Bool) (poor : Prop) (_ : Decidable poor), rate < 8 ∧
    d.linkUp p i = ((d.wr R.PRT0_LINK_STATUS p (upStatus rate (d.upWidth p i) flit cxl i)).upRun p i rate cap err
      (d.laneMask p &&& i.unlocked) (d.upLanes p i) (d.upWidth p i)).upReport p (d.upWidth p i) poor := by
  refine ⟨_, _, _, _, _, _, _, ?_, (if_neg hw).trans rfl⟩
  have hheld (b c : Bool) (x y : Nat) :
      (if b = true then min (min x y) (if c = true then 5 else 6) else min (min (min x y) (if c = true then 5 else 6)) 4) ≤ 6 := by
    split_ifs <;> omega
  split
  case h_1 r hr =>
    have hr6 := (Bool.and_eq_true_iff.1 (Option.filter_eq_some_iff.1 hr).2).2
    exact Nat.lt_of_le_of_lt (Nat.sub_le r 1) (Nat.lt_of_le_of_lt ((of_decide_eq_true hr6).trans (hheld _ _ _ _)) (by decide))
  case h_2 => exact Nat.lt_of_le_of_lt (hheld _ _ _ _) (by decide)

theorem Dev.upRun_trainKeeps (rate cap err never : Nat) (lanes : List Nat) (w : Nat) :
    d.TrainKeeps (d.upRun p i rate cap err never lanes w) := by
  have hrevive (e : Dev) (k : Nat) : e.TrainKeeps (if e.laneState (p / 8) k = 6 then e.setLane (p / 8) k 5 else e) :=
    .ite (e.setLane_trainKeeps k (p / 8) 5) (.refl e)
  have hwords (e : Dev) : e.TrainKeeps (((e.wn R.PRT0_TRAIN_ERR p err).wr64 R.PRT0_UP_TIME_LO R.PRT0_UP_TIME_HI p e.now).wf R.PRT0_LINK_CTRL p 0 0 0) :=
    (((Dev.TrainKeeps.wn p err 0x114 rfl (by decide)).trans (.wn p _ 0x11c rfl (by decide))).trans (.wn p _ 0x120 rfl (by decide))).trans
      (.wf p 0 0 0 0x10c rfl (by decide))
  exact (((((((d.setPst_trainKeeps p _).trans (.foldl hrevive _ _)).trans (Dev.runLanes_trainKeeps _ p rate i.inverted)).trans (Dev.laneFaults_trainKeeps _ p never)).trans (hwords _)).trans
    (Dev.fixMethod_trainKeeps _ p)).trans (Dev.calTrained_trainKeeps _ p)).trans ((Dev.cxlStatus_trainKeeps _ p i).trans (Dev.report_trainKeeps _ p w))

end

/-- The fields of LINK_STATUS that a training sets. -/
theorem upStatus_fields {rate w : Nat} (flit cxl : Bool) (i : LinkInfo) (hrate : rate < 8) (hw : w ≤ 16) :
    fld (upStatus rate w flit cxl i) 3 0 = 4 ∧ fld (upStatus rate w flit cxl i) 11 7 = w ∧ fld (upStatus rate w flit cxl i) 20 16 = w ∧
      bit (upStatus rate w flit cxl i) 12 = true := by
  have hflit := b2n_le_one flit
  have hcxl := b2n_le_one cxl
  have hreversed := b2n_le_one i.reversed
  have hl0p := b2n_le_one i.l0p
  have hretimer := b2n_le_one i.retimer
  have hnum : (upStatus rate w flit cxl i).toNat = 4 + 16 * rate + 128 * w + 4096 + 8192 * b2n flit + 16384 * b2n cxl + 32768 * b2n i.reversed +
      65536 * w + 2097152 * b2n i.l0p + 4194304 + 8388608 * b2n i.retimer := by
    simp only [upStatus, word, BitVec.toNat_ofNat]
    omega
  have hwhole (m lo q n : Nat) (hm : 0 < m) (hlo : lo < m) (hn : n = lo + m * q) : n / m = q := by
    rw [hn, Nat.add_mul_div_left _ _ hm, Nat.div_eq_of_lt hlo, Nat.zero_add]
  have hw16 := hwhole 65536 (4 + 16 * rate + 128 * w + 4096 + 8192 * b2n flit + 16384 * b2n cxl + 32768 * b2n i.reversed)
    (w + 32 * (b2n i.l0p + 2 + 4 * b2n i.retimer)) _ (by decide) (by omega) (hnum.trans (by omega))
  have hb12 := hwhole 4096 (4 + 16 * rate + 128 * w)
    (1 + 2 * (b2n flit + 2 * b2n cxl + 4 * b2n i.reversed + 8 * w + 256 * b2n i.l0p + 512 + 1024 * b2n i.retimer)) _ (by decide) (by omega)
    (hnum.trans (by omega))
  refine ⟨?_, ?_, ?_, ?_⟩
  · simp only [fld, hnum]
    omega
  · simp only [fld, hnum]
    omega
  · simp only [fld, Nat.reducePow, Nat.reduceAdd, Nat.reduceSub, hw16]
    omega
  · simp only [bit, Nat.testBit_eq_decide_div_mod_eq, decide_eq_true_eq, Nat.reducePow, hb12]
    omega

end Sys2Proof.Machine
end

section
/-! Family 04_lanes_and_ports: training that comes up or fails, retraining and Recovery (O20). -/

namespace Sys2Proof.Machine

/-! ### Training comes up (R96) -/

/-- A link that has come up is reported, as LINK_DEGRADED too where it is. -/
def Dev.upEnd (d : Dev) (p : Nat) (degraded : Bool) : Dev :=
  let e := (d.raise (0x200 + 4 * p)).dpcCor p 23
  (if degraded then e.linkDegraded p else e).upOwner p

theorem Dev.upReport_eq (d : Dev) (p w : Nat) (poor : Prop) [Decidable poor] :
    d.upReport p w poor = d.upEnd p (decide (w < d.tgtWidth p ∨ poor)) := by
  have htgt : ((d.raise (0x200 + 4 * p)).dpcCor p 23).tgtWidth p = d.tgtWidth p :=
    ((d.raise_trainKeeps _).trans (Dev.dpcCor_trainKeeps _ p 23)).tgtWidth p
  unfold Dev.upReport Dev.upEnd
  simp only [decide_eq_true_eq, htgt]

theorem Dev.upWidth_le (d : Dev) (p : Nat) (i : LinkInfo) : d.upWidth p i ≤ 16 := widthOf_le _

theorem Dev.tgtWidth_wr_linkStatus (d : Dev) (p : Nat) (w : Word) : (d.wr R.PRT0_LINK_STATUS p w).tgtWidth p = d.tgtWidth p := by
  have hkept : (d.wr R.PRT0_LINK_STATUS p w).rd R.PRT0_LINK_WIDTH p = d.rd R.PRT0_LINK_WIDTH p :=
    d.rd_wr_other w (regKey_ne_of_off (by decide) (by decide) (by decide))
  simp only [Dev.tgtWidth, Dev.pairVal, hkept]
  rfl

section
variable {s : State} {p : Nat}

theorem exec_linkUp_training (i : LinkInfo) (htrain : s.dev.inTraining p = true) (hfab : s.dev.isFabric p = false) (hst : s.dev.lstate p ≠ 9)
    (hw : s.dev.upWidth p i ≠ 0) :
    ∃ (d : Dev) (degraded : Bool), exec (.linkUp p i) s = .next (s.settled (d.upEnd p degraded)) ∧
      d.lstate p = 4 ∧ d.rf R.PRT0_LINK_STATUS p 11 7 = s.dev.upWidth p i ∧ d.rf R.PRT0_LINK_STATUS p 20 16 = s.dev.upWidth p i ∧
      d.rb R.PRT0_LINK_STATUS p 12 = true ∧ (s.dev.upWidth p i < s.dev.tgtWidth p → degraded = true) := by
  obtain ⟨rate, cap, err, flit, cxl, poor, _, hrate, hup⟩ := s.dev.linkUp_eq p i hw
  obtain ⟨hlstate, hcur, hneg, hlink⟩ := upStatus_fields flit cxl i hrate (s.dev.upWidth_le p i)
  generalize he : (s.dev.wr R.PRT0_LINK_STATUS p (upStatus rate (s.dev.upWidth p i) flit cxl i)).upRun p i rate cap err
    (s.dev.laneMask p &&& i.unlocked) (s.dev.upLanes p i) (s.dev.upWidth p i) = e at hup
  have hkeeps : (s.dev.wr R.PRT0_LINK_STATUS p (upStatus rate (s.dev.upWidth p i) flit cxl i)).TrainKeeps e :=
    he ▸ Dev.upRun_trainKeeps _ p i rate cap err _ _ _
  have hword := (hkeeps.linkStatus p).trans (s.dev.rd_wr_same R.PRT0_LINK_STATUS p _)
  have htgt := (hkeeps.tgtWidth p).trans (s.dev.tgtWidth_wr_linkStatus p _)
  refine ⟨e, decide (s.dev.upWidth p i < e.tgtWidth p ∨ poor), ?_, (congrArg (fld · 3 0) hword).trans hlstate,
    (congrArg (fld · 11 7) hword).trans hcur, (congrArg (fld · 20 16) hword).trans hneg, (congrArg (bit · 12) hword).trans hlink,
    fun hless => decide_eq_true (Or.inl (htgt.symm ▸ hless))⟩
  change execLinkUp p i s = _
  exact State.eff_of_eq ((if_pos (by simp [htrain, hfab, hst])).trans (hup.trans (Dev.upReport_eq _ _ _ _)))

/-! ### Training fails (R96) -/

/-- The words of a port whose training step has failed: it returns to detection, or training goes on. -/
def Dev.failWords (d : Dev) (p reason : Nat) : Dev :=
  let d := if 3 < reason then d else if d.isFabric p then (d.linkWords p 1).setLstate p 11 else d.linkWords p 1
  if (d.portSlot p).isSome then d else d.wf R.PRT0_LINK_STATUS p 22 22 (b2n (reason != 1))

/-- The events of a training step that has failed. -/
def Dev.failEvents (d : Dev) (p reason lanes : Nat) : Dev :=
  if reason ≤ 3 then (if reason = 1 then d else d.laneFaults p (d.laneMask p &&& lanes))
  else if reason = 4 then d.linkDegraded p else d

theorem exec_trainingFailure_training {reason rate : Nat} (lanes : Nat) (htrain : s.dev.inTraining p = true) (hlo : 1 ≤ reason) (hhi : reason ≤ 6) :
    exec (.trainingFailure p reason rate lanes) s = .next (s.settled
      (((s.dev.wn R.PRT0_TRAIN_ERR p (reason + 16 * (rate % 8))).failWords p reason).failEvents p reason lanes)) := by
  have hfails : ¬ (!s.dev.inTraining p ∨ reason = 0 ∨ 6 < reason) := by
    rintro (h | h | h)
    · simp [htrain] at h
    · omega
    · omega
  change execTrainingFailure p reason rate lanes s = _
  exact State.eff_of_eq (if_neg hfails)

end

section
variable (d : Dev) (p reason : Nat)

theorem Dev.failWords_keepsBut : d.KeepsBut [0x118, 0x110, 0x108, 0x200] (d.failWords p reason) := by
  have hdown := d.linkWords_keepsBut p 1
  unfold Dev.failWords
  dsimp only
  exact .trans (.ite (.refl _ d) (.ite (hdown.trans (.wf _ _ _ _ (by decide) (by decide))) hdown))
    (.ite (.refl _ _) (.wf _ _ _ _ (by decide) (by decide)))

theorem Dev.lstate_failWords (h : reason ≤ 3) : (d.failWords p reason).lstate p = if d.isFabric p then 11 else 1 := by
  have hpresence (e : Dev) (v : Nat) : (if (e.portSlot p).isSome then e else e.wf R.PRT0_LINK_STATUS p 22 22 v).lstate p = e.lstate p := by
    split
    · rfl
    · exact e.rf_wf_other _ _ _ (by decide) (by decide) (by decide)
  unfold Dev.failWords
  dsimp only
  rw [hpresence, if_neg (Nat.not_lt.2 h)]
  split
  · exact Dev.lstate_setLstate _ p (by decide)
  · exact d.lstate_linkWords p

theorem Dev.failEvents_evOnly (lanes : Nat) : d.EvOnly (d.failEvents p reason lanes) := by
  have hfaults (mask : Nat) : d.EvOnly (d.laneFaults p mask) := Dev.EvOnly.foldl _ (fun e _ => e.raise_evOnly _) _ d
  unfold Dev.failEvents
  split
  · split
    · exact .refl d
    · exact hfaults _
  · split
    · exact d.raise_evOnly _
    · exact .refl d

end

/-- A training step that fails shows its reason and rate, and one of the reasons that end the training returns the port to detection. -/
theorem Dev.trainingFailure_shows (d : Dev) (p lanes : Nat) {reason rate : Nat} (hhi : reason ≤ 6) (hrate : rate < 8) :
    let e := ((d.wn R.PRT0_TRAIN_ERR p (reason + 16 * (rate % 8))).failWords p reason).failEvents p reason lanes
    e.rn R.PRT0_TRAIN_ERR p = reason + 16 * rate ∧ (reason ≤ 3 → e.lstate p = if d.isFabric p then 11 else 1) := by
  have hevents := Dev.failEvents_evOnly ((d.wn R.PRT0_TRAIN_ERR p (reason + 16 * (rate % 8))).failWords p reason) p reason lanes
  have hkept := ((Dev.failWords_keepsBut (d.wn R.PRT0_TRAIN_ERR p (reason + 16 * (rate % 8))) p reason).trans (.of_evOnly hevents)).rn
    R.PRT0_TRAIN_ERR p (by decide) (by decide)
  have hfabric : (d.wn R.PRT0_TRAIN_ERR p (reason + 16 * (rate % 8))).isFabric p = d.isFabric p := by
    have hkeeps : d.KeepsBut [0x114] (d.wn R.PRT0_TRAIN_ERR p (reason + 16 * (rate % 8))) := .wn _ _ (by decide) (by decide)
    simp only [Dev.isFabric, Dev.role, hkeeps.rf R.PRT0_PORT_CFG p _ _ (by decide) (by decide)]
  refine ⟨hkept.trans ?_, fun h => ?_⟩
  · rw [Dev.rn_wn_same]
    omega
  · rw [(Dev.TrainKeeps.of_evOnly hevents).lstate p, Dev.lstate_failWords _ p reason h, hfabric]

end Sys2Proof.Machine
end

section
/-! Family 04_lanes_and_ports: retraining and Recovery (O20). -/

namespace Sys2Proof.Machine

/-! ### The entry of Recovery (R97, R140) -/

section
variable (d : Dev) (p : Nat)

theorem Dev.settingsBack_port (k : Nat) : (d.settingsBack p k).ports.port = d.ports.port := by
  unfold Dev.settingsBack
  dsimp only
  split <;> rfl

/-- An aborted procedure is none. -/
theorem Dev.procAbort_proc (outcome : Nat) : ((d.procAbort p outcome).pst p).proc = none := by
  unfold Dev.procAbort
  split
  next hnone => exact hnone
  next pr _ =>
    have hback : (((bitsOf 16 pr.lanes).foldl (fun d k => d.settingsBack p k) (d.procClose p pr outcome)).pst p).proc = none := by
      refine foldl_keeps (P := fun e : Dev => (e.pst p).proc = none) (fun e k he => ?_) _ _ (d.procClose_proc p pr outcome)
      rw [Dev.pst, e.settingsBack_port p k]
      exact he
    have hcounted (e : Dev) (he : (e.pst p).proc = none) : ((if outcome = 7 then e else e.bump R.CAL_CAL_CNT_ABORT p).pst p).proc = none := by
      split
      · exact he
      · rw [Dev.pst, Dev.bump_ports]
        exact he
    have hmarked (e : Dev) (he : (e.pst p).proc = none) :
        ((if pr.kind = .reeq then e.setPst p { e.pst p with reeqDue := true } else e).pst p).proc = none := by
      split
      · rw [Dev.pst_setPst_same]
        exact he
      · exact he
    have hraised (e : Dev) (he : (e.pst p).proc = none) : ((e.raiseCal p 3).pst p).proc = none := by
      rw [Dev.pst, (e.raiseCal_evOnly p 3).ports_eq]
      exact he
    exact hraised _ (hmarked _ (hcounted _ hback))

theorem Dev.adaptStop_pst (c : Nat) (lanes : List Nat) : (d.adaptStop c lanes).pst p = d.pst p :=
  foldl_keeps (P := fun e : Dev => e.pst p = d.pst p) (f := fun d k => d.adaptLatch c k) (fun _ _ he => he) _ _ rfl

theorem Dev.enterRecovery_proc : ((d.enterRecovery p).pst p).proc = none := by
  have hstop (lanes : List Nat) : (((d.procAbort p 3).adaptStop (p / 8) lanes).pst p).proc = none := by
    rw [Dev.adaptStop_pst]
    exact d.procAbort_proc p 3
  unfold Dev.enterRecovery
  dsimp only
  split
  · exact (congrArg PortSt.proc (Dev.pst_setPst_same _ p _)).trans (hstop _)
  · exact hstop _

theorem Dev.enterRecovery_lstate : (d.enterRecovery p).lstate p = 5 := Dev.lstate_setLstate _ p (by decide)

end

section
variable {s : State} {p : Nat} (hfab : s.dev.isFabric p = false) (hup : s.dev.dlUp p = true) (hst : s.dev.lstate p = 4 ∨ s.dev.lstate p = 6)
include hfab hup hst

theorem exec_linkEntersRecovery_up : exec (.linkEntersRecovery p) s = .next (s.settled (s.dev.enterRecovery p)) := by
  have hrun : (!s.dev.isFabric p && s.dev.dlUp p && (s.dev.lstate p == 4 || s.dev.lstate p == 6)) = true := by
    rcases hst with h | h <;> simp [hfab, hup, h]
  change execLinkEntersRecovery p s = _
  exact State.eff_of_eq (if_pos hrun)

theorem exec_laneLockLoss_up {k : Nat} (hlane : s.dev.laneState (p / 8) k = 3) (hlink : (s.dev.linkLanes p).contains k = true) :
    exec (.laneLockLoss p k) s = .next (s.settled ((s.dev.enterRecovery p).wf (R.LAN_LANE_STATUS (p / 8)) k 3 3 0)) := by
  have hrun : (!s.dev.isFabric p && s.dev.dlUp p && (s.dev.lstate p == 4 || s.dev.lstate p == 6) && s.dev.laneState (p / 8) k == 3 &&
      (s.dev.linkLanes p).contains k) = true := by
    rw [hlink, hlane, hfab, hup]
    rcases hst with h | h <;> simp [h]
  change execLaneLockLoss p k s = _
  exact State.eff_of_eq (if_pos hrun)

end

/-! ### Retraining (R94, R158) -/

theorem exec_retrain_may {s : State} {a : Acc} (hmay : s.dev.may a R.PRT0_LINK_CTRL true = true) :
    exec (.retrain a) s = .next (s.settled (s.dev.retrain (s.dev.instOf a 0x200 R.PRT0_LINK_CTRL.off))) := by
  change execRetrain a s = _
  exact State.eff_guardW_may hmay

section
variable {d : Dev} {q : Nat}

theorem Dev.retrain_fabric (hfab : d.isFabric q = true) :
    d.retrain q = if d.lkState q = 3 then (d.wf R.PRT0_LINK_CTRL q 0 0 1).mklHold q true else d :=
  if_pos hfab

variable (hfab : d.isFabric q = false)
include hfab

theorem Dev.retrain_down (hdown : d.dlUp q = false) :
    d.retrain q = if d.mayTrain q then (d.wf R.PRT0_LINK_CTRL q 0 0 1).trainStart q else d :=
  (if_neg (ne_true_of_eq_false hfab)).trans (if_neg (ne_true_of_eq_false hdown))

variable (hup : d.dlUp q = true)
include hup

theorem Dev.retrain_recovery (hm : d.laneMask q ≠ 0) (hall : d.laneMask q &&& (d.pst q).detLanes = d.laneMask q) :
    d.retrain q = (
      let on := d.wf R.PRT0_LINK_CTRL q 0 0 1
      (on.enterRecovery q).report q (min (widthOf (min (d.tgtWidth q) (d.recLanes q).length)) ((on.enterRecovery q).repWidth q))) :=
  (if_neg (ne_true_of_eq_false hfab)).trans ((if_pos hup).trans (if_pos ⟨hm, hall⟩))

theorem Dev.retrain_detect (hm : d.laneMask q = 0 ∨ d.laneMask q &&& (d.pst q).detLanes ≠ d.laneMask q) :
    d.retrain q = (
      let on := d.wf R.PRT0_LINK_CTRL q 0 0 1
      if (on.dlDown q 1 false true).inTraining q then on.dlDown q 1 false true
      else (on.dlDown q 1 false true).wf R.PRT0_LINK_CTRL q 0 0 0) :=
  (if_neg (ne_true_of_eq_false hfab)).trans ((if_pos hup).trans (if_neg fun h => hm.elim h.1 fun hne => hne h.2))

end

/-! ### The end of Recovery (R94, R97) -/

/-- Failures counted for the lanes of a list stand there, and for no other lane. -/
theorem Tbl.getD_foldl_put (f : Nat → Nat) (l : List Nat) (t : Tbl Nat) (k : Nat) :
    ((l.map fun k => (k, f k)).foldl (fun l (e : Nat × Nat) => Tbl.put l e.1 0 e.2) t).getD k 0 = if k ∈ l then f k else t.getD k 0 := by
  induction l generalizing t with
  | nil => rfl
  | cons j l ih =>
    rw [List.map_cons, List.foldl_cons, ih]
    by_cases hk : k ∈ l
    · rw [if_pos hk, if_pos (List.mem_cons_of_mem j hk)]
    · rw [if_neg hk]
      by_cases hj : k = j
      · subst hj
        rw [if_pos List.mem_cons_self, Tbl.getD_put_same]
      · rw [Tbl.getD_put_other _ _ _ _ hj, if_neg (by simp [hj, hk])]

section
variable {s : State} {p failed : Nat} (hfab : s.dev.isFabric p = false) (hup : s.dev.dlUp p = true) (hst : s.dev.lstate p = 5)
include hfab hup hst

/-- Recovery without a failed lane goes on at the width asked for, or renegotiated for a RETRAIN. -/
theorem exec_recoveryEnd_clean (hreeq : (s.dev.pst p).proc = none ∨ ∃ pr, (s.dev.pst p).proc = some pr ∧ pr.kind ≠ .reeq)
    (hbad : (((s.dev.procAbort p 3).linkLanes p).filter fun k => failed.testBit k) = []) :
    exec (.recoveryEnd p failed) s = .next (s.settled (
      let d := s.dev.procAbort p 3
      let e := (d.setPst p { d.pst p with recFail := [] }).speedSync p
      if e.rb R.PRT0_LINK_CTRL p 0 then e.reconfigure p (e.recLanes p)
      else
        let w := ((e.pst p).l0pReq).getD (e.curWidth p)
        let f := (e.linkLanes p).foldl (fun d k => d.wf (R.LAN_LANE_STATUS (p / 8)) k 3 3 1) e
        (f.setLstate p (if w < f.rf R.PRT0_LINK_STATUS p 20 16 then 6 else 4)).l0pWiden p w)) := by
  have hends : ¬ (s.dev.isFabric p || !s.dev.dlUp p || s.dev.lstate p != 5 ||
      (((s.dev.pst p).proc.any fun pr => pr.kind == .reeq) && failed == 0)) = true := by
    rcases hreeq with h | ⟨pr, h, hkind⟩
    · simp [hfab, hup, hst, h]
    · simp [hfab, hup, hst, h, hkind]
  change execRecoveryEnd p failed s = _
  exact State.eff_of_eq ((if_neg hends).trans (if_pos (List.isEmpty_iff.2 hbad)))

/-- Failures are counted, and a lane with a third one in a row is left out. -/
theorem exec_recoveryEnd_failed (hbad : (((s.dev.procAbort p 3).linkLanes p).filter fun k => failed.testBit k) ≠ []) :
    exec (.recoveryEnd p failed) s = .next (s.settled (
      let d := s.dev.procAbort p 3
      let t := (((s.dev.procAbort p 3).linkLanes p).filter fun k => failed.testBit k).map fun k => (k, (d.pst p).recFail.getD k 0 + 1)
      let e := d.setPst p { d.pst p with recFail := t.foldl (fun l x => Tbl.put l x.1 0 x.2) [] }
      let out := (t.filter fun x => 3 ≤ x.2).map (·.1)
      if out.isEmpty then e
      else
        let f := (out.foldl (fun d k => (d.setLane (p / 8) k 6).wf (R.LAN_LANE_STATUS (p / 8)) k 3 3 0) e).laneFaults p (ofBits out)
        let g := f.reconfigure p (f.recLanes p)
        if g.dlUp p ∧ g.curWidth p = g.tgtWidth p then g.linkDegraded p else g)) := by
  have hfailed : failed ≠ 0 := by
    rintro rfl
    simp at hbad
  have hends : ¬ (s.dev.isFabric p || !s.dev.dlUp p || s.dev.lstate p != 5 ||
      (((s.dev.pst p).proc.any fun pr => pr.kind == .reeq) && failed == 0)) = true := by
    simp [hfab, hup, hst, hfailed]
  change execRecoveryEnd p failed s = _
  exact State.eff_of_eq ((if_neg hends).trans (if_neg fun h => hbad (List.isEmpty_iff.1 h)))

end

/-- Settles O20: the steps of a training, its ends, retraining, and Recovery from its entry to its end. -/
theorem trainingAndRecoveryComplete : Obligations.TrainingAndRecoveryComplete := by
  intro s p
  refine ⟨fun lanes hmay hdown hfab => ?_, fun lanes hmay hdown hfab hst => ?_, fun lanes htrain hw => ?_,
    fun i htrain hfab hst hw => exec_linkUp_training i htrain hfab hst hw,
    fun reason rate lanes htrain hlo hhi hrate => ⟨_, exec_trainingFailure_training lanes htrain hlo hhi, s.dev.trainingFailure_shows p lanes hhi hrate⟩,
    fun a hmay => ⟨_, exec_retrain_may hmay, Dev.retrain_fabric, fun hfab hup hm hall => ?_, Dev.retrain_detect, Dev.retrain_down⟩,
    fun hfab hup hst => ⟨⟨_, exec_linkEntersRecovery_up hfab hup hst, s.dev.enterRecovery_lstate p, s.dev.enterRecovery_proc p⟩,
      fun k hlane hlink => ⟨_, exec_laneLockLoss_up hfab hup hst hlane hlink, ?_, ?_⟩⟩,
    fun failed hfab hup hst => ⟨fun hreeq hbad => ?_, fun hbad => ?_⟩⟩
  · rw [exec_linkTrainingStart_detect, Dev.trainStart_link hmay hdown hfab]
  · rw [exec_linkTrainingStart_detect, Dev.trainStart_fabric hmay hdown hfab hst]
  · have hstep {stage : Nat} {e : Dev} (hstage : stage ≠ 0) (h : s.dev.trainStep p stage lanes = e) :
        exec (.linkTrainingStart p stage lanes) s = .next (s.settled e) := h ▸ exec_linkTrainingStart_step lanes hstage htrain
    exact ⟨fun hfab => hstep (by decide) (Dev.trainStep_fabric hw hfab),
      fun hfab hst => ⟨_, hstep (by decide) (Dev.trainStep_polling hw hfab hst), Dev.lstate_setLstate _ p (by decide), Dev.trainStep_presence lanes⟩,
      fun hfab hst => hstep (by decide) (Dev.trainStep_configuration hw hfab hst),
      fun hfab hst => ⟨_, hstep (by decide) (Dev.trainStep_dataLink hw hfab hst), Dev.dataLink_words _ p (widthOf_le _)⟩,
      fun hfab hst => hstep (by decide) (Dev.trainStep_rise hw hfab hst), fun hfab hst => hstep (by decide) (Dev.trainStep_risen hw hfab hst),
      fun hfab hst => hstep (by decide) (Dev.trainStep_directed hw hfab hst)⟩
  · have hretrain := Dev.retrain_recovery hfab hup hm hall
    refine ⟨?_, hretrain⟩
    rw [hretrain]
    exact ((Dev.report_trainKeeps _ _ _).lstate _).trans (Dev.enterRecovery_lstate _ _)
  · exact ((Dev.TrainKeeps.wf k 3 3 0 0x200 rfl (by decide)).lstate p).trans (s.dev.enterRecovery_lstate p)
  · rw [Dev.lane, Dev.wf, Dev.rd_wr_same, bit_setFld _ _ (by decide) (by decide), if_pos (by decide)]
    rfl
  · have hclean := exec_recoveryEnd_clean hfab hup hst hreeq hbad
    exact ⟨fun hretrain => State.next_settled_congr hclean (if_pos hretrain),
      fun hnot => State.next_settled_congr hclean (if_neg (ne_true_of_eq_false hnot))⟩
  · have hfailed := exec_recoveryEnd_failed hfab hup hst hbad
    refine ⟨fun k hk => ?_, fun k hk => ?_, fun hnone => State.next_settled_congr hfailed (if_pos (List.isEmpty_iff.2 hnone)),
      fun hsome => State.next_settled_congr hfailed (if_neg fun h => hsome (List.isEmpty_iff.1 h))⟩
    · rw [Dev.pst_setPst_same]
      exact (Tbl.getD_foldl_put _ _ [] k).trans (if_pos hk)
    · rw [Dev.pst_setPst_same]
      exact (Tbl.getD_foldl_put _ _ [] k).trans (if_neg hk)

end Sys2Proof.Machine
end

section
/-! Family 02_registers: accesses that reach the registers by another way (O19). -/

namespace Sys2Proof.Machine

section
variable {s : State}

/-! ### Golbuent messages (R478) -/

theorem Dev.golbuent_pcie {d : Dev} (lk : List Nat) (ok : Bool) (code : Nat) (none : List Nat) (f : Dev → List Nat × Dev)
    (hup : d.pathUp 1 = true) : d.golbuent lk 1 ok code none f = (lk, (d.bump R.DEV_MCTP_CNT_ERR).raise 0x018) :=
  (if_neg (by simp [hup])).trans (if_pos (by decide))

section
variable {d : Dev} (lk : List Nat) (code : Nat) (none : List Nat) (f : Dev → List Nat × Dev) (hup : d.pathUp 0 = true)
include hup

theorem Dev.golbuent_malformed : d.golbuent lk 0 false code none f = (lk, d.emit (.msg 0 code (1 :: none))) :=
  (if_neg (by simp [hup])).trans ((if_neg (by decide)).trans (if_pos rfl))

theorem Dev.golbuent_busy (hbusy : (d.mgt.remote.any fun e => e.1 == 65) = true) :
    d.golbuent lk 0 true code none f = (lk, d.emit (.msg 0 code (2 :: none))) :=
  (if_neg (by simp [hup])).trans ((if_neg (by decide)).trans ((if_neg (by decide)).trans (if_pos hbusy)))

theorem Dev.golbuent_served (hidle : (d.mgt.remote.any fun e => e.1 == 65) = false) : d.golbuent lk 0 true code none f = f d :=
  (if_neg (by simp [hup])).trans ((if_neg (by decide)).trans ((if_neg (by decide)).trans (if_neg (ne_true_of_eq_false hidle))))

end

/-- A command that may lock pages, by what it does. -/
theorem State.effL_of_eq {f : List Nat → Dev → List Nat × Dev} {lk : List Nat} {d : Dev} (h : f s.plock s.dev = (lk, d)) :
    s.effL f = .next (State.settled { s with plock := lk } d) := by
  rw [State.effL_next, h]

/-- A READ that is served here, or that another member serves. -/
def readServed (lk : List Nat) (addr : Nat) (x : Ext) (d : Dev) : List Nat × Dev :=
  match (if partialAcc addr 15 then none else d.elsewhere .smbus addr) with
  | some m => (lk, d.carry .smbus m addr none)
  | none =>
    let r := d.readWord lk .smbus addr 15 x none
    (lk, r.2.emit (.msg 0 0x7e01 [0, r.1.toNat, (r.2.selStatusOf .smbus (addr / 4096)).toNat]))

/-- A WRITE that is served. -/
def writeServed (lk : List Nat) (addr : Nat) (data : Word) (x : Ext) (d : Dev) : List Nat × Dev :=
  let r := d.accWrite lk .smbus addr 15 [data] x
  (r.1, r.2.emit (.msg 0 0x7e02 [0, (r.2.selStatusOf .smbus (addr / 4096)).toNat]))

theorem exec_read_eq {path addr : Nat} {ok : Bool} {x : Ext} {lk : List Nat} {d : Dev}
    (h : s.dev.golbuent s.plock path ok 0x7e01 [0, 0] (readServed s.plock addr x) = (lk, d)) :
    exec (.read path ok addr x) s = .next (State.settled { s with plock := lk } d) := by
  change execRead path ok addr x s = _
  exact State.effL_of_eq h

theorem exec_write_eq {path addr : Nat} {ok : Bool} {data : Word} {x : Ext} {lk : List Nat} {d : Dev}
    (h : s.dev.golbuent s.plock path ok 0x7e02 [0] (writeServed s.plock addr data x) = (lk, d)) :
    exec (.write path ok addr data x) s = .next (State.settled { s with plock := lk } d) := by
  change execWrite path ok addr data x s = _
  exact State.effL_of_eq h

section
variable (lk : List Nat) {addr : Nat} (x : Ext) (d : Dev)

theorem readServed_here (h : addr % 4 ≠ 0 ∨ d.elsewhere .smbus addr = none) :
    readServed lk addr x d =
      (let r := d.readWord lk .smbus addr 15 x none
       (lk, r.2.emit (.msg 0 0x7e01 [0, r.1.toNat, (r.2.selStatusOf .smbus (addr / 4096)).toNat]))) := by
  have hnone : (if partialAcc addr 15 then none else d.elsewhere .smbus addr) = none := by
    rcases h with h | h
    · exact if_pos (by simp [partialAcc, h])
    · rw [h, ite_self]
  unfold readServed
  rw [hnone]

theorem readServed_far {m : Nat} (haddr : addr % 4 = 0) (h : d.elsewhere .smbus addr = some m) :
    readServed lk addr x d = (lk, d.carry .smbus m addr none) := by
  have hsome : (if partialAcc addr 15 then none else d.elsewhere .smbus addr) = some m :=
    (if_neg (by simp [partialAcc, haddr])).trans h
  unfold readServed
  rw [hsome]

end

/-! ### The debug port (R481) -/

theorem exec_dbgAccess_load (addr : Nat) (data : List Word) (x : Ext) :
    exec (.dbgAccess true addr data x) s = .next (s.settled (s.dev.accLoad s.plock .debug addr 15 data.length x)) := by
  change execDbgAccess true addr data x s = _
  exact State.effL_of_eq (if_pos rfl)

theorem exec_dbgAccess_store (addr : Nat) (data : List Word) (x : Ext) :
    exec (.dbgAccess false addr data x) s = .next (State.settled { s with plock := (s.dev.accWrite s.plock .debug addr 15 data x).1 }
      (s.dev.accWrite s.plock .debug addr 15 data x).2) := by
  change execDbgAccess false addr data x s = _
  exact State.effL_of_eq (if_neg (by decide))

/-! ### Accesses that another member carries out (R52) -/

section
variable {a : Acc} {m addr : Nat} (hacc : s.dev.canAccess a = true) (hfar : s.dev.carriedTo a = some m) (hsel : addr ≠ 0xc0)
  (haddr : addr % 4 = 0)
include hfar hsel

theorem Dev.elsewhere_carried : s.dev.elsewhere a addr = some m := (if_neg hsel).trans hfar

include hacc haddr

theorem exec_remoteAccess_load (data : Word) :
    exec (.remoteAccess a true addr 15 data) s = .next (s.settled (s.dev.carry a m addr none)) := by
  have helse : s.dev.elsewhere a addr = some m := Dev.elsewhere_carried hfar hsel
  change execRemoteAccess a true addr 15 data s = _
  refine State.effL_of_eq ?_
  simp [helse, Dev.accLoad, Dev.accessible, hacc, Dev.isBlock, partialAcc, haddr, List.range, List.range.loop]

theorem exec_remoteAccess_store (data : Word) :
    exec (.remoteAccess a false addr 15 data) s = .next (s.settled (s.dev.carry a m addr (some data))) := by
  have helse : s.dev.elsewhere a addr = some m := Dev.elsewhere_carried hfar hsel
  change execRemoteAccess a false addr 15 data s = _
  refine State.effL_of_eq ?_
  simp [helse, Dev.accWrite, Dev.accessible, hacc, Dev.isBlock, Dev.blockStart_one, Dev.writeWord, partialAcc, haddr]

end

/-! ### What is sent to the member, and its answer (R52) -/

section
variable (d : Dev) (a : Acc) {m : Nat} (addr : Nat) (w : Word)

/-- A device in which the values that an accessor's write may stage elsewhere take part in its next commit of the group. -/
def Dev.farMarked (acc page : Nat) : Dev :=
  if (page = 0x500 ∨ page = 0x600) ∧ !d.yard.far.contains acc then { d with yard := { d.yard with far := d.yard.far ++ [acc] } } else d

theorem Dev.carry_write_eq :
    d.carry a m addr (some w) =
      if (d.farMarked (accIdx a) (addr / 4096)).isLost m then (d.farMarked (accIdx a) (addr / 4096)).remoteFail (accIdx a) false
      else (d.farMarked (accIdx a) (addr / 4096)).ctlSend m [2, 0, accIdx a, 1, (d.accMark a).1, (d.accMark a).2, addr, w.toNat] := rfl

theorem Dev.farMarked_frame (acc page : Nat) : d.farMarked acc page = { d with yard := (d.farMarked acc page).yard } := by
  unfold Dev.farMarked
  split <;> rfl

theorem Dev.isLost_farMarked (acc page : Nat) : (d.farMarked acc page).isLost m = d.isLost m := by
  unfold Dev.farMarked
  split <;> rfl

theorem Dev.carry_write_sent (hlost : d.isLost m = false) :
    (d.carry a m addr (some w)).regs = d.regs ∧
      (d.carry a m addr (some w)).mkl.ctl = d.mkl.ctl ++ [⟨m, none, d.me, 0, d.staging.epoch.toNat % 2,
        [2, 0, accIdx a, 1, (d.accMark a).1, (d.accMark a).2, addr, w.toNat]⟩] := by
  rw [Dev.carry_write_eq, if_neg (by rw [Dev.isLost_farMarked, hlost]; decide), Dev.farMarked_frame]
  exact ⟨rfl, rfl⟩

theorem Dev.carry_write_lost (hlost : d.isLost m = true) :
    bit ((d.carry a m addr (some w)).ard (accIdx a) (selStatus 0)) 4 = true ∧ (d.carry a m addr (some w)).regs = d.regs ∧
      (d.carry a m addr (some w)).mkl = d.mkl := by
  rw [Dev.carry_write_eq, if_pos (by rw [Dev.isLost_farMarked, hlost])]
  refine ⟨Dev.bit_sticky _ _ _ (by decide), ?_, ?_⟩
  · rw [Dev.farMarked_frame]
    rfl
  · rw [Dev.farMarked_frame]
    rfl

/-- A read waits until its member answers. -/
def Dev.remoteWaits (acc m addr : Nat) : Dev := { d with mgt := { d.mgt with remote := d.mgt.remote ++ [(acc, m, addr)] } }

theorem Dev.carry_read_sent (hlost : d.isLost m = false) :
    d.carry a m addr none =
      (d.remoteWaits (accIdx a) m addr).ctlSend m [2, 0, accIdx a, 0, (d.accMark a).1, (d.accMark a).2, addr, 0] :=
  if_neg (ne_true_of_eq_false hlost)

theorem Dev.carry_read_lost (hlost : d.isLost m = true) :
    d.carry a m addr none =
      ((d.remoteWaits (accIdx a) m addr).sticky (accIdx a) 0 4).remoteEnd (accIdx a) 0
        (((d.remoteWaits (accIdx a) m addr).sticky (accIdx a) 0 4).selStatusOf .smbus 0) :=
  if_pos hlost

end

section
variable {m acc addr : Nat} (hread : (s.dev.mgt.remote.find? fun e => e.1 == acc) = some (acc, m, addr))
include hread

theorem exec_remoteAnswer_oldest (data status : Word) :
    exec (.remoteAnswer m acc data status) s = .next (s.settled (s.dev.remoteEnd acc data status)) := by
  change execRemoteAnswer m acc data status s = _
  refine State.eff_of_eq ?_
  simp only [hread]
  exact if_pos trivial

end

section
variable {d : Dev} {m acc addr : Nat} (hread : (d.mgt.remote.find? fun e => e.1 == acc) = some (acc, m, addr)) (v st : Word)
include hread

theorem Dev.remoteEnd_accessor (hhost : (d.mgt.host.find? fun h => h.acc == acc && h.words.any Option.isNone) = none) :
    d.remoteEnd acc v st = (
      let d := { d with mgt := { d.mgt with remote := d.mgt.remote.erase (acc, m, addr) } }
      if acc = 65 then d.emit (.msg 0 0x7e01 [0, v.toNat, st.toNat]) else d.emit (.reply acc [v])) := by
  unfold Dev.remoteEnd
  simp only [hread, hhost]

theorem Dev.remoteEnd_host {h : HostRd} (hhost : (d.mgt.host.find? fun h => h.acc == acc && h.words.any Option.isNone) = some h) :
    d.remoteEnd acc v st = (
      let d := { d with mgt := { d.mgt with remote := d.mgt.remote.erase (acc, m, addr) } }
      let h' := { h with words := h.words.set (h.words.findIdx Option.isNone) (some v) }
      if h'.words.any Option.isNone then { d with mgt := { d.mgt with host := d.mgt.host.replace h h' } }
      else
        ({ d with mgt := { d.mgt with host := d.mgt.host.erase h } }).completeData h.tlp (some acc) h.ing 130 .mgmt (tlo h.tlp)
          (h'.words.flatMap fun (w : Option Word) => bytesOf 4 ((w.getD 0).toNat))) := by
  unfold Dev.remoteEnd
  simp only [hread, hhost]

end

/-! ### Accesses carried out for the head (R52) -/

section
variable {acc cls stb addr : Nat} (hyard : s.dev.yardEn = true) (hacc : s.dev.canAccess (.remote cls stb) = true)
include hyard hacc

theorem exec_regAccess_store (w : Word) (x : Ext) :
    exec (.regAccess s.dev.headNo [2, 0, acc, 1, cls, stb, addr, w.toNat] x) s =
      .next (State.settled { s with plock := (s.dev.accWrite s.plock (.remote cls stb) addr 15 [w] x).1 }
        (s.dev.accWrite s.plock (.remote cls stb) addr 15 [w] x).2) := by
  change execRegAccess s.dev.headNo [2, 0, acc, 1, cls, stb, addr, w.toNat] x s = _
  refine State.effL_of_eq ?_
  simp [hyard, hacc, word]

theorem exec_regAccess_load (x : Ext) :
    exec (.regAccess s.dev.headNo [2, 0, acc, 0, cls, stb, addr, 0] x) s = .next (s.settled (
      let r := s.dev.readWord s.plock (.remote cls stb) addr 15 x none
      r.2.ctlSend s.dev.headNo [2, 1, acc, r.1.toNat, (r.2.selStatusOf (.remote cls stb) (addr / 4096)).toNat])) := by
  change execRegAccess s.dev.headNo [2, 0, acc, 0, cls, stb, addr, 0] x s = _
  refine State.effL_of_eq ?_
  simp [hyard, hacc]

end

end

/-- Settles O19: message by message and access by access. -/
theorem carriedAccessesComplete : Obligations.CarriedAccessesComplete := by
  intro s
  refine ⟨fun ok addr data x hup => ⟨?_, ?_, ?_, ?_, ?_⟩, fun ok addr data x hup => ⟨exec_read_eq (Dev.golbuent_pcie _ _ _ _ _ hup),
      exec_write_eq (Dev.golbuent_pcie _ _ _ _ _ hup)⟩,
    fun addr data x => ⟨exec_dbgAccess_load addr data x, exec_dbgAccess_store addr data x⟩,
    fun a m addr data hacc hfar hsel haddr => ⟨fun hlost => ⟨?_, _, exec_remoteAccess_store hacc hfar hsel haddr data,
        s.dev.carry_write_sent a addr data hlost⟩,
      fun hlost => ⟨?_, _, exec_remoteAccess_store hacc hfar hsel haddr data, s.dev.carry_write_lost a addr data hlost⟩⟩,
    fun m acc addr data status hread => ?_,
    fun acc cls stb addr w x hyard hacc => ⟨exec_regAccess_store hyard hacc w x, exec_regAccess_load hyard hacc x⟩⟩
  · rintro rfl
    exact ⟨exec_read_eq (Dev.golbuent_malformed _ _ _ _ hup), exec_write_eq (Dev.golbuent_malformed _ _ _ _ hup)⟩
  · rintro rfl hbusy
    exact ⟨exec_read_eq (Dev.golbuent_busy _ _ _ _ hup hbusy), exec_write_eq (Dev.golbuent_busy _ _ _ _ hup hbusy)⟩
  · rintro rfl hidle hhere
    exact exec_read_eq ((Dev.golbuent_served _ _ _ _ hup hidle).trans (readServed_here _ x s.dev hhere))
  · rintro m rfl hidle haddr hfar
    exact exec_read_eq ((Dev.golbuent_served _ _ _ _ hup hidle).trans (readServed_far _ x s.dev haddr hfar))
  · rintro rfl hidle
    exact exec_write_eq (Dev.golbuent_served _ _ _ _ hup hidle)
  · rw [exec_remoteAccess_load hacc hfar hsel haddr data, Dev.carry_read_sent _ _ _ hlost]
    rfl
  · rw [exec_remoteAccess_load hacc hfar hsel haddr data, Dev.carry_read_lost _ _ _ hlost]
    rfl
  · have hanswer := exec_remoteAnswer_oldest hread data status
    refine ⟨fun hhost hacc => State.next_settled_congr hanswer ((Dev.remoteEnd_accessor hread data status hhost).trans (if_neg hacc)),
      fun hhost hacc => State.next_settled_congr hanswer ((Dev.remoteEnd_accessor hread data status hhost).trans (if_pos hacc)),
      fun h hhost => ⟨fun hmore => State.next_settled_congr hanswer ((Dev.remoteEnd_host hread data status hhost).trans (if_pos hmore)),
        fun hdone => State.next_settled_congr hanswer ((Dev.remoteEnd_host hread data status hhost).trans (if_neg (ne_true_of_eq_false hdone)))⟩⟩

end Sys2Proof.Machine
end


section
/-! Family 02_registers: page locks (O7). The rule of a write that is made, for every outcome of the access logic that does not
disagree; then which locks every command keeps. -/

namespace Sys2Proof.Machine

/-! ### A write that is made -/

theorem Dev.writeWord_made {d : Dev} {a : Acc} {r : Reg} (hr : r.Aligned) (lk : List Nat) (h : d.may a r true = true) (w : Word) {x : Ext}
    (hx : x.disagree = false) :
    d.writeWord lk a r.addr 15 w x none = d.regWrite lk a r.page r.off (d.instOf a r.page r.off) w x := by
  unfold Dev.writeWord
  simp only [hr.addr_page, hr.addr_off, if_neg hr.not_partial, Dev.elsewhere_of_may h, Dev.bothDecide_wordDec_of_may h, hx, Bool.false_and,
    Bool.false_eq_true, if_false]

/-- One word is written by one access. -/
theorem Dev.accWrite_one {d : Dev} {a : Acc} (hcan : d.canAccess a = true) (lk : List Nat) (addr be : Nat) (w : Word) (x : Ext) :
    d.accWrite lk a addr be [w] x = d.writeWord lk a addr be w x none := by
  simp [Dev.accWrite, Dev.accessible, Dev.isBlock, hcan, Dev.blockStart_one]

theorem Dev.commonOff_shown (d : Dev) {page off : Nat} (inst : Nat) (hoff : off < 0x100 ∨ 0xf00 ≤ off) :
    d.windowZero page off inst = false := by
  have hwin : winKind page off = .none := if_pos hoff
  have hne : off ≠ 0x300 := by omega
  have hcommon : (decide (0x100 ≤ off) && decide (off < 0xf00)) = false := by
    rw [Bool.and_eq_false_iff, decide_eq_false_iff_not, decide_eq_false_iff_not]
    omega
  simp [Dev.windowZero, hwin, hne, hcommon]

/-- A write in the common part of a page (R36), whose only lock is the PLOCK of UNIT_CTRL. -/
theorem Dev.regWrite_common (d : Dev) (lk : List Nat) (a : Acc) {page off : Nat} (inst : Nat) (w : Word) (x : Ext)
    (hoff : off < 0x100 ∨ 0xf00 ≤ off) :
    d.regWrite lk a page off inst w x =
      (if off = 0x28 ∧ bit w 31 ∧ !lk.contains page then lk ++ [page] else lk, d.commonWrite a page off inst w) := by
  have hperm : ¬ (page = 0x600 ∧ off = 0x124) := by omega
  rw [Dev.regWrite, if_neg (ne_true_of_eq_false (d.commonOff_shown inst hoff)), if_neg hperm, if_pos hoff]

/-! ### No access clears a page lock (R47) -/

theorem Dev.regWrite_locks (d : Dev) (lk : List Nat) (a : Acc) (page off inst : Nat) (w : Word) (x : Ext) :
    lk ⊆ (d.regWrite lk a page off inst w x).1 := by
  unfold Dev.regWrite
  split
  · exact List.Subset.refl _
  · split
    · exact List.Subset.refl _
    · split
      · dsimp only
        split
        · exact List.subset_append_left _ _
        · exact List.Subset.refl _
      · exact List.Subset.refl _

theorem Dev.writeWord_locks (d : Dev) (lk : List Nat) (a : Acc) (addr be : Nat) (w : Word) (x : Ext) (block : Option Bool) :
    lk ⊆ (d.writeWord lk a addr be w x block).1 := by
  unfold Dev.writeWord
  dsimp only
  split
  · exact List.Subset.refl _
  · split
    · exact List.Subset.refl _
    · split
      · exact List.Subset.refl _
      · split
        case h_5 => exact d.regWrite_locks lk a _ _ _ w x
        all_goals exact List.Subset.refl _

/-- Steps that each keep the locks keep them together. -/
theorem foldl_locks {α : Type} {f : List Nat × Dev → α → List Nat × Dev} (hf : ∀ r b, r.1 ⊆ (f r b).1) (l : List α) (r : List Nat × Dev) :
    r.1 ⊆ (l.foldl f r).1 := by
  induction l generalizing r with
  | nil => exact List.Subset.refl _
  | cons b l ih => exact List.Subset.trans (hf r b) (ih _)

theorem Dev.accWrite_locks (d : Dev) (lk : List Nat) (a : Acc) (addr be : Nat) (data : List Word) (x : Ext) :
    lk ⊆ (d.accWrite lk a addr be data x).1 := by
  unfold Dev.accWrite
  split
  · exact List.Subset.refl _
  · exact foldl_locks (fun r e => r.2.writeWord_locks r.1 a _ be e.1 x _) data.zipIdx (lk, _)

theorem Dev.golbuent_locks (d : Dev) (lk : List Nat) (path : Nat) (ok : Bool) (code : Nat) (none : List Nat) {f : Dev → List Nat × Dev}
    (hf : lk ⊆ (f d).1) : lk ⊆ (d.golbuent lk path ok code none f).1 := by
  unfold Dev.golbuent
  split
  · exact List.Subset.refl _
  · split
    · exact List.Subset.refl _
    · split
      · exact List.Subset.refl _
      · split
        · exact List.Subset.refl _
        · exact hf

theorem Dev.kciRec_locks (d : Dev) (lk : List Nat) (poll : Bool) (words : List Nat) {f : Dev → List Nat × Dev × Bool}
    (hf : ∀ e, lk ⊆ (f e).1) : lk ⊆ (d.kciRec lk poll words f).1 := by
  unfold Dev.kciRec
  split
  · exact List.Subset.refl _
  · split
    · exact List.Subset.refl _
    · exact List.Subset.refl _
    · have hdone := hf { d with boot := { d.boot with comWait := Option.none } }
      dsimp only
      split
      · exact hdone
      · split
        · exact hdone
        · exact hdone

theorem Dev.bar0Write_locks (d : Dev) (lk : List Nat) (s off : Nat) (t : Tlp) (x : Ext) : lk ⊆ (d.bar0Write lk s off t x).1 := by
  refine foldl_locks (fun r k => ?_) (List.range (dwLen t)) (lk, d)
  split
  · exact r.2.writeWord_locks r.1 (.ctl s) _ _ _ x .none
  · exact List.Subset.refl _

theorem Dev.barServe_locks (d : Dev) (lk : List Nat) (i : Item) (s : Nat) (x : Ext) : lk ⊆ (d.barServe lk i s x).1 := by
  unfold Dev.barServe
  dsimp only
  split
  · exact List.Subset.refl _
  · split
    · split
      · exact List.Subset.refl _
      · split
        · exact Dev.bar0Write_locks _ lk s _ i.tlp x
        · split
          · exact List.Subset.refl _
          · exact List.Subset.refl _
    · split
      · split
        · exact List.Subset.refl _
        · split
          · exact List.Subset.refl _
          · exact List.Subset.refl _
      · exact List.Subset.refl _

theorem Dev.barServeAll_locks (d : Dev) (lk : List Nat) (x : Ext) : lk ⊆ (d.barServeAll lk x).1 := by
  refine foldl_locks (fun r i => ?_) d.barItems (lk, d)
  dsimp only
  split
  · exact Dev.barServe_locks _ r.1 i _ x
  · exact List.Subset.refl _

/-! ### No command but a device reset clears a page lock -/

/-- The outcome is a next state with every lock of the state before. -/
def State.KeepsLocks (s : State) (o : Host.Outcome State Fault Refusal) : Prop := ∃ t, o = .next t ∧ s.plock ⊆ t.plock

theorem State.effL_keepsLocks {s : State} {f : List Nat → Dev → List Nat × Dev} (hf : s.plock ⊆ (f s.plock s.dev).1) :
    s.KeepsLocks (s.effL f) := ⟨_, rfl, hf⟩

theorem State.eff_keepsLocks (s : State) (f : Dev → Dev) : s.KeepsLocks (s.eff f) := ⟨_, rfl, List.Subset.refl _⟩

theorem State.poke_keepsLocks (s : State) (a : Acc) (addr : Nat) (w : Word) : s.KeepsLocks (s.poke a addr w) :=
  s.effL_keepsLocks (s.dev.accWrite_locks s.plock a addr 15 [w] Ext.none)

theorem State.peek_keepsLocks (s : State) (a : Acc) (addr : Nat) : s.KeepsLocks (s.peek a addr) :=
  s.effL_keepsLocks (List.Subset.refl _)

theorem exec_registerWrite_keepsLocks (a : Acc) (load : Bool) (addr be : Nat) (data : List Word) (x : Ext) (s : State) :
    s.KeepsLocks (execRegisterWrite a load addr be data x s) := by
  refine s.effL_keepsLocks ?_
  cases load with
  | false => exact s.dev.accWrite_locks s.plock a addr be data x
  | true => exact List.Subset.refl _

theorem exec_dbgAccess_keepsLocks (load : Bool) (addr : Nat) (data : List Word) (x : Ext) (s : State) :
    s.KeepsLocks (execDbgAccess load addr data x s) := by
  refine s.effL_keepsLocks ?_
  cases load with
  | false => exact s.dev.accWrite_locks s.plock .debug addr 15 data x
  | true => exact List.Subset.refl _

theorem exec_remoteAccess_keepsLocks (a : Acc) (load : Bool) (addr be : Nat) (data : Word) (s : State) :
    s.KeepsLocks (execRemoteAccess a load addr be data s) := by
  refine s.effL_keepsLocks ?_
  split
  · exact List.Subset.refl _
  · split
    · exact List.Subset.refl _
    · exact s.dev.accWrite_locks s.plock a addr be [data] Ext.none

/-- Of the control messages only the write that the head sends may set a lock. -/
theorem exec_regAccess_keepsLocks (src : Nat) (msg : List Nat) (x : Ext) (s : State) : s.KeepsLocks (execRegAccess src msg x s) := by
  refine s.effL_keepsLocks ?_
  dsimp only
  split
  · exact List.Subset.refl _
  split
  · split
    · exact List.Subset.refl _
    · split
      · exact s.dev.accWrite_locks s.plock _ _ 15 _ x
      · exact List.Subset.refl _
  all_goals (repeat' split) <;> exact List.Subset.refl _

theorem exec_read_keepsLocks (path : Nat) (ok : Bool) (addr : Nat) (x : Ext) (s : State) : s.KeepsLocks (execRead path ok addr x s) := by
  refine s.effL_keepsLocks (s.dev.golbuent_locks s.plock path ok _ _ ?_)
  split
  · exact List.Subset.refl _
  · exact List.Subset.refl _

theorem exec_write_keepsLocks (path : Nat) (ok : Bool) (addr : Nat) (data : Word) (x : Ext) (s : State) :
    s.KeepsLocks (execWrite path ok addr data x s) :=
  s.effL_keepsLocks (s.dev.golbuent_locks s.plock path ok _ _ (s.dev.accWrite_locks s.plock .smbus addr 15 [data] x))

theorem exec_egressSelection_keepsLocks (port credits flt : Nat) (x : Ext) (s : State) :
    s.KeepsLocks (execEgressSelection port credits flt x s) := by
  refine s.effL_keepsLocks ?_
  dsimp only
  split
  · exact List.Subset.refl _
  · split
    · exact Dev.barServeAll_locks _ s.plock x
    · exact List.Subset.refl _

/-! ### The records of the configuration image -/

theorem romAfter_locks (r : List Nat × Dev) (addr : Nat) (w : Word) : r.1 ⊆ (romAfter r addr w).1 :=
  r.2.accWrite_locks r.1 (.core true) addr 15 [w] Ext.none

theorem kciCommitDoes_locks (page : Nat) (lk : List Nat) (d : Dev) : lk ⊆ (kciCommitDoes page lk d).1 := by
  unfold kciCommitDoes
  split
  · exact List.Subset.refl _
  · dsimp only
    split
    · exact romAfter_locks (lk, d) _ 1
    · exact romAfter_locks (lk, d) _ 1

theorem kciWaitDoes_locks (addr : Nat) (m v : Word) (us : Nat) (expired : Bool) (lk : List Nat) (d : Dev) :
    lk ⊆ (kciWaitDoes addr m v us expired lk d).1 := by
  unfold kciWaitDoes
  dsimp only
  split
  · exact List.Subset.refl _
  · split
    · exact List.Subset.refl _
    · exact List.Subset.refl _

theorem kciEndDoes_locks (crc : Nat) (bad : Bool) (lk : List Nat) (d : Dev) : lk ⊆ (kciEndDoes crc bad lk d).1 := by
  unfold kciEndDoes
  split
  · exact List.Subset.refl _
  · exact List.Subset.refl _

theorem IsKciRec.keepsLocks {c : Instr} {poll : Bool} {words : List Nat} {f : List Nat → Dev → List Nat × Dev × Bool}
    (hc : IsKciRec c poll words f) (s : State) (hf : ∀ e, s.plock ⊆ (f s.plock e).1) : s.KeepsLocks (exec c s) := by
  rw [hc s]
  exact s.effL_keepsLocks (s.dev.kciRec_locks s.plock poll words hf)

theorem exec_kciSelWrite_keepsLocks (addr : Nat) (sel w : Word) (s : State) : s.KeepsLocks (exec (.kciSelWrite addr sel w) s) :=
  (isKciRec_selWrite addr w sel).keepsLocks s fun e =>
    List.Subset.trans (romAfter_locks (s.plock, e) _ sel) (romAfter_locks _ addr w)

/-! ### Every command -/

theorem exec_keepsLocks (c : Instr) (s : State) (hperst : c ≠ .perstAssert) (hgood : c ≠ .powerGood) : s.KeepsLocks (exec c s) := by
  cases c
  case perstAssert => exact absurd rfl hperst
  case powerGood => exact absurd rfl hgood
  case registerWrite a load addr be data x => exact exec_registerWrite_keepsLocks a load addr be data x s
  case dbgAccess load addr data x => exact exec_dbgAccess_keepsLocks load addr data x s
  case remoteAccess a load addr be data => exact exec_remoteAccess_keepsLocks a load addr be data s
  case regAccess src msg x => exact exec_regAccess_keepsLocks src msg x s
  case read path ok addr x => exact exec_read_keepsLocks path ok addr x s
  case write path ok addr data x => exact exec_write_keepsLocks path ok addr data x s
  case egressSelection port credits flt x => exact exec_egressSelection_keepsLocks port credits flt x s
  case talLoRead a page n =>
    change s.KeepsLocks (execTalLoRead a page n s)
    unfold execTalLoRead
    split
    · exact s.peek_keepsLocks a _
    · exact s.eff_keepsLocks id
  case selWrite a page data => exact s.poke_keepsLocks a _ data
  case unitChildWrite a page data => exact s.poke_keepsLocks a _ data
  case plockSet a page data => exact s.poke_keepsLocks a _ _
  case pdClear a => exact s.poke_keepsLocks a _ 1
  case wmReset a => exact s.poke_keepsLocks a _ 1
  case errLogClear a => exact s.poke_keepsLocks a _ 1
  case fltClear a => exact s.poke_keepsLocks a _ 1
  case winEntryWrite a data => exact s.poke_keepsLocks a _ data
  case xingEntryWrite a data => exact s.poke_keepsLocks a _ data
  case ruleEntryWrite a data => exact s.poke_keepsLocks a _ data
  case permDataWrite a data => exact s.poke_keepsLocks a _ data
  case pinEntryWrite a data => exact s.poke_keepsLocks a _ data
  case vslotDataWrite a data => exact s.poke_keepsLocks a _ data
  case kciWrite addr w => exact (isKciRec_write addr w).keepsLocks s fun e => romAfter_locks (s.plock, e) addr w
  case kciRmw addr m w => exact (isKciRec_rmw addr m w).keepsLocks s fun e => romAfter_locks (s.plock, _) addr _
  case kciSelWrite addr sel w => exact exec_kciSelWrite_keepsLocks addr sel w s
  case kciCommit page => exact (isKciRec_commit page).keepsLocks s (kciCommitDoes_locks page s.plock)
  case kciWait addr m v us expired => exact (isKciRec_wait addr us m v expired).keepsLocks s (kciWaitDoes_locks addr m v us expired s.plock)
  case kciDelay us => exact (isKciRec_delay us).keepsLocks s fun e => List.Subset.refl _
  case kciYard w => exact (isKciRec_yard w).keepsLocks s fun e => romAfter_locks (s.plock, e) 0x110 w
  case kciEnd crc bad => exact (isKciRec_end crc bad).keepsLocks s (kciEndDoes_locks crc bad s.plock)
  -- Every other arm is a lift of an effect on the device, which leaves the state's own fields.
  all_goals exact ⟨_, rfl, List.Subset.refl _⟩

end Sys2Proof.Machine
end


section
/-! Family 02_registers: setting and reading a page lock (O7), and the common page layout (O15). -/

namespace Sys2Proof.Machine

/-! ### UNIT_CTRL (R46, R47) -/

theorem unitCtrl_aligned (page : Nat) : (unitCtrl page).Aligned := ⟨show 0x28 < 4096 by decide, show 0x28 % 4 = 0 by decide⟩

theorem bit_plock (w : Word) : bit (w ||| 0x80000000) 31 = true := by
  have hmask : Nat.testBit 0x80000000 31 = true := by decide
  rw [bit, BitVec.toNat_or, Nat.testBit_or, Bool.or_eq_true]
  exact Or.inr hmask

/-- Carrying a control value to another member changes no register: what it may set is the accessor's own status. -/
theorem Dev.carryFan_regs (d : Dev) (acc m : Nat) (v : Word) : (d.carryFan acc m v).regs = d.regs := by
  unfold Dev.carryFan
  dsimp only
  split
  · split <;> rfl
  · split <;> rfl

theorem Dev.fanStage_regs (d : Dev) (acc via : Nat) (units : List Unit) (v : Word) : (d.fanStage acc via units v).regs = d.regs := by
  refine foldl_keeps (P := fun e : Dev => e.regs = d.regs) (fun e u he => ?_) units d rfl
  cases u
  case remoteDev m => exact (e.carryFan_regs acc m v).trans he
  all_goals exact he

/-- The locks of a page after a write of UNIT_CTRL with PLOCK set. -/
def lockPage (lk : List Nat) (page : Nat) : List Nat := if page ∈ lk then lk else lk ++ [page]

theorem mem_lockPage (lk : List Nat) (page : Nat) : page ∈ lockPage lk page := by
  unfold lockPage
  split
  · assumption
  · simp

theorem mem_lockPage_other (lk : List Nat) {page p : Nat} (h : p ≠ page) : p ∈ lockPage lk page ↔ p ∈ lk := by
  unfold lockPage
  split
  · rfl
  · simp [h]

theorem Dev.regWrite_plock (d : Dev) (lk : List Nat) (a : Acc) (page inst : Nat) (w : Word) (x : Ext) :
    d.regWrite lk a page 0x28 inst (w ||| 0x80000000) x = (lockPage lk page, d.ctrlWrite a page inst (w ||| 0x80000000)) := by
  rw [d.regWrite_common lk a inst _ x (Or.inl (by decide))]
  refine Prod.ext ?_ rfl
  by_cases hin : page ∈ lk
  · simp [lockPage, hin]
  · simp only [lockPage, hin, bit_plock, List.contains_eq_mem, decide_false, Bool.not_false, and_self, if_true, if_false]

/-- A write of PLOCK that is made locks the page, whatever its other bits are. -/
theorem exec_plockSet {s : State} {a : Acc} {page : Nat} (h : s.dev.may a (unitCtrl page) true = true) (w : Word) :
    exec (.plockSet a page w) s = .next (State.settled { s with plock := lockPage s.plock page }
      (s.dev.ctrlWrite a page (s.dev.instOf a page 0x28) (w ||| 0x80000000))) := by
  have hwrite : s.dev.accWrite s.plock a (unitCtrl page).addr 15 [w ||| 0x80000000] Ext.none =
      (lockPage s.plock page, s.dev.ctrlWrite a page (s.dev.instOf a page 0x28) (w ||| 0x80000000)) :=
    (Dev.accWrite_of_may (unitCtrl_aligned page) s.plock h _).trans (s.dev.regWrite_plock s.plock a page _ w Ext.none)
  change s.poke a (unitCtrl page).addr (w ||| 0x80000000) = _
  rw [State.poke, State.effL_next, hwrite]

/-! ### Reads of the common part of a page -/

/-- A read that both logics allow. -/
theorem Dev.readWord_ok {d : Dev} {a : Acc} {page : Nat} {x : Ext} {off : Nat} (hoff : off < 4096) (h4 : off % 4 = 0) (lk : List Nat) (hx : x.disagree = false)
    (hdec : d.accessDec a page off false = .ok) (hchk : d.chkView.accessDec a page off false = .ok) :
    d.readWord lk a (4096 * page + off) 15 x none = d.regRead lk a page off (d.instOf a page off) := by
  have hr : (Reg.mk page off).Aligned := ⟨hoff, h4⟩
  change d.readWord lk a (Reg.mk page off).addr 15 x none = _
  unfold Dev.readWord
  have hboth : (d.bothDecide fun d => d.wordDec a page off false none) = some .ok := d.bothDecide_ok _ hdec hchk
  simp only [hr.addr_page, hr.addr_off, if_neg hr.not_partial, hboth, hx, Bool.false_and, Bool.false_eq_true, if_false]

theorem Dev.countHidden_common (d : Dev) (a : Acc) (page : Nat) {off : Nat} (hoff : off < 0x100 ∨ 0xf00 ≤ off) :
    d.countHidden a page off = false := by
  have hwin : winKind page off = .none := if_pos hoff
  unfold Dev.countHidden
  split
  · simp [hwin]
  · rfl

theorem Dev.dropHidden_common (d : Dev) (a : Acc) (page inst : Nat) {off : Nat} (hoff : off < 0x100 ∨ 0xf00 ≤ off) :
    d.dropHidden a page off inst = false := by
  have hentry : (decide (0x10c ≤ off) && decide (off < 0x124)) = false := by
    rw [Bool.and_eq_false_iff, decide_eq_false_iff_not, decide_eq_false_iff_not]
    omega
  have hcount : (decide (0x130 ≤ off) && decide (off < 0x144)) = false := by
    rw [Bool.and_eq_false_iff, decide_eq_false_iff_not, decide_eq_false_iff_not]
    omega
  unfold Dev.dropHidden
  split
  · simp [hentry, hcount]
  · rfl

/-- A register of the common part of a page hides from no accessor. -/
theorem Dev.common_shown (d : Dev) (a : Acc) (page inst : Nat) {off : Nat} (hoff : off < 0x100 ∨ 0xf00 ≤ off) :
    (d.windowZero page off inst || d.countHidden a page off || d.dropHidden a page off inst) = false := by
  simp [d.commonOff_shown inst hoff, d.countHidden_common a page hoff, d.dropHidden_common a page inst hoff]

theorem Dev.regRead_unitCtrl (d : Dev) (lk : List Nat) (a : Acc) (page inst : Nat) :
    d.regRead lk a page 0x28 inst = (setFld (d.rwsRead (accIdx a) page inst 0x28) 31 31 (b2n (lk.contains page)), d) := by
  unfold Dev.regRead
  rw [if_neg (ne_true_of_eq_false (d.common_shown a page inst (Or.inl (by decide))))]
  rfl

theorem bit_plockWord (w : Word) (locks : List Nat) (page : Nat) :
    bit (setFld w 31 31 (b2n (locks.contains page))) 31 = true ↔ page ∈ locks := by
  rw [bit_setFld w _ (le_refl 31) (by decide)]
  by_cases h : page ∈ locks
  · simp [h, b2n]
  · simp [h, b2n]

/-- Settles O7: no access drops a lock, a write of PLOCK appends one, and a read shows it. -/
theorem pageLocksStandUntilDeviceReset : Obligations.PageLocksStandUntilDeviceReset := by
  refine ⟨fun c s t hperst hgood hexec => ?_, fun s a page w h => ⟨_, exec_plockSet h w, fun _ => Dev.fanStage_regs _ _ _ _ _⟩,
    fun d locks a page x hx hdec hchk => ?_⟩
  · obtain ⟨t', ht', hkept⟩ := exec_keepsLocks c s hperst hgood
    rw [hexec] at ht'
    obtain rfl := Host.Outcome.next.inj ht'
    exact hkept
  · rw [Dev.readWord_ok (by decide) (by decide) locks hx hdec hchk, d.regRead_unitCtrl]
    exact ⟨bit_plockWord _ locks page, fun k hk => bit_setFld_other _ _ (le_refl 31) (by omega) (Or.inl hk)⟩

end Sys2Proof.Machine
end


section
/-! Family 02_registers: the common page layout (O15). -/

namespace Sys2Proof.Machine

/-! ### Writes of the common part that set no lock -/

theorem Dev.regWrite_common_kept (d : Dev) (lk : List Nat) (a : Acc) {page off : Nat} (inst : Nat) (w : Word) (x : Ext)
    (hoff : off < 0x100 ∨ 0xf00 ≤ off) (hctrl : off ≠ 0x28) :
    d.regWrite lk a page off inst w x = (lk, d.commonWrite a page off inst w) := by
  rw [d.regWrite_common lk a inst w x hoff, if_neg fun h => hctrl h.1]

theorem selReg_aligned (page : Nat) : (selReg page).Aligned := ⟨show 0xc0 < 4096 by decide, show 0xc0 % 4 = 0 by decide⟩

theorem unitChild_aligned (page : Nat) : (unitChild page).Aligned := ⟨show 0x1c < 4096 by decide, show 0x1c % 4 = 0 by decide⟩

section
variable {s : State} {a : Acc} {page : Nat} (w : Word)

theorem exec_selWrite (h : s.dev.may a (selReg page) true = true) :
    exec (.selWrite a page w) s = .next (s.settled (s.dev.selWrite a page w)) :=
  State.poke_of_may (selReg_aligned page) h
    (s.dev.regWrite_common_kept s.plock a _ w Ext.none (Or.inl (show 0xc0 < 0x100 by decide)) (show 0xc0 ≠ 0x28 by decide))

/-- SEL of page 0 stands on this device, whatever member an earlier value of it names (R52). -/
theorem exec_selWrite_zero (hcan : s.dev.canAccess a = true) (hdec : s.dev.accessDec a 0 0xc0 true = .ok)
    (hchk : s.dev.chkView.accessDec a 0 0xc0 true = .ok) :
    exec (.selWrite a 0 w) s = .next (s.settled (s.dev.selWrite a 0 w)) := by
  have hboth : (s.dev.bothDecide fun d => d.wordDec a 0 0xc0 true none) = some .ok := s.dev.bothDecide_ok _ hdec hchk
  have hword : s.dev.writeWord s.plock a 0xc0 15 w Ext.none none =
      s.dev.regWrite s.plock a 0 0xc0 (s.dev.instOf a 0 0xc0) w Ext.none := by
    unfold Dev.writeWord
    simp only [show 0xc0 / 4096 = 0 from rfl, show 0xc0 % 4096 = 0xc0 from rfl, hboth]
    rfl
  have hwrite : s.dev.accWrite s.plock a 0xc0 15 [w] Ext.none = (s.plock, s.dev.selWrite a 0 w) :=
    (Dev.accWrite_one hcan s.plock 0xc0 15 w Ext.none).trans (hword.trans
      (s.dev.regWrite_common_kept s.plock a _ w Ext.none (Or.inl (by decide)) (by decide)))
  change s.poke a 0xc0 w = _
  rw [State.poke, State.effL_next, hwrite]

theorem exec_unitChildWrite (h : s.dev.may a (unitChild page) true = true) :
    exec (.unitChildWrite a page w) s = .next (s.settled (s.dev.awr (accIdx a) (unitChild page) w)) :=
  State.poke_of_may (unitChild_aligned page) h
    (s.dev.regWrite_common_kept s.plock a _ w Ext.none (Or.inl (show 0x1c < 0x100 by decide)) (show 0x1c ≠ 0x28 by decide))

end

/-! ### Page counters (R45) -/

/-- TALn_LO of a page. -/
def talLo (page n : Nat) : Reg := ⟨page, 0xf00 + 16 * n⟩

/-- TALn_HI of a page. -/
def talHi (page n : Nat) : Reg := ⟨page, 0xf04 + 16 * n⟩

theorem talLo_aligned (page : Nat) {n : Nat} (hn : n < 8) : (talLo page n).Aligned := by
  constructor
  · change 0xf00 + 16 * n < 4096
    omega
  · change (0xf00 + 16 * n) % 4 = 0
    omega

/-- What a count of a unit reads as changes nothing but the free values drawn for what other members contribute. -/
theorem Dev.farCount_frame (d : Dev) (page inst n : Nat) :
    (d.farCount page inst n).2 = { d with free := (d.farCount page inst n).2.free } := by
  unfold Dev.farCount
  split <;> rfl

theorem Dev.farCount_here (d : Dev) {page inst : Nat} (n : Nat) (h : d.farUnit page inst = false) : d.farCount page inst n = (n, d) :=
  if_neg (ne_true_of_eq_false h)

theorem Dev.talNow_frame (d : Dev) (a : Acc) (page n : Nat) : ∃ free, (d.talNow a page n).2 = { d with free := free } := by
  unfold Dev.talNow
  split
  · exact ⟨_, d.farCount_frame page _ _⟩
  · exact ⟨_, rfl⟩

/-- A read of TALn_LO changes nothing but the accessor's latch and the free values. -/
theorem Dev.loRead_talNow_frame (d : Dev) (a : Acc) (page n acc : Nat) (hi : Reg) (v : Nat) :
    ((d.talNow a page n).2.loRead acc hi v).2 =
      { d with
        aregs := ((d.talNow a page n).2.loRead acc hi v).2.aregs
        free := ((d.talNow a page n).2.loRead acc hi v).2.free } := by
  obtain ⟨free, hfree⟩ := d.talNow_frame a page n
  rw [hfree]
  unfold Dev.loRead Dev.awn Dev.awr
  with_reducible rfl

theorem Dev.talNow_here (d : Dev) (a : Acc) (page n : Nat) (h : d.farUnit page (d.rf (talEvsel page n) 0 31 16) = false) :
    (d.talNow a page n).1 = d.talVal a page n := by
  unfold Dev.talNow
  split
  · rw [d.farCount_here _ h]
  case isFalse hsees => exact (if_neg hsees).symm

/-- A read of TALn_LO: the counter's low word, with its upper bits latched for the accessor. -/
theorem Dev.regRead_talLo (d : Dev) (lk : List Nat) (a : Acc) (page inst : Nat) {n : Nat} (hn : n < 8) :
    d.regRead lk a page (0xf00 + 16 * n) inst = (d.talNow a page n).2.loRead (accIdx a) (talHi page n) (d.talNow a page n).1 := by
  unfold Dev.regRead
  rw [if_neg (ne_true_of_eq_false (d.common_shown a page inst (Or.inr (by omega))))]
  match n, hn with
  | 0, _ | 1, _ | 2, _ | 3, _ | 4, _ | 5, _ | 6, _ | 7, _ =>
    simp [isCauseReg, isMaskReg, isForceReg, Dev.commonRead, talHi]

theorem bit_latched (h : Nat) : bit (word (h % 65536 + 2147483648)) 31 = true := by
  have hlt : h % 65536 < 2 ^ 31 := by omega
  rw [bit, word, BitVec.toNat_ofNat, Nat.testBit_mod_two_pow, Nat.add_comm]
  simpa using Nat.testBit_two_pow_add_eq (h % 65536) 31 |>.trans (by simp [Nat.testBit_lt_two_pow hlt])

theorem fld_latched (h : Nat) : fld (word (h % 65536 + 2147483648)) 15 0 = h % 65536 := by
  simp only [fld, word, BitVec.toNat_ofNat]
  omega

/-- TALn_HI reads what the last read of TALn_LO latched, whatever the counter has become. -/
theorem Dev.hiWord_loRead (d : Dev) (acc : Nat) (hi : Reg) (v live : Nat) :
    (d.loRead acc hi v).2.hiWord acc hi live = word (v / 4294967296 % 65536) := by
  unfold Dev.hiWord Dev.loRead Dev.awn
  dsimp only
  rw [d.ard_awr_same, if_pos (bit_latched _), fld_latched]

theorem exec_talLoRead {s : State} {a : Acc} {page n : Nat} (hn : n < 8) (h : s.dev.may a (talLo page n) false = true) :
    exec (.talLoRead a page n) s = .next (s.settled (
      (((s.dev.talNow a page n).2.loRead (accIdx a) (talHi page n) (s.dev.talNow a page n).1).2.emit
        (.reply (accIdx a) [word (s.dev.talNow a page n).1])))) := by
  have haddr : (talLo page n).addr = 4096 * page + 0xf00 + 16 * n := (Nat.add_assoc _ _ _).symm
  have hpeek := State.peek_of_may (talLo_aligned page hn) h (s.dev.regRead_talLo s.plock a page _ hn)
  rw [haddr] at hpeek
  exact (if_pos hn).trans hpeek

/-- Settles O15: write by write of the common part of a page, and the read of a counter. -/
theorem commonPageCommandsComplete : Obligations.CommonPageCommandsComplete := by
  intro s a page
  refine ⟨fun w h hpage hinst => ?_, fun w h hpage hinst => ?_, fun w hcan hdec hchk => ⟨fun hhere => ?_, fun m hfar => ?_⟩,
    fun w h => exec_unitChildWrite w h, fun n hn h => ?_, fun w h => ⟨_, exec_plockSet h w, mem_lockPage s.plock page,
      fun p hp => mem_lockPage_other s.plock hp⟩⟩
  · rw [exec_selWrite w h, Dev.selWrite, if_neg hpage, if_neg hinst]
  · rw [exec_selWrite w h, Dev.selWrite, if_neg hpage, if_pos hinst]
  · refine State.next_settled_congr (exec_selWrite_zero w hcan hdec hchk) ?_
    rw [Dev.selWrite, if_pos rfl]
    simp only [hhere]
  · refine State.next_settled_congr (exec_selWrite_zero w hcan hdec hchk) ?_
    rw [Dev.selWrite, if_pos rfl]
    simp only [hfar]
  · exact ⟨_, _, exec_talLoRead hn h, s.dev.talNow_here a page n, fun live => Dev.hiWord_loRead _ _ _ _ live,
      s.dev.loRead_talNow_frame a page n _ _ _⟩

end Sys2Proof.Machine
end


section
/-! Family 02_registers: what a write of one word does by the access code of its register (O14). -/

namespace Sys2Proof.Machine

/-- What a write of a register without an action of its own leaves: the implemented bits of the word, and the other bits as they stood. -/
def RegDesc.merge (r : RegDesc) (old w : Word) : Word := old &&& ~~~(word r.wmask) ||| w &&& word r.wmask

section
variable {s : State} {a : Acc} {page off : Nat} {w : Word} {x : Ext} {e : Dev}

/-- A write of one word that is made, and sets no page lock, does what the register's write does. -/
theorem exec_registerWrite_made (hoff : off < 4096) (h4 : off % 4 = 0) (hx : x.disagree = false) (h : s.dev.may a ⟨page, off⟩ true = true)
    (hwrite : s.dev.regWrite s.plock a page off (s.dev.instOf a page off) w x = (s.plock, e)) :
    exec (.registerWrite a false (4096 * page + off) 15 [w] x) s = .next (s.settled e) := by
  obtain ⟨hcan, -, -, -⟩ := (s.dev.may_iff a _ true).1 h
  have hr : (Reg.mk page off).Aligned := ⟨hoff, h4⟩
  change execRegisterWrite a false (Reg.mk page off).addr 15 [w] x s = _
  refine State.effL_of_eq ?_
  rw [if_neg Bool.false_ne_true, Dev.accWrite_one hcan, Dev.writeWord_made hr s.plock h w hx, hwrite]

/-- A register without an action of its own is written as its access code says. -/
theorem exec_registerWrite_plain (hoff : off < 4096) (h4 : off % 4 = 0) (hx : x.disagree = false) (h : s.dev.may a ⟨page, off⟩ true = true)
    (hshown : s.dev.windowZero page off (s.dev.instOf a page off) = false) (hlo : 0x100 ≤ off) (hhi : off < 0xf00)
    (hperm : (page, off) ≠ (0x600, 0x124)) (hsystem : s.dev.systemWrite a page off (s.dev.instOf a page off) w x = none)
    (hport : s.dev.portWrite a page off (s.dev.instOf a page off) w = none)
    (hcore : s.dev.coreWrite a page off (s.dev.instOf a page off) w = none)
    (hplain : s.dev.plainWrite s.plock a page off (s.dev.instOf a page off) w = e) :
    exec (.registerWrite a false (4096 * page + off) 15 [w] x) s = .next (s.settled e) := by
  refine exec_registerWrite_made hoff h4 hx h ?_
  have hnotPerm : ¬ (page = 0x600 ∧ off = 0x124) := fun hp => hperm (Prod.ext hp.1 hp.2)
  rw [Dev.regWrite, if_neg (ne_true_of_eq_false hshown), if_neg hnotPerm, if_neg (by omega), hsystem, hport, hcore, ← hplain]
  rfl

end

section
variable {d : Dev} {lk : List Nat} {a : Acc} {page off inst : Nat} {w : Word} {r : RegDesc} (hreg : findReg page off = some r)
include hreg

theorem Dev.plainWrite_own (hown : r.perAcc = true) (hacc : r.acc = .rw ∨ r.acc = .rws) :
    d.plainWrite lk a page off inst w = d.awr (accOf (accIdx a) page off inst) ⟨page, off⟩ (w &&& word r.wmask) := by
  unfold Dev.plainWrite
  rcases hacc with hacc | hacc
  · simp only [hreg, hacc, hown, if_true]
  · simp only [hreg, hacc, hown, if_true]

theorem Dev.plainWrite_rw (hown : r.perAcc = false) (hacc : r.acc = .rw) :
    d.plainWrite lk a page off inst w = d.wr ⟨page, off⟩ inst (r.merge (d.rd ⟨page, off⟩ inst) w) := by
  unfold Dev.plainWrite
  simp only [hreg, hacc, hown, Bool.false_eq_true, if_false]
  rfl

theorem Dev.plainWrite_rwl_open (hacc : r.acc = .rwl) (hlock : page ∉ lk) :
    d.plainWrite lk a page off inst w = d.wr ⟨page, off⟩ inst (r.merge (d.rd ⟨page, off⟩ inst) w) := by
  unfold Dev.plainWrite
  simp only [hreg, hacc]
  exact if_neg (by simpa using hlock)

theorem Dev.plainWrite_rwl_locked (hacc : r.acc = .rwl) (hlock : page ∈ lk) :
    d.plainWrite lk a page off inst w = d.sticky (accIdx a) page 3 := by
  unfold Dev.plainWrite
  simp only [hreg, hacc]
  exact if_pos (by simpa using hlock)

theorem Dev.plainWrite_rws (hown : r.perAcc = false) (hacc : r.acc = .rws) :
    d.plainWrite lk a page off inst w = d.stage ⟨accIdx a, page, page, inst, off, w &&& word r.wmask⟩ := by
  unfold Dev.plainWrite
  simp only [hreg, hacc, hown, Bool.false_eq_true, if_false]

theorem Dev.plainWrite_w1c (hacc : r.acc = .w1c) :
    d.plainWrite lk a page off inst w = d.wr ⟨page, off⟩ inst (d.rd ⟨page, off⟩ inst &&& ~~~(w &&& word r.wmask)) := by
  unfold Dev.plainWrite
  simp only [hreg, hacc]

theorem Dev.plainWrite_wo (hacc : r.acc = .wo) : d.plainWrite lk a page off inst w = d.wr ⟨page, off⟩ inst (w &&& word r.wmask) := by
  unfold Dev.plainWrite
  simp only [hreg, hacc]

theorem Dev.plainWrite_readOnly (hacc : r.acc = .ro ∨ r.acc = .rof ∨ r.acc = .rc) : d.plainWrite lk a page off inst w = d := by
  unfold Dev.plainWrite
  rcases hacc with hacc | hacc | hacc
  · simp only [hreg, hacc]
  · simp only [hreg, hacc]
  · simp only [hreg, hacc]

end

/-- Settles O14: access code by access code, by what `Dev.plainWrite` does for each. -/
theorem accessCodeDecidesWhatAWriteDoes : Obligations.AccessCodeDecidesWhatAWriteDoes := by
  intro s a page off w x r hoff h4 hx hreg hmay
  refine ⟨fun hzero => exec_registerWrite_made hoff h4 hx hmay (by rw [Dev.regWrite, if_pos hzero]), ?_⟩
  intro hshown hlo hhi hperm hsystem hport hcore
  have hplain {e : Dev} (h : s.dev.plainWrite s.plock a page off (s.dev.instOf a page off) w = e) :=
    exec_registerWrite_plain hoff h4 hx hmay hshown hlo hhi hperm hsystem hport hcore h
  refine ⟨fun hown hacc => hplain (Dev.plainWrite_own hreg hown hacc), fun hown => ⟨fun hacc => hplain (Dev.plainWrite_rw hreg hown hacc),
    fun hacc hlock => hplain (Dev.plainWrite_rwl_open hreg hacc hlock), fun hacc hlock => hplain (Dev.plainWrite_rwl_locked hreg hacc hlock),
    fun hacc => ⟨_, hplain (Dev.plainWrite_rws hreg hown hacc), rfl, s.dev.rwsRead_stage_same _ _ _ _ _⟩,
    fun hacc => hplain (Dev.plainWrite_w1c hreg hacc), fun hacc => hplain (Dev.plainWrite_wo hreg hacc),
    fun hacc => hplain (Dev.plainWrite_readOnly hreg hacc)⟩⟩

end Sys2Proof.Machine
end


section
/-! Family 02_registers: sources that no block defines (O18). A raise of such a source does nothing, so what settles after a command never
counts one: one lemma for each function that settling can reach, here for the TLPs and what they stand on. `(rfl)` keeps `simp` from taking a
lemma for a definitional one, which it does not use under a fold. -/

namespace Sys2Proof.Machine

/-! ### A source that no block defines -/

/-- How often source 0x5cd, which no block defines, was raised. -/
def Dev.strays (d : Dev) : Nat := d.ev.count.getD 0x5cd 0

@[simp] theorem Dev.count_strays (d : Dev) : d.ev.count.getD 0x5cd 0 = d.strays := rfl

@[simp] theorem Dev.strays_mk {a1 a2 a3 a4 a5 a6 a7 ev a9 a10 a11 a12 a13 a14 a15 a16 a17 a18 a19 a20 a21 a22 a23 a24 a25} :
    (Dev.mk a1 a2 a3 a4 a5 a6 a7 ev a9 a10 a11 a12 a13 a14 a15 a16 a17 a18 a19 a20 a21 a22 a23 a24 a25).strays = ev.count.getD 0x5cd 0 := rfl

@[simp] theorem Dev.strays_ite (c : Prop) [Decidable c] (d e : Dev) : (if c then d else e).strays = if c then d.strays else e.strays :=
  apply_ite _ _ _ _

@[simp] theorem strays_foldl {β : Type} {f : Dev → β → Dev} (h : ∀ d b, (f d b).strays = d.strays) (l : List β) (d : Dev) :
    (l.foldl f d).strays = d.strays :=
  foldl_keeps (P := fun e : Dev => e.strays = d.strays) (fun e b he => (h e b).trans he) l d rfl

/-! ### Raises -/

/-- A raise of a source that no block defines does nothing. -/
theorem Dev.raiseArrs_strays (fuel : Nat) (d : Dev) (arrs : List Nat) (n : Nat) (i : RaiseInfo) :
    (Dev.raiseArrs fuel d arrs n i).strays = d.strays := by
  by_cases hn : n = 0x5cd
  · subst hn
    cases fuel with
    | zero => rfl
    | succ fuel => rfl
  · exact Dev.raiseArrs_count_other (by decide) (by decide) fuel d arrs n i (Ne.symm hn)

section
variable (d : Dev)

@[simp] theorem Dev.raiseWith_strays (n : Nat) (w : Word) (named : List Nat) : (d.raiseWith n w named).strays = d.strays :=
  Dev.raiseArrs_strays _ _ _ _ _
@[simp] theorem Dev.raiseFor_strays (n : Nat) (named : List Nat) : (d.raiseFor n named).strays = d.strays := d.raiseWith_strays n _ named
@[simp] theorem Dev.raise_strays (n : Nat) : (d.raise n).strays = d.strays := d.raiseFor_strays n []
@[simp] theorem Dev.raiseCal_strays (p e : Nat) : (d.raiseCal p e).strays = d.strays := d.raiseWith_strays _ _ []

@[simp] theorem Dev.settle_strays : d.settle.strays = d.strays := by
  unfold Dev.settle
  dsimp only
  split <;> rfl
@[simp] theorem Dev.tick_strays (page inst src n : Nat) (stb : Option Nat) : (d.tick page inst src n stb).strays = d.strays := by
  unfold Dev.tick
  split <;> rfl

/-! ### Registers, free values and emissions -/

@[simp] theorem Dev.wr_strays (r : Reg) (inst : Nat) (w : Word) : (d.wr r inst w).strays = d.strays := (rfl)

@[simp] theorem Dev.wf_strays (r : Reg) (inst hi lo v : Nat) : (d.wf r inst hi lo v).strays = d.strays := (rfl)

@[simp] theorem Dev.wn_strays (r : Reg) (inst n : Nat) : (d.wn r inst n).strays = d.strays := (rfl)

@[simp] theorem Dev.awr_strays (acc : Nat) (r : Reg) (w : Word) : (d.awr acc r w).strays = d.strays := (rfl)

@[simp] theorem Dev.fresh_strays : d.fresh.2.strays = d.strays := (rfl)

@[simp] theorem Dev.freshBytes_strays (n : Nat) : (d.freshBytes n).2.strays = d.strays := (rfl)

@[simp] theorem Dev.emit_strays (o : Out) : (d.emit o).strays = d.strays := (rfl)

@[simp] theorem Dev.setPst_strays (p : Nat) (s : PortSt) : (d.setPst p s).strays = d.strays := (rfl)

@[simp] theorem Dev.bumpBy_strays (r : Reg) (inst n : Nat) (stb : Option Nat) : (d.bumpBy r inst n stb).strays = d.strays := by
  simp [Dev.bumpBy]

@[simp] theorem Dev.bump_strays (r : Reg) (inst : Nat) (stb : Option Nat) : (d.bump r inst stb).strays = d.strays := (rfl)

@[simp] theorem Dev.flipBit_strays (st i b : Nat) : (d.flipBit st i b).strays = d.strays := (rfl)

@[simp] theorem Dev.chkView_strays : d.chkView.strays = d.strays := by simp [Dev.chkView]

@[simp] theorem Dev.faultDue_strays (cls : Nat) (s p : Option Nat) (detail : Word) : (d.faultDue cls s p detail).strays = d.strays := (rfl)

@[simp] theorem Dev.sticky_strays (acc page i : Nat) : (d.sticky acc page i).strays = d.strays := (rfl)

/-! ### Credits, cells and TLPs -/

@[simp] theorem Dev.setLnk_strays (p : Nat) (l : Link) : (d.setLnk p l).strays = d.strays := (rfl)

@[simp] theorem Dev.setBnd_strays (b : Nat) (x : Bundle) : (d.setBnd b x).strays = d.strays := (rfl)

@[simp] theorem Dev.creditSend_strays (p : Nat) : (d.creditSend p).strays = d.strays := (rfl)

@[simp] theorem Dev.unitsFreed_strays (p k n : Nat) : (d.unitsFreed p k n).strays = d.strays := by simp [Dev.unitsFreed]

@[simp] theorem Dev.creditBack_strays (p : Nat) (t : Tlp) : (d.creditBack p t).strays = d.strays := (rfl)

@[simp] theorem Dev.rxFreed_strays (i : Item) : (d.rxFreed i).strays = d.strays := by
  unfold Dev.rxFreed
  (repeat' split) <;> simp

@[simp] theorem Dev.addItem_strays (it : Item) : (d.addItem it).strays = d.strays := (rfl)

@[simp] theorem Dev.updItem_strays (id : Nat) (f : Item → Item) : (d.updItem id f).strays = d.strays := (rfl)

@[simp] theorem Dev.rmItem_strays (id : Nat) : (d.rmItem id).strays = d.strays := by
  unfold Dev.rmItem
  split <;> simp

@[simp] theorem Dev.poolChanged_strays : d.poolChanged.strays = d.strays := by simp [Dev.poolChanged]

@[simp] theorem Dev.setCfg_strays (s fn dw : Nat) (w : Word) : (d.setCfg s fn dw w).strays = d.strays := (rfl)

/-! ### What becomes of TLPs (R192, R216, R243, R272) -/

@[simp] theorem Dev.issue_strays (s port : Nat) (src : Src) (t : Tlp) (priv : Bool) (dom : Option Nat) :
    (d.issue s port src t priv dom).strays = d.strays := (rfl)

@[simp] theorem Dev.sendMsg_strays (s code : Nat) (data : List Byte) : (d.sendMsg s code data).strays = d.strays := by
  unfold Dev.sendMsg
  split <;> simp

@[simp] theorem Dev.dpcHost_strays (s fn : Nat) (fatal : Bool) (status : Nat) : (d.dpcHost s fn fatal status).strays = d.strays := by
  unfold Dev.dpcHost
  split <;> simp

@[simp] theorem Dev.aer_strays (s fn bitNo : Nat) (t : Option Tlp) : (d.aer s fn bitNo t).strays = d.strays := by
  cases t <;> simp [Dev.aer]

@[simp] theorem Dev.dpcCor_strays (p en : Nat) : (d.dpcCor p en).strays = d.strays := by
  refine strays_foldl (fun d s => ?_) _ d
  split
  · split <;> simp
  · rfl

@[simp] theorem Dev.aerPort_strays (p bitNo : Nat) (t : Option Tlp) : (d.aerPort p bitNo t).strays = d.strays := by
  unfold Dev.aerPort
  split
  · rfl
  · refine (strays_foldl (fun d s => ?_) _ _).trans (Dev.bump_strays d _ _ _)
    split <;> simp

@[simp] theorem Dev.aerIn_strays (s : Option Nat) (p bitNo : Nat) (t : Tlp) : (d.aerIn s p bitNo t).strays = d.strays := by
  unfold Dev.aerIn
  dsimp only
  (repeat' split) <;> simp

@[simp] theorem Dev.sendCpl_strays (s : Option Nat) (ing asPort : Nat) (src : Src) (t : Tlp) :
    (d.sendCpl s ing asPort src t).strays = d.strays := (rfl)

@[simp] theorem Dev.completeStatus_strays (req : Tlp) (s : Option Nat) (ing asPort : Nat) (src : Src) (status : Nat) :
    (d.completeStatus req s ing asPort src status).strays = d.strays := (rfl)

@[simp] theorem Dev.completeData_strays (req : Tlp) (s : Option Nat) (ing asPort : Nat) (src : Src) (addr : Nat) (data : List Byte) :
    (d.completeData req s ing asPort src addr data).strays = d.strays := by
  simp [Dev.completeData]

@[simp] theorem Dev.srComplete_strays (req : Tlp) (s : Option Nat) (ing asPort : Nat) (src : Src) (bytes : Nat) (ur : Bool) :
    (d.srComplete req s ing asPort src bytes ur).strays = d.strays := by
  simp [Dev.srComplete]

@[simp] theorem Dev.logLoss_strays (egress cause : Nat) (mc : Bool) (ing : Nat) (s : Option Nat) (t : Tlp) :
    (d.logLoss egress cause mc ing s t).strays = d.strays := by
  unfold Dev.logLoss
  split <;> simp

@[simp] theorem Dev.logDrop_strays (p : Nat) (unconf mc : Bool) (s : Option Nat) (t : Tlp) :
    (d.logDrop p unconf mc s t).strays = d.strays := (rfl)

@[simp] theorem Dev.logRoute_strays (s : Option Nat) (ing reason : Nat) (t : Tlp) : (d.logRoute s ing reason t).strays = d.strays := by
  unfold Dev.logRoute
  (repeat' split) <;> simp

@[simp] theorem Dev.unexpected_strays (ing : Nat) (t : Tlp) : (d.unexpected ing t).strays = d.strays := by simp [Dev.unexpected]

@[simp] theorem Dev.setLedger_strays (l : List Led) : (d.setLedger l).strays = d.strays := (rfl)

@[simp] theorem Dev.freeLedger_strays (i : Item) : (d.freeLedger i).strays = d.strays := by simp [Dev.freeLedger]

@[simp] theorem Dev.synthLedger_strays (sel : Led → Bool) : (d.synthLedger sel).strays = d.strays := by simp [Dev.synthLedger]

@[simp] theorem Dev.ledgerAnswer_strays (i : Item) (asPort : Nat) : (d.ledgerAnswer i asPort).1.strays = d.strays := by
  unfold Dev.ledgerAnswer
  dsimp only
  (repeat' split) <;> simp

@[simp] theorem Dev.setGen_strays (dom : Nat) (g : Gen) : (d.setGen dom g).strays = d.strays := (rfl)

@[simp] theorem Dev.markGen_strays (dom : Nat) : (d.markGen dom).strays = d.strays := (rfl)

@[simp] theorem Dev.genAdvance_strays (dom : Nat) : (d.genAdvance dom).strays = d.strays := by simp [Dev.genAdvance]

@[simp] theorem Dev.dlgOverflow_strays (g : Nat) (fail : Bool) : (d.dlgOverflow g fail).strays = d.strays := by simp [Dev.dlgOverflow]

@[simp] theorem Dev.dirtyDone_strays (id : Nat) : (d.dirtyDone id).strays = d.strays := by simp [Dev.dirtyDone]

@[simp] theorem Dev.dropItem_strays (i : Item) : (d.dropItem i).strays = d.strays := by
  unfold Dev.dropItem
  split <;> simp

@[simp] theorem Dev.srcFail_strays (i : Item) : (d.srcFail i).strays = d.strays := by
  unfold Dev.srcFail
  split <;> simp

@[simp] theorem Dev.endBack_strays (p : Nat) (pk : Packet) (status : Nat) : (d.endBack p pk status).strays = d.strays := (rfl)

@[simp] theorem Dev.npFail_strays (i : Item) (status : Nat) : (d.npFail i status).strays = d.strays := by
  unfold Dev.npFail
  (repeat' split) <;> simp

@[simp] theorem Dev.removeRoute_strays (i : Item) (reason : Nat) : (d.removeRoute i reason).strays = d.strays := by simp [Dev.removeRoute]

@[simp] theorem Dev.removePurged_strays (i : Item) : (d.removePurged i).strays = d.strays := by simp [Dev.removePurged]

@[simp] theorem Dev.removeFault_strays (i : Item) (egress cause : Nat) : (d.removeFault i egress cause).strays = d.strays := by
  simp [Dev.removeFault]

@[simp] theorem Dev.removeDown_strays (i : Item) (p cause : Nat) (ur : Bool) : (d.removeDown i p cause ur).strays = d.strays := by
  unfold Dev.removeDown
  (repeat' split) <;> simp

@[simp] theorem Dev.pmeGot_strays (s p : Nat) : (d.pmeGot s p).strays = d.strays := by
  unfold Dev.pmeGot
  dsimp only
  (repeat' split) <;> simp

@[simp] theorem Dev.discardCopy_strays (id : Nat) (x : Dest) (reason : Nat) (loss : Option Nat) :
    (d.discardCopy id x reason loss).strays = d.strays := by
  unfold Dev.discardCopy
  dsimp only
  (repeat' split) <;> simp

@[simp] theorem Dev.cfgDone_strays (c : Option CfgWait) (status : Nat) : (d.cfgDone c status).strays = d.strays := by
  unfold Dev.cfgDone
  (repeat' split) <;> simp

@[simp] theorem Dev.sweepMarked_strays : d.sweepMarked.strays = d.strays := by simp [Dev.sweepMarked]

end

end Sys2Proof.Machine
end


section
/-! Family 02_registers: sources that no block defines (O18), in contexts, the loft, the scheduler and links. -/

namespace Sys2Proof.Machine

section
variable (d : Dev)

/-! ### Contexts and the loft (R259–R274, R288) -/

@[simp] theorem Dev.setStall_strays (s : Stall) : (d.setStall s).strays = d.strays := (rfl)

@[simp] theorem Dev.putLoft_strays (id : Nat) (c : Ctx) : (d.putLoft id c).strays = d.strays := (rfl)

@[simp] theorem Dev.updCtx_strays (key : Nat) (f : Ctx → Ctx) : (d.updCtx key f).strays = d.strays := by
  unfold Dev.updCtx
  (repeat' split) <;> simp

@[simp] theorem Dev.touchWay_strays (set w : Nat) : (d.touchWay set w).strays = d.strays := (rfl)

@[simp] theorem Dev.freeWay_strays (set w : Nat) : (d.freeWay set w).strays = d.strays := (rfl)

@[simp] theorem Dev.addOp_strays (key : Nat) (why : FetchFor) (step : Nat) : (d.addOp key why step).strays = d.strays := (rfl)

@[simp] theorem Dev.rmOp_strays (f : Fetch) : (d.rmOp f).strays = d.strays := (rfl)

@[simp] theorem Dev.loftIssue_strays (key a : Nat) (data : List Byte) : (d.loftIssue key a data).strays = d.strays := (rfl)

@[simp] theorem Dev.loftWrite_strays (key a : Nat) (data : List Byte) : (d.loftWrite key a data).strays = d.strays := by
  simp [Dev.loftWrite]

@[simp] theorem Dev.loftStep_strays (f : Fetch) : (d.loftStep f).strays = d.strays := by
  unfold Dev.loftStep
  (repeat' split) <;> simp

@[simp] theorem Dev.loftPump_strays : d.loftPump.strays = d.strays := by simp [Dev.loftPump]

@[simp] theorem Dev.loftRecall_strays : d.loftRecall.strays = d.strays := by simp [Dev.loftRecall]

@[simp] theorem Dev.opEnd_strays (acc : Nat) (res : Word) : (d.opEnd acc res).strays = d.strays := (rfl)

@[simp] theorem Dev.evictWay_strays (set w cluster : Nat) : (d.evictWay set w cluster).strays = d.strays := by
  unfold Dev.evictWay
  split <;> simp

theorem Dev.place_strays {d e : Dev} {c : Ctx} {cluster : Nat} (h : d.place c cluster = .ok e) : e.strays = d.strays := by
  unfold Dev.place at h
  dsimp only at h
  split at h
  · cases h; simp
  · split at h
    · cases h
    · split at h
      · cases h; simp
      · cases h

@[simp] theorem Dev.unEvict_strays (key : Nat) : (d.unEvict key).strays = d.strays := by
  unfold Dev.unEvict
  split
  · rfl
  · dsimp only
    split
    · rename_i e he
      simpa using Dev.place_strays he
    · rfl

@[simp] theorem Dev.recall_strays (key : Nat) : (d.recall key).strays = d.strays := by simp [Dev.recall]

@[simp] theorem Dev.refuseParked_strays (key reason : Nat) : (d.refuseParked key reason).strays = d.strays := (rfl)

@[simp] theorem Dev.opRefused_strays (f : Fetch) (reason : Nat) : (d.opRefused f reason).strays = d.strays := by
  unfold Dev.opRefused
  (repeat' split) <;> simp

@[simp] theorem Dev.invalidate_strays (key : Nat) : (d.invalidate key).strays = d.strays := by
  unfold Dev.invalidate
  dsimp only
  (repeat' split) <;> simp

@[simp] theorem Dev.runInvalidations_strays : d.runInvalidations.strays = d.strays := by
  refine strays_foldl (fun d f => ?_) _ d
  split
  · split <;> simp
  · rfl

@[simp] theorem Dev.loftEndOps_strays : d.loftEndOps.strays = d.strays := by
  refine (Dev.runInvalidations_strays _).trans ((strays_foldl (fun d f => ?_) _ _).trans ?_)
  · split <;> simp
  · simp

@[simp] theorem Dev.loftFail_strays : d.loftFail.strays = d.strays := by simp [Dev.loftFail]

@[simp] theorem Dev.createOff_strays (key : Nat) : (d.createOff key).1.strays = d.strays := by
  unfold Dev.createOff
  split
  · rename_i e he
    simpa using Dev.place_strays he
  · rfl

@[simp] theorem Dev.absent_strays (key : Nat) (auto : Bool) : (d.absent key auto).1.strays = d.strays := by
  unfold Dev.absent
  dsimp only
  (repeat' split) <;> simp

@[simp] theorem Dev.startFetch_strays (key : Nat) (why : FetchFor) : (d.startFetch key why).strays = d.strays := by simp [Dev.startFetch]

/-! ### Stage 7 (R350–R367) -/

@[simp] theorem Dev.report_strays (p w : Nat) : (d.report p w).strays = d.strays := by simp [Dev.report]

@[simp] theorem Dev.setWfq_strays (p : Nat) (q : Wfq) : (d.setWfq p q).strays = d.strays := (rfl)

@[simp] theorem Dev.setTcWfq_strays (p s : Nat) (q : Wfq) : (d.setTcWfq p s q).strays = d.strays := (rfl)

@[simp] theorem Dev.schedHead_strays (p s : Nat) : (d.schedHead p s).strays = d.strays := by
  unfold Dev.schedHead
  extract_lets q mine d1 w idle sched sched' d2 elig
  have htags : d1.strays = d.strays := by
    refine strays_foldl (fun d tc => ?_) _ d
    dsimp only
    split <;> simp
  have hnow : d2.strays = d.strays := by simp [d2, htags]
  clear_value d1 d2
  split
  · simp [idle, htags]
  · split <;> simp [hnow]

/-! ### Links (R87–R165) -/

@[simp] theorem Dev.setLstate_strays (p st : Nat) : (d.setLstate p st).strays = d.strays := (rfl)

@[simp] theorem Dev.setCalLane_strays (p k : Nat) (c : CalLane) : (d.setCalLane p k c).strays = d.strays := (rfl)

@[simp] theorem Dev.settingsBack_strays (p k : Nat) : (d.settingsBack p k).strays = d.strays := by
  unfold Dev.settingsBack
  dsimp only
  split <;> simp

@[simp] theorem Dev.procClose_strays (p : Nat) (pr : Proc) (outcome : Nat) : (d.procClose p pr outcome).strays = d.strays := by
  simp [Dev.procClose]

@[simp] theorem Dev.procAbort_strays (p outcome : Nat) : (d.procAbort p outcome).strays = d.strays := by
  unfold Dev.procAbort
  split <;> simp

@[simp] theorem Dev.linkDown_strays (p : Nat) : (d.linkDown p).strays = d.strays := by simp [Dev.linkDown]

@[simp] theorem Dev.linkWords_strays (p st : Nat) : (d.linkWords p st).strays = d.strays := by simp [Dev.linkWords]

@[simp] theorem Dev.mklEvent_strays (p lane e : Nat) : (d.mklEvent p lane e).strays = d.strays := by
  unfold Dev.mklEvent
  split <;> simp

@[simp] theorem Dev.setLkState_strays (p st : Nat) : (d.setLkState p st).strays = d.strays := (rfl)

@[simp] theorem Dev.setActMask_strays (p m : Nat) : (d.setActMask p m).strays = d.strays := (rfl)

@[simp] theorem Dev.pktPut_strays (lp : Nat) (pk : Packet) (stable : Option Nat) (ing : Nat) (src : Src) :
    (d.pktPut lp pk stable ing src).strays = d.strays := (rfl)

@[simp] theorem Dev.ctlSend_strays (dst : Nat) (msg : List Nat) : (d.ctlSend dst msg).strays = d.strays := (rfl)

@[simp] theorem Dev.remoteEnd_strays (acc : Nat) (v st : Word) : (d.remoteEnd acc v st).strays = d.strays := by
  unfold Dev.remoteEnd
  dsimp only
  (repeat' split) <;> simp

@[simp] theorem Dev.remoteFail_strays (acc : Nat) (read : Bool) : (d.remoteFail acc read).strays = d.strays := by simp [Dev.remoteFail]

@[simp] theorem Dev.ctlFail_strays (src : Nat) (msg : List Nat) : (d.ctlFail src msg).strays = d.strays := by simp [Dev.ctlFail]

theorem Dev.ctlTry_strays {d e : Dev} {c : Ctl} (h : d.ctlTry c = some e) : e.strays = d.strays := by
  unfold Dev.ctlTry at h
  dsimp only at h
  split at h
  · cases h; simp
  · split at h
    · cases h
    · split at h
      · cases h
      · cases h; simp

@[simp] theorem Dev.ctlPump_strays : d.ctlPump.strays = d.strays := by
  refine foldl_keeps (P := fun acc : Dev × List Nat => acc.1.strays = d.strays) (fun acc c hacc => ?_) _ _ (by simp)
  extract_lets key keep
  have hkeep : (keep acc.1).1.strays = d.strays := by simpa [keep] using hacc
  clear_value key keep
  split
  · exact hkeep
  · split
    · rename_i e he
      exact (Dev.ctlTry_strays he).trans hacc
    · exact hkeep

@[simp] theorem Dev.orStart_strays (b : Nat) : (d.orStart b).strays = d.strays := by simp [Dev.orStart]

@[simp] theorem Dev.pinsTake_strays (b p : Nat) : (d.pinsTake b p).strays = d.strays := by simp [Dev.pinsTake]

@[simp] theorem Dev.flushPkt_strays (p : Nat) (e : Sent2) : (d.flushPkt p e).strays = d.strays := by
  unfold Dev.flushPkt
  (repeat' split) <;> simp

@[simp] theorem Dev.linkSent_strays (p : Nat) : (d.linkSent p).strays = d.strays := by simp [Dev.linkSent]

@[simp] theorem Dev.mklFlush_strays (p : Nat) : (d.mklFlush p).strays = d.strays := by
  unfold Dev.mklFlush
  dsimp only
  split <;> simp

end

end Sys2Proof.Machine
end


section
/-! Family 02_registers: sources that no block defines (O18), in the DMA channels, power, CXL memory and the bridge. -/

namespace Sys2Proof.Machine

section
variable (d : Dev)

/-! ### DMA channels (R333–R347) -/

@[simp] theorem Dev.setChan_strays (c : Nat) (x : Chan) : (d.setChan c x).strays = d.strays := (rfl)

@[simp] theorem Dev.setTags_strays (t : Tbl DTag) : (d.setTags t).strays = d.strays := (rfl)

@[simp] theorem Dev.setChState_strays (c st : Nat) : (d.setChState c st).strays = d.strays := (rfl)

@[simp] theorem Dev.chIssue_strays (c k : Nat) (t : Tlp) : (d.chIssue c k t).1.strays = d.strays := (rfl)

theorem Dev.takeTag_strays {d : Dev} {c n : Nat} {fetch : Bool} {r : Nat × Dev} (h : d.takeTag c n fetch = some r) : r.2.strays = d.strays := by
  unfold Dev.takeTag at h
  split at h
  · cases h
  · split at h
    · cases h
    · obtain ⟨t, -, rfl⟩ := Option.map_eq_some_iff.1 h
      simp

@[simp] theorem Dev.chPumpReads_strays (fuel : Nat) (d : Dev) (c : Nat) (x : DDesc) : (Dev.chPumpReads fuel d c x).1.strays = d.strays := by
  induction fuel generalizing d x with
  | zero => rfl
  | succ fuel ih =>
    unfold Dev.chPumpReads
    split
    · rfl
    · dsimp only
      split
      · rfl
      · rename_i t e htag
        rw [ih]
        simpa using Dev.takeTag_strays htag

@[simp] theorem Dev.chWrite_strays (fuel : Nat) (d : Dev) (c : Nat) (x : DDesc) (data : List Byte) (ep : Bool) :
    (Dev.chWrite fuel d c x data ep).1.strays = d.strays := by
  induction fuel generalizing d x data with
  | zero => rfl
  | succ fuel ih =>
    unfold Dev.chWrite
    split
    · rfl
    · dsimp only
      rw [ih]
      simp

@[simp] theorem Dev.chPumpWrites_strays (fuel : Nat) (d : Dev) (c : Nat) (x : DDesc) : (Dev.chPumpWrites fuel d c x).1.strays = d.strays := by
  induction fuel generalizing d x with
  | zero => rfl
  | succ fuel ih =>
    unfold Dev.chPumpWrites
    split
    · rfl
    · split
      · rfl
      · split
        · exact ih _ _
        · split
          · exact ih _ _
          · dsimp only
            rw [ih, Dev.chWrite_strays]
            split <;> simp

@[simp] theorem Dev.chPumpDesc_strays (c : Nat) (x : DDesc) (first : Bool) : (d.chPumpDesc c x first).1.strays = d.strays := by
  unfold Dev.chPumpDesc
  dsimp only
  split
  · simp
  · split
    · simp
    · split
      · simp
      · split
        · split
          · simp
          · rename_i t e htag
            simpa using Dev.takeTag_strays htag
        · simp

@[simp] theorem Dev.chPump_strays (c : Nat) : (d.chPump c).strays = d.strays := by
  refine (Dev.setChan_strays _ _ _).trans (foldl_keeps (P := fun acc : Dev × List DDesc × Bool => acc.1.strays = d.strays)
    (fun acc x hacc => ?_) _ _ rfl)
  exact (Dev.chPumpDesc_strays _ _ _ _).trans hacc

@[simp] theorem Dev.chFetch_strays (c : Nat) : (d.chFetch c).strays = d.strays := by
  unfold Dev.chFetch
  dsimp only
  split
  · rfl
  · split
    · rfl
    · rename_i t e htag
      simpa using Dev.takeTag_strays htag

@[simp] theorem Dev.chRun_strays (c : Nat) : (d.chRun c).strays = d.strays := by simp [Dev.chRun]

@[simp] theorem Dev.chRunAll_strays : d.chRunAll.strays = d.strays := by simp [Dev.chRunAll]

@[simp] theorem Dev.chDropFetch_strays (c : Nat) : (d.chDropFetch c).strays = d.strays := by
  unfold Dev.chDropFetch
  dsimp only
  (repeat' split) <;> simp

@[simp] theorem Dev.chFarFail_strays (c : Nat) : (d.chFarFail c).strays = d.strays := by simp [Dev.chFarFail]

@[simp] theorem Dev.chMark_strays (c : Nat) : (d.chMark c).strays = d.strays := by simp [Dev.chMark]

@[simp] theorem Dev.padSync_strays : d.padSync.strays = d.strays := by simp [Dev.padSync]

/-! ### Power (R449–R457, R493) -/

@[simp] theorem Dev.avsWrite_strays : d.avsWrite.strays = d.strays := (rfl)

@[simp] theorem Dev.rampTo_strays (mv : Nat) : (d.rampTo mv).strays = d.strays := by
  simp [Dev.rampTo]

@[simp] theorem Dev.plStart_strays (lv : Nat) : (d.plStart lv).strays = d.strays := by
  simp [Dev.plStart]

@[simp] theorem Dev.plReq_strays (lv : Nat) : (d.plReq lv).strays = d.strays := by simp [Dev.plReq]

@[simp] theorem Dev.plHeld_strays : d.plHeld.strays = d.strays := by
  unfold Dev.plHeld
  split <;> simp

@[simp] theorem Dev.sleepAbort_strays (reason : Nat) : (d.sleepAbort reason).strays = d.strays := by simp [Dev.sleepAbort]

@[simp] theorem Dev.sleepFault_strays (scope : Nat) : (d.sleepFault scope).strays = d.strays := by simp [Dev.sleepFault]

@[simp] theorem Dev.enables_strays (core sds : Bool) : (d.enables core sds).strays = d.strays := by simp [Dev.enables]

@[simp] theorem Dev.clampOn_strays : d.clampOn.strays = d.strays := by simp [Dev.clampOn]

/-! ### CXL memory and the bridge (R292–R332) -/

@[simp] theorem Dev.setCxp_strays (c : Cxp) : (d.setCxp c).strays = d.strays := (rfl)

@[simp] theorem Dev.setBrg_strays (b : Brg) : (d.setBrg b).strays = d.strays := (rfl)

@[simp] theorem Dev.cxpEvent_strays (e port ld idec : Nat) (named : List Nat) : (d.cxpEvent e port ld idec named).strays = d.strays := by
  simp [Dev.cxpEvent]

@[simp] theorem Dev.sendS2m_strays (e : M2S) (data : List Byte) (poison : Bool) : (d.sendS2m e data poison).strays = d.strays := (rfl)

@[simp] theorem Dev.answerLost_strays (e : M2S) : (d.answerLost e).strays = d.strays := by simp [Dev.answerLost]

@[simp] theorem Dev.rmM2s_strays (id : Nat) : (d.rmM2s id).strays = d.strays := (rfl)

@[simp] theorem Dev.brgIssue_strays (w line : Nat) (write : Bool) (why : M2SWhy) (data : List Byte) (poison : Bool) (mask : Nat) :
    (d.brgIssue w line write why data poison mask).strays = d.strays := by
  -- The function is named before it is unfolded: comparing an application of it with its body makes the kernel multiply out decoder sizes.
  suffices h : ∀ f, f = @Dev.brgIssue → (f d w line write why data poison mask).strays = d.strays from h _ rfl
  intro f hf
  delta Dev.brgIssue at hf
  subst hf
  beta_reduce
  split
  · exact (Dev.addItem_strays _ _).trans (Dev.setCxp_strays d _)
  · rfl

@[simp] theorem Dev.brgTaint_strays (w : Nat) : (d.brgTaint w).strays = d.strays := by simp [Dev.brgTaint]

@[simp] theorem Dev.writeFail_strays (w : BWrite) (cause addr bytes : Nat) : (d.writeFail w cause addr bytes).strays = d.strays := by
  unfold Dev.writeFail
  (repeat' split) <;> simp

@[simp] theorem Dev.partsGone_strays (ids : List Nat) : (d.partsGone ids).strays = d.strays := (rfl)

@[simp] theorem Dev.lineGone_strays (l : BLine) : (d.lineGone l).strays = d.strays := (rfl)

@[simp] theorem Dev.partFail_strays (l : BLine) (p : BPart) (cause : Nat) : (d.partFail l p cause).strays = d.strays := by
  unfold Dev.partFail
  split <;> simp

@[simp] theorem Dev.lineFail_strays (l : BLine) (cause : Nat) : (d.lineFail l cause).strays = d.strays := by simp [Dev.lineFail]

theorem Dev.semTake_strays {d : Dev} {w a id s : Nat} {atomic : Bool} {r : Nat × Dev} (h : d.semTake w a id s atomic = some r) :
    r.2.strays = d.strays := by
  obtain ⟨k, -, rfl⟩ := Option.map_eq_some_iff.1 h
  simp

@[simp] theorem Dev.semFree_strays (k : Nat) : (d.semFree k).strays = d.strays := (rfl)

@[simp] theorem Dev.seqFree_strays (s : Nat) : (d.seqFree s).strays = d.strays := by simp [Dev.seqFree]

@[simp] theorem Dev.setReq_strays (id : Nat) (f : BReq → BReq) : (d.setReq id f).strays = d.strays := (rfl)

@[simp] theorem Dev.reqGone_strays (r : BReq) : (d.reqGone r).strays = d.strays := by
  unfold Dev.reqGone
  split <;> simp

@[simp] theorem Dev.reqStatus_strays (r : BReq) (status : Nat) : (d.reqStatus r status).strays = d.strays := by simp [Dev.reqStatus]

@[simp] theorem Dev.reqData_strays (r : BReq) (a : Nat) (data : List Byte) (poison : Bool) :
    (d.reqData r a data poison).strays = d.strays := by
  simp [Dev.reqData]

@[simp] theorem Dev.reqAbort_strays (r : BReq) : (d.reqAbort r).strays = d.strays := by simp [Dev.reqAbort]

@[simp] theorem Dev.reqStep_strays (id : Nat) : (d.reqStep id).strays = d.strays := by
  unfold Dev.reqStep
  split
  · rfl
  · split
    · rfl
    · split
      · split <;> simp
      · split
        · simp
        · extract_lets seq s owned unlocked taken seqSems
          have htaken : ∀ e, taken = some e → e.strays = d.strays := by
            intro e he
            unfold taken at he
            clear_value unlocked owned
            split at he
            · cases he
            · split at he
              · cases he; rfl
              · split at he
                · cases he; rfl
                · obtain ⟨r, hr, rfl⟩ := Option.map_eq_some_iff.1 he
                  have hsem := Dev.semTake_strays hr
                  dsimp only
                  split <;> simp [hsem]
          clear_value taken unlocked
          split
          · simp
          · split
            · rfl
            · rename_i e
              split <;> simp [htaken]

@[simp] theorem Dev.brgPump_strays : d.brgPump.strays = d.strays := by simp [Dev.brgPump]

@[simp] theorem Dev.reqDone_strays (r : BReq) : (d.reqDone r).strays = d.strays := by
  unfold Dev.reqDone
  dsimp only
  (repeat' split) <;> simp

@[simp] theorem Dev.reqGot_strays (entry line : Nat) (data : List Byte) (poison failed : Bool) :
    (d.reqGot entry line data poison failed).strays = d.strays := by
  unfold Dev.reqGot
  split <;> simp

@[simp] theorem Dev.atomFail_strays (entry cause : Nat) : (d.atomFail entry cause).strays = d.strays := by
  unfold Dev.atomFail
  split <;> simp

@[simp] theorem Dev.m2sEnd_strays (e : M2S) (cause : Nat) : (d.m2sEnd e cause).strays = d.strays := by
  unfold Dev.m2sEnd
  dsimp only
  (repeat' split) <;> simp

@[simp] theorem Dev.m2sPortLost_strays (p : Nat) (ld : Option Nat) : (d.m2sPortLost p ld).strays = d.strays := by simp [Dev.m2sPortLost]

@[simp] theorem Dev.m2sSettle_strays : d.m2sSettle.strays = d.strays := by
  refine (strays_foldl (fun d id => ?_) _ _).trans (Dev.setCxp_strays d _)
  split
  · split <;> simp
  · rfl

@[simp] theorem Dev.idecFail_strays (k cause : Nat) : (d.idecFail k cause).strays = d.strays := by
  unfold Dev.idecFail
  dsimp only
  split <;> simp

@[simp] theorem Dev.idecPortFail_strays (p cause : Nat) : (d.idecPortFail p cause).strays = d.strays := by simp [Dev.idecPortFail]

@[simp] theorem Dev.brgPurge_strays (dom : Nat) : (d.brgPurge dom).strays = d.strays := by simp [Dev.brgPurge]

@[simp] theorem Dev.advanceDom_strays (dom : Nat) : (d.advanceDom dom).strays = d.strays := by simp [Dev.advanceDom]

@[simp] theorem Dev.advanceChans_strays (s : Nat) : (d.advanceChans s).strays = d.strays := by simp [Dev.advanceChans]

@[simp] theorem Dev.seqEnd_strays (s : Nat) : (d.seqEnd s).strays = d.strays := by simp [Dev.seqEnd]

end

end Sys2Proof.Machine
end


section
/-! Family 02_registers: sources that no block defines (O18), in containment, the stages of a request and what settles. -/

namespace Sys2Proof.Machine

section
variable (d : Dev)

/-! ### Containment and what settles (R368–R393) -/

@[simp] theorem Dev.flogAdd_strays (cls scope : Nat) (stable port : Option Nat) (unit detail : Word) :
    (d.flogAdd cls scope stable port unit detail).strays = d.strays := (rfl)

@[simp] theorem Dev.flushSent_strays (p : Nat) (ur : Bool) (e : Sent) : (d.flushSent p ur e).strays = d.strays := by
  unfold Dev.flushSent
  (repeat' split) <;> simp

@[simp] theorem Dev.flushItem_strays (p cause : Nat) (ur : Bool) (i : Item) : (d.flushItem p cause ur i).strays = d.strays := by
  simp [Dev.flushItem]

@[simp] theorem Dev.flushSending_strays (p : Nat) (ur : Bool) (i : Item) : (d.flushSending p ur i).strays = d.strays := by
  simp [Dev.flushSending]

@[simp] theorem Dev.ledgerContained_strays (p : Nat) : (d.ledgerContained p).strays = d.strays := by simp [Dev.ledgerContained]

@[simp] theorem Dev.ackSome_strays (p : Nat) : (d.ackSome p).strays = d.strays := by simp [Dev.ackSome]

@[simp] theorem Dev.flushPort_strays (p cause : Nat) (ur : Bool) : (d.flushPort p cause ur).strays = d.strays := by simp [Dev.flushPort]

@[simp] theorem Dev.dpcStatus_strays (p reason : Nat) : (d.dpcStatus p reason).strays = d.strays := by
  refine (Dev.dpcCor_strays _ p 20).trans (strays_foldl (fun d s => ?_) _ d)
  split <;> simp

@[simp] theorem Dev.internalErr_strays (stables : List Nat) : (d.internalErr stables).strays = d.strays := by simp [Dev.internalErr]

@[simp] theorem Dev.fence_strays (p reason : Nat) : (d.fence p reason).strays = d.strays := by simp [Dev.fence]

@[simp] theorem Dev.portLost_strays (p cause : Nat) : (d.portLost p cause).strays = d.strays := by simp [Dev.portLost]

@[simp] theorem Dev.setHeadless_strays (s : Nat) : (d.setHeadless s).strays = d.strays := by simp [Dev.setHeadless]

@[simp] theorem Dev.sliceContain_strays (k : Nat) : (d.sliceContain k).strays = d.strays := by simp [Dev.sliceContain]

@[simp] theorem Dev.containBase_strays (p cause cls : Nat) : (d.containBase p cause cls).strays = d.strays := by simp [Dev.containBase]

@[simp] theorem Dev.headless_strays (s : Nat) (act : Bool) : (d.headless s act).strays = d.strays := by simp [Dev.headless]

@[simp] theorem Dev.dlDownAt_strays (p st : Nat) (surprise act : Bool) : (d.dlDownAt p st surprise act).strays = d.strays := by
  unfold Dev.dlDownAt
  dsimp only
  (repeat' split) <;> simp

@[simp] theorem Dev.dlDown_strays (p st : Nat) (surprise act : Bool) : (d.dlDown p st surprise act).strays = d.strays := by
  simp [Dev.dlDown]

@[simp] theorem Dev.containPort_strays (p cause cls : Nat) : (d.containPort p cause cls).strays = d.strays := by simp [Dev.containPort]

@[simp] theorem Dev.containStable_strays (s cls : Nat) : (d.containStable s cls).strays = d.strays := by simp [Dev.containStable]

@[simp] theorem Dev.cutSending_strays (p : Nat) (i : Item) : (d.cutSending p i).strays = d.strays := by simp [Dev.cutSending]

@[simp] theorem Dev.failItem_strays (i : Item) : (d.failItem i).strays = d.strays := by simp [Dev.failItem]

@[simp] theorem Dev.failItems_strays : d.failItems.strays = d.strays := by simp [Dev.failItems]

@[simp] theorem Dev.failSafe_strays (cls : Nat) : (d.failSafe cls).strays = d.strays := by
  -- The function is named before it is unfolded: comparing an application of it with its body makes the kernel multiply out decoder sizes.
  suffices h : ∀ f, f = @Dev.failSafe → (f d cls).strays = d.strays from h _ rfl
  intro f hf
  delta Dev.failSafe at hf
  subst hf
  beta_reduce
  split
  · rfl
  · extract_lets d1 d2 cleared d3 d4 d5 d6 hard boot d7
    have h2 : d2.strays = d.strays := by simp [d2, d1]
    have h3 : d3.strays = d2.strays := strays_foldl (fun d p => by simp) _ _
    have h4 : d4.strays = d3.strays := strays_foldl (fun d p => by simp) _ _
    have h5 : d5.strays = d4.strays := by simp [d5]
    have h6 : d6.strays = d5.strays := strays_foldl (fun d k => by simp) _ _
    have h7 : d7.strays = d6.strays := by
      unfold d7
      split
      · exact Dev.strays_mk
      · rfl
    have h8 : (if cls = 0x0e ∨ cls = 0x0f then d7.clampOn else d7).strays = d7.strays := by simp
    exact h8.trans (h7.trans (h6.trans (h5.trans (h4.trans (h3.trans h2)))))

@[simp] theorem Dev.react_strays (cls : Nat) (stables ports slices : List Nat) (unit detail : Word) :
    (d.react cls stables ports slices unit detail).strays = d.strays := by
  unfold Dev.react
  split <;> simp

@[simp] theorem Dev.fault_strays (cls : Nat) (stable port slice : Option Nat) (unit detail : Word) :
    (d.fault cls stable port slice unit detail).strays = d.strays := by
  simp [Dev.fault]

@[simp] theorem Dev.corrected_strays (st : Nat) : (d.corrected st).strays = d.strays := by simp [Dev.corrected]

@[simp] theorem Dev.injWatch_strays (old : Dev) : (d.injWatch old).strays = d.strays := by
  unfold Dev.injWatch
  (repeat' split) <;> simp

@[simp] theorem Dev.taintFence_strays : d.taintFence.strays = d.strays := by simp [Dev.taintFence]

@[simp] theorem Dev.faultsDue_strays : d.faultsDue.strays = d.strays := by simp [Dev.faultsDue]

@[simp] theorem Dev.dpcDue_strays : d.dpcDue.strays = d.strays := by simp [Dev.dpcDue]

@[simp] theorem Dev.accessRepeat_strays : d.accessRepeat.strays = d.strays := by simp [Dev.accessRepeat]

@[simp] theorem Dev.declareLost_strays (m : Nat) : (d.declareLost m).strays = d.strays := by simp [Dev.declareLost]

@[simp] theorem Dev.lostSync_strays : d.lostSync.strays = d.strays := by simp [Dev.lostSync]

@[simp] theorem Dev.pathMoved_strays (m : Nat) : (d.pathMoved m).strays = d.strays := by
  unfold Dev.pathMoved
  split <;> simp

@[simp] theorem Dev.pathSync_strays (m : Nat) : (d.pathSync m).strays = d.strays := by
  unfold Dev.pathSync
  extract_lets w r had yard d1 d2 bad d3 yard' d4
  have hbad (k v b nh : Nat) (d : Dev) : (bad k v b nh d).strays = d.strays := by
    unfold bad
    dsimp only
    split
    · rfl
    · split <;> simp
  have hunrouted : d1.strays = d.strays := by simp [d1]
  have hrouted : d3.strays = d.strays := by
    unfold d3
    rw [hbad, hbad]
    simp [d2]
  have hshown : d4.strays = d3.strays := by simp [d4]
  clear_value d1 d3 d4
  split
  · rfl
  · split
    · split <;> simp [hunrouted]
    · split
      · simp [hrouted]
      · split <;> simp [hshown, hrouted]

@[simp] theorem Dev.yardSync_strays : d.yardSync.strays = d.strays := by simp [Dev.yardSync]

@[simp] theorem Dev.ycIdle_strays : d.ycIdle.strays = d.strays := (rfl)

@[simp] theorem Dev.ycOver_strays : d.ycOver.strays = d.strays := by simp [Dev.ycOver]

@[simp] theorem Dev.after_strays : d.after.strays = d.strays := by simp [Dev.after]

/-! ### Stages 1 to 5 (R259–R287) -/

@[simp] theorem Dev.mcSpread_strays (s g : Nat) (it : Item) : (d.mcSpread s g it).strays = d.strays := by simp [Dev.mcSpread]

@[simp] theorem Dev.trapEnter_strays (t : Tlp) (ing s k : Nat) : (d.trapEnter t ing s k).strays = d.strays := by simp [Dev.trapEnter]

@[simp] theorem Dev.trap_strays (t : Tlp) (ing s k : Nat) : (d.trap t ing s k).strays = d.strays := by simp [Dev.trap]

@[simp] theorem Dev.stage5_strays (s s' : Option Nat) (it : Item) (gen : Option Nat) : (d.stage5 s s' it gen).strays = d.strays := by
  unfold Dev.stage5
  dsimp only
  (repeat' split) <;> simp

@[simp] theorem Dev.plain5_strays (p : Nat) (t : Tlp) : (d.plain5 p t).strays = d.strays := by simp [Dev.plain5]

@[simp] theorem Dev.refuseReq_strays (k : Parked) (reason : Nat) : (d.refuseReq k reason).strays = d.strays := (rfl)

@[simp] theorem Dev.ackByCpl_strays (p : Nat) (t : Tlp) : (d.ackByCpl p t).strays = d.strays := by simp [Dev.ackByCpl]

@[simp] theorem Dev.ledgerTake_strays (l : Led) (t : Tlp) : (d.ledgerTake l t).1.strays = d.strays := by simp [Dev.ledgerTake]

@[simp] theorem Dev.cplIn_strays (p : Nat) (t : Tlp) : (d.cplIn p t).strays = d.strays := by
  unfold Dev.cplIn
  dsimp only
  split <;> simp

@[simp] theorem Dev.intxMsg_strays (p code : Nat) : (d.intxMsg p code).strays = d.strays := (rfl)

@[simp] theorem Dev.msgIn_strays (p : Nat) (t : Tlp) : (d.msgIn p t).strays = d.strays := by
  unfold Dev.msgIn
  (repeat' split) <;> simp

@[simp] theorem Dev.schEvent_strays (e port stable tc shaper : Nat) : (d.schEvent e port stable tc shaper).strays = d.strays := by
  simp [Dev.schEvent]

@[simp] theorem Dev.charge_strays (k : Parked) : (d.charge k).strays = d.strays := by
  unfold Dev.charge
  split <;> simp

@[simp] theorem Dev.rmMiss_strays (i : Nat) : (d.rmMiss i).strays = d.strays := (rfl)

@[simp] theorem Dev.setMiss_strays (i : Nat) (k : Parked) : (d.setMiss i k).strays = d.strays := (rfl)

@[simp] theorem Dev.mqEnter_strays (i : Nat) (k : Parked) (held : Bool) : (d.mqEnter i k held).strays = d.strays := by
  unfold Dev.mqEnter
  split <;> simp

@[simp] theorem Dev.holdBegins_strays (k : Parked) : (d.holdBegins k).strays = d.strays := by
  unfold Dev.holdBegins
  split <;> simp

@[simp] theorem Dev.proceed_strays (i : Nat) (k : Parked) : (d.proceed i k).1.strays = d.strays := by
  unfold Dev.proceed
  dsimp only
  (repeat' split) <;> simp

@[simp] theorem Dev.lookup_strays (i : Nat) (k : Parked) : (d.lookup i k).1.strays = d.strays := by
  unfold Dev.lookup
  extract_lets d1 set hit
  have hhit (d : Dev) : (hit d).1.strays = d.strays := by
    unfold hit
    rw [Dev.proceed_strays]
    split <;> simp
  have hrecall : d1.strays = d.strays := d.recall_strays k.key
  have habsent : (d1.absent k.key (d1.ctxAuto k.key)).1.strays = d.strays := (d1.absent_strays _ _).trans hrecall
  clear_value hit d1
  split
  extract_lets cont
  clear_value cont
  split
  · simp
  · split
    · simp
    · split
      · exact (hhit d1).trans hrecall
      · split
        · simp [hrecall]
        · split
          · rename_i h
            simp_all
          · rename_i h
            rw [h] at habsent
            split
            · simpa [hhit] using habsent
            · dsimp only
              split <;> simpa using habsent

@[simp] theorem Dev.tryMove_strays (rel : Option Nat) (i : Nat) (k : Parked) : (d.tryMove rel i k).1.strays = d.strays := by
  unfold Dev.tryMove
  extract_lets before same here e
  have he : e.strays = d.strays := d.mqEnter_strays i _ false
  clear_value before same here e
  split
  · rfl
  · split
    · split
      · rfl
      · split
        · simp
        · split <;> simp
    · split
      · rfl
      · split
        · rfl
        · split
          · split <;> simp
          · split
            · simp
            · split
              · rfl
              · split
                · split
                  · rfl
                  · split <;> simp [he]
                · simp

@[simp] theorem Dev.pumpFrom_strays (rel : Option Nat) (fuel i : Nat) (d : Dev) : (Dev.pumpFrom rel fuel i d).strays = d.strays := by
  induction fuel generalizing i d with
  | zero => rfl
  | succ fuel ih =>
    unfold Dev.pumpFrom
    split
    · rfl
    · dsimp only
      rw [ih]
      simp

@[simp] theorem Dev.pump_strays (rel : Option Nat) : (d.pump rel).strays = d.strays := by simp [Dev.pump]

/-! ### What settles after a command -/

theorem State.settled_strays (s : State) : (s.settled d).dev.strays = d.strays := by
  simp [State.settled, State.pinned]

end

end Sys2Proof.Machine
end


section
/-! Family 02_registers: writes that protection refuses (O18). -/

namespace Sys2Proof.Machine

/-! ### A write that the checks refuse (R251) -/

theorem exec_registerWrite_denied {s : State} {a : Acc} {page off : Nat} {x : Ext} (w : Word) (hoff : off < 4096) (h4 : off % 4 = 0)
    (hcan : s.dev.canAccess a = true) (hhere : s.dev.carriedTo a = none) (hx : x.disagree = false)
    (hdec : s.dev.accessDec a page off true = .deny) (hchk : s.dev.chkView.accessDec a page off true = .deny) :
    exec (.registerWrite a false (4096 * page + off) 15 [w] x) s = .next (s.settled (s.dev.denied a page off true)) := by
  have hr : (Reg.mk page off).Aligned := ⟨hoff, h4⟩
  have hboth : (s.dev.bothDecide fun d => d.wordDec a page off true none) = some .deny :=
    (if_pos (hdec.trans hchk.symm)).trans (congrArg some hdec)
  have helse : s.dev.elsewhere a (Reg.mk page off).addr = none := by simp [Dev.elsewhere, hhere]
  change execRegisterWrite a false (Reg.mk page off).addr 15 [w] x s = _
  refine State.effL_of_eq ?_
  rw [if_neg Bool.false_ne_true, Dev.accWrite_one hcan]
  unfold Dev.writeWord
  simp only [hr.addr_page, hr.addr_off, if_neg hr.not_partial, helse, hboth, hx, Bool.false_and, Bool.false_eq_true, if_false]

theorem Dev.denied_strays (d : Dev) (a : Acc) (page off : Nat) (wr : Bool) : (d.denied a page off wr).strays = d.strays := by
  unfold Dev.denied
  dsimp only
  split <;> simp

/-! ### A stable that does not exist -/

/-- Member 1 of a yard whose head is member 0, with a route word at entry 70 of RTE_STB_ROUTE, which no select of the page names:
yard stable 0 is there the local stable 70. -/
def Dev.strayRoute : Dev := (State.reset.dev.wn R.DEV_YARD_CFG 0 0x201).wn R.RTE_STB_ROUTE 70 0x100

theorem strayRoute_denies :
    Dev.strayRoute.canAccess (.remote 0 0) = true ∧ Dev.strayRoute.carriedTo (.remote 0 0) = none ∧
    Dev.strayRoute.accessDec (.remote 0 0) 0xc00 0x100 true = .deny ∧
    Dev.strayRoute.chkView.accessDec (.remote 0 0) 0xc00 0x100 true = .deny ∧ Dev.strayRoute.tenant (.remote 0 0) = some 70 := by decide

theorem strayRoute_strays : Dev.strayRoute.strays = 0 := by decide

/-- Refutes O18: the REG_DENY event of a tenant is counted only where its stable has one. In `Dev.strayRoute` the head's access for yard
stable 0 is one of the local stable 70, and source 0x541 + 2 * 70 is one that no block defines: the refused write raises nothing. No device
explains the state that the model answers with a count of 1, since nothing that settles after a command counts such a source. -/
theorem not_refusedWritesChangeNoOtherRegister : ¬ Obligations.RefusedWritesChangeNoOtherRegister := by
  unfold Obligations.RefusedWritesChangeNoOtherRegister
  intro h
  let s : State := { State.reset with dev := Dev.strayRoute }
  obtain ⟨hcan, hhere, hdec, hchk, htenant⟩ := strayRoute_denies
  obtain ⟨d, hexec, -, -, -, hevent, -⟩ := (h s (.remote 0 0) 0xc00 0x100 0 Ext.none (by decide) hcan hhere).1 (by decide) rfl hdec hchk
  have hdenied := exec_registerWrite_denied (s := s) (x := Ext.none) 0 (by decide) (by decide) hcan hhere rfl hdec hchk
  have hsame : s.settled d = s.settled (s.dev.denied (.remote 0 0) 0xc00 0x100 true) :=
    Host.Outcome.next.inj (hexec.symm.trans hdenied)
  have hnone : d.strays = 0 := calc
    d.strays = (s.settled d).dev.strays := (State.settled_strays d s).symm
    _ = (s.settled (s.dev.denied (.remote 0 0) 0xc00 0x100 true)).dev.strays := by rw [hsame]
    _ = (s.dev.denied (.remote 0 0) 0xc00 0x100 true).strays := State.settled_strays _ s
    _ = Dev.strayRoute.strays := Dev.strayRoute.denied_strays _ _ _ _
    _ = 0 := strayRoute_strays
  have hone : d.strays = (Dev.strayRoute.strays + 1) % 65536 := hevent 70 htenant
  rw [hnone, strayRoute_strays] at hone
  exact absurd hone (by decide)

end Sys2Proof.Machine
end
